-- ==== Sys2Proof/Word.lean ====
section
/-! DEFINITION. The word types of the Breim hub (R5 to R8). Quantities the manual adds, compares and
counts are natural numbers or integers; the bit strings it lays out field by field (flits, control
blocks) are bit vectors. -/

namespace Sys2Proof

/-- One octet, as every ADP message, frame and domain is sent in octets (R8). -/
abbrev Byte := BitVec 8

/-- A die-link flit, Table 1-2. -/
abbrev Flit := BitVec 1024

/-- The 256 payload bits of a Breimlink block (R272). -/
abbrev Block := BitVec 256

/-- Ticks in one nanosecond (R5). -/
abbrev ticksPerNs : Nat := 65536

/-- Ticks in one second (R5, R153). -/
abbrev ticksPerSec : Nat := 65536000000000

/-- Main-clock edges in one second: 1.6384 GHz (R5). -/
abbrev edgesPerSec : Nat := 1638400000

end Sys2Proof
end

