-- ==== Sys2Proof/Syntax.lean ====
section
/-! DEFINITION. The commands of the hub: one constructor for each row of spec/opcode_table.json, in the
table's order. A row that is an ADP request carries the request's header and fields (Tables 12-3 and
12-4); a row that is an event carries what the hub can see of the event (the die, the channel, the
measured value), since the manual gives those values to the outside world. -/

namespace Sys2Proof

/-- The header of one ADP request as the hub sees it (Table 12-3): the session it came on, its TAG, the
REMOTE bit with HUB, and whether the octets of the message matched Tables 12-3 and 12-4 (R299). -/
structure Hdr where
  session : Nat
  tag : Nat
  remote : Bool
  hub : Nat
  formOk : Bool
  deriving DecidableEq, Repr

/-- A lock item of CLAUSE-OPEN (Table 12-4): INDEX, SUB and HUB. -/
structure LockItem where
  idx : Nat
  sub : Nat
  hub : Nat
  deriving DecidableEq, Repr

/-- The marks a sample, a Gob word or a Lehr word can carry (Tables 5-1, 6-4 and 7-8). -/
structure Marks where
  settling : Bool
  late : Bool
  refSuspect : Bool
  overRange : Bool
  excFault : Bool
  substituted : Bool
  unset : Bool
  deriving DecidableEq, Repr

/-- One sample of a slice or of a Gob tap with the marks it carries (R132, R203). -/
structure Sample where
  value : Int
  marks : Marks
  deriving DecidableEq, Repr

/-- What a burst gave one channel (R96, R125): what its slice took on each conversion, first to last, in 2^-16 LSB, and what
the slice took that the Gob fades to in a substitution (R344). -/
structure BurstSum where
  chan : Nat
  samples : List Sample
  other : List Int
  deriving DecidableEq, Repr

/-- A write or a status message that one side of a sideband bus sends (R19): its target, INDEX × 256 + SUB, and data. -/
structure SbMsg where
  target : Nat
  data : List Byte
  deriving DecidableEq, Repr

/-- What an Announce message tells of a grandmaster, as the best master clock algorithm of IEEE 1588-2019 compares it
(R50), with the identity of the port that sent it. -/
structure Announced where
  priority1 : Nat
  clockClass : Nat
  accuracy : Nat
  variance : Nat
  priority2 : Nat
  grandmaster : Nat
  steps : Nat
  sender : Nat
  deriving DecidableEq, Repr

/-- A point of the lead at which the reflection changes (R87, R88): round-trip time in ticks, the change there and the
peak reflection coefficient, both in units of 2^-15. -/
structure LeadPoint where
  roundTrip : Nat
  change : Int
  rho : Int
  deriving DecidableEq, Repr

/-- The messages of IEEE 1588-2019 that a PTP port takes (R50), with the time fields in ticks. -/
inductive PtpMsg where
  | sync (seq : Nat) (origin : Int) (correction : Int) (twoStep : Bool)
  | followUp (seq : Nat) (origin : Int) (correction : Int)
  | delayReq (seq : Nat) (correction : Int)
  | delayResp (seq : Nat) (receive : Int) (correction : Int)
  | pdelayReq (seq : Nat) (correction : Int)
  | pdelayResp (seq : Nat) (receive : Int) (correction : Int) (twoStep : Bool)
  | pdelayRespFollowUp (seq : Nat) (origin : Int) (correction : Int)
  | announce (a : Announced)
  deriving DecidableEq, Repr

/-- The messages a PTP port sends (R50, R51): at its logged intervals, or in answer. -/
inductive PtpTx where
  | sync | followUp | announce | delayReq | delayResp | pdelayReq | pdelayResp | pdelayRespFollowUp
  deriving DecidableEq, Repr

/-- What a received Ethernet frame is (R291). -/
inductive EthKind where
  | ptp | adpDtls | arp (ip : Nat) | neighbour (ip : Nat) | pause (quanta : Nat) | other
  deriving DecidableEq, Repr

/-- What the SECDED check of the cells of a frame found (R210, Table 14-1): `cell` is the first that cannot be corrected. -/
inductive CellCheck where
  | clean | corrected | uncorrectable (cell : Nat)
  deriving DecidableEq, Repr

/-- What the check of the eight data words of a burst found, and in which word (R261). -/
inductive WordCheck where
  | clean | corrected | doubleBit (word : Nat) | addressCrc (word : Nat)
  deriving DecidableEq, Repr

/-- The causes of an access for the freeze capture (Table 10-6, F_CMD). -/
inductive DramCmd where
  | read | write | readModifyWrite | writeBack | patrol
  deriving DecidableEq, Repr

/-- An event source of the trigger matrix (R188). -/
inductive TrigSrc where
  | channel (n : Nat) | trig (k : Nat) | iline (l : Nat) | timer (k : Nat) | remote (tag : Nat)
  deriving DecidableEq, Repr

/-- The kinds of legal notice that reach the Ampoule from the hub (Table 15-1, Table 15-4). -/
inductive Notice where
  | stepAccepted (tenant : Nat) (before : Nat) (written applied : Int)
  | timeSet (tenant : Nat) (at_ : Nat)
  | refSuspect (die : Nat)
  | recalibrated (die : Nat) (microvolt : Nat)
  | substitution (channel cause : Nat)
  deriving DecidableEq, Repr

/-- The boundary-scan instructions of R392. -/
inductive JtagInstr where
  | idcode | bypass | samplePreload | extest | otherDriving
  deriving DecidableEq, Repr

/-- The memories whose rows are remapped (R351). -/
inductive SramKind where
  | frontDie (d : Nat) | queueCells
  deriving DecidableEq, Repr

/-- The orders a coordinator sends to a member of a chain clause (R316, R317). -/
inductive ChainOrder where
  | lock | testAll | goAhead | abandon
  deriving DecidableEq, Repr

/-- One command to the hub: a row of spec/opcode_table.json. -/
inductive Instr where
  -- dictionary and clauses (chapter 12)
  | adpRead (h : Hdr) (idx sub clause : Nat)
  | adpWrite (h : Hdr) (idx sub clause : Nat) (value : List Byte)
  | blockRead (h : Hdr) (idx sub clause offset length : Nat)
  | blockWrite (h : Hdr) (idx sub clause offset : Nat) (data : List Byte) (more : Bool)
  | blockTransferTimeout (session tag : Nat)
  | walk (h : Hdr) (idx sub max : Nat)
  | clauseOpen (h : Hdr) (lease : Nat) (chain : Bool) (items : List LockItem)
  | clauseCommit (h : Hdr) (clause : Nat)
  | clauseCommitAt (h : Hdr) (clause whn : Nat)
  | scheduledClauseInstant (clause : Nat)
  | clauseAbandon (h : Hdr) (clause : Nat)
  | clauseLeaseExpiry (clause : Nat)
  | chainLockBackoffExpiry (clause : Nat)
  | chainLockWaitTimeout (clause : Nat)
  | chainMemberAdmitRequest (coordinator coordClause whn : Nat)
  | chainPhase1Timeout (clause member : Nat)
  | chainGoAhead (coordinator coordClause : Nat)
  | chainGoAheadDeadline (clause : Nat)
  | chainMemberDeadline (coordinator coordClause : Nat)
  | subscribe (h : Hdr) (queue credit : Nat)
  | unsubscribe (h : Hdr) (queue : Nat)
  | abortCapture (h : Hdr) (channel : Nat)
  | abortTdr (h : Hdr) (channel : Nat)
  | abortPath (h : Hdr) (path : Nat)
  | abortTenantPaths (h : Hdr)
  | abortFritJob (h : Hdr) (slot : Nat)
  | abortDramTransfer (h : Hdr) (xferTag : Nat)
  | abortClause (h : Hdr) (clause : Nat)
  | abortBlockTransfer (h : Hdr) (xferTag : Nat)
  | abortAll (h : Hdr)
  | dtlsHandshake (keyDigest : Nat)
  | canSegmentRx (first last : Bool) (seq : Nat) (octets : List Byte)
  | canBusOff
  | sessionTimeout (session : Nat)
  | relayedAdpRx (bundle origin tenant gwSession : Nat) (message : List Byte)
  | remoteAnswerTimeout (session tag : Nat)
  -- time (chapter 2)
  | timeMeasurement (source : Nat) (offset : Int)
  | sourceQualified (source : Nat)
  | sourceDisqualified (source : Nat)
  | lockWindowElapsed
  | freqLimitClear
  | setTime (h : Hdr) (clause : Nat) (value : List Byte)
  | acceptStep (h : Hdr) (clause : Nat) (value : List Byte)
  | refclkLost
  | refclkRelock
  | beacon (dir lane : Nat) (payload : Block) (rx : Nat)
  | beaconTx
  | ptpMessageRx (port domain : Nat) (msg : PtpMsg) (rx : Int)
  | ptpMessageTx (port : Nat) (kind : PtpTx) (tx : Int)
  | timeTriggerFire (k : Nat)
  | ppsOutEdge
  | ppsOutWidthEnd
  | ppsInEdge (at_ : Nat)
  | launchTimeReached (port route : Nat)
  | portFrameTx (port route : Nat)
  | txtsPop (h : Hdr) (mac clause : Nat) (value : List Byte)
  | txtsStickyClr (h : Hdr) (mac clause : Nat) (value : List Byte)
  -- the hub (chapter 1)
  | flitRx (die : Nat) (toHub : Bool) (flit : Flit)
  | linkReplayRequest (die : Nat) (toHub : Bool) (seq : Nat)
  | linkRetrainDone (die : Nat)
  | linkReplayWindow (die : Nat)
  | sidebandRequest (die : Nat) (hub front : Option SbMsg) (early : Bool)
  | sidebandBackoffExpiry (die : Nat)
  | fabricParityError (port dest : Nat) (again : Bool)
  | slipLimitShed (die lagNs : Nat)
  | shedRestore (die lagNs : Nat)
  | ebufPeakClr (h : Hdr) (die clause : Nat) (value : List Byte)
  -- channels and excitation (chapter 3)
  | stageChangeDone (n : Nat)
  | inputOverRange (n : Nat) (range commonMode tia : Bool)
  | terminationOvervoltage (n : Nat)
  | terminationReclose (n : Nat)
  | excSenseLoopFault (q : Nat)
  | excCurrentLimit (q : Nat) (a b : Bool)
  | vinFallClamp (q vinMv : Nat)
  | vinRecovered (q vinMv : Nat)
  | pwmRisingEdge (q : Nat)
  | pwmFallingEdge (q : Nat)
  | owSlotDue (n : Nat)
  | owNow (h : Hdr) (n clause : Nat) (value : List Byte)
  | owSlotStart (n : Nat)
  | owSlotEnd (n : Nat) (deltaUv : Int) (overRange : Bool)
  | tdrStart (h : Hdr) (n clause : Nat) (value : List Byte)
  | tdrNoEdge (n : Nat)
  | tdrRunEnd (n : Nat) (points : List LeadPoint)
  -- conversion (chapter 4)
  | burstStartEvent (q : Nat)
  | sliceWake (q : Nat)
  | burstEnd (q : Nat) (sums : List BurstSum)
  | bankReadyAt (b : Nat)
  | refBufferTimeout (b : Nat)
  | refSupervisionAverage (d a b x : Nat)
  | refFlagClear (d : Nat) (suspect : Bool)
  | refRecal (h : Hdr) (d clause : Nat) (value : List Byte)
  | refRecalDone (d a b x : Nat)
  | calNow (h : Hdr) (b clause : Nat) (value : List Byte)
  | calNowDone (b : Nat)
  | backgroundTrackingCycle (q slice : Nat) (offset gain skew drift : Int) (converged : Bool)
  | bankConversionStop (b : Nat)
  | bankDrainDone (b : Nat)
  -- the Gob (chapter 5)
  | gobOutput (n : Nat) (input other : Int) (marks : Marks) (pos : Nat)
  | coarseValuePublish (n : Nat)
  | coarseBlockEnd (n : Nat)
  | shadowSumRestart (n stage : Nat) (mismatch : Bool)
  | gobFlushInterval (n : Nat)
  | mainsCrossing (d : Nat) (mean : Int)
  | mainsMissedCycles (d : Nat)
  -- the Lehr (chapter 6)
  | lehrRound (mismatchLane : Option Nat)
  | lehrBlockMaxage (p : Nat)
  | pathSourceStart (p : Nat)
  | pathSourceEnd (p : Nat)
  -- Punty and the trigger matrix (chapter 7)
  | detectorFire (n : Nat) (x0 x1 : Int) (t0 t1 : Nat)
  | trigInputEdge (k : Nat) (rising : Bool) (at_ : Nat)
  | ilineEdge (l : Nat)
  | ilinePulseEnd (lines : Nat)
  | matrixEvent (src : TrigSrc) (time : Nat) (late : Bool)
  | matrixEventExpiry (output : Nat)
  | matrixHoldoffEnd (output : Nat)
  | remoteTrigger (dir lane : Nat) (payload : Block)
  | segmentComplete (n : Nat) (samples : List Sample)
  | segmentRearm (n : Nat)
  | arm (h : Hdr) (n clause : Nat) (value : List Byte)
  | disarm (h : Hdr) (n clause : Nat) (value : List Byte)
  | force (h : Hdr) (n clause : Nat) (value : List Byte)
  | ovfResumeRearm (n : Nat)
  | collectorPass (d : Nat)
  -- queues (chapter 8)
  | frameEnqueue (q ftype src : Nat) (payload : List Byte) (ref : Option Nat)
  | spillHeadRefill (q : Nat)
  | frameIn (h : Hdr) (q clause : Nat) (octets : List Byte)
  | framePop (h : Hdr) (q clause : Nat) (value : List Byte)
  | hwConsumerStart (q : Nat) (check : CellCheck)
  -- Frit (chapter 9)
  | fritBlockDone (c : Nat)
  | fritBlockMaxage (c : Nat)
  | flush (h : Hdr) (c clause : Nat) (value : List Byte)
  | submit (h : Hdr) (j clause : Nat) (value : List Byte)
  | fritJobStart (j : Nat)
  | fritJobBlock (j : Nat)
  | continue_ (h : Hdr) (j clause : Nat) (value : List Byte)
  -- DRAM (chapter 10)
  | dramRequest (ch port : Nat) (write : Bool) (addr : Nat) (data : List Byte) (tenant : Nat) (reserved : Bool)
  | urgencyLevelChange (port ageNs : Nat)
  | dramAccessComplete (ch : Nat) (isWrite : Bool) (check : WordCheck) (syndrome : Nat)
  | writeCrcError (ch : Nat)
  | refreshDue (ch bankIndex : Nat) (idle : Bool)
  | patrolScrub (ch addr : Nat) (check : WordCheck) (syndrome : Nat)
  | odeccHourly (ch count : Nat)
  | selfRefreshIdle (ch : Nat)
  | diagRead (h : Hdr) (clause : Nat) (value : List Byte)
  | releaseResume (h : Hdr) (clause : Nat)
  | releaseDiscard (h : Hdr) (clause : Nat)
  | dramTrainingDone (ch : Nat) (passed : Bool) (pprLeft : Nat)
  | pprNow (h : Hdr) (clause : Nat) (value : List Byte)
  | pprRowDone (ch : Nat)
  -- lanes and Breimlink (chapter 11)
  | huntWindow (lane : Nat) (line : List Bool)
  | dataBlock (lane : Nat) (line : List Bool)
  | idleEnter (lane : Nat) (payload : Block)
  | train (lane : Nat) (payload : Block)
  | fullTrainingDone (bundle : Nat) (eyes : List Nat)
  | ack (bundle lane : Nat) (payload : Block)
  | nak (bundle lane : Nat) (payload : Block)
  | fill (lane : Nat) (payload : Block)
  | sof (bundle lane : Nat) (payload : Block)
  | eof (bundle lane : Nat) (payload : Block)
  | trainingBurst (lane : Nat)
  | idleExitLockTimeout (lane : Nat)
  | eyeAlarmTimeout (lane : Nat)
  | ackInterval (bundle : Nat)
  | resendTimeout (bundle : Nat)
  | bundleDownTimeout (bundle : Nat)
  | reorderHoldExpiry (origin route : Nat)
  | relayLoadMeasure (bundle load : Nat)
  | ethernetFrameRx (mac : Nat) (fcsOk : Bool) (kind : EthKind)
  | injectionPermitExpiry
  | laneRestore (h : Hdr) (clause : Nat) (value : List Byte)
  -- modes, power and package (chapters 13 and 16)
  | vinPowerOn
  | rstNLow
  | rstNRelease
  | brownOut (below2300 : Bool)
  | bootImageVerified (slotAOk slotBOk : Bool)
  | calibrateDone
  | modeReqAcquire (h : Hdr) (clause : Nat)
  | modeReqCommission (h : Hdr) (clause : Nat)
  | modeReqTest (h : Hdr) (clause : Nat)
  | modeReqLeaveTest (h : Hdr) (clause : Nat)
  | modeReqSafe (h : Hdr) (clause : Nat)
  | modeReqLeaveSafe (h : Hdr) (clause : Nat)
  | modeReqDormant (h : Hdr) (clause : Nat)
  | dormantLanesIdle
  | wakePin
  | wakeAt
  | tjThrottleStep (die : Nat) (tj : Int)
  | throttleRestore (die : Nat) (tj : Int)
  | vinCurrentLimit
  | vinCurrentSustained
  | tjLimit (die : Nat) (tj : Int) (tenSeconds : Bool)
  | fwActivateNow (h : Hdr) (clause : Nat)
  | fwActivateNextStart (h : Hdr) (clause : Nat)
  | coreHandoverDone (passed : Bool)
  | vddqTimeout
  | jtagInstruction (i : JtagInstr)
  -- endurance (chapter 14)
  | sliceHardFault (n : Nat)
  | substReqMove (h : Hdr) (q c clause : Nat)
  | substReqRestore (h : Hdr) (q clause : Nat)
  | substShadowEnd (q : Nat)
  | substMatchDone (q : Nat)
  | substFadeEnd (q : Nat)
  | coreWatchdogMiss (core : Nat)
  | sramRowRemap (mem : SramKind)
  | ageingMeasurement (d ppm : Nat)
  -- the Ampoule (chapter 15)
  | sealLoopSample (ohms : Nat)
  | seal (h : Hdr) (clause : Nat) (value : List Byte)
  | sealingDone
  | unseal (h : Hdr) (clause : Nat) (value : List Byte)
  | progActivate (h : Hdr) (clause : Nat) (value : List Byte)
  | legalBlockCopy (p : Nat) (block : List Nat)
  | legalNotice (n : Notice)
  | legalMissingTimeout (p : Nat)
  | ampWatchdogMiss
  | ampRestart (h : Hdr) (clause : Nat) (value : List Byte)
  | ampTimeUpdate
  | auditSel (h : Hdr) (clause : Nat) (value : List Byte)
  | lrecPop (h : Hdr) (clause : Nat) (value : List Byte)
  -- rows the table adds at its end
  | dtlsAssociationEnd (session : Nat)
  | chainMemberLockRequest (coordinator coordClause : Nat) (items : List LockItem)
  | chainMemberAnswer (clause member : Nat) (order : ChainOrder) (status : Nat)
  | chainMemberAbandon (coordinator coordClause : Nat)
  | unsealingDone
  | ampouleRestartComplete
  | sidebandTransferEnd (die : Nat) (crcOk : Bool)
  | macLinkChange (mac : Nat) (up : Bool)
  deriving DecidableEq, Repr

end Sys2Proof
end

