-- ==== Sys2Proof/Config.lean ====
section
/-! DEFINITION. The free values: what the manual leaves open, or leaves to the silicon of one implementation. Each
is a constant without a body, so that no proof can see a number in it; the log entry that declares it is
named at each. -/

namespace Sys2Proof.Config

/-- What a counter reads after an increment that its width cannot hold; the manual states no wrap (log entry
3). Arguments: the register's code and the exact count. -/
opaque counterAfterMax : Nat → Nat → Nat

/-- The prototypes of Table 6-1: the coefficient, in 2^-30, of RS_TAPS, phase 0 to 256 and tap (log entry 5).
The table bounds their response and gives no coefficient. -/
opaque prototype : Nat → Nat → Nat → Int

/-- The candidate distances that Frit's hash finds for a tile (R235; log entry 6). Arguments: the match level
and a fresh number. -/
opaque matchCandidates : Nat → Nat → List Nat

/-- The private key that sealing generates (R365), from a fresh number (log entry 7). -/
opaque newKey : Nat → Nat

/-- The public key of a private key: 65 octets as a number (R370; log entry 7). -/
opaque publicKey : Nat → Nat

/-- An ECDSA signature of a digest under a private key, with a fresh number (R373; log entry 7). -/
opaque sign : Nat → Nat → Nat → Nat

/-- Does a signature over a digest verify under a public key (R326, R362; log entry 7). -/
opaque verifies : Nat → Nat → Nat → Bool

/-- Has a boot image a valid signature under the fused key digest (R326; log entry 7). -/
opaque imageVerifies : List Byte → Bool

/-- The version a boot image carries (R326; the header's layout is not in the manual, log entry 7). -/
opaque imageVersion : List Byte → Nat

/-- The security counter a boot image carries (R326; log entry 7). -/
opaque imageCounter : List Byte → Nat

/-- Has a program image a valid container header (R362; log entry 7). -/
opaque containerValid : List Byte → Bool

/-- The identification string of a program image (R363; log entry 7). -/
opaque containerId : List Byte → List Byte

/-- The records a legal program emits for a block: payload, INSTANT, SPAN, CHANNELS and PROG_FLAGS (R362; log
entry 8). Arguments: the image's checksum, the block's words and a fresh number. -/
opaque programRecords : Nat → List Nat → Nat → List (List Byte × Nat × Nat × Nat × Nat)

/-- Identity strings of this silicon and its firmware (Table 12-2, R363; log entry 9), by index and subindex. -/
opaque identity : Nat → Nat → List Byte

/-- Identity octets of this silicon: EUI64, PTP CLOCK_ID, MAC addresses (log entry 9), by index. -/
opaque identityNum : Nat → Nat → Nat

/-- The ball-to-aperture delay of a channel at a stage, a gain or a TIA setting, and a temperature, in ticks (R111; log
entry 10). -/
opaque apertureDelay : Nat → Nat → Nat → Int → Nat

/-- The word of a link-control flit (Table 1-2): its layout is not stated (log entry 105). -/
opaque linkControlWord : Bool → Nat

/-- The values of REF-A (0) and REF-B (1) of a front die as recorded at manufacture, in nV (R105; log entry 106). -/
opaque factoryReference : Nat → Nat → Nat

/-- The gain correction in ppb that a slice got at manufacture, by channel number of its quad and slice (R110; log entry
107). -/
opaque factoryGain : Nat → Nat → Int

/-- The offset (0) or half skew (1) that a calibration against the reference finds (R110; log entry 107), from the quad's
number, the slice and a fresh number. -/
opaque foundCal : Nat → Nat → Nat → Nat → Int

/-- An octet of DRAM whose content the manual calls lost or undefined (R242, R251; log entry 12), from its
address and a fresh number. -/
opaque undefinedOctet : Nat → Nat → Byte

/-- The SECDED check bits of a data word and its ACRC (R261, Table 10-4), 8 of them: the Hsiao matrix is not given (log entry 12). -/
opaque secded : Nat → Nat → Nat

/-- The SECDED syndrome and ACRC difference that a double-bit error gives (Table 10-6), by a fresh number (log entry 12). -/
opaque foundSyndrome : Nat → Nat

/-- The word of a burst in which an access served at once meets a double-bit error, from a fresh number (R265; log entry 146). -/
opaque foundWord : Nat → Nat

/-- What the equaliser and the eye monitor of a lane read (R278; log entry 13), by lane and a fresh number. -/
opaque laneReading : Nat → Nat → Nat

/-- A measured value of an entry that nothing of the manual computes (VIN, VDDQ, currents, temperatures; log
entry 13), by register code and a fresh number. -/
opaque measured : Nat → Nat → Nat

/-- The DRAM configuration that a boot image names, by its slot and version (R247, Table 10-1; log entry 18): 0 one rank of 16 Gb
devices, 1 two ranks of 16 Gb, 2 one rank of 32 Gb, 3 two ranks of 32 Gb; any other number is outside the table. -/
opaque bootDram : Nat → Nat → Nat

/-- The octets of the Ampoule firmware image (R363; log entry 9). -/
opaque ampFirmware : List Byte

/-- A draw of an injection rule with SELECT 1 (R293), taken modulo 2^32, from a fresh number (log entry 31). -/
opaque injectDraw : Nat → Nat

/-- The bit an injection rule inverts (R293), taken modulo the unit's length, from a fresh number (log entry 31). -/
opaque injectBit : Nat → Nat

/-- The group of the wire with the most errors in a wire check of a die link (R16, R348), taken modulo 64: the first 32
of the direction hub to front (log entry 32). From the die and a fresh number. -/
opaque wireGroup : Nat → Nat → Nat

/-- The errors of that wire in 2^20 pattern flits (R348; log entry 32). From the die and a fresh number. -/
opaque wireErrors : Nat → Nat → Nat

/-- The offset (0), gain (1) or half skew (2) at which a slice matches the one it replaces (R344): the manual bounds the
match and gives no value (log entry 34). From a fresh number. -/
opaque matchedCal : Nat → Nat → Int

end Sys2Proof.Config
end

