-- ==== Sys2Proof/Machine/State.lean ====
section
/-! DEFINITION. The state of a Breim hub, as plain data: the dictionary entries (one sparse register
file, `regs`), the domains, and the state the chapters describe that no entry shows. The state after
power-on reset. The faults and refusals. -/

namespace Sys2Proof.Machine

/-- The groups of dictionary entries (Table 12-1): one for each kind of index. -/
inductive Grp where
  | identity | adpPorts | session | clauseSlot | modes | fw | power | lehrEngine | thermal | ageing
  | ctrlBalls | tenant | time | ptp | blTime | launch | trigger | channel | quad | bank | die
  | path | punty | matrix | rings | fritEngine | fritCtx | fritJob | queue | dramSet | dramWin
  | dramCh | dramPort | laneCx | lane | bundle | mac | route | inj | injRule | integrity | events
  | cullet | sliceSpare | amp | ampProg | legalSet | lrec | audit | freeze | capList
  deriving DecidableEq, Repr

/-- A dictionary entry: its group, the instance within the group (R4) and the subindex. -/
structure Reg where
  grp : Grp
  inst : Nat
  sub : Nat
  deriving DecidableEq, Repr

/-- A number that is different for different registers; it orders the register file. -/
def Reg.code (r : Reg) : Nat := Nat.pair (Nat.pair r.inst r.sub) r.grp.ctorIdx

/-- The register file: entries in strictly rising order of `Reg.code`, none equal to its default. -/
abbrev RegFile := List (Reg × Nat)

/-- The domains, in the same form. -/
abbrev DomFile := List (Reg × List Byte)

/-- A sparse table: entries in strictly rising order of key, none equal to the default of its key. -/
abbrev Tab (α : Type) := List (Nat × α)

/-- The member of the family (Table 0-1): front dies fitted, and the suffixes -F and -A. -/
structure Part where
  fronts : Nat
  frit : Bool
  amp : Bool
  deriving DecidableEq, Repr

/-- A value a request carries to an entry: a number of the entry's type, or a domain. -/
inductive Val where
  | num (n : Nat)
  | dom (l : List Byte)
  deriving DecidableEq, Repr

/-- A Breimlink frame in a replay or relay buffer (R281, R283). -/
structure TxFrame where
  dest : Nat
  origin : Nat
  hops : Nat
  route : Nat
  cls : Nat
  rseq : Nat
  late : Bool
  dual : Bool
  turned : Bool
  octets : List Byte
  lseq : Nat
  sends : Nat
  deriving DecidableEq, Repr

/-- How a PTP message keeps its UDP checksum (R51): no UDP at all over IEEE 802.3, a checksum of zero over UDP/IPv4, over
UDP/IPv6 what the two octets appended after the message are adjusted to. -/
inductive UdpSum where
  | none | zero | adjusted (octets : Nat)
  deriving DecidableEq, Repr

/-- What a stream frame on Ethernet carries before it (R290): the MAC addresses and EtherType, and in UDP the addresses' octets, the
port and the checksum. -/
structure EthHead where
  dst : Nat
  src : Nat
  etype : Nat
  srcIp : List Byte
  dstIp : List Byte
  udpPort : Nat
  udpSum : Nat
  deriving DecidableEq, Repr

/-- What leaves the hub, in the order it leaves: `line` are the bits on a lane, of the block or frame named before them; `damaged` is a
unit with one of its bits inverted (R293); `cores` is a frame of CLASS 1 delivered to the management cores (R286). -/
inductive Out where
  | adp (remote : Option Nat) (session typ tag status : Nat) (more : Bool) (body : List Byte)
  | alert (session : Nat) (access : Bool)
  | chain (hub clause : Nat) (order : ChainOrder)
  | chainReply (coordinator clause : Nat) (order : ChainOrder) (status : Nat)
  | stream (session queue mseq : Nat) (more : Bool) (octets : List Byte)
  | flit (die : Nat) (toHub : Bool) (bits : Flit)
  | replayRequest (die : Nat) (toHub : Bool) (seq : Nat)
  | beacon (dir : Nat) (payload : Block)
  | remote (dir : Nat) (payload : Block)
  | frame (bundle : Nat) (f : TxFrame)
  | eth (mac route : Nat) (late : Bool) (head : EthHead) (octets : List Byte)
  | line (lane : Nat) (bits : List Bool)
  | damaged (bit : Nat) (unit : Out)
  | cores (bundle origin : Nat) (octets : List Byte)
  | ctl (bundle : Nat) (payload : Block)
  | laneIdle (lane : Nat)
  | ptp (port : Nat) (kind : PtpTx) (seq : Nat) (origin correction : Int) (udp : UdpSum) (clock : Option Announced)
  | answerIp (mac ip : Nat)
  | dramRead (port addr : Nat) (data : List Byte) (good : Bool)
  | sideband (die : Nat) (target : Nat) (data : List Byte)
  | event (src : TrigSrc) (time : Nat) (late : Bool)
  | pin (name : Nat) (level : Bool)
  | notice (n : Notice)
  | legalCopy (path : Nat) (block : List Nat)
  | raised (code inst : Nat)
  deriving DecidableEq, Repr

/-- The responses to a request that a session keeps for R300: status, MORE and body of each message. -/
structure Stored where
  typ : Nat
  tag : Nat
  answers : List (Nat × Bool × List Byte)
  deriving DecidableEq, Repr

/-- A BLOCK-WRITE that waits for its next segment (R299): the TAGs of its segments, newest first, its entry and clause,
the octets so far, whether it goes to the window, and the edge at which its last segment came. -/
structure Xfer where
  tags : List Nat
  reg : Reg
  clause : Nat
  got : List Byte
  window : Bool
  at_ : Nat
  deriving DecidableEq, Repr

/-- What a session holds beside its entries at 0x1101 + s (R300, R305, R372), and whether its tenant has been withdrawn
since the handshake (R302). -/
structure Session where
  store : List Stored
  xfers : List Xfer
  auditSel : Nat
  lastRx : Nat
  withdrawn : Bool
  deriving DecidableEq, Repr

/-- A request that the gateway has forwarded and that is not answered yet (R303): its session, TAG, TYPE and HUB, and the
edge at which it left. -/
structure Fwd where
  session : Nat
  tag : Nat
  typ : Nat
  hub : Nat
  at_ : Nat
  deriving DecidableEq, Repr

/-- The requests of Table 12-4. -/
inductive Req where
  | read (idx sub clause : Nat)
  | write (idx sub clause : Nat) (value : List Byte)
  | blockRead (idx sub clause offset length : Nat)
  | blockWrite (idx sub clause offset : Nat) (data : List Byte) (more : Bool)
  | walk (idx sub max : Nat)
  | clauseOpen (lease : Nat) (chain : Bool) (items : List LockItem)
  | clauseCommit (clause whn : Nat)
  | clauseAbandon (clause : Nat)
  | subscribe (queue credit : Nat)
  | unsubscribe (queue : Nat)
  | abort (kind inst : Nat)
  deriving DecidableEq, Repr

/-- Who sends a request: the session's key, its tenant if it has one, the TAG, and HUB of a request with REMOTE (R298,
R303). A relayed session has the key 256 + 128 × its gateway's address + 64 × bundle + GW_SESSION (log entry 39). -/
structure Who where
  key : Nat
  tenant : Option Nat
  tag : Nat
  remote : Option Nat
  deriving DecidableEq, Repr

/-- A request that waits until an earlier one of its session is answered (R300): who sent it, its TYPE, the request where
its form was good, and the other hub that it is for. -/
structure HeldReq where
  who : Who
  typ : Nat
  req : Option Req
  other : Option Nat
  deriving DecidableEq, Repr

/-- How far one member of a chain clause has come (R316, R317). -/
inductive MemberSt where
  | waiting | locked | admitted | confirmed | gone
  deriving DecidableEq, Repr

/-- The coordinator's or the member's side of a chain clause: TAG and HUB of the request that waits for its answer, and
the edge at which the backoff, phase 1 or phase 2 began. -/
structure Chain where
  coordinator : Nat
  coordClause : Nat
  members : List (Nat × MemberSt)
  whn : Nat
  backoff : Bool
  pendTag : Nat
  pendRemote : Option Nat
  since : Nat
  deriving DecidableEq, Repr

/-- What a clause slot holds beside its entries at 0x1140 + c (R310 to R314); `waitSince` is the edge at which it began
to wait for `waitItems` (R316). -/
structure Clause where
  locks : List Reg
  remoteLocks : List LockItem
  staged : List (Reg × Val)
  lease : Nat
  rolledBack : Bool
  chain : Option Chain
  waitItems : List Reg
  waitSince : Nat
  deriving DecidableEq, Repr

/-- A time source's measurements (R38): whether it delivers, the edge and the offset of its last measurement. -/
structure Source where
  seen : Bool
  last : Nat
  offset : Int
  qualified : Bool
  deriving DecidableEq, Repr

/-- Breimlink time of one direction (R46 to R48). -/
structure LinkTime where
  hops : Nat
  gm : Nat
  tai : Bool
  timeValid : Bool
  txSeq : Nat
  txTimes : List (Nat × Nat)
  rxSeq : Nat
  rxTime : Nat
  deriving DecidableEq, Repr

/-- A transmit timestamp entry, Table 2-3. -/
structure TxStamp where
  tsId : Nat
  valid : Bool
  late : Bool
  dropped : Bool
  time : Nat
  deriving DecidableEq, Repr

/-- One PTP port's protocol state (R50) and the MAC's transmit timestamp queue (R53): the Sync or Pdelay_Resp that waits
for its follow-up, the four times, the numbers of what the port sends, the peer request to be answered with its arrival
and correctionField, and the best Announce with the edge of the last. -/
structure PtpPort where
  seq : Nat
  t1 : Int
  t2 : Int
  t3 : Int
  t4 : Int
  waitFollowUp : Bool
  peerRx : Int
  peerWait : Bool
  txSync : Nat
  txAnnounce : Nat
  txReq : Nat
  reqIn : Option (Nat × Int × Int)
  best : Option Announced
  lastAnnounce : Nat
  stamps : List TxStamp
  deriving DecidableEq, Repr

/-- The counter as it went on from a main-clock edge: its value there, INCR, and whether hub time was UNSET (R23, R31). -/
structure TimeRec where
  edge : Nat
  ticks : Nat
  frac : Nat
  incr : Nat
  unset : Bool
  deriving DecidableEq, Repr

/-- A step or a set of hub time (R40, R37): the edge it came at, the ticks added, and whether it was a set. -/
structure TimeJump where
  edge : Nat
  delta : Int
  isSet : Bool
  deriving DecidableEq, Repr

/-- The time counter and the loop (R31 to R44, R396). `jumps` are its steps and sets, newest first; `hist` is what the counter was, newest first; `slew` is the
proportional path in 10^-12; `breach` tells that the selected source has just breached R35; `ppsFall` is the hub time at
which PPS_OUT falls. -/
structure TimeSt where
  ticks : Nat
  frac : Nat
  edge : Nat
  running : Bool
  sources : Tab Source
  run : Nat
  wordHist : List (Nat × Int)
  wordEdge : Nat
  lockedSinceUnset : Bool
  integ : Int
  links : Tab LinkTime
  ptp : Tab PtpPort
  ppsHigh : Bool
  lastPps : List Nat
  hist : List TimeRec
  slew : Int
  breach : Bool
  ppsFall : Nat
  jumps : List TimeJump
  deriving DecidableEq, Repr

/-- The frames of a queue (Table 8-1). -/
structure Frame where
  ftype : Nat
  src : Nat
  fseq : Nat
  start : Bool
  stop : Bool
  late : Bool
  bypassed : Bool
  spilled : Bool
  aborted : Bool
  loss : Bool
  queued : Nat
  launch : Nat
  payload : List Byte
  started : Bool
  discardedBefore : Nat
  cut : Bool
  deriving DecidableEq, Repr

/-- What a queue holds beside its entries (R210 to R222, R318). -/
structure Queue where
  frames : List Frame
  fseq : Nat
  startNext : Bool
  lost : Nat
  headCells : Nat
  spillCells : Nat
  subscriber : Option Nat
  credit : Nat
  mseq : Nat
  sent : Nat
  frozenFrames : Nat
  held : Bool
  deriving DecidableEq, Repr

/-- A DRAM region of a tenant (R251): kind 0 archive, 1 work area, 2 + q the spill region of queue q. -/
structure Region where
  tenant : Nat
  kind : Nat
  base : Nat
  size : Nat
  intact : Bool
  deriving DecidableEq, Repr

/-- A request in a DRAM channel's queues (R254). -/
structure DramReq where
  port : Nat
  addr : Nat
  data : List Byte
  tenant : Nat
  cmd : DramCmd
  arrived : Nat
  deriving DecidableEq, Repr

/-- One DRAM channel (R253 to R264): `wcrc` are the repeats of writes that failed their CRC (R262), `softRows` the rows repaired softly
since the last cold start and `hardRows` those made permanent (R263), `poisonBursts` the bursts whose queued write holds a poisoned
word (R337). -/
structure DramCh where
  reads : List DramReq
  writes : List DramReq
  drain : Bool
  owed : Tab Nat
  rowErrors : Tab (List Nat)
  candidates : List Nat
  repairing : Option Nat
  heldReqs : List DramReq
  wcrc : List (DramReq × Nat)
  trainFails : Nat
  lastUrgent : Nat
  softRows : List Nat
  hardRows : List Nat
  poisoned : Bool
  poisonBursts : List Nat
  deriving DecidableEq, Repr

/-- DRAM as a whole: its octets (R249), allocations (R251), buckets (R258), archive and freeze; the configuration and DATA_RATE in force
since the last cold start (R247, R248); and the bursts whose check bits read back as a double-bit error (R337). -/
structure Dram where
  mem : List Host.Cell
  regions : List Region
  chans : Tab DramCh
  buckets : Tab (Nat × Nat)
  archive : List (Nat × Nat × Nat)
  failed : Option DramReq
  portHeld : List (Nat × DramReq)
  chSet : Nat
  masks : List Nat
  config : Nat
  rate : Nat
  bad : List Nat
  deriving DecidableEq, Repr

/-- A flit before it is numbered, and after it has been accepted: the fields of Table 1-2. -/
structure FlitRec where
  typ : Nat
  stream : Nat
  start : Bool
  stop : Bool
  words : List Nat
  deriving DecidableEq, Repr

/-- One direction of a die link (R14 to R16): what its receiver expects and waits for; the flits it has discarded since it
asked, and once its request is served those of the first sending that are still to come; the failures in a row of the flit it
waits for; and what its transmitter numbers next, keeps for replay, and holds back (R16, R22, R27), oldest first. -/
structure LinkDir where
  rxSeq : Nat
  rxWait : Bool
  replaying : Bool
  behind : Nat
  fails : Nat
  txSeq : Nat
  history : List Flit
  held : List FlitRec
  deriving DecidableEq, Repr

/-- What a sideband bus does (R19): nothing, a transfer of the hub die or of the front die, the front die's backoff, or its
retry, which succeeds. -/
inductive SbPhase where
  | idle | hub | front | backoff | retry
  deriving DecidableEq, Repr

/-- One die link at the hub die and the front die (R13 to R19, R27, R348): its two directions, the elastic buffer, the
sideband with the messages of each side that wait or are under way, oldest first, and the edge at which the link went
down. A wire group of the direction hub to front has its number, one of the other direction 32 more. -/
structure DieLink where
  up : LinkDir
  down : LinkDir
  windowFlits : Nat
  windowReplays : Nat
  ebuf : List FlitRec
  creditHeld : Bool
  drainOpen : Bool
  sbPhase : SbPhase
  sbWithdrawn : Bool
  sbHub : List SbMsg
  sbFront : List SbMsg
  degraded : Bool
  wireGroups : List Nat
  wireStuck : Bool
  retrains : List Nat
  downSince : Option Nat
  deriving DecidableEq, Repr

/-- Why a channel's samples are withheld (R137, R138). -/
inductive Hold where
  | none | change | slot | run
  deriving DecidableEq, Repr

/-- A value in the Gob's cascade, in units of valueUnit, with its edge position and that of the earliest sample behind it,
both scaled by 2^16 (R124, R128, R140). -/
structure GobVal where
  value : Int
  pos : Nat
  first : Nat
  marks : Marks
  deriving DecidableEq, Repr

/-- Valid samples added up for a mean: their values, how many, their edge positions, the first one's, their marks (R137,
R139). -/
structure GobBlock where
  sum : Int
  n : Nat
  pos : Nat
  start : Nat
  marks : Marks
  deriving DecidableEq, Repr

/-- What a value held back for the coarse value is: valid, withheld, or a burst that R100 did not start (R137, R141); or the
place at which the counts of the stages start anew (R123). -/
inductive HeldKind where
  | valid | withheld | missing | restart
  deriving DecidableEq, Repr

/-- From a word of a Gob stream on, the output spacing: in edge positions, and in ticks where the channel converts in bursts,
else 0 (R130, R158). Words are numbered as the channel sends them. -/
structure StreamStep where
  word : Nat
  span : Nat
  burst : Nat
  deriving DecidableEq, Repr

/-- What a channel's slice, input stage and Gob hold (chapters 3 to 5); `sent` counts the words of its Gob stream, `steps` is the
spacing they were sent with, newest first (R23); `cycle` counts the conversions of the conversion cycle so far, `lateLeft` those
still to come that are late (R73, R103). -/
structure Chan where
  hold : Hold
  held : Nat
  lines : List (List GobVal)
  counts : List Nat
  block : GobBlock
  det : GobBlock
  detDone : List GobBlock
  coarseMean : Int
  coarseMarks : Marks
  prevMean : Option (Int × Nat)
  lastFine : Option Nat
  needTime : Bool
  settleLeft : Nat
  tailWords : List Nat
  streamOpen : Bool
  owDue : Bool
  owNow : Nat
  owBase : Nat
  owSuspended : Bool
  tdrPending : Bool
  tracked : Nat
  awake : Bool
  rawOpen : Bool
  deferred : Bool
  recent : List (Int × Marks)
  heldIn : List (GobVal × HeldKind)
  rawPend : List Sample
  rawWords : List Nat
  trackFlag : Nat
  chopNeg : Bool
  changing : Bool
  calBase : Int
  apOld : List (Nat × Nat)
  faultEnd : Option Nat
  sent : Nat
  steps : List StreamStep
  cycle : Nat
  lateLeft : Nat
  deriving DecidableEq, Repr

/-- The excitation a quad's driver works with, subindices 0x01 to 0x07 (R74 to R80): EXC_MODE, EXC_VOLT, EXC_CURR,
PULSED, PWM_PERIOD, PWM_WIDTH, PWM_PHASE. -/
structure ExcCfg where
  mode : Nat
  volt : Nat
  curr : Nat
  pulsed : Bool
  period : Nat
  width : Nat
  phase : Nat
  deriving DecidableEq, Repr

/-- A quad's excitation and burst schedule (R74 to R80, R96 to R100): the excitation in force, the main-clock edge of the
first conversion of the burst in hand with its samples, rate and channels, the count of free values at the last measurement (R91),
and the main-clock edge of the last rising PWM edge with the hub time at which its pulse ends. -/
structure Quad where
  driverOn : Bool
  pendingExc : Bool
  swapped : Bool
  burstRunning : Bool
  stretchTo : Option Nat
  deferred : Bool
  exc : ExcCfg
  burstEdge : Nat
  measured : Option Nat
  burstN : Nat
  burstCode : Nat
  inHand : List Nat
  rise : Option (Nat × Nat)
  deriving DecidableEq, Repr

/-- A front die's references and mains tracker (R105 to R109, R134, R135): the recorded values of REF-A and REF-B in nV,
0 those of manufacture; their corrections in ppb; the banks that wait to switch; the last tracked frequency; the last two stage-1 outputs of the mains
sense channel with their edge positions, newest first. -/
structure DieRef where
  heldBanks : List Nat
  recalBusy : Bool
  mainsTimes : List Nat
  goodCycles : Nat
  lastFreq : Nat
  recA : Nat
  recB : Nat
  corrA : Int
  corrB : Int
  switching : List Nat
  sense : List (Int × Nat)
  deriving DecidableEq, Repr

/-- A quad's slices (R110, R341) and the substitution in progress (R344 to R347): the channel it moves, its step (0 none,
1 shadow, 2 matching, 3 fade), the samples or bursts of that step so far, whether it moves it back, the spare's own
calibration, the corrections that match the new slice, and the channels left without a working slice. -/
structure Spare where
  moving : Nat
  failsInRow : Tab Nat
  restoring : Bool
  phase : Nat
  calOffset : Int
  calGain : Int
  calSkew : Int
  done : Nat
  newOffset : Int
  newGain : Int
  newSkew : Int
  lost : List Nat
  deriving DecidableEq, Repr

/-- An input of a Lehr path (R151, R160): VALUE, marks, instant in ticks, its number since the path's start, and
whether it is a copy (R158). -/
structure LehrIn where
  value : Int
  marks : Marks
  instant : Nat
  seq : Nat
  copy : Bool
  deriving DecidableEq, Repr

/-- The filters a Lehr path runs with, which a change fades (R163, Table 6-2 first row). -/
structure LehrCfg where
  taps : List Int
  centre : Nat
  rsTaps : Nat
  delay : Nat
  deriving DecidableEq, Repr

/-- The frame of a Lehr path, which a change restarts (Table 6-2 second row). -/
structure LehrFrame where
  source : Nat
  period : Nat
  dec : Nat
  queue : Nat
  deriving DecidableEq, Repr

/-- What a Lehr path holds (R149 to R171). Instants are ticks. `gaps` are the intervals of hub time
that forward steps have skipped, newest first, `notBefore` is the grid instant that hub time must pass again after a backward step, `openLen` and `openSealed` what the open block was opened with, `lastOut` the last output since the
start, `closed` tells that a block with END is the last one, and `cutOff` that the source ended while a life waited (R159). -/
structure Path where
  live : Bool
  inputs : List LehrIn
  count : Nat
  fr : LehrFrame
  cur : LehrCfg
  fade : Option LehrCfg
  fadeFrom : Nat
  fadeLen : Nat
  fadeJ : Nat
  words : List Nat
  firstInstant : Nat
  bseq : Nat
  startNext : Bool
  tkind : Nat
  event : Nat
  skipped : Nat
  nextGrid : Nat
  firstGrid : Nat
  restarted : Bool
  produced : Bool
  gaps : List (Nat × Nat)
  ending : Option Nat
  cutOff : Bool
  lastPos : Option Nat
  closed : Bool
  lastOut : Nat
  notBefore : Nat
  openLen : Nat
  openSealed : Bool
  deriving DecidableEq, Repr

/-- How far the hub die has read a Gob stream (R129, R130): the first word of a TIME marker, the position that one gave, the
position of the last fine word, and the words read. -/
structure RxStream where
  half : Option Nat
  pos : Option Nat
  last : Option Nat
  read : Nat
  deriving DecidableEq, Repr

/-- The Lehr's lanes (R172, R173), the paths whose work a round left to the next (R150), the Gob streams by channel, and by path
the lives that begin when the present one has ended (R159, R162). -/
structure Lehr where
  mismatches : Tab (List Nat)
  carry : List Nat
  streams : Tab RxStream
  waiting : Tab (List Path)
  deriving DecidableEq, Repr

/-- A completed segment that waits to drain (R193, R199): the 16 header words and the data words. -/
structure Segment where
  chan : Nat
  words : List Nat
  shared : Bool
  deriving DecidableEq, Repr

/-- The settings a segment is captured with (R192): TAP, SEG_LEN, PRE, CAP_PRIO and the tap period; and whether hub time was
UNSET (R37). -/
structure CapCfg where
  tap : Nat
  segLen : Nat
  pre : Nat
  prio : Nat
  period : Nat
  unset : Bool
  deriving DecidableEq, Repr

/-- The leading crossing of a detector of type 4 or 5 (Table 7-1): its two samples and their instants, the samples beyond the
level since then, and whether the quantity has returned. -/
structure Lead where
  x0 : Int
  x1 : Int
  t0 : Nat
  t1 : Nat
  beyond : Nat
  ended : Bool
  deriving DecidableEq, Repr

/-- What Punty holds for a channel (R181 to R198). Instants are ticks; `closing` is the row of Table 7-6, 0 none. `missed` counts
towards the next segment and `missedHdr` is the count of the segment in progress (R189); `firedAt` is the second sample's instant
of the detector's last firing (R182); `segTenant` is the tenant that set SEG_QUEUE (R212); `taken` counts the segments since the last ARM (R192). -/
structure Cap where
  armInstant : Nat
  histFrom : Nat
  trigTime : Option Nat
  frac : Nat
  tsrc : Nat
  mout : Nat
  trigLate : Bool
  missed : Nat
  segNo : Nat
  lastEnd : Option Nat
  deferredArm : Bool
  disarmNext : Bool
  stepNext : Bool
  detReady : Bool
  shedStop : Bool
  histRestart : Bool
  nextShared : Bool
  stayArmed : Bool
  closing : Nat
  lastArmEdge : Option Nat
  lastDisarmEdge : Option (Nat × Bool)
  pre : Nat
  preShort : Bool
  cfg : CapCfg
  tenant : Nat
  lastSample : Nat
  hist : List Int
  stepAfter : Bool
  rearmDue : Bool
  prev : Option (Int × Nat)
  lead : Option Lead
  segTenant : Nat
  firedAt : Nat
  missedHdr : Nat
  taken : Nat
  deriving DecidableEq, Repr

/-- An event held by the trigger matrix (R188). -/
structure MxEvent where
  output : Nat
  src : TrigSrc
  time : Nat
  late : Bool
  deriving DecidableEq, Repr

/-- The trigger matrix (R184 to R188). -/
structure Matrix where
  events : List MxEvent
  holdoff : List Nat
  seen : List (Nat × Nat × Nat)
  driven : Nat
  deriving DecidableEq, Repr

/-- A frame on its way through a Frit context (R239). -/
structure FritFrame where
  ftype : Nat
  start : Bool
  stop : Bool
  late : Bool
  words : List Nat
  ref : Option Nat
  deriving DecidableEq, Repr

/-- A block that a context has coded, as PRED 4 refers to it (R238): OFTYPE, the original's key, the position in it,
and the samples. -/
structure FritRef where
  oftype : Nat
  key : List Nat
  pos : Nat
  samples : List Int
  deriving DecidableEq, Repr

/-- A Frit context's coder (R235 to R239). `history` is newest first; `pos` counts the words of the first frame
already coded. -/
structure FritCtx where
  pend : List FritFrame
  pos : Nat
  history : List Int
  blockLens : List Nat
  cbseq : Nat
  resetNext : Bool
  coded : List FritRef
  bypass : Bool
  deriving DecidableEq, Repr

/-- A Frit job (R241 to R244): its place in the order of submission, its tenant, and where it stands in an archived
segment. -/
structure FritJob where
  order : Nat
  tenant : Nat
  submitEdge : Option Nat
  abortEdge : Option Nat
  segLeft : Nat
  segTap : Nat
  segKey : List Nat
  segPos : Nat
  ctx : Nat
  outs : List (Nat × Nat)
  deriving DecidableEq, Repr

/-- One direction of a lane's line (R272, R273): the last 58 scrambled payload bits, newest first, and how many equal bits the line
ends with. -/
structure LineEnd where
  hist : List Bool
  last : Bool
  run : Nat
  deriving DecidableEq, Repr

/-- A receiver of a lane (R273, R274, R276, R277): valid headers in a row while hunting, the last 128 headers while
locked, and what the peer's TRAIN says; both directions of its line, and whether its transmitter is idle. -/
structure Lane where
  good : Nat
  recent : List Bool
  slip : Nat
  idle : Bool
  idleSince : Nat
  idleTj : Option Int
  trainState : Nat
  peerAddr : Nat
  peerDir : Nat
  peerMode : Nat
  standIn : Option Nat
  rx : LineEnd
  tx : LineEnd
  txIdle : Bool
  deriving DecidableEq, Repr

/-- A frame being received on a bundle (R281, R282). -/
structure RxFrame where
  dest : Nat
  origin : Nat
  hops : Nat
  route : Nat
  cls : Nat
  rseq : Nat
  lseq : Nat
  nblk : Nat
  late : Bool
  dual : Bool
  turned : Bool
  octets : List Byte
  blocks : Nat
  badHeader : Bool
  cutThrough : Bool
  deriving DecidableEq, Repr

/-- A bundle's transmitter and receiver (R279 to R288). `credit` and `grant` are cumulative blocks modulo 2^24; `txLanes` and
`stripe` the lanes in force for striping and the next of them (R279); `vtime` and `tags` the fair share of R287: the start of the
last frame sent, and where each holder's next one starts, a route by its number and relayed frames as 64. -/
structure Bundle where
  txLseq : Nat
  rxLseq : Nat
  credit : Nat
  used : Nat
  grant : Nat
  owed : Nat
  replay : List TxFrame
  relay : List TxFrame
  cut : Option TxFrame
  cur : Option RxFrame
  peerLanes : Nat
  lastNak : Option (Nat × Nat)
  lastAckAdvance : Nat
  leftServiceAt : Option Nat
  retrains : List Nat
  singleRelayAt : Option Nat
  txLanes : List Nat
  stripe : Nat
  vtime : Nat
  tags : Tab Nat
  deriving DecidableEq, Repr

/-- A stream frame held for a missing RSEQ (R286). -/
structure HeldFrame where
  origin : Nat
  route : Nat
  rseq : Nat
  late : Bool
  octets : List Byte
  arrived : Nat
  deriving DecidableEq, Repr

/-- The lane complex (R285, R286): `injDelayed` are the units a rule holds, with the edge each leaves at (R293), and `gateway` the frames
that wait for the gateway route's MAC (R290). -/
structure Lanes where
  lanes : Tab Lane
  bundles : Tab Bundle
  expected : List (Nat × Nat × Nat)
  holding : List HeldFrame
  portHeld : List (Nat × Nat × Frame)
  injCount : Tab Nat
  injHeld : List (Nat × Out)
  injDelayed : List (Nat × Out)
  gateway : List HeldFrame
  paused : Tab Nat
  deriving DecidableEq, Repr

/-- The base modes (Table 13-1). -/
inductive BaseMode where
  | safe | test | acquire | calibrate | commission | boot | dormant
  deriving DecidableEq, Repr

/-- Modes, start-up and supply (chapter 13 and 16). -/
structure ModeSt where
  base : BaseMode
  dormantPending : Bool
  bootFailed : Bool
  coresRun : Bool
  startEdge : Nat
  vin : Nat
  refclk : Bool
  vddqOk : Bool
  rstN : Bool
  pgood : Bool
  tj : Tab Int
  throttle : Tab Nat
  currentLimit : Bool
  limitAt : Nat
  hotAt : Tab Nat
  trainDue : Nat
  ageSlow : List Nat
  ages : Tab (List Nat)
  fwNext : Option Nat
  handover : Option Nat
  jtag : JtagInstr
  brownedOut : Bool
  started : Bool
  rowsUsed : Tab Nat
  deriving DecidableEq, Repr

/-- One copy of the committed configuration in MRAM (R324). -/
structure Copy where
  seq : Nat
  valid : Bool
  regs : RegFile
  doms : DomFile
  deriving DecidableEq, Repr

/-- MRAM of the management cores (R324, R325, R326): two copies of the configuration and the count of starts. -/
structure Mram where
  copyA : Copy
  copyB : Copy
  starts : Nat
  deriving DecidableEq, Repr

/-- The management cores (R350). -/
structure Cores where
  out : List Nat
  spareUsed : Bool
  misses : Tab Nat
  deriving DecidableEq, Repr

/-- An audit entry (Table 15-3): its sixteen words. -/
structure AuditEntry where
  kind : Nat
  change : Bool
  eno : Nat
  words : List Nat
  deriving DecidableEq, Repr

/-- A legal record in the output queue (R373, R378). -/
structure LegalRec where
  rnum : Nat
  words : List Nat
  signature : Nat
  deriving DecidableEq, Repr

/-- An output word of a legal path as the Ampoule received it (R374): its instant in ticks, its marks, whether it carries
TIME or its block has TKIND 1, and whether its block's seal word failed. -/
structure AmpWord where
  path : Nat
  instant : Nat
  marks : Marks
  time : Bool
  sealFail : Bool
  deriving DecidableEq, Repr

/-- The Ampoule and the audit trail (chapter 15): the private key, the loop's samples in a row and of which kind, the
time of its last change and the spans it was open while sealed; the legal set and paths as sealed; record numbers; the
output queue; latches; what each path is to bring next (BSEQ, instant); the words received; the intervals missing; the
restarts of the last hour, whether they hold it in fault; the tenant that seals; the outage in progress; its hub time. -/
structure Ampoule where
  key : Option Nat
  loopRun : Nat
  loopKind : Nat
  loopSince : Nat
  openSpans : List (Nat × Option Nat)
  legal : List Nat
  paths : List Nat
  nextRnum : Nat
  reserved : Nat
  queue : List LegalRec
  lostBefore : Nat
  suspect : List Nat
  expect : Tab (Option (Nat × Nat))
  window : List AmpWord
  missing : List (Nat × Nat × Nat)
  restarts : List Nat
  held : Bool
  sealTenant : Nat
  outageFrom : Option Nat
  now : Nat
  changes : List AuditEntry
  notices : List AuditEntry
  deriving DecidableEq, Repr

/-- The state of one hub. -/
structure State where
  part : Part
  regs : RegFile
  doms : DomFile
  time : TimeSt
  sessions : Tab Session
  clauses : Tab Clause
  lastClause : Nat
  canIn : Option (Nat × List Byte)
  forwarded : List Fwd
  held : List HeldReq
  queues : Tab Queue
  dram : Dram
  links : Tab DieLink
  chans : Tab Chan
  quads : Tab Quad
  dieRefs : Tab DieRef
  spares : Tab Spare
  paths : Tab Path
  lehr : Lehr
  caps : Tab Cap
  segments : List Segment
  matrix : Matrix
  ctxs : Tab FritCtx
  jobs : Tab FritJob
  lanes : Lanes
  mode : ModeSt
  mram : Mram
  cores : Cores
  amp : Ampoule
  poisoned : Bool
  out : List Out
  freeCount : Nat
  pending : List Instr
  deriving DecidableEq, Repr

/-- Why the hub could stop. No command of the table stops the hub: every row of the manual has an effect
in every state, or is answered with a status code. -/
inductive Fault where
  /-- Raised by nothing: the manual names no event after which the hub as a whole stops (a freeze, Safe
  and Boot all go on). Kept so that the type is a closed inductive with a name. Safe. -/
  | none
  deriving DecidableEq, Repr

/-- Why a command could be refused by the model. -/
inductive Refusal where
  /-- A row of the table without a meaning yet; raised only by an arm of `exec`. Safe. -/
  | notModelled (mnemonic : String)
  deriving DecidableEq, Repr

/-- A session before it is opened. -/
def Session.init : Session := ⟨[], [], 0, 0, false⟩
/-- A free clause slot. -/
def Clause.init : Clause := ⟨[], [], [], 0, false, none, [], 0⟩
/-- A source that has delivered no measurement. -/
def Source.init : Source := ⟨false, 0, 0, false⟩
/-- A direction that has seen no beacon. -/
def LinkTime.init : LinkTime := ⟨255, 0, false, false, 0, [], 0, 0⟩
/-- A PTP port before its first message. -/
def PtpPort.init : PtpPort := ⟨0, 0, 0, 0, 0, false, 0, false, 0, 0, 0, none, none, 0, []⟩
/-- A queue that holds nothing. -/
def Queue.init : Queue := ⟨[], 0, true, 0, 0, 0, none, 0, 0, 0, 0, false⟩
/-- A DRAM channel with nothing queued. -/
def DramCh.init : DramCh := ⟨[], [], false, [], [], [], none, [], [], 0, 0, [], [], false, []⟩
/-- A direction of a die link with nothing sent. -/
def LinkDir.init : LinkDir := ⟨0, false, false, 0, 0, 0, [], []⟩
/-- A die link with nothing sent. -/
def DieLink.init : DieLink :=
  ⟨LinkDir.init, LinkDir.init, 0, 0, [], false, false, .idle, false, [], [], false, [], false, [], none⟩
/-- No marks. -/
def Marks.none : Marks := ⟨false, false, false, false, false, false, false⟩
/-- No sample added up. -/
def GobBlock.init : GobBlock := ⟨0, 0, 0, 0, Marks.none⟩
/-- A channel that has converted nothing. -/
def Chan.init : Chan :=
  ⟨.none, 0, [[], [], [], []], [0, 0, 0, 0], GobBlock.init, GobBlock.init, [], 0, Marks.none, none, none, true, 0, [], false, false, 0, 0,
   false, false, 0, false, false, false, [], [], [], [], 0, false, false, 0, [], none, 0, [], 0, 0⟩
/-- The excitation of the defaults of Table 3-10. -/
def ExcCfg.init : ExcCfg := ⟨0, 100, 10, false, 100000000, 1000000, 0⟩
/-- A quad whose driver is off. -/
def Quad.init : Quad := ⟨false, false, false, false, none, false, ExcCfg.init, 0, none, 0, 0, [], none⟩
/-- References that have never disagreed. -/
def DieRef.init : DieRef := ⟨[], false, [], 0, 0, 0, 0, 0, 0, [], []⟩
/-- A quad whose spare is idle. -/
def Spare.init : Spare := ⟨0, [], false, 0, 0, 0, 0, 0, 0, 0, 0, []⟩
/-- A path configuration without FIR (Table 6-6 defaults). -/
def LehrCfg.init : LehrCfg := ⟨[], 0, 8, 0⟩
/-- A path that has not started. -/
def Path.init : Path :=
  ⟨false, [], 0, ⟨0xFFFF, 0, 1, 0xFFFF⟩, LehrCfg.init, none, 0, 0, 0, [], 0, 0, true, 0, 0, 0, 0, 0, false, false, [],
   none, false, none, false, 0, 0, 0, false⟩
/-- A channel without capture. -/
def Cap.init : Cap :=
  ⟨0, 0, none, 0, 0, 0, false, 0, 0, none, false, false, false, true, false, false, false, false, 0, none, none, 0, false,
   ⟨0, 0, 0, 0, 0, false⟩, 0, 0, [], false, false, none, none, 0xFFFF, 0, 0, 0⟩
/-- A context that has coded nothing. -/
def FritCtx.init : FritCtx := ⟨[], 0, [], [], 0, true, [], false⟩
/-- An idle job slot. -/
def FritJob.init : FritJob := ⟨0, 0xFFFF, none, none, 0, 0, [], 0, 0xFFFF, []⟩
/-- A lane that is off. -/
def Lane.init : Lane := ⟨0, [], 0, false, 0, none, 0, 0, 0, 0, none, ⟨[], false, 0⟩, ⟨[], false, 0⟩, false⟩
/-- A bundle that is off. -/
def Bundle.init : Bundle := ⟨0, 0, 0, 0, 0, 0, [], [], none, none, 0, none, 0, none, [], none, [], 0, 0, []⟩

/-- The hub right after power-on reset, step 1 of Table 16-8: every entry at its default (`regs` lists
nothing), hub time at 0 and UNSET, base mode Boot, MRAM without a committed configuration. The part is
the BH896-FA (DESIGN CHOICE, log entry 1): every statement that needs a part names it. -/
def State.reset : State where
  part := ⟨7, true, true⟩
  regs := []
  doms := []
  time := ⟨0, 0, 0, false, [], 0, [], 0, false, 0, [], [], false, [], [], 0, false, 0, []⟩
  sessions := []
  clauses := []
  lastClause := 0
  canIn := none
  forwarded := []
  held := []
  queues := []
  dram := ⟨[], [], [], [], [], none, [], 15, [0x08020080, 0x10040100, 0x20080200, 0x40100400, 0x80200800], 0, 6400, []⟩
  links := []
  chans := []
  quads := []
  dieRefs := []
  spares := []
  paths := []
  lehr := ⟨[], [], [], []⟩
  caps := []
  segments := []
  matrix := ⟨[], [], [], 0⟩
  ctxs := []
  jobs := []
  lanes := ⟨[], [], [], [], [], [], [], [], [], []⟩
  mode := ⟨.boot, false, false, false, 0, 0, true, true, true, false, [], [], false, 0, [], 0, [], [], none, none, .bypass, false,
           false, []⟩
  mram := ⟨⟨0, false, [], []⟩, ⟨0, false, [], []⟩, 0⟩
  cores := ⟨[], false, []⟩
  amp := ⟨none, 0, 0, 0, [], [], [], 1, 0, [], 0, [], [], [], [], [], false, 0xFFFF, none, 0, [], []⟩
  poisoned := false
  out := []
  freeCount := 0
  pending := []

end Sys2Proof.Machine
end

