-- ==== Sys2Proof/Machine/Bits.lean ====
section
/-! DEFINITION. Octets, bit fields, signed numbers, rounding, the T96 and T64 formats (R5 to R8), and the check codes
(R14, R171, R261) and SHA-256 (R363, R371). -/

namespace Sys2Proof.Machine

/-- The number whose octets are these, least significant first (R8). -/
def leNat : List Byte → Nat
  | [] => 0
  | b :: t => b.toNat + 256 * leNat t

/-- The n octets of a number, least significant first (R8). -/
def natLE : Nat → Nat → List Byte
  | 0, _ => []
  | n + 1, v => BitVec.ofNat 8 v :: natLE n (v / 256)

/-- Bits [hi:lo] of a number. -/
def field (v hi lo : Nat) : Nat := v / 2 ^ lo % 2 ^ (hi + 1 - lo)

/-- Bit i of a number. -/
def bitAt (v i : Nat) : Bool := v / 2 ^ i % 2 == 1

/-- A number with bit i set or cleared. -/
def putBit (v i : Nat) (b : Bool) : Nat :=
  if bitAt v i = b then v else if b then v + 2 ^ i else v - 2 ^ i

/-- 1 for true, 0 for false: BOOL of Table 0-5. -/
def ofBool (b : Bool) : Nat := if b then 1 else 0

/-- The two's complement reading of the low n bits. -/
def toSigned (n v : Nat) : Int :=
  if 2 * (v % 2 ^ n) < 2 ^ n then (v % 2 ^ n : Nat) else ((v % 2 ^ n : Nat) : Int) - 2 ^ n

/-- The n bits of a two's complement number. -/
def ofSigned (n : Nat) (i : Int) : Nat := (i % 2 ^ n).toNat

/-- The quotient rounded to nearest, ties to even (R94, R124, R156). -/
def roundEven (a : Int) (b : Nat) : Int :=
  let q := a / b
  let r := a % b
  if 2 * r < b then q else if (b : Int) < 2 * r then q + 1 else if q % 2 = 0 then q else q + 1

/-- The quotient rounded up. -/
def ceilDiv (a b : Nat) : Nat := (a + b - 1) / b

/-- A number kept between two limits. -/
def clampInt (lo hi x : Int) : Int := if x < lo then lo else if hi < x then hi else x

/-- The T96 of a linear tick count (R6). -/
def t96OfTicks (t : Nat) : Nat :=
  t / ticksPerSec * 2 ^ 48 + t % ticksPerSec / ticksPerNs * 2 ^ 16 + t % ticksPerNs

/-- Does a T96 keep R6: bits [47:46] zero and nanoseconds below 1,000,000,000. -/
def t96Valid (v : Nat) : Bool := field v 47 46 == 0 && field v 45 16 < 1000000000 && v < 2 ^ 96

/-- The linear tick count of a T96 (R6). -/
def ticksOfT96 (v : Nat) : Nat := field v 95 48 * ticksPerSec + field v 45 16 * ticksPerNs + field v 15 0

/-- The T64 of a linear tick count (R7). -/
def t64OfTicks (t : Nat) : Nat := t % 2 ^ 64

/-- The signed 64-bit difference by which a T64 target is compared with the present (R7). -/
def t64Diff (target now : Nat) : Int := toSigned 64 (ofSigned 64 ((target : Int) - now))

/-- A T64 target is past, at or before the present; one more than 2^47 ns ahead counts as past (R7). -/
def t64Past (target now : Nat) : Bool := t64Diff target now ≤ 0

/-- One octet into the bit-reflected CRC-32C of R171. -/
def crc32cOctet (c : Nat) (b : Byte) : Nat :=
  (List.range 8).foldl (fun c _ => if c % 2 = 1 then (c / 2) ^^^ 0x82F63B78 else c / 2) (c ^^^ b.toNat)

/-- CRC-32C: polynomial 0x1EDC_6F41, bit-reflected, initial value and final exclusive-OR 0xFFFF_FFFF (R171). -/
def crc32c (l : List Byte) : Nat := l.foldl crc32cOctet 0xFFFFFFFF ^^^ 0xFFFFFFFF

/-- The octets of 32-bit words, least significant octet first (R170, R202, R237). -/
def octetsOfWords (l : List Nat) : List Byte := l.flatMap (natLE 4)

/-- The 32-bit words of octets, least significant octet first; a short last word is padded with zeros. -/
def wordsOfOctets : List Byte → List Nat
  | [] => []
  | [a] => [leNat [a]]
  | [a, b] => [leNat [a, b]]
  | [a, b, c] => [leNat [a, b, c]]
  | a :: b :: c :: d :: t => leNat [a, b, c, d] :: wordsOfOctets t

/-- The 32 octets of a Breimlink payload, octet 0 in bits [255:248] (R281). -/
def blockOctets (b : Block) : List Byte := (natLE 32 b.toNat).reverse

/-- The payload whose octets are these, octet 0 in bits [255:248] (R281). -/
def blockOfOctets (l : List Byte) : Block := BitVec.ofNat 256 (leNat l.reverse)

/-- The CRC-32C over bits [255:32] of a payload, as control blocks carry it in [31:0] (R275). -/
def blockCrc (b : Block) : Nat := crc32c ((blockOctets b).take 28)

/-- One bit into a CRC whose most significant bit leaves first. -/
def crcMsbBit (width poly : Nat) (c : Nat) (b : Bool) : Nat :=
  let top := bitAt c (width - 1) != b
  let c2 := c * 2 % 2 ^ width
  if top then c2 ^^^ poly else c2

/-- The bits of a number from bit hi down to bit 0. -/
def bitsDown : Nat → Nat → List Bool
  | 0, v => [bitAt v 0]
  | i + 1, v => bitAt v (i + 1) :: bitsDown i v

/-- The CRC-32 of a flit over bits [1023:32], seeded with the sequence number (R14). DESIGN CHOICE (log entry 104): bit 1023
first, nothing reflected, no final exclusive-OR. -/
def flitCrc (bits : Flit) (seq : Nat) : Nat :=
  (bitsDown 991 (bits.toNat / 2 ^ 32)).foldl (crcMsbBit 32 0x04C11DB7) (0xFFFFFFFF ^^^ (seq % 4096))

/-- The CRC-8 of Table 10-4: polynomial 0x2F, initial value 0xFF, over the 40-bit address and the 8 data
octets. -/
def dramCrc8 (addr : Nat) (data : List Byte) : Nat :=
  ((bitsDown 39 addr) ++ data.flatMap (fun b => bitsDown 7 b.toNat)).foldl (crcMsbBit 8 0x2F) 0xFF

/-- A rotation to the right of 32 bits. -/
def rotr32 (x n : Nat) : Nat := x / 2 ^ n + x % 2 ^ n * 2 ^ (32 - n)

/-- The primes of SHA-256's constants: the first 64, up to 311 (log entry 14). -/
def shaPrimes : List Nat := (List.range 312).filter fun n => 2 ≤ n && (List.range n).all fun d => d < 2 || n % d != 0

/-- The first 32 bits of the fraction of a k-th root, bit by bit from above (log entry 14). -/
def rootFraction (k n : Nat) : Nat :=
  ((List.range 40).foldl (fun r i => let c := r + 2 ^ (39 - i); if c ^ k ≤ n * 2 ^ (32 * k) then c else r) 0) % 2 ^ 32

/-- The round constants of SHA-256: of the cube roots of the primes (log entry 14). -/
def shaConstants : List Nat := shaPrimes.map (rootFraction 3)

/-- The chaining value SHA-256 starts with: of the square roots of the first eight primes (log entry 14). -/
def shaStart : List Nat := (shaPrimes.take 8).map (rootFraction 2)

/-- Three rotations of a word, exclusive-ORed; the last is a shift where `shift` says so (log entry 14). -/
def shaMix (x : Nat) (shift : Bool) (r : Nat × Nat × Nat) : Nat :=
  (rotr32 x r.1 ^^^ rotr32 x r.2.1) ^^^ (if shift then x / 2 ^ r.2.2 else rotr32 x r.2.2)

/-- The next word of the message schedule from the sixteen before it, newest first (log entry 14). -/
def shaNext (back : List Nat) : Nat :=
  (shaMix (back.getD 1 0) true (17, 19, 10) + back.getD 6 0 + shaMix (back.getD 14 0) true (7, 18, 3) + back.getD 15 0) % 2 ^ 32

/-- The working words of SHA-256, a to h (log entry 14). -/
structure ShaWork where
  a : Nat
  b : Nat
  c : Nat
  d : Nat
  e : Nat
  f : Nat
  g : Nat
  h : Nat

/-- One round: its constant and schedule word come summed (log entry 14). -/
def ShaWork.round (x : ShaWork) (kw : Nat) : ShaWork :=
  let choice := x.g ^^^ (x.e &&& (x.f ^^^ x.g))
  let most := (x.a &&& x.b) ||| (x.c &&& (x.a ||| x.b))
  let u := x.h + kw + choice + shaMix x.e false (6, 11, 25)
  { x with
    h := x.g, g := x.f, f := x.e, e := (x.d + u) % 2 ^ 32, d := x.c, c := x.b, b := x.a
    a := (u + most + shaMix x.a false (2, 13, 22)) % 2 ^ 32 }

/-- The rounds over the constants left, the schedule running along, newest first (log entry 14). -/
def shaRounds : List Nat → List Nat → List Nat → ShaWork → ShaWork
  | [], _, _, x => x
  | k :: ks, w :: ws, back, x => shaRounds ks ws (w :: back) (x.round (k + w))
  | k :: ks, [], back, x => let w := shaNext back; shaRounds ks [] (w :: back) (x.round (k + w))

/-- One chunk of sixteen words into the chaining value (log entry 14). -/
def shaChunk (v : List Nat) (ws : List Nat) : List Nat :=
  let g (i : Nat) := v.getD i 0
  let y := shaRounds shaConstants ws [] ⟨g 0, g 1, g 2, g 3, g 4, g 5, g 6, g 7⟩
  ([y.a, y.b, y.c, y.d, y.e, y.f, y.g, y.h].zip v).map fun p => (p.1 + p.2) % 2 ^ 32

/-- The chunks of a padded message, at most n of them. -/
def shaChunks : Nat → List Nat → List Nat → List Nat
  | 0, _, v => v
  | n + 1, ws, v => shaChunks n (ws.drop 16) (shaChunk v (ws.take 16))

/-- The words of octets, most significant octet first. -/
def bigWords (l : List Byte) : List Nat := (wordsOfOctets l).map fun w => leNat (natLE 4 w).reverse

/-- SHA-256 of a string of octets: its eight words (log entry 14). -/
def sha256 (l : List Byte) : List Nat :=
  let padLen := (119 - l.length % 64) % 64
  let padded := l ++ [0x80#8] ++ List.replicate padLen 0#8 ++ (natLE 8 (l.length * 8)).reverse
  let ws := bigWords padded
  shaChunks (ws.length / 16) ws shaStart

/-- The 32 octets of a SHA-256 digest, in order. -/
def sha256Octets (l : List Byte) : List Byte := (sha256 l).flatMap fun w => (natLE 4 w).reverse

end Sys2Proof.Machine
end

