-- ==== Sys2Proof/Machine/Registers.lean ====
section
/-! DEFINITION. The names of the dictionary entries, as the tables of every chapter spell them. Each name is the
chapter's name behind the letters of its group: `ch_` channel, `qd_` quad, `tm_` hub time and so on; the
argument is the instance of R4 (channel number, quad number, path, queue ...). -/

namespace Sys2Proof.Machine.R

abbrev di_LINK_STATE (i : Nat) : Reg := ⟨.die, i, 0x01⟩
abbrev di_SPARES_OUT (i : Nat) : Reg := ⟨.die, i, 0x02⟩
abbrev di_SPARES_IN (i : Nat) : Reg := ⟨.die, i, 0x03⟩
abbrev di_CRC_ERR_OUT (i : Nat) : Reg := ⟨.die, i, 0x04⟩
abbrev di_CRC_ERR_IN (i : Nat) : Reg := ⟨.die, i, 0x05⟩
abbrev di_REPLAYS (i : Nat) : Reg := ⟨.die, i, 0x06⟩
abbrev di_RETRAINS (i : Nat) : Reg := ⟨.die, i, 0x07⟩
abbrev di_RAW_ADMITTED (i : Nat) : Reg := ⟨.die, i, 0x08⟩
abbrev di_FLITS_ADMITTED (i : Nat) : Reg := ⟨.die, i, 0x09⟩
abbrev di_EBUF_FILL (i : Nat) : Reg := ⟨.die, i, 0x0A⟩
abbrev di_EBUF_PEAK (i : Nat) : Reg := ⟨.die, i, 0x0B⟩
abbrev di_EBUF_PEAK_CLR (i : Nat) : Reg := ⟨.die, i, 0x0C⟩
abbrev di_SLIP_LIMIT (i : Nat) : Reg := ⟨.die, i, 0x0D⟩
abbrev di_LAG (i : Nat) : Reg := ⟨.die, i, 0x0E⟩
abbrev di_SHED_LEVEL (i : Nat) : Reg := ⟨.die, i, 0x0F⟩
abbrev di_SHED_EVENTS (i : Nat) : Reg := ⟨.die, i, 0x10⟩
abbrev di_SB_COLLISIONS (i : Nat) : Reg := ⟨.die, i, 0x11⟩
abbrev tm_NOW : Reg := ⟨.time, 0, 0x01⟩
abbrev tm_TIME_STATE : Reg := ⟨.time, 0, 0x02⟩
abbrev tm_SRC_PRIORITY : Reg := ⟨.time, 0, 0x03⟩
abbrev tm_SRC_SELECTED : Reg := ⟨.time, 0, 0x04⟩
abbrev tm_STEER_MODE : Reg := ⟨.time, 0, 0x05⟩
abbrev tm_FREQ_ADJ : Reg := ⟨.time, 0, 0x06⟩
abbrev tm_INCR : Reg := ⟨.time, 0, 0x07⟩
abbrev tm_OFFSET : Reg := ⟨.time, 0, 0x08⟩
abbrev tm_STEP_THRESHOLD : Reg := ⟨.time, 0, 0x09⟩
abbrev tm_STEP_PERSIST : Reg := ⟨.time, 0, 0x0A⟩
abbrev tm_SLEW_MAX : Reg := ⟨.time, 0, 0x0B⟩
abbrev tm_LOOP_BW_PTP : Reg := ⟨.time, 0, 0x0C⟩
abbrev tm_LOOP_BW_BL : Reg := ⟨.time, 0, 0x0D⟩
abbrev tm_HOLD_AVG : Reg := ⟨.time, 0, 0x0E⟩
abbrev tm_LOCK_WINDOW : Reg := ⟨.time, 0, 0x0F⟩
abbrev tm_STEP_REFUSED : Reg := ⟨.time, 0, 0x10⟩
abbrev tm_PENDING_STEP : Reg := ⟨.time, 0, 0x11⟩
abbrev tm_ACCEPT_STEP : Reg := ⟨.time, 0, 0x12⟩
abbrev tm_SET_TIME : Reg := ⟨.time, 0, 0x13⟩
abbrev tm_CLOCK_ID : Reg := ⟨.time, 0, 0x14⟩
abbrev tm_HOLDOVER_SINCE : Reg := ⟨.time, 0, 0x15⟩
abbrev tm_STATE_FLAGS : Reg := ⟨.time, 0, 0x16⟩
abbrev tm_STEPS_ACCEPTED : Reg := ⟨.time, 0, 0x17⟩
abbrev tm_OUTLIERS : Reg := ⟨.time, 0, 0x18⟩
abbrev pt_ENABLE (i : Nat) : Reg := ⟨.ptp, i, 0x01⟩
abbrev pt_ROLE (i : Nat) : Reg := ⟨.ptp, i, 0x02⟩
abbrev pt_TRANSPORT (i : Nat) : Reg := ⟨.ptp, i, 0x03⟩
abbrev pt_STEP_MODE (i : Nat) : Reg := ⟨.ptp, i, 0x04⟩
abbrev pt_DELAY_MECH (i : Nat) : Reg := ⟨.ptp, i, 0x05⟩
abbrev pt_DOMAIN (i : Nat) : Reg := ⟨.ptp, i, 0x06⟩
abbrev pt_LOG_SYNC (i : Nat) : Reg := ⟨.ptp, i, 0x07⟩
abbrev pt_LOG_DELAY (i : Nat) : Reg := ⟨.ptp, i, 0x08⟩
abbrev pt_LOG_ANNOUNCE (i : Nat) : Reg := ⟨.ptp, i, 0x09⟩
abbrev pt_PRIORITY1 (i : Nat) : Reg := ⟨.ptp, i, 0x0A⟩
abbrev pt_PRIORITY2 (i : Nat) : Reg := ⟨.ptp, i, 0x0B⟩
abbrev pt_TX_LAT (i : Nat) : Reg := ⟨.ptp, i, 0x0C⟩
abbrev pt_RX_LAT (i : Nat) : Reg := ⟨.ptp, i, 0x0D⟩
abbrev pt_ASYM (i : Nat) : Reg := ⟨.ptp, i, 0x0E⟩
abbrev pt_PORT_STATE (i : Nat) : Reg := ⟨.ptp, i, 0x0F⟩
abbrev pt_OFFSET (i : Nat) : Reg := ⟨.ptp, i, 0x10⟩
abbrev pt_MEAN_DELAY (i : Nat) : Reg := ⟨.ptp, i, 0x11⟩
abbrev pt_TXTS_COUNT (i : Nat) : Reg := ⟨.ptp, i, 0x12⟩
abbrev pt_TXTS_HEAD (i : Nat) : Reg := ⟨.ptp, i, 0x13⟩
abbrev pt_TXTS_POP (i : Nat) : Reg := ⟨.ptp, i, 0x14⟩
abbrev pt_TXTS_OVERFLOW (i : Nat) : Reg := ⟨.ptp, i, 0x15⟩
abbrev pt_TXTS_STICKY (i : Nat) : Reg := ⟨.ptp, i, 0x16⟩
abbrev pt_TXTS_STICKY_CLR (i : Nat) : Reg := ⟨.ptp, i, 0x17⟩
abbrev pt_PARENT_ID (i : Nat) : Reg := ⟨.ptp, i, 0x18⟩
abbrev bl_BEACON_RATE : Reg := ⟨.blTime, 0, 0x01⟩
abbrev bl_PRIMARY_DIR : Reg := ⟨.blTime, 0, 0x02⟩
abbrev bl_SEL_DIR : Reg := ⟨.blTime, 0, 0x03⟩
abbrev bl_HOPS : Reg := ⟨.blTime, 0, 0x04⟩
abbrev bl_GM_ADDR : Reg := ⟨.blTime, 0, 0x05⟩
abbrev bl_ASYM_W : Reg := ⟨.blTime, 0, 0x06⟩
abbrev bl_ASYM_E : Reg := ⟨.blTime, 0, 0x07⟩
abbrev bl_DELAY_W : Reg := ⟨.blTime, 0, 0x08⟩
abbrev bl_DELAY_E : Reg := ⟨.blTime, 0, 0x09⟩
abbrev bl_OFFSET_W : Reg := ⟨.blTime, 0, 0x0A⟩
abbrev bl_OFFSET_E : Reg := ⟨.blTime, 0, 0x0B⟩
abbrev bl_BEACON_ERR : Reg := ⟨.blTime, 0, 0x0C⟩
abbrev bl_BEACONS_RX : Reg := ⟨.blTime, 0, 0x0D⟩
abbrev la_PPS_OUT_EN : Reg := ⟨.launch, 0, 0x01⟩
abbrev la_PPS_OUT_WIDTH : Reg := ⟨.launch, 0, 0x02⟩
abbrev la_PPS_OUT_OFFSET : Reg := ⟨.launch, 0, 0x03⟩
abbrev la_PPS_OUT_QUALIFY : Reg := ⟨.launch, 0, 0x04⟩
abbrev la_PPS_IN_EN : Reg := ⟨.launch, 0, 0x05⟩
abbrev la_PPS_IN_LAST : Reg := ⟨.launch, 0, 0x06⟩
abbrev la_PPS_IN_OFFSET : Reg := ⟨.launch, 0, 0x07⟩
abbrev la_PPS_IN_COUNT : Reg := ⟨.launch, 0, 0x08⟩
abbrev la_LATE_TOL : Reg := ⟨.launch, 0, 0x09⟩
abbrev la_LAUNCH_LATE : Reg := ⟨.launch, 0, 0x0A⟩
abbrev la_LAUNCH_DROPPED : Reg := ⟨.launch, 0, 0x0B⟩
abbrev tr_ENABLE (i : Nat) : Reg := ⟨.trigger, i, 0x01⟩
abbrev tr_TARGET (i : Nat) : Reg := ⟨.trigger, i, 0x02⟩
abbrev tr_PERIOD (i : Nat) : Reg := ⟨.trigger, i, 0x03⟩
abbrev tr_FIRED (i : Nat) : Reg := ⟨.trigger, i, 0x04⟩
abbrev tr_LATE (i : Nat) : Reg := ⟨.trigger, i, 0x05⟩
abbrev ch_STAGE (i : Nat) : Reg := ⟨.channel, i, 0x01⟩
abbrev ch_PGA_GAIN (i : Nat) : Reg := ⟨.channel, i, 0x02⟩
abbrev ch_TIA_RF (i : Nat) : Reg := ⟨.channel, i, 0x03⟩
abbrev ch_TIA_CF (i : Nat) : Reg := ⟨.channel, i, 0x04⟩
abbrev ch_PD_BIAS (i : Nat) : Reg := ⟨.channel, i, 0x05⟩
abbrev ch_CHOP (i : Nat) : Reg := ⟨.channel, i, 0x06⟩
abbrev ch_BURNOUT (i : Nat) : Reg := ⟨.channel, i, 0x07⟩
abbrev ch_OW_CURRENT (i : Nat) : Reg := ⟨.channel, i, 0x08⟩
abbrev ch_OW_DIR (i : Nat) : Reg := ⟨.channel, i, 0x09⟩
abbrev ch_OW_PERIOD (i : Nat) : Reg := ⟨.channel, i, 0x0A⟩
abbrev ch_OW_THRESHOLD (i : Nat) : Reg := ⟨.channel, i, 0x0B⟩
abbrev ch_OW_NOW (i : Nat) : Reg := ⟨.channel, i, 0x0C⟩
abbrev ch_CH_STATUS (i : Nat) : Reg := ⟨.channel, i, 0x0D⟩
abbrev ch_OW_RESULT (i : Nat) : Reg := ⟨.channel, i, 0x0E⟩
abbrev ch_OW_DELTA (i : Nat) : Reg := ⟨.channel, i, 0x0F⟩
abbrev ch_TDR_VOP (i : Nat) : Reg := ⟨.channel, i, 0x10⟩
abbrev ch_TDR_RANGE (i : Nat) : Reg := ⟨.channel, i, 0x11⟩
abbrev ch_TDR_AVG (i : Nat) : Reg := ⟨.channel, i, 0x12⟩
abbrev ch_TDR_THRESHOLD (i : Nat) : Reg := ⟨.channel, i, 0x13⟩
abbrev ch_TDR_AUTO (i : Nat) : Reg := ⟨.channel, i, 0x14⟩
abbrev ch_TDR_START (i : Nat) : Reg := ⟨.channel, i, 0x15⟩
abbrev ch_TDR_STATE (i : Nat) : Reg := ⟨.channel, i, 0x16⟩
abbrev ch_TDR_EVENTS (i : Nat) : Reg := ⟨.channel, i, 0x17⟩
abbrev ch_TDR_EVENT (i : Nat) : Reg := ⟨.channel, i, 0x18⟩
abbrev ch_TDR_END_DELAY (i : Nat) : Reg := ⟨.channel, i, 0x19⟩
abbrev ch_TDR_TIME (i : Nat) : Reg := ⟨.channel, i, 0x1A⟩
abbrev ch_LEGAL (i : Nat) : Reg := ⟨.channel, i, 0x1B⟩
abbrev qd_EXC_MODE (i : Nat) : Reg := ⟨.quad, i, 0x01⟩
abbrev qd_EXC_VOLT (i : Nat) : Reg := ⟨.quad, i, 0x02⟩
abbrev qd_EXC_CURR (i : Nat) : Reg := ⟨.quad, i, 0x03⟩
abbrev qd_PULSED (i : Nat) : Reg := ⟨.quad, i, 0x04⟩
abbrev qd_PWM_PERIOD (i : Nat) : Reg := ⟨.quad, i, 0x05⟩
abbrev qd_PWM_WIDTH (i : Nat) : Reg := ⟨.quad, i, 0x06⟩
abbrev qd_PWM_PHASE (i : Nat) : Reg := ⟨.quad, i, 0x07⟩
abbrev qd_EXC_STATUS (i : Nat) : Reg := ⟨.quad, i, 0x08⟩
abbrev qd_EXC_MEAS_V (i : Nat) : Reg := ⟨.quad, i, 0x09⟩
abbrev qd_EXC_MEAS_I (i : Nat) : Reg := ⟨.quad, i, 0x0A⟩
abbrev ch_CONV_MODE (i : Nat) : Reg := ⟨.channel, i, 0x1C⟩
abbrev ch_CONV_RATE (i : Nat) : Reg := ⟨.channel, i, 0x1D⟩
abbrev ch_CONV_STATUS (i : Nat) : Reg := ⟨.channel, i, 0x1E⟩
abbrev ch_SLICE (i : Nat) : Reg := ⟨.channel, i, 0x1F⟩
abbrev ch_AP_DELAY (i : Nat) : Reg := ⟨.channel, i, 0x20⟩
abbrev ch_CAL_OFFSET (i : Nat) : Reg := ⟨.channel, i, 0x21⟩
abbrev ch_CAL_GAIN (i : Nat) : Reg := ⟨.channel, i, 0x22⟩
abbrev ch_CAL_SKEW (i : Nat) : Reg := ⟨.channel, i, 0x23⟩
abbrev ch_CAL_DRIFT (i : Nat) : Reg := ⟨.channel, i, 0x24⟩
abbrev ch_CAL_TIME (i : Nat) : Reg := ⟨.channel, i, 0x25⟩
abbrev ch_DEFERRED_STARTS (i : Nat) : Reg := ⟨.channel, i, 0x26⟩
abbrev ch_SAMPLES (i : Nat) : Reg := ⟨.channel, i, 0x27⟩
abbrev qd_START_SRC (i : Nat) : Reg := ⟨.quad, i, 0x0B⟩
abbrev qd_START_DELAY (i : Nat) : Reg := ⟨.quad, i, 0x0C⟩
abbrev qd_TIMER_PERIOD (i : Nat) : Reg := ⟨.quad, i, 0x0D⟩
abbrev qd_TIMER_PHASE (i : Nat) : Reg := ⟨.quad, i, 0x0E⟩
abbrev qd_BURST_N (i : Nat) : Reg := ⟨.quad, i, 0x0F⟩
abbrev qd_BURST_RATE (i : Nat) : Reg := ⟨.quad, i, 0x10⟩
abbrev qd_BURSTS (i : Nat) : Reg := ⟨.quad, i, 0x11⟩
abbrev qd_STRETCHED (i : Nat) : Reg := ⟨.quad, i, 0x12⟩
abbrev qd_SKIPPED (i : Nat) : Reg := ⟨.quad, i, 0x13⟩
abbrev qd_NEXT_START (i : Nat) : Reg := ⟨.quad, i, 0x14⟩
abbrev bk_BANK_POWER (i : Nat) : Reg := ⟨.bank, i, 0x01⟩
abbrev bk_REF_SEL (i : Nat) : Reg := ⟨.bank, i, 0x02⟩
abbrev bk_REF_POLICY (i : Nat) : Reg := ⟨.bank, i, 0x03⟩
abbrev bk_BANK_STATE (i : Nat) : Reg := ⟨.bank, i, 0x04⟩
abbrev bk_BUF_ON_SINCE (i : Nat) : Reg := ⟨.bank, i, 0x05⟩
abbrev bk_READY_AT (i : Nat) : Reg := ⟨.bank, i, 0x06⟩
abbrev bk_DEFERRALS (i : Nat) : Reg := ⟨.bank, i, 0x07⟩
abbrev bk_REF_SWITCHES (i : Nat) : Reg := ⟨.bank, i, 0x08⟩
abbrev bk_CAL_NOW (i : Nat) : Reg := ⟨.bank, i, 0x09⟩
abbrev bk_CAL_STATE (i : Nat) : Reg := ⟨.bank, i, 0x0A⟩
abbrev bk_POWER_EST (i : Nat) : Reg := ⟨.bank, i, 0x0B⟩
abbrev di_REFX_PRESENT (i : Nat) : Reg := ⟨.die, i, 0x12⟩
abbrev di_DIS_AB (i : Nat) : Reg := ⟨.die, i, 0x13⟩
abbrev di_DIS_AX (i : Nat) : Reg := ⟨.die, i, 0x14⟩
abbrev di_DIS_BX (i : Nat) : Reg := ⟨.die, i, 0x15⟩
abbrev di_REF_STATE (i : Nat) : Reg := ⟨.die, i, 0x16⟩
abbrev di_REF_WARNINGS (i : Nat) : Reg := ⟨.die, i, 0x17⟩
abbrev di_REF_RECAL_V (i : Nat) : Reg := ⟨.die, i, 0x18⟩
abbrev di_REF_RECAL (i : Nat) : Reg := ⟨.die, i, 0x19⟩
abbrev di_REF_RECAL_TIME (i : Nat) : Reg := ⟨.die, i, 0x1A⟩
abbrev di_DIE_POWER (i : Nat) : Reg := ⟨.die, i, 0x1B⟩
abbrev di_DIE_STATE (i : Nat) : Reg := ⟨.die, i, 0x1C⟩
abbrev ch_STAGES (i : Nat) : Reg := ⟨.channel, i, 0x28⟩
abbrev ch_S1_LEN (i : Nat) : Reg := ⟨.channel, i, 0x29⟩
abbrev ch_S1_DEC (i : Nat) : Reg := ⟨.channel, i, 0x2A⟩
abbrev ch_S2_LEN (i : Nat) : Reg := ⟨.channel, i, 0x2B⟩
abbrev ch_S2_DEC (i : Nat) : Reg := ⟨.channel, i, 0x2C⟩
abbrev ch_S3_LEN (i : Nat) : Reg := ⟨.channel, i, 0x2D⟩
abbrev ch_S3_DEC (i : Nat) : Reg := ⟨.channel, i, 0x2E⟩
abbrev ch_S4_LEN (i : Nat) : Reg := ⟨.channel, i, 0x2F⟩
abbrev ch_S4_DEC (i : Nat) : Reg := ⟨.channel, i, 0x30⟩
abbrev ch_TRACK_STAGE (i : Nat) : Reg := ⟨.channel, i, 0x31⟩
abbrev ch_TRACK_CYCLES (i : Nat) : Reg := ⟨.channel, i, 0x32⟩
abbrev ch_COARSE_LEN (i : Nat) : Reg := ⟨.channel, i, 0x33⟩
abbrev ch_STEP_DETECT (i : Nat) : Reg := ⟨.channel, i, 0x34⟩
abbrev ch_RAW_FWD (i : Nat) : Reg := ⟨.channel, i, 0x35⟩
abbrev ch_OUT_RATE (i : Nat) : Reg := ⟨.channel, i, 0x36⟩
abbrev ch_GROUP_DELAY (i : Nat) : Reg := ⟨.channel, i, 0x37⟩
abbrev ch_GOB_STATUS (i : Nat) : Reg := ⟨.channel, i, 0x38⟩
abbrev ch_COARSE_VALUE (i : Nat) : Reg := ⟨.channel, i, 0x39⟩
abbrev ch_COARSE_TIME (i : Nat) : Reg := ⟨.channel, i, 0x3A⟩
abbrev ch_LAST_VALUE (i : Nat) : Reg := ⟨.channel, i, 0x3B⟩
abbrev ch_STEPS_DETECTED (i : Nat) : Reg := ⟨.channel, i, 0x3C⟩
abbrev ch_SUM_MISMATCH (i : Nat) : Reg := ⟨.channel, i, 0x3D⟩
abbrev ch_WITHHELD (i : Nat) : Reg := ⟨.channel, i, 0x3E⟩
abbrev di_MAINS_SENSE (i : Nat) : Reg := ⟨.die, i, 0x1D⟩
abbrev di_MAINS_NOMINAL (i : Nat) : Reg := ⟨.die, i, 0x1E⟩
abbrev di_MAINS_AVG (i : Nat) : Reg := ⟨.die, i, 0x1F⟩
abbrev di_MAINS_FREQ (i : Nat) : Reg := ⟨.die, i, 0x20⟩
abbrev di_MAINS_STATE (i : Nat) : Reg := ⟨.die, i, 0x21⟩
abbrev di_MAINS_UPDATES (i : Nat) : Reg := ⟨.die, i, 0x22⟩
abbrev pa_ENABLE (i : Nat) : Reg := ⟨.path, i, 0x01⟩
abbrev pa_SOURCE (i : Nat) : Reg := ⟨.path, i, 0x02⟩
abbrev pa_OUT_PERIOD (i : Nat) : Reg := ⟨.path, i, 0x03⟩
abbrev pa_DELAY (i : Nat) : Reg := ⟨.path, i, 0x04⟩
abbrev pa_FIR_TAPS (i : Nat) : Reg := ⟨.path, i, 0x05⟩
abbrev pa_FIR_DEC (i : Nat) : Reg := ⟨.path, i, 0x06⟩
abbrev pa_FIR_CENTRE (i : Nat) : Reg := ⟨.path, i, 0x07⟩
abbrev pa_FIR_COEF (i : Nat) : Reg := ⟨.path, i, 0x08⟩
abbrev pa_RS_TAPS (i : Nat) : Reg := ⟨.path, i, 0x09⟩
abbrev pa_XFADE_LEN (i : Nat) : Reg := ⟨.path, i, 0x0A⟩
abbrev pa_QUEUE (i : Nat) : Reg := ⟨.path, i, 0x0B⟩
abbrev pa_BLOCK_LEN (i : Nat) : Reg := ⟨.path, i, 0x0C⟩
abbrev pa_BLOCK_MAXAGE (i : Nat) : Reg := ⟨.path, i, 0x0D⟩
abbrev pa_SEAL (i : Nat) : Reg := ⟨.path, i, 0x0E⟩
abbrev pa_PATH_STATE (i : Nat) : Reg := ⟨.path, i, 0x0F⟩
abbrev pa_COST (i : Nat) : Reg := ⟨.path, i, 0x10⟩
abbrev pa_LATENCY (i : Nat) : Reg := ⟨.path, i, 0x11⟩
abbrev pa_OUTPUTS (i : Nat) : Reg := ⟨.path, i, 0x12⟩
abbrev pa_SKIPPED (i : Nat) : Reg := ⟨.path, i, 0x13⟩
abbrev pa_LAST_INSTANT (i : Nat) : Reg := ⟨.path, i, 0x14⟩
abbrev pa_LAST_WORD (i : Nat) : Reg := ⟨.path, i, 0x15⟩
abbrev pa_XFADE_LATE (i : Nat) : Reg := ⟨.path, i, 0x16⟩
abbrev pa_FADE_AT (i : Nat) : Reg := ⟨.path, i, 0x17⟩
abbrev pa_TENANT (i : Nat) : Reg := ⟨.path, i, 0x18⟩
abbrev le_LOAD : Reg := ⟨.lehrEngine, 0, 0x01⟩
abbrev le_CAPACITY : Reg := ⟨.lehrEngine, 0, 0x02⟩
abbrev le_LANES_WORKING : Reg := ⟨.lehrEngine, 0, 0x03⟩
abbrev le_LANE_SPARES : Reg := ⟨.lehrEngine, 0, 0x04⟩
abbrev le_ROUND_DEMAND : Reg := ⟨.lehrEngine, 0, 0x05⟩
abbrev le_CATCHUP : Reg := ⟨.lehrEngine, 0, 0x06⟩
abbrev le_PATHS_ACTIVE : Reg := ⟨.lehrEngine, 0, 0x07⟩
abbrev le_RESIDUE_RETRIES : Reg := ⟨.lehrEngine, 0, 0x08⟩
abbrev le_BUDGET_REFUSALS : Reg := ⟨.lehrEngine, 0, 0x09⟩
abbrev pu_CAP_ENABLE (i : Nat) : Reg := ⟨.punty, i, 0x01⟩
abbrev pu_TAP (i : Nat) : Reg := ⟨.punty, i, 0x02⟩
abbrev pu_TRIG_TYPE (i : Nat) : Reg := ⟨.punty, i, 0x03⟩
abbrev pu_POL (i : Nat) : Reg := ⟨.punty, i, 0x04⟩
abbrev pu_LEVEL_A (i : Nat) : Reg := ⟨.punty, i, 0x05⟩
abbrev pu_LEVEL_B (i : Nat) : Reg := ⟨.punty, i, 0x06⟩
abbrev pu_HYST (i : Nat) : Reg := ⟨.punty, i, 0x07⟩
abbrev pu_SLOPE_SPAN (i : Nat) : Reg := ⟨.punty, i, 0x08⟩
abbrev pu_WIDTH_MIN (i : Nat) : Reg := ⟨.punty, i, 0x09⟩
abbrev pu_WIDTH_MAX (i : Nat) : Reg := ⟨.punty, i, 0x0A⟩
abbrev pu_RUN_LEN (i : Nat) : Reg := ⟨.punty, i, 0x0B⟩
abbrev pu_SEG_LEN (i : Nat) : Reg := ⟨.punty, i, 0x0C⟩
abbrev pu_PRE (i : Nat) : Reg := ⟨.punty, i, 0x0D⟩
abbrev pu_LOOKBACK (i : Nat) : Reg := ⟨.punty, i, 0x0E⟩
abbrev pu_ARM_MODE (i : Nat) : Reg := ⟨.punty, i, 0x0F⟩
abbrev pu_ARM_COUNT (i : Nat) : Reg := ⟨.punty, i, 0x10⟩
abbrev pu_CAP_PRIO (i : Nat) : Reg := ⟨.punty, i, 0x11⟩
abbrev pu_SEG_QUEUE (i : Nat) : Reg := ⟨.punty, i, 0x12⟩
abbrev pu_OVF_RESUME (i : Nat) : Reg := ⟨.punty, i, 0x13⟩
abbrev pu_ARM (i : Nat) : Reg := ⟨.punty, i, 0x14⟩
abbrev pu_DISARM (i : Nat) : Reg := ⟨.punty, i, 0x15⟩
abbrev pu_FORCE (i : Nat) : Reg := ⟨.punty, i, 0x16⟩
abbrev pu_ARM_STATE (i : Nat) : Reg := ⟨.punty, i, 0x17⟩
abbrev pu_SEGMENTS (i : Nat) : Reg := ⟨.punty, i, 0x18⟩
abbrev pu_ARMS (i : Nat) : Reg := ⟨.punty, i, 0x19⟩
abbrev pu_DISARMS (i : Nat) : Reg := ⟨.punty, i, 0x1A⟩
abbrev pu_REARM_DEFERRED (i : Nat) : Reg := ⟨.punty, i, 0x1B⟩
abbrev pu_DET_EVENTS (i : Nat) : Reg := ⟨.punty, i, 0x1C⟩
abbrev pu_MISSED_TOTAL (i : Nat) : Reg := ⟨.punty, i, 0x1D⟩
abbrev pu_LATE_TRIGGERS (i : Nat) : Reg := ⟨.punty, i, 0x1E⟩
abbrev pu_OVERFLOWS (i : Nat) : Reg := ⟨.punty, i, 0x1F⟩
abbrev pu_LAST_TRIG_TIME (i : Nat) : Reg := ⟨.punty, i, 0x20⟩
abbrev pu_SRAM_RESERVED (i : Nat) : Reg := ⟨.punty, i, 0x21⟩
abbrev pu_DESC_PENDING (i : Nat) : Reg := ⟨.punty, i, 0x22⟩
abbrev pu_SEGS_REMAINING (i : Nat) : Reg := ⟨.punty, i, 0x23⟩
abbrev mx_TRIG_EDGE : Reg := ⟨.matrix, 0, 0x01⟩
abbrev mx_ILINE_IN : Reg := ⟨.matrix, 0, 0x02⟩
abbrev mx_ILINE_PULSE : Reg := ⟨.matrix, 0, 0x03⟩
abbrev mx_RT_HOPS_MAX : Reg := ⟨.matrix, 0, 0x04⟩
abbrev mx_RT_SEQ : Reg := ⟨.matrix, 0, 0x05⟩
abbrev mx_RT_RX : Reg := ⟨.matrix, 0, 0x06⟩
abbrev mx_RT_DUP : Reg := ⟨.matrix, 0, 0x07⟩
abbrev mx_RT_ERR : Reg := ⟨.matrix, 0, 0x08⟩
abbrev mx_TRIG_COUNT (k : Nat) : Reg := ⟨.matrix, 0, 0x10 + k⟩
abbrev mx_ILINE_COUNT (k : Nat) : Reg := ⟨.matrix, 0, 0x18 + k⟩
abbrev mx_ILINE_DRIVEN : Reg := ⟨.matrix, 0, 0x1C⟩
abbrev mx_MOUT (k : Nat) : Reg := ⟨.matrix, 0, 0x20 + k⟩
abbrev mx_MOUT_FIRED (k : Nat) : Reg := ⟨.matrix, 0, 0x40 + k⟩
abbrev ri_SEGS_PENDING : Reg := ⟨.rings, 0, 0x01⟩
abbrev ri_DRAIN_WORST : Reg := ⟨.rings, 0, 0x02⟩
abbrev ri_OVERFLOW_EVENTS : Reg := ⟨.rings, 0, 0x03⟩
abbrev ri_ARCHIVE_STALLS : Reg := ⟨.rings, 0, 0x04⟩
abbrev ri_DRAIN_RATE (d : Nat) : Reg := ⟨.rings, 0, 16 * d + 1⟩
abbrev ri_SRAM_RESERVED (d : Nat) : Reg := ⟨.rings, 0, 16 * d + 2⟩
abbrev ri_SRAM_USED (d : Nat) : Reg := ⟨.rings, 0, 16 * d + 3⟩
abbrev ri_SRAM_PEAK (d : Nat) : Reg := ⟨.rings, 0, 16 * d + 4⟩
abbrev ri_DESC_USED (d : Nat) : Reg := ⟨.rings, 0, 16 * d + 5⟩
abbrev ri_DESC_PEAK (d : Nat) : Reg := ⟨.rings, 0, 16 * d + 6⟩
abbrev ri_SEGS_DRAINED (d : Nat) : Reg := ⟨.rings, 0, 16 * d + 7⟩
abbrev ri_DRAIN_QUEUED (d : Nat) : Reg := ⟨.rings, 0, 16 * d + 8⟩
abbrev qu_ENABLE (i : Nat) : Reg := ⟨.queue, i, 0x01⟩
abbrev qu_CONSUMER (i : Nat) : Reg := ⟨.queue, i, 0x02⟩
abbrev qu_CELL_RESERVE (i : Nat) : Reg := ⟨.queue, i, 0x03⟩
abbrev qu_CELL_QUOTA (i : Nat) : Reg := ⟨.queue, i, 0x04⟩
abbrev qu_SPILL_EN (i : Nat) : Reg := ⟨.queue, i, 0x05⟩
abbrev qu_SPILL_BYTES (i : Nat) : Reg := ⟨.queue, i, 0x06⟩
abbrev qu_FULL_POLICY (i : Nat) : Reg := ⟨.queue, i, 0x07⟩
abbrev qu_CT_CELLS (i : Nat) : Reg := ⟨.queue, i, 0x08⟩
abbrev qu_LATE_POLICY (i : Nat) : Reg := ⟨.queue, i, 0x09⟩
abbrev qu_LAUNCH_MODE (i : Nat) : Reg := ⟨.queue, i, 0x0A⟩
abbrev qu_LAUNCH_OFFSET (i : Nat) : Reg := ⟨.queue, i, 0x0B⟩
abbrev qu_FRIT_CTX (i : Nat) : Reg := ⟨.queue, i, 0x0C⟩
abbrev qu_QSTATE (i : Nat) : Reg := ⟨.queue, i, 0x0D⟩
abbrev qu_COUNT (i : Nat) : Reg := ⟨.queue, i, 0x0E⟩
abbrev qu_CELLS (i : Nat) : Reg := ⟨.queue, i, 0x0F⟩
abbrev qu_CELLS_ON_CHIP (i : Nat) : Reg := ⟨.queue, i, 0x10⟩
abbrev qu_SPILL_USED (i : Nat) : Reg := ⟨.queue, i, 0x11⟩
abbrev qu_FRAME_HEAD (i : Nat) : Reg := ⟨.queue, i, 0x12⟩
abbrev qu_FRAME_POP (i : Nat) : Reg := ⟨.queue, i, 0x13⟩
abbrev qu_FRAME_IN (i : Nat) : Reg := ⟨.queue, i, 0x14⟩
abbrev qu_FRAMES_IN (i : Nat) : Reg := ⟨.queue, i, 0x15⟩
abbrev qu_FRAMES_OUT (i : Nat) : Reg := ⟨.queue, i, 0x16⟩
abbrev qu_SPILLS (i : Nat) : Reg := ⟨.queue, i, 0x17⟩
abbrev qu_DISCARDED (i : Nat) : Reg := ⟨.queue, i, 0x18⟩
abbrev qu_PEAK_CELLS (i : Nat) : Reg := ⟨.queue, i, 0x19⟩
abbrev qu_ABORTED_FRAMES (i : Nat) : Reg := ⟨.queue, i, 0x1A⟩
abbrev qu_PRODUCER_GRANT (i : Nat) : Reg := ⟨.queue, i, 0x1B⟩
abbrev fe_ENGINES : Reg := ⟨.fritEngine, 0, 0x01⟩
abbrev fe_LOAD_E0 : Reg := ⟨.fritEngine, 0, 0x02⟩
abbrev fe_LOAD_E1 : Reg := ⟨.fritEngine, 0, 0x03⟩
abbrev fe_PRIV_USED : Reg := ⟨.fritEngine, 0, 0x04⟩
abbrev fe_JOBS_WAITING : Reg := ⟨.fritEngine, 0, 0x05⟩
abbrev fe_BLOCKS : Reg := ⟨.fritEngine, 0, 0x06⟩
abbrev fe_VERBATIM : Reg := ⟨.fritEngine, 0, 0x07⟩
abbrev fc_TENANT (i : Nat) : Reg := ⟨.fritCtx, i, 0x01⟩
abbrev fc_PRIVILEGED (i : Nat) : Reg := ⟨.fritCtx, i, 0x02⟩
abbrev fc_MODE (i : Nat) : Reg := ⟨.fritCtx, i, 0x03⟩
abbrev fc_PRED (i : Nat) : Reg := ⟨.fritCtx, i, 0x04⟩
abbrev fc_REF_CTX (i : Nat) : Reg := ⟨.fritCtx, i, 0x05⟩
abbrev fc_CODE (i : Nat) : Reg := ⟨.fritCtx, i, 0x06⟩
abbrev fc_RICE_K (i : Nat) : Reg := ⟨.fritCtx, i, 0x07⟩
abbrev fc_MATCH_LEVEL (i : Nat) : Reg := ⟨.fritCtx, i, 0x08⟩
abbrev fc_BLOCK_N (i : Nat) : Reg := ⟨.fritCtx, i, 0x09⟩
abbrev fc_BLOCK_MAXAGE (i : Nat) : Reg := ⟨.fritCtx, i, 0x0A⟩
abbrev fc_FLUSH (i : Nat) : Reg := ⟨.fritCtx, i, 0x0B⟩
abbrev fc_ENGINE (i : Nat) : Reg := ⟨.fritCtx, i, 0x0C⟩
abbrev fc_CTX_STATE (i : Nat) : Reg := ⟨.fritCtx, i, 0x0D⟩
abbrev fc_IN_OCTETS (i : Nat) : Reg := ⟨.fritCtx, i, 0x0E⟩
abbrev fc_OUT_OCTETS (i : Nat) : Reg := ⟨.fritCtx, i, 0x0F⟩
abbrev fc_MATCH_TILES (i : Nat) : Reg := ⟨.fritCtx, i, 0x10⟩
abbrev fc_BYPASSED_FRAMES (i : Nat) : Reg := ⟨.fritCtx, i, 0x11⟩
abbrev fj_CTX (i : Nat) : Reg := ⟨.fritJob, i, 0x01⟩
abbrev fj_FORMAT (i : Nat) : Reg := ⟨.fritJob, i, 0x02⟩
abbrev fj_IN_ADDR (i : Nat) : Reg := ⟨.fritJob, i, 0x03⟩
abbrev fj_IN_LEN (i : Nat) : Reg := ⟨.fritJob, i, 0x04⟩
abbrev fj_OUT_ADDR (i : Nat) : Reg := ⟨.fritJob, i, 0x05⟩
abbrev fj_OUT_LEN (i : Nat) : Reg := ⟨.fritJob, i, 0x06⟩
abbrev fj_SUBMIT (i : Nat) : Reg := ⟨.fritJob, i, 0x07⟩
abbrev fj_CONTINUE (i : Nat) : Reg := ⟨.fritJob, i, 0x08⟩
abbrev fj_JOB_STATE (i : Nat) : Reg := ⟨.fritJob, i, 0x09⟩
abbrev fj_IN_USED (i : Nat) : Reg := ⟨.fritJob, i, 0x0A⟩
abbrev fj_OUT_USED (i : Nat) : Reg := ⟨.fritJob, i, 0x0B⟩
abbrev fj_JOB_STATUS (i : Nat) : Reg := ⟨.fritJob, i, 0x0C⟩
abbrev fj_SUBMITS (i : Nat) : Reg := ⟨.fritJob, i, 0x0D⟩
abbrev fj_ABORTS (i : Nat) : Reg := ⟨.fritJob, i, 0x0E⟩
abbrev fj_DONE_AT (i : Nat) : Reg := ⟨.fritJob, i, 0x0F⟩
abbrev fz_FROZEN : Reg := ⟨.freeze, 0, 0x01⟩
abbrev fz_F_TIME : Reg := ⟨.freeze, 0, 0x02⟩
abbrev fz_F_KIND : Reg := ⟨.freeze, 0, 0x03⟩
abbrev fz_F_ADDR : Reg := ⟨.freeze, 0, 0x04⟩
abbrev fz_F_LOC : Reg := ⟨.freeze, 0, 0x05⟩
abbrev fz_F_SYNDROME : Reg := ⟨.freeze, 0, 0x06⟩
abbrev fz_F_CMD : Reg := ⟨.freeze, 0, 0x07⟩
abbrev fz_F_PORT : Reg := ⟨.freeze, 0, 0x08⟩
abbrev fz_F_TENANT : Reg := ⟨.freeze, 0, 0x09⟩
abbrev fz_F_QUEUES : Reg := ⟨.freeze, 0, 0x0A⟩
abbrev fz_F_URGENCY : Reg := ⟨.freeze, 0, 0x0B⟩
abbrev fz_FREEZE_EXTRA : Reg := ⟨.freeze, 0, 0x0C⟩
abbrev fz_DIAG_ENABLE : Reg := ⟨.freeze, 0, 0x0D⟩
abbrev fz_DIAG_ADDR : Reg := ⟨.freeze, 0, 0x0E⟩
abbrev fz_DIAG_READ : Reg := ⟨.freeze, 0, 0x0F⟩
abbrev fz_DIAG_DATA : Reg := ⟨.freeze, 0, 0x10⟩
abbrev fz_RELEASE : Reg := ⟨.freeze, 0, 0x11⟩
abbrev ds_DATA_RATE : Reg := ⟨.dramSet, 0, 0x01⟩
abbrev ds_CH_SET : Reg := ⟨.dramSet, 0, 0x02⟩
abbrev ds_BG_MASK0 : Reg := ⟨.dramSet, 0, 0x03⟩
abbrev ds_BG_MASK1 : Reg := ⟨.dramSet, 0, 0x04⟩
abbrev ds_BG_MASK2 : Reg := ⟨.dramSet, 0, 0x05⟩
abbrev ds_BA_MASK0 : Reg := ⟨.dramSet, 0, 0x06⟩
abbrev ds_BA_MASK1 : Reg := ⟨.dramSet, 0, 0x07⟩
abbrev ds_SCRUB_PERIOD : Reg := ⟨.dramSet, 0, 0x08⟩
abbrev ds_PPR_THRESHOLD : Reg := ⟨.dramSet, 0, 0x09⟩
abbrev ds_SR_AUTO : Reg := ⟨.dramSet, 0, 0x0A⟩
abbrev ds_SR_IDLE : Reg := ⟨.dramSet, 0, 0x0B⟩
abbrev ds_CAPACITY : Reg := ⟨.dramSet, 0, 0x0C⟩
abbrev ds_RESERVED_BW : Reg := ⟨.dramSet, 0, 0x0D⟩
abbrev dw_WIN_ADDR : Reg := ⟨.dramWin, 0, 0x01⟩
abbrev dw_WIN_DATA : Reg := ⟨.dramWin, 0, 0x02⟩
abbrev dc_CH_STATE (i : Nat) : Reg := ⟨.dramCh, i, 0x01⟩
abbrev dc_TRAINED_RATE (i : Nat) : Reg := ⟨.dramCh, i, 0x02⟩
abbrev dc_CE_COUNT (i : Nat) : Reg := ⟨.dramCh, i, 0x03⟩
abbrev dc_UE_COUNT (i : Nat) : Reg := ⟨.dramCh, i, 0x04⟩
abbrev dc_WCRC_RETRY (i : Nat) : Reg := ⟨.dramCh, i, 0x05⟩
abbrev dc_ODECC_COUNT (i : Nat) : Reg := ⟨.dramCh, i, 0x06⟩
abbrev dc_REF_FORCED (i : Nat) : Reg := ⟨.dramCh, i, 0x07⟩
abbrev dc_PPR_CANDIDATES (i : Nat) : Reg := ⟨.dramCh, i, 0x08⟩
abbrev dc_PPR_LEFT (i : Nat) : Reg := ⟨.dramCh, i, 0x09⟩
abbrev dc_SR_ENTRIES (i : Nat) : Reg := ⟨.dramCh, i, 0x0A⟩
abbrev dp_LAT_TARGET (i : Nat) : Reg := ⟨.dramPort, i, 0x01⟩
abbrev dp_URGENCY (i : Nat) : Reg := ⟨.dramPort, i, 0x02⟩
abbrev dp_LEVEL3_EVENTS (i : Nat) : Reg := ⟨.dramPort, i, 0x03⟩
abbrev dp_MAX_LATENCY (i : Nat) : Reg := ⟨.dramPort, i, 0x04⟩
abbrev lx_CHAIN_ADDR : Reg := ⟨.laneCx, 0, 0x01⟩
abbrev lx_BACKLOG : Reg := ⟨.laneCx, 0, 0x02⟩
abbrev lx_REORDER_HOLD : Reg := ⟨.laneCx, 0, 0x03⟩
abbrev lx_DUP_DISCARDS : Reg := ⟨.laneCx, 0, 0x04⟩
abbrev lx_RSEQ_GAPS : Reg := ⟨.laneCx, 0, 0x05⟩
abbrev lx_UNDELIVERABLE : Reg := ⟨.laneCx, 0, 0x06⟩
abbrev lx_CTL_ERR : Reg := ⟨.laneCx, 0, 0x07⟩
abbrev ln_MODE (i : Nat) : Reg := ⟨.lane, i, 0x01⟩
abbrev ln_MAC (i : Nat) : Reg := ⟨.lane, i, 0x02⟩
abbrev ln_BUNDLE (i : Nat) : Reg := ⟨.lane, i, 0x03⟩
abbrev ln_SPARE_MAP (i : Nat) : Reg := ⟨.lane, i, 0x04⟩
abbrev ln_LANE_STATE (i : Nat) : Reg := ⟨.lane, i, 0x05⟩
abbrev ln_EYE (i : Nat) : Reg := ⟨.lane, i, 0x06⟩
abbrev ln_EYE_WARN (i : Nat) : Reg := ⟨.lane, i, 0x07⟩
abbrev ln_EYE_ALARM (i : Nat) : Reg := ⟨.lane, i, 0x08⟩
abbrev ln_HDR_ERR (i : Nat) : Reg := ⟨.lane, i, 0x09⟩
abbrev ln_RUN_ERR (i : Nat) : Reg := ⟨.lane, i, 0x0A⟩
abbrev ln_LOCK_LOSSES (i : Nat) : Reg := ⟨.lane, i, 0x0B⟩
abbrev ln_TRAININGS (i : Nat) : Reg := ⟨.lane, i, 0x0C⟩
abbrev ln_EQ_STATE (i : Nat) : Reg := ⟨.lane, i, 0x0D⟩
abbrev bu_MIN_LANES (i : Nat) : Reg := ⟨.bundle, i, 0x01⟩
abbrev bu_RELAY_RESERVE (i : Nat) : Reg := ⟨.bundle, i, 0x02⟩
abbrev bu_BUNDLE_STATE (i : Nat) : Reg := ⟨.bundle, i, 0x03⟩
abbrev bu_WORKING (i : Nat) : Reg := ⟨.bundle, i, 0x04⟩
abbrev bu_CAPACITY (i : Nat) : Reg := ⟨.bundle, i, 0x05⟩
abbrev bu_ADMITTED (i : Nat) : Reg := ⟨.bundle, i, 0x06⟩
abbrev bu_RELAY_LOAD (i : Nat) : Reg := ⟨.bundle, i, 0x07⟩
abbrev bu_PEER_ADDR (i : Nat) : Reg := ⟨.bundle, i, 0x08⟩
abbrev bu_DUPLICATED (i : Nat) : Reg := ⟨.bundle, i, 0x09⟩
abbrev bu_BFLAGS (i : Nat) : Reg := ⟨.bundle, i, 0x0A⟩
abbrev bu_RESENT (i : Nat) : Reg := ⟨.bundle, i, 0x0B⟩
abbrev bu_RETRAINS (i : Nat) : Reg := ⟨.bundle, i, 0x0C⟩
abbrev bu_TURNED (i : Nat) : Reg := ⟨.bundle, i, 0x0D⟩
abbrev bu_TURN_DROPS (i : Nat) : Reg := ⟨.bundle, i, 0x0E⟩
abbrev bu_REPLAY_USED (i : Nat) : Reg := ⟨.bundle, i, 0x0F⟩
abbrev ma_FEC (i : Nat) : Reg := ⟨.mac, i, 0x01⟩
abbrev ma_AUTONEG (i : Nat) : Reg := ⟨.mac, i, 0x02⟩
abbrev ma_MTU (i : Nat) : Reg := ⟨.mac, i, 0x03⟩
abbrev ma_PAUSE_EN (i : Nat) : Reg := ⟨.mac, i, 0x04⟩
abbrev ma_SRC_MAC (i : Nat) : Reg := ⟨.mac, i, 0x05⟩
abbrev ma_IPV4 (i : Nat) : Reg := ⟨.mac, i, 0x06⟩
abbrev ma_IPV6 (i : Nat) : Reg := ⟨.mac, i, 0x07⟩
abbrev ma_LINK (i : Nat) : Reg := ⟨.mac, i, 0x08⟩
abbrev ma_TX_FRAMES (i : Nat) : Reg := ⟨.mac, i, 0x09⟩
abbrev ma_FCS_ERR (i : Nat) : Reg := ⟨.mac, i, 0x0A⟩
abbrev ma_RX_DISCARDS (i : Nat) : Reg := ⟨.mac, i, 0x0B⟩
abbrev ro_QUEUE (i : Nat) : Reg := ⟨.route, i, 0x01⟩
abbrev ro_PORT (i : Nat) : Reg := ⟨.route, i, 0x02⟩
abbrev ro_DEST (i : Nat) : Reg := ⟨.route, i, 0x03⟩
abbrev ro_DUAL (i : Nat) : Reg := ⟨.route, i, 0x04⟩
abbrev ro_SHARE (i : Nat) : Reg := ⟨.route, i, 0x05⟩
abbrev ro_ENCAP (i : Nat) : Reg := ⟨.route, i, 0x06⟩
abbrev ro_DST_MAC (i : Nat) : Reg := ⟨.route, i, 0x07⟩
abbrev ro_DST_IP (i : Nat) : Reg := ⟨.route, i, 0x08⟩
abbrev ro_UDP_PORT (i : Nat) : Reg := ⟨.route, i, 0x09⟩
abbrev ro_ETYPE (i : Nat) : Reg := ⟨.route, i, 0x0A⟩
abbrev ro_RSEQ (i : Nat) : Reg := ⟨.route, i, 0x0B⟩
abbrev ro_TENANT (i : Nat) : Reg := ⟨.route, i, 0x0C⟩
abbrev ij_PERMIT_UNTIL : Reg := ⟨.inj, 0, 0x01⟩
abbrev ir_ENABLE (i : Nat) : Reg := ⟨.injRule, i, 0x01⟩
abbrev ir_TARGET (i : Nat) : Reg := ⟨.injRule, i, 0x02⟩
abbrev ir_ACTION (i : Nat) : Reg := ⟨.injRule, i, 0x03⟩
abbrev ir_SELECT (i : Nat) : Reg := ⟨.injRule, i, 0x04⟩
abbrev ir_PARAM (i : Nat) : Reg := ⟨.injRule, i, 0x05⟩
abbrev ir_DELAY (i : Nat) : Reg := ⟨.injRule, i, 0x06⟩
abbrev ir_LIMIT (i : Nat) : Reg := ⟨.injRule, i, 0x07⟩
abbrev ir_HITS (i : Nat) : Reg := ⟨.injRule, i, 0x08⟩
abbrev ir_INJ_STATE (i : Nat) : Reg := ⟨.injRule, i, 0x09⟩
abbrev id_VENDOR : Reg := ⟨.identity, 0, 0x01⟩
abbrev id_PART : Reg := ⟨.identity, 0, 0x02⟩
abbrev id_SERIAL : Reg := ⟨.identity, 0, 0x03⟩
abbrev id_EUI64 : Reg := ⟨.identity, 0, 0x04⟩
abbrev id_FW_ID : Reg := ⟨.identity, 0, 0x05⟩
abbrev id_DEVICE_CERT : Reg := ⟨.identity, 0, 0x06⟩
abbrev ad_ADP_UDP_PORT : Reg := ⟨.adpPorts, 0, 0x01⟩
abbrev ad_SESSION_TIMEOUT : Reg := ⟨.adpPorts, 0, 0x02⟩
abbrev ad_CAN_RATE : Reg := ⟨.adpPorts, 0, 0x03⟩
abbrev ad_CAN_ID_IN : Reg := ⟨.adpPorts, 0, 0x04⟩
abbrev ad_CAN_ID_OUT : Reg := ⟨.adpPorts, 0, 0x05⟩
abbrev ad_CAN_OWNER : Reg := ⟨.adpPorts, 0, 0x06⟩
abbrev ad_SESSIONS : Reg := ⟨.adpPorts, 0, 0x07⟩
abbrev se_S_TENANT (i : Nat) : Reg := ⟨.session, i, 0x01⟩
abbrev se_S_TRANSPORT (i : Nat) : Reg := ⟨.session, i, 0x02⟩
abbrev se_S_OPENED (i : Nat) : Reg := ⟨.session, i, 0x03⟩
abbrev se_S_LAST_RX (i : Nat) : Reg := ⟨.session, i, 0x04⟩
abbrev te_ENABLE (i : Nat) : Reg := ⟨.tenant, i, 0x01⟩
abbrev te_CLASS (i : Nat) : Reg := ⟨.tenant, i, 0x02⟩
abbrev te_CERT_KEY (i : Nat) : Reg := ⟨.tenant, i, 0x03⟩
abbrev te_TIME_RIGHT (i : Nat) : Reg := ⟨.tenant, i, 0x04⟩
abbrev te_CELL_QUOTA (i : Nat) : Reg := ⟨.tenant, i, 0x05⟩
abbrev te_DRAM_QUOTA (i : Nat) : Reg := ⟨.tenant, i, 0x06⟩
abbrev te_ARCHIVE_BYTES (i : Nat) : Reg := ⟨.tenant, i, 0x07⟩
abbrev te_WORK_BYTES (i : Nat) : Reg := ⟨.tenant, i, 0x08⟩
abbrev te_DRAM_RATE (i : Nat) : Reg := ⟨.tenant, i, 0x09⟩
abbrev te_DRAM_BURST (i : Nat) : Reg := ⟨.tenant, i, 0x0A⟩
abbrev te_LANE_QUOTA (i : Nat) : Reg := ⟨.tenant, i, 0x0B⟩
abbrev te_PATH_QUOTA (i : Nat) : Reg := ⟨.tenant, i, 0x0C⟩
abbrev te_MAC_QUOTA (i : Nat) : Reg := ⟨.tenant, i, 0x0D⟩
abbrev te_DESC_QUOTA (i : Nat) : Reg := ⟨.tenant, i, 0x0E⟩
abbrev te_CLAUSE_QUOTA (i : Nat) : Reg := ⟨.tenant, i, 0x0F⟩
abbrev te_RETENTION (i : Nat) : Reg := ⟨.tenant, i, 0x10⟩
abbrev te_OVER_QUOTA (i : Nat) : Reg := ⟨.tenant, i, 0x11⟩
abbrev te_USED_CELLS (i : Nat) : Reg := ⟨.tenant, i, 0x12⟩
abbrev te_USED_DRAM (i : Nat) : Reg := ⟨.tenant, i, 0x13⟩
abbrev te_USED_LANE (i : Nat) : Reg := ⟨.tenant, i, 0x14⟩
abbrev te_USED_PATHS (i : Nat) : Reg := ⟨.tenant, i, 0x15⟩
abbrev te_USED_MACS (i : Nat) : Reg := ⟨.tenant, i, 0x16⟩
abbrev te_USED_DESC (i : Nat) : Reg := ⟨.tenant, i, 0x17⟩
abbrev te_ARCHIVE_BASE (i : Nat) : Reg := ⟨.tenant, i, 0x18⟩
abbrev te_WORK_BASE (i : Nat) : Reg := ⟨.tenant, i, 0x19⟩
abbrev te_RECLAIMED (i : Nat) : Reg := ⟨.tenant, i, 0x1A⟩
abbrev cs_CL_STATE (i : Nat) : Reg := ⟨.clauseSlot, i, 0x01⟩
abbrev cs_CL_TENANT (i : Nat) : Reg := ⟨.clauseSlot, i, 0x02⟩
abbrev cs_CL_SESSION (i : Nat) : Reg := ⟨.clauseSlot, i, 0x03⟩
abbrev cs_LEASE_END (i : Nat) : Reg := ⟨.clauseSlot, i, 0x04⟩
abbrev cs_WHEN (i : Nat) : Reg := ⟨.clauseSlot, i, 0x05⟩
abbrev cs_LOCKS (i : Nat) : Reg := ⟨.clauseSlot, i, 0x06⟩
abbrev cs_CL_RETRIES (i : Nat) : Reg := ⟨.clauseSlot, i, 0x07⟩
abbrev cs_ROLLBACKS (i : Nat) : Reg := ⟨.clauseSlot, i, 0x08⟩
abbrev cs_CHAIN_ORPHANS (i : Nat) : Reg := ⟨.clauseSlot, i, 0x09⟩
abbrev mo_MODE : Reg := ⟨.modes, 0, 0x01⟩
abbrev mo_CONDITIONS : Reg := ⟨.modes, 0, 0x02⟩
abbrev mo_MODE_REQ : Reg := ⟨.modes, 0, 0x03⟩
abbrev mo_MODE_SINCE : Reg := ⟨.modes, 0, 0x04⟩
abbrev mo_SAFE_CAUSE : Reg := ⟨.modes, 0, 0x05⟩
abbrev mo_START_COUNT : Reg := ⟨.modes, 0, 0x06⟩
abbrev mo_LAST_START : Reg := ⟨.modes, 0, 0x07⟩
abbrev mo_CONFIG_SEQ : Reg := ⟨.modes, 0, 0x08⟩
abbrev mo_SCHED_LOST : Reg := ⟨.modes, 0, 0x09⟩
abbrev mo_WAKE_AT : Reg := ⟨.modes, 0, 0x0A⟩
abbrev mo_LAST_WAKE : Reg := ⟨.modes, 0, 0x0B⟩
abbrev fw_FW_IMAGE : Reg := ⟨.fw, 0, 0x01⟩
abbrev fw_FW_ACTIVE : Reg := ⟨.fw, 0, 0x02⟩
abbrev fw_FW_VERSION_A : Reg := ⟨.fw, 0, 0x03⟩
abbrev fw_FW_VERSION_B : Reg := ⟨.fw, 0, 0x04⟩
abbrev fw_FW_STATE : Reg := ⟨.fw, 0, 0x05⟩
abbrev fw_FW_ACTIVATE : Reg := ⟨.fw, 0, 0x06⟩
abbrev fw_FW_MIN_VERSION : Reg := ⟨.fw, 0, 0x07⟩
abbrev pw_P_LIMIT : Reg := ⟨.power, 0, 0x01⟩
abbrev pw_P_EST : Reg := ⟨.power, 0, 0x02⟩
abbrev pw_VIN_FLOOR : Reg := ⟨.power, 0, 0x03⟩
abbrev pw_VIN_MEAS : Reg := ⟨.power, 0, 0x04⟩
abbrev pw_VIN_MIN_10S : Reg := ⟨.power, 0, 0x05⟩
abbrev pw_THETA_JA : Reg := ⟨.power, 0, 0x06⟩
abbrev pw_TAMB_MAX : Reg := ⟨.power, 0, 0x07⟩
abbrev pw_P_THERMAL : Reg := ⟨.power, 0, 0x08⟩
abbrev pw_P_REFUSALS : Reg := ⟨.power, 0, 0x09⟩
abbrev pw_P_FLAGS : Reg := ⟨.power, 0, 0x0A⟩
abbrev th_TJ_MAX : Reg := ⟨.thermal, 0, 0x01⟩
abbrev th_TJ_DIE : Reg := ⟨.thermal, 0, 0x02⟩
abbrev th_TJ_THROTTLE : Reg := ⟨.thermal, 0, 0x03⟩
abbrev th_THROTTLED : Reg := ⟨.thermal, 0, 0x04⟩
abbrev th_THROTTLE_EVENTS : Reg := ⟨.thermal, 0, 0x05⟩
abbrev ig_EVT_SEQ : Reg := ⟨.integrity, 0, 0x01⟩
abbrev ig_FSRAM_CE : Reg := ⟨.integrity, 0, 0x02⟩
abbrev ig_FSRAM_UE : Reg := ⟨.integrity, 0, 0x03⟩
abbrev ig_FABRIC_PARITY : Reg := ⟨.integrity, 0, 0x04⟩
abbrev ig_FABRIC_POISON : Reg := ⟨.integrity, 0, 0x05⟩
abbrev ig_QCELL_CE : Reg := ⟨.integrity, 0, 0x06⟩
abbrev ig_QCELL_UE : Reg := ⟨.integrity, 0, 0x07⟩
abbrev ig_GOB_MISMATCH : Reg := ⟨.integrity, 0, 0x08⟩
abbrev ev_EVENT (k : Nat) : Reg := ⟨.events, 0, 0x01 + k⟩
abbrev cu_SPARE_POLICY : Reg := ⟨.cullet, 0, 0x01⟩
abbrev cu_PPR_AUTO : Reg := ⟨.cullet, 0, 0x02⟩
abbrev cu_PPR_NOW : Reg := ⟨.cullet, 0, 0x03⟩
abbrev cu_SLICE_SPARES : Reg := ⟨.cullet, 0, 0x04⟩
abbrev cu_SLICES_OUT : Reg := ⟨.cullet, 0, 0x05⟩
abbrev cu_SHADOW_LEN : Reg := ⟨.cullet, 0, 0x06⟩
abbrev cu_SHADOW_BURSTS : Reg := ⟨.cullet, 0, 0x07⟩
abbrev cu_FADE_LEN : Reg := ⟨.cullet, 0, 0x08⟩
abbrev cu_FADE_BURSTS : Reg := ⟨.cullet, 0, 0x09⟩
abbrev cu_DRIFT_LIMIT : Reg := ⟨.cullet, 0, 0x0A⟩
abbrev cu_OFFSET_LIMIT : Reg := ⟨.cullet, 0, 0x0B⟩
abbrev cu_WIRE_LIMIT : Reg := ⟨.cullet, 0, 0x0C⟩
abbrev cu_LANE_RESTORE : Reg := ⟨.cullet, 0, 0x0D⟩
abbrev cu_WIRE_SPARES : Reg := ⟨.cullet, 0, 0x0E⟩
abbrev cu_ROW_SPARES : Reg := ⟨.cullet, 0, 0x0F⟩
abbrev cu_SUBSTITUTIONS : Reg := ⟨.cullet, 0, 0x10⟩
abbrev ss_SUBST_REQ (i : Nat) : Reg := ⟨.sliceSpare, i, 0x01⟩
abbrev ss_SUBST_STATE (i : Nat) : Reg := ⟨.sliceSpare, i, 0x02⟩
abbrev ss_SPARE_FOR (i : Nat) : Reg := ⟨.sliceSpare, i, 0x03⟩
abbrev ss_SLICE_HEALTH (i : Nat) : Reg := ⟨.sliceSpare, i, 0x04⟩
abbrev ss_SUBST_CAUSE (i : Nat) : Reg := ⟨.sliceSpare, i, 0x05⟩
abbrev ss_SUBST_TIME (i : Nat) : Reg := ⟨.sliceSpare, i, 0x06⟩
abbrev ag_AGE_PPM (i : Nat) : Reg := ⟨.ageing, i, 0x01⟩
abbrev ag_AGE_RATE (i : Nat) : Reg := ⟨.ageing, i, 0x02⟩
abbrev ag_LIFE_LEFT (i : Nat) : Reg := ⟨.ageing, i, 0x03⟩
abbrev ag_AGE_WARN (i : Nat) : Reg := ⟨.ageing, i, 0x04⟩
abbrev ag_AGE_TIME (i : Nat) : Reg := ⟨.ageing, i, 0x05⟩
abbrev am_AMP_STATE : Reg := ⟨.amp, 0, 0x01⟩
abbrev am_LOOP : Reg := ⟨.amp, 0, 0x02⟩
abbrev am_SEAL : Reg := ⟨.amp, 0, 0x03⟩
abbrev am_UNSEAL : Reg := ⟨.amp, 0, 0x04⟩
abbrev am_EVENT_COUNT : Reg := ⟨.amp, 0, 0x05⟩
abbrev am_PUBKEY : Reg := ⟨.amp, 0, 0x06⟩
abbrev am_KEY_ID : Reg := ⟨.amp, 0, 0x07⟩
abbrev am_LEGAL_CHECKSUM : Reg := ⟨.amp, 0, 0x08⟩
abbrev am_AMP_FW_ID : Reg := ⟨.amp, 0, 0x09⟩
abbrev am_AMP_RESTART : Reg := ⟨.amp, 0, 0x0A⟩
abbrev ap_PROG_KEY : Reg := ⟨.ampProg, 0, 0x01⟩
abbrev ap_PROG_IMAGE : Reg := ⟨.ampProg, 0, 0x02⟩
abbrev ap_PARAMS : Reg := ⟨.ampProg, 0, 0x03⟩
abbrev ap_PROG_ACTIVATE : Reg := ⟨.ampProg, 0, 0x04⟩
abbrev ap_PROG_STATE : Reg := ⟨.ampProg, 0, 0x05⟩
abbrev ap_PROG_ID : Reg := ⟨.ampProg, 0, 0x06⟩
abbrev ap_PROG_STATUS : Reg := ⟨.ampProg, 0, 0x07⟩
abbrev ls_LEGAL_CH (k : Nat) : Reg := ⟨.legalSet, 0, 0x01 + k⟩
abbrev lr_LREC_COUNT : Reg := ⟨.lrec, 0, 0x01⟩
abbrev lr_LREC_HEAD : Reg := ⟨.lrec, 0, 0x02⟩
abbrev lr_LREC_POP : Reg := ⟨.lrec, 0, 0x03⟩
abbrev lr_LREC_TENANT : Reg := ⟨.lrec, 0, 0x04⟩
abbrev lr_LREC_COPY : Reg := ⟨.lrec, 0, 0x05⟩
abbrev lr_LREC_LOST : Reg := ⟨.lrec, 0, 0x06⟩
abbrev au_AUDIT_NEXT : Reg := ⟨.audit, 0, 0x01⟩
abbrev au_AUDIT_SEL : Reg := ⟨.audit, 0, 0x02⟩
abbrev au_AUDIT_ENTRY : Reg := ⟨.audit, 0, 0x03⟩
abbrev au_AUDIT_SIG : Reg := ⟨.audit, 0, 0x04⟩
abbrev au_CHANGES_LEFT : Reg := ⟨.audit, 0, 0x05⟩
abbrev au_NOTICES_LOST : Reg := ⟨.audit, 0, 0x06⟩
abbrev au_OLDEST_NOTICE : Reg := ⟨.audit, 0, 0x07⟩
abbrev cb_ALERT_MASK : Reg := ⟨.ctrlBalls, 0, 0x01⟩
abbrev cb_ALERT_STATE : Reg := ⟨.ctrlBalls, 0, 0x02⟩
abbrev cb_LAST_RESET : Reg := ⟨.ctrlBalls, 0, 0x03⟩
abbrev cb_VDDQ_MEAS : Reg := ⟨.ctrlBalls, 0, 0x04⟩
abbrev cb_REFCLK_OK : Reg := ⟨.ctrlBalls, 0, 0x05⟩
abbrev cb_JTAG_LOCK : Reg := ⟨.ctrlBalls, 0, 0x06⟩

end Sys2Proof.Machine.R
end

