-- ==== Sys2Proof/Machine/Dictionary.lean ====
section
/-! DEFINITION. The object dictionary (R297): for every group its entries with type, access code, rights class,
default and range (the dictionary tables of every chapter), the index map of Table 12-1, and which
entries a part has (R3, R12). -/

namespace Sys2Proof.Machine

/-- Entry types, Table 0-5. `u n` and `i n` are n octets wide. F32 and F64 are encoded by R8 but no entry has
them. -/
inductive Ty where
  | bool | u (n : Nat) | i (n : Nat) | t64 | t96 | vstr | oct (n : Nat) | dom
  deriving DecidableEq, Repr

/-- Access codes with their suffixes, Table 0-6. -/
inductive Acc where
  | ro | rw | wo | w1 | rwc | rwcl
  deriving DecidableEq, Repr

/-- Rights classes, Table 0-7. -/
inductive Cls where
  | O | P | S | V | A
  deriving DecidableEq, Repr

/-- The stated range of an entry. -/
inductive Rng where
  | any | le (n : Nat) | ge (n : Nat) | rg (lo hi : Nat) | srg (lo hi : Int) | oneOf (l : List Nat)
  | leOr (n x : Nat) | leOr2 (n x y : Nat) | mult (m hi : Nat)
  deriving DecidableEq, Repr

/-- An entry of the dictionary: subindex, type, access, rights, default, range, and the code that refuses a
value outside the range. -/
structure Row where
  sub : Nat
  ty : Ty
  acc : Acc
  cls : Cls
  dflt : Nat
  rng : Rng
  code : Nat
  deriving DecidableEq, Repr

/-- Table 1-7, 4-11, 5-7. -/
def rows_die : List Row := [
  ⟨0x01, .u 1, .ro, .V, 0, .any, 0x2033⟩, /- LINK_STATE -/
  ⟨0x02, .u 1, .ro, .V, 0, .any, 0x2033⟩, /- SPARES_OUT -/
  ⟨0x03, .u 1, .ro, .V, 0, .any, 0x2033⟩, /- SPARES_IN -/
  ⟨0x04, .u 8, .ro, .V, 0, .any, 0x2033⟩, /- CRC_ERR_OUT -/
  ⟨0x05, .u 8, .ro, .V, 0, .any, 0x2033⟩, /- CRC_ERR_IN -/
  ⟨0x06, .u 8, .ro, .V, 0, .any, 0x2033⟩, /- REPLAYS -/
  ⟨0x07, .u 4, .ro, .V, 0, .any, 0x2033⟩, /- RETRAINS -/
  ⟨0x08, .u 2, .ro, .V, 0, .any, 0x2033⟩, /- RAW_ADMITTED -/
  ⟨0x09, .u 4, .ro, .V, 0, .any, 0x2033⟩, /- FLITS_ADMITTED -/
  ⟨0x0A, .u 4, .ro, .V, 0, .any, 0x2033⟩, /- EBUF_FILL -/
  ⟨0x0B, .u 4, .ro, .V, 0, .any, 0x2033⟩, /- EBUF_PEAK -/
  ⟨0x0C, .bool, .w1, .P, 0, .any, 0x2033⟩, /- EBUF_PEAK_CLR -/
  ⟨0x0D, .u 4, .rwc, .P, 200000, .rg 20000 1000000, 0x2011⟩, /- SLIP_LIMIT -/
  ⟨0x0E, .u 4, .ro, .V, 0, .any, 0x2033⟩, /- LAG -/
  ⟨0x0F, .u 1, .ro, .V, 0, .any, 0x2033⟩, /- SHED_LEVEL -/
  ⟨0x10, .u 4, .ro, .V, 0, .any, 0x2033⟩, /- SHED_EVENTS -/
  ⟨0x11, .u 4, .ro, .V, 0, .any, 0x2033⟩, /- SB_COLLISIONS -/
  ⟨0x12, .bool, .rwc, .P, 0, .any, 0x2033⟩, /- REFX_PRESENT -/
  ⟨0x13, .i 4, .ro, .V, 0, .any, 0x2033⟩, /- DIS_AB -/
  ⟨0x14, .i 4, .ro, .V, 0, .any, 0x2033⟩, /- DIS_AX -/
  ⟨0x15, .i 4, .ro, .V, 0, .any, 0x2033⟩, /- DIS_BX -/
  ⟨0x16, .u 2, .ro, .V, 0, .any, 0x2033⟩, /- REF_STATE -/
  ⟨0x17, .u 4, .ro, .V, 0, .any, 0x2033⟩, /- REF_WARNINGS -/
  ⟨0x18, .u 4, .rwc, .O, 2500000, .rg 2490000 2510000, 0x2033⟩, /- REF_RECAL_V -/
  ⟨0x19, .bool, .w1, .O, 0, .any, 0x2033⟩, /- REF_RECAL -/
  ⟨0x1A, .t96, .ro, .V, 0, .any, 0x2033⟩, /- REF_RECAL_TIME -/
  ⟨0x1B, .u 1, .rwcl, .P, 1, .le 1, 0x2033⟩, /- DIE_POWER -/
  ⟨0x1C, .u 1, .ro, .V, 1, .any, 0x2033⟩, /- DIE_STATE -/
  ⟨0x1D, .u 2, .rwcl, .P, 65535, .any, 0x2051⟩, /- MAINS_SENSE -/
  ⟨0x1E, .u 1, .rwcl, .P, 0, .le 2, 0x2051⟩, /- MAINS_NOMINAL -/
  ⟨0x1F, .u 1, .rwcl, .P, 8, .rg 1 64, 0x2051⟩, /- MAINS_AVG -/
  ⟨0x20, .u 4, .ro, .V, 0, .any, 0x2051⟩, /- MAINS_FREQ -/
  ⟨0x21, .u 1, .ro, .V, 0, .any, 0x2051⟩, /- MAINS_STATE -/
  ⟨0x22, .u 4, .ro, .V, 0, .any, 0x2051⟩] /- MAINS_UPDATES -/

/-- Table 2-5. -/
def rows_time : List Row := [
  ⟨0x01, .t96, .ro, .V, 0, .any, 0x2022⟩, /- NOW -/
  ⟨0x02, .u 1, .ro, .V, 0, .any, 0x2022⟩, /- TIME_STATE -/
  ⟨0x03, .u 4, .rwc, .P, 1, .any, 0x2022⟩, /- SRC_PRIORITY -/
  ⟨0x04, .u 1, .ro, .V, 0, .any, 0x2022⟩, /- SRC_SELECTED -/
  ⟨0x05, .u 1, .rwc, .P, 0, .le 1, 0x2022⟩, /- STEER_MODE -/
  ⟨0x06, .i 4, .ro, .V, 0, .any, 0x2022⟩, /- FREQ_ADJ -/
  ⟨0x07, .u 8, .ro, .V, 0x9c4000000000, .any, 0x2022⟩, /- INCR -/
  ⟨0x08, .i 8, .ro, .V, 0, .any, 0x2022⟩, /- OFFSET -/
  ⟨0x09, .u 4, .rwc, .P, 1000, .rg 100 1000000000, 0x2022⟩, /- STEP_THRESHOLD -/
  ⟨0x0A, .u 1, .rwc, .P, 4, .rg 1 64, 0x2022⟩, /- STEP_PERSIST -/
  ⟨0x0B, .u 4, .rwc, .P, 10000, .rg 100 100000, 0x2022⟩, /- SLEW_MAX -/
  ⟨0x0C, .u 4, .rwc, .P, 50, .rg 1 1000, 0x2022⟩, /- LOOP_BW_PTP -/
  ⟨0x0D, .u 4, .rwc, .P, 1000, .rg 10 10000, 0x2022⟩, /- LOOP_BW_BL -/
  ⟨0x0E, .u 4, .rwc, .P, 60, .rg 1 3600, 0x2022⟩, /- HOLD_AVG -/
  ⟨0x0F, .u 4, .rwc, .P, 100, .rg 1 100000, 0x2022⟩, /- LOCK_WINDOW -/
  ⟨0x10, .u 4, .ro, .V, 0, .any, 0x2022⟩, /- STEP_REFUSED -/
  ⟨0x11, .i 8, .ro, .V, 0, .any, 0x2022⟩, /- PENDING_STEP -/
  ⟨0x12, .i 8, .wo, .P, 0, .any, 0x2022⟩, /- ACCEPT_STEP -/
  ⟨0x13, .t96, .wo, .P, 0, .any, 0x2022⟩, /- SET_TIME -/
  ⟨0x14, .oct 8, .ro, .V, 0, .any, 0x2022⟩, /- CLOCK_ID -/
  ⟨0x15, .t96, .ro, .V, 0, .any, 0x2022⟩, /- HOLDOVER_SINCE -/
  ⟨0x16, .u 2, .ro, .V, 2, .any, 0x2022⟩, /- STATE_FLAGS -/
  ⟨0x17, .u 4, .ro, .V, 0, .any, 0x2022⟩, /- STEPS_ACCEPTED -/
  ⟨0x18, .u 4, .ro, .V, 0, .any, 0x2022⟩] /- OUTLIERS -/

/-- Table 2-6. -/
def rows_ptp : List Row := [
  ⟨0x01, .bool, .rwc, .P, 0, .any, 0x2022⟩, /- ENABLE -/
  ⟨0x02, .u 1, .rwc, .P, 1, .rg 1 3, 0x2022⟩, /- ROLE -/
  ⟨0x03, .u 1, .rwc, .P, 0, .le 2, 0x2022⟩, /- TRANSPORT -/
  ⟨0x04, .u 1, .rwc, .P, 1, .le 1, 0x2022⟩, /- STEP_MODE -/
  ⟨0x05, .u 1, .rwc, .P, 0, .le 1, 0x2022⟩, /- DELAY_MECH -/
  ⟨0x06, .u 1, .rwc, .P, 0, .le 239, 0x2022⟩, /- DOMAIN -/
  ⟨0x07, .i 1, .rwc, .P, 253, .srg (-7) 4, 0x2022⟩, /- LOG_SYNC -/
  ⟨0x08, .i 1, .rwc, .P, 253, .srg (-7) 5, 0x2022⟩, /- LOG_DELAY -/
  ⟨0x09, .i 1, .rwc, .P, 1, .srg (-3) 4, 0x2022⟩, /- LOG_ANNOUNCE -/
  ⟨0x0A, .u 1, .rwc, .P, 128, .any, 0x2022⟩, /- PRIORITY1 -/
  ⟨0x0B, .u 1, .rwc, .P, 128, .any, 0x2022⟩, /- PRIORITY2 -/
  ⟨0x0C, .u 4, .rwc, .P, 0, .le 0x0FFFFFFF, 0x2022⟩, /- TX_LAT -/
  ⟨0x0D, .u 4, .rwc, .P, 0, .le 0x0FFFFFFF, 0x2022⟩, /- RX_LAT -/
  ⟨0x0E, .i 4, .rwc, .P, 0, .any, 0x2022⟩, /- ASYM -/
  ⟨0x0F, .u 1, .ro, .V, 3, .any, 0x2022⟩, /- PORT_STATE -/
  ⟨0x10, .i 8, .ro, .V, 0, .any, 0x2022⟩, /- OFFSET -/
  ⟨0x11, .u 8, .ro, .V, 0, .any, 0x2022⟩, /- MEAN_DELAY -/
  ⟨0x12, .u 1, .ro, .S, 0, .any, 0x2022⟩, /- TXTS_COUNT -/
  ⟨0x13, .oct 16, .ro, .S, 0, .any, 0x2022⟩, /- TXTS_HEAD -/
  ⟨0x14, .bool, .w1, .S, 0, .any, 0x2022⟩, /- TXTS_POP -/
  ⟨0x15, .u 4, .ro, .S, 0, .any, 0x2022⟩, /- TXTS_OVERFLOW -/
  ⟨0x16, .bool, .ro, .S, 0, .any, 0x2022⟩, /- TXTS_STICKY -/
  ⟨0x17, .bool, .w1, .S, 0, .any, 0x2022⟩, /- TXTS_STICKY_CLR -/
  ⟨0x18, .oct 10, .ro, .V, 0, .any, 0x2022⟩] /- PARENT_ID -/

/-- Table 2-7. -/
def rows_blTime : List Row := [
  ⟨0x01, .u 2, .rwc, .P, 128, .oneOf [16, 32, 64, 128, 256, 512, 1024], 0x2022⟩, /- BEACON_RATE -/
  ⟨0x02, .u 1, .rwc, .P, 0, .le 1, 0x2022⟩, /- PRIMARY_DIR -/
  ⟨0x03, .u 1, .ro, .V, 255, .any, 0x2022⟩, /- SEL_DIR -/
  ⟨0x04, .u 1, .ro, .V, 255, .any, 0x2022⟩, /- HOPS -/
  ⟨0x05, .u 1, .ro, .V, 0, .any, 0x2022⟩, /- GM_ADDR -/
  ⟨0x06, .i 4, .rwc, .P, 0, .any, 0x2022⟩, /- ASYM_W -/
  ⟨0x07, .i 4, .rwc, .P, 0, .any, 0x2022⟩, /- ASYM_E -/
  ⟨0x08, .u 8, .ro, .V, 0, .any, 0x2022⟩, /- DELAY_W -/
  ⟨0x09, .u 8, .ro, .V, 0, .any, 0x2022⟩, /- DELAY_E -/
  ⟨0x0A, .i 8, .ro, .V, 0, .any, 0x2022⟩, /- OFFSET_W -/
  ⟨0x0B, .i 8, .ro, .V, 0, .any, 0x2022⟩, /- OFFSET_E -/
  ⟨0x0C, .u 4, .ro, .V, 0, .any, 0x2022⟩, /- BEACON_ERR -/
  ⟨0x0D, .u 8, .ro, .V, 0, .any, 0x2022⟩] /- BEACONS_RX -/

/-- Table 2-8. -/
def rows_launch : List Row := [
  ⟨0x01, .bool, .rw, .P, 1, .any, 0x2022⟩, /- PPS_OUT_EN -/
  ⟨0x02, .u 4, .rw, .P, 100000000, .rg 100 500000000, 0x2022⟩, /- PPS_OUT_WIDTH -/
  ⟨0x03, .i 4, .rw, .P, 0, .any, 0x2022⟩, /- PPS_OUT_OFFSET -/
  ⟨0x04, .u 1, .rw, .P, 1, .le 2, 0x2022⟩, /- PPS_OUT_QUALIFY -/
  ⟨0x05, .bool, .rwc, .P, 0, .any, 0x2022⟩, /- PPS_IN_EN -/
  ⟨0x06, .t96, .ro, .V, 0, .any, 0x2022⟩, /- PPS_IN_LAST -/
  ⟨0x07, .i 4, .rwc, .P, 0, .any, 0x2022⟩, /- PPS_IN_OFFSET -/
  ⟨0x08, .u 4, .ro, .V, 0, .any, 0x2022⟩, /- PPS_IN_COUNT -/
  ⟨0x09, .u 4, .rw, .P, 0, .le 1000000, 0x2022⟩, /- LATE_TOL -/
  ⟨0x0A, .u 8, .ro, .V, 0, .any, 0x2022⟩, /- LAUNCH_LATE -/
  ⟨0x0B, .u 8, .ro, .V, 0, .any, 0x2022⟩] /- LAUNCH_DROPPED -/

/-- Table 2-8. -/
def rows_trigger : List Row := [
  ⟨0x01, .bool, .rwc, .P, 0, .any, 0x2022⟩, /- ENABLE -/
  ⟨0x02, .t64, .rwc, .P, 0, .any, 0x2022⟩, /- TARGET -/
  ⟨0x03, .u 8, .rwc, .P, 0, .any, 0x2022⟩, /- PERIOD -/
  ⟨0x04, .u 4, .ro, .V, 0, .any, 0x2022⟩, /- FIRED -/
  ⟨0x05, .u 4, .ro, .V, 0, .any, 0x2022⟩] /- LATE -/

/-- Table 3-9, 4-8, 5-6. -/
def rows_channel : List Row := [
  ⟨0x01, .u 1, .rwcl, .P, 0, .le 3, 0x2041⟩, /- STAGE -/
  ⟨0x02, .u 1, .rwcl, .P, 0, .le 7, 0x2041⟩, /- PGA_GAIN -/
  ⟨0x03, .u 1, .rwcl, .P, 3, .le 3, 0x2041⟩, /- TIA_RF -/
  ⟨0x04, .u 1, .rwcl, .P, 3, .le 3, 0x2041⟩, /- TIA_CF -/
  ⟨0x05, .u 2, .rwcl, .P, 0, .le 5000, 0x2041⟩, /- PD_BIAS -/
  ⟨0x06, .bool, .rwcl, .P, 0, .any, 0x2041⟩, /- CHOP -/
  ⟨0x07, .u 1, .rwcl, .P, 0, .le 2, 0x2041⟩, /- BURNOUT -/
  ⟨0x08, .u 1, .rwcl, .P, 0, .le 3, 0x2041⟩, /- OW_CURRENT -/
  ⟨0x09, .u 1, .rwcl, .P, 0, .le 1, 0x2041⟩, /- OW_DIR -/
  ⟨0x0A, .u 4, .rwcl, .P, 0, .le 86400, 0x2041⟩, /- OW_PERIOD -/
  ⟨0x0B, .u 4, .rwcl, .P, 100000, .rg 1 2500000, 0x2041⟩, /- OW_THRESHOLD -/
  ⟨0x0C, .bool, .w1, .P, 0, .any, 0x2041⟩, /- OW_NOW -/
  ⟨0x0D, .u 4, .ro, .V, 0, .any, 0x2041⟩, /- CH_STATUS -/
  ⟨0x0E, .u 1, .ro, .V, 0, .any, 0x2041⟩, /- OW_RESULT -/
  ⟨0x0F, .i 4, .ro, .V, 0, .any, 0x2041⟩, /- OW_DELTA -/
  ⟨0x10, .u 4, .rwc, .P, 200000, .rg 50000 299792, 0x2041⟩, /- TDR_VOP -/
  ⟨0x11, .u 4, .rwc, .P, 8192, .oneOf [1024, 2048, 4096, 8192, 16384, 32768, 65536], 0x2041⟩, /- TDR_RANGE -/
  ⟨0x12, .u 2, .rwc, .P, 64, .rg 1 4096, 0x2041⟩, /- TDR_AVG -/
  ⟨0x13, .u 2, .rwc, .P, 983, .rg 33 16384, 0x2041⟩, /- TDR_THRESHOLD -/
  ⟨0x14, .bool, .rwc, .P, 0, .any, 0x2041⟩, /- TDR_AUTO -/
  ⟨0x15, .bool, .w1, .P, 0, .any, 0x2041⟩, /- TDR_START -/
  ⟨0x16, .u 1, .ro, .V, 0, .any, 0x2041⟩, /- TDR_STATE -/
  ⟨0x17, .u 1, .ro, .V, 0, .any, 0x2041⟩, /- TDR_EVENTS -/
  ⟨0x18, .oct 64, .ro, .V, 0, .any, 0x2041⟩, /- TDR_EVENT -/
  ⟨0x19, .u 4, .ro, .V, 0, .any, 0x2041⟩, /- TDR_END_DELAY -/
  ⟨0x1A, .t96, .ro, .V, 0, .any, 0x2041⟩, /- TDR_TIME -/
  ⟨0x1B, .bool, .ro, .V, 0, .any, 0x2041⟩, /- LEGAL -/
  ⟨0x1C, .u 1, .rwcl, .P, 0, .le 1, 0x2033⟩, /- CONV_MODE -/
  ⟨0x1D, .u 1, .rwcl, .P, 6, .le 6, 0x2033⟩, /- CONV_RATE -/
  ⟨0x1E, .u 2, .ro, .V, 0, .any, 0x2033⟩, /- CONV_STATUS -/
  ⟨0x1F, .u 1, .ro, .V, 0, .any, 0x2033⟩, /- SLICE -/
  ⟨0x20, .u 4, .ro, .V, 0, .any, 0x2033⟩, /- AP_DELAY -/
  ⟨0x21, .i 4, .ro, .V, 0, .any, 0x2033⟩, /- CAL_OFFSET -/
  ⟨0x22, .i 4, .ro, .V, 0, .any, 0x2033⟩, /- CAL_GAIN -/
  ⟨0x23, .i 2, .ro, .V, 0, .any, 0x2033⟩, /- CAL_SKEW -/
  ⟨0x24, .u 4, .ro, .V, 0, .any, 0x2033⟩, /- CAL_DRIFT -/
  ⟨0x25, .t96, .ro, .V, 0, .any, 0x2033⟩, /- CAL_TIME -/
  ⟨0x26, .u 4, .ro, .V, 0, .any, 0x2033⟩, /- DEFERRED_STARTS -/
  ⟨0x27, .u 8, .ro, .V, 0, .any, 0x2033⟩, /- SAMPLES -/
  ⟨0x28, .u 1, .rwcl, .P, 0, .le 4, 0x2051⟩, /- STAGES -/
  ⟨0x29, .u 4, .rwcl, .P, 256, .rg 256 16777216, 0x2051⟩, /- S1_LEN -/
  ⟨0x2A, .u 2, .rwcl, .P, 1, .rg 1 4096, 0x2051⟩, /- S1_DEC -/
  ⟨0x2B, .u 4, .rwcl, .P, 256, .rg 256 16777216, 0x2051⟩, /- S2_LEN -/
  ⟨0x2C, .u 2, .rwcl, .P, 1, .rg 1 4096, 0x2051⟩, /- S2_DEC -/
  ⟨0x2D, .u 4, .rwcl, .P, 256, .rg 256 16777216, 0x2051⟩, /- S3_LEN -/
  ⟨0x2E, .u 2, .rwcl, .P, 1, .rg 1 4096, 0x2051⟩, /- S3_DEC -/
  ⟨0x2F, .u 4, .rwcl, .P, 256, .rg 256 16777216, 0x2051⟩, /- S4_LEN -/
  ⟨0x30, .u 2, .rwcl, .P, 1, .rg 1 4096, 0x2051⟩, /- S4_DEC -/
  ⟨0x31, .u 1, .rwcl, .P, 0, .le 4, 0x2051⟩, /- TRACK_STAGE -/
  ⟨0x32, .u 1, .rwcl, .P, 1, .rg 1 16, 0x2051⟩, /- TRACK_CYCLES -/
  ⟨0x33, .u 2, .rwcl, .P, 1024, .rg 16 2048, 0x2051⟩, /- COARSE_LEN -/
  ⟨0x34, .u 4, .rwcl, .P, 0, .le 8388607, 0x2051⟩, /- STEP_DETECT -/
  ⟨0x35, .bool, .rwcl, .P, 0, .any, 0x2051⟩, /- RAW_FWD -/
  ⟨0x36, .u 8, .ro, .V, 0, .any, 0x2051⟩, /- OUT_RATE -/
  ⟨0x37, .u 4, .ro, .V, 0, .any, 0x2051⟩, /- GROUP_DELAY -/
  ⟨0x38, .u 2, .ro, .V, 0, .any, 0x2051⟩, /- GOB_STATUS -/
  ⟨0x39, .i 4, .ro, .V, 0, .any, 0x2051⟩, /- COARSE_VALUE -/
  ⟨0x3A, .t96, .ro, .V, 0, .any, 0x2051⟩, /- COARSE_TIME -/
  ⟨0x3B, .i 4, .ro, .V, 0, .any, 0x2051⟩, /- LAST_VALUE -/
  ⟨0x3C, .u 4, .ro, .V, 0, .any, 0x2051⟩, /- STEPS_DETECTED -/
  ⟨0x3D, .u 4, .ro, .V, 0, .any, 0x2051⟩, /- SUM_MISMATCH -/
  ⟨0x3E, .u 8, .ro, .V, 0, .any, 0x2051⟩] /- WITHHELD -/

/-- Table 3-10, 4-9. -/
def rows_quad : List Row := [
  ⟨0x01, .u 1, .rwcl, .P, 0, .le 4, 0x2041⟩, /- EXC_MODE -/
  ⟨0x02, .u 2, .rwcl, .P, 100, .any, 0x2041⟩, /- EXC_VOLT -/
  ⟨0x03, .u 2, .rwcl, .P, 10, .rg 10 10000, 0x2041⟩, /- EXC_CURR -/
  ⟨0x04, .bool, .rwcl, .P, 0, .any, 0x2041⟩, /- PULSED -/
  ⟨0x05, .u 8, .rwcl, .P, 100000000, .rg 2000 100000000000, 0x2044⟩, /- PWM_PERIOD -/
  ⟨0x06, .u 4, .rwcl, .P, 1000000, .rg 1000 1000000000, 0x2044⟩, /- PWM_WIDTH -/
  ⟨0x07, .u 8, .rwcl, .P, 0, .any, 0x2044⟩, /- PWM_PHASE -/
  ⟨0x08, .u 2, .ro, .V, 0, .any, 0x2041⟩, /- EXC_STATUS -/
  ⟨0x09, .i 4, .ro, .V, 0, .any, 0x2041⟩, /- EXC_MEAS_V -/
  ⟨0x0A, .i 4, .ro, .V, 0, .any, 0x2041⟩, /- EXC_MEAS_I -/
  ⟨0x0B, .u 1, .rwcl, .P, 0, .le 3, 0x2033⟩, /- START_SRC -/
  ⟨0x0C, .u 4, .rwcl, .P, 0, .le 16777215, 0x2033⟩, /- START_DELAY -/
  ⟨0x0D, .u 8, .rwcl, .P, 100000000, .rg 2000 100000000000, 0x2033⟩, /- TIMER_PERIOD -/
  ⟨0x0E, .u 8, .rwcl, .P, 0, .any, 0x2033⟩, /- TIMER_PHASE -/
  ⟨0x0F, .u 4, .rwcl, .P, 4096, .rg 1 1048576, 0x2033⟩, /- BURST_N -/
  ⟨0x10, .u 1, .rwcl, .P, 6, .le 6, 0x2033⟩, /- BURST_RATE -/
  ⟨0x11, .u 8, .ro, .V, 0, .any, 0x2033⟩, /- BURSTS -/
  ⟨0x12, .u 4, .ro, .V, 0, .any, 0x2033⟩, /- STRETCHED -/
  ⟨0x13, .u 4, .ro, .V, 0, .any, 0x2033⟩, /- SKIPPED -/
  ⟨0x14, .t64, .ro, .V, 0, .any, 0x2033⟩] /- NEXT_START -/

/-- Table 4-10. -/
def rows_bank : List Row := [
  ⟨0x01, .u 1, .rwcl, .P, 0, .le 2, 0x2033⟩, /- BANK_POWER -/
  ⟨0x02, .u 1, .rwcl, .P, 0, .le 1, 0x2033⟩, /- REF_SEL -/
  ⟨0x03, .u 1, .rwcl, .P, 0, .le 1, 0x2033⟩, /- REF_POLICY -/
  ⟨0x04, .u 1, .ro, .V, 0, .any, 0x2033⟩, /- BANK_STATE -/
  ⟨0x05, .t96, .ro, .V, 0, .any, 0x2033⟩, /- BUF_ON_SINCE -/
  ⟨0x06, .t96, .ro, .V, 0, .any, 0x2033⟩, /- READY_AT -/
  ⟨0x07, .u 4, .ro, .V, 0, .any, 0x2033⟩, /- DEFERRALS -/
  ⟨0x08, .u 4, .ro, .V, 0, .any, 0x2033⟩, /- REF_SWITCHES -/
  ⟨0x09, .bool, .w1, .P, 0, .any, 0x2033⟩, /- CAL_NOW -/
  ⟨0x0A, .u 1, .ro, .V, 0, .any, 0x2033⟩, /- CAL_STATE -/
  ⟨0x0B, .u 4, .ro, .V, 0, .any, 0x2033⟩] /- POWER_EST -/

/-- Table 6-6. -/
def rows_path : List Row := [
  ⟨0x01, .bool, .rwcl, .P, 0, .any, 0x2061⟩, /- ENABLE -/
  ⟨0x02, .u 2, .rwcl, .P, 65535, .any, 0x2061⟩, /- SOURCE -/
  ⟨0x03, .u 8, .rwcl, .P, 0x5f5e1000000, .any, 0x2061⟩, /- OUT_PERIOD -/
  ⟨0x04, .u 4, .rwcl, .P, 0, .le 1310720000, 0x2061⟩, /- DELAY -/
  ⟨0x05, .u 2, .rwcl, .P, 0, .le 256, 0x2061⟩, /- FIR_TAPS -/
  ⟨0x06, .u 2, .rwcl, .P, 1, .rg 1 4096, 0x2061⟩, /- FIR_DEC -/
  ⟨0x07, .u 4, .rwcl, .P, 0, .any, 0x2061⟩, /- FIR_CENTRE -/
  ⟨0x08, .dom, .rwcl, .P, 0, .any, 0x2061⟩, /- FIR_COEF -/
  ⟨0x09, .u 1, .rwcl, .P, 8, .oneOf [4, 8, 16, 32, 64], 0x2061⟩, /- RS_TAPS -/
  ⟨0x0A, .u 2, .rwcl, .P, 64, .rg 1 1024, 0x2061⟩, /- XFADE_LEN -/
  ⟨0x0B, .u 2, .rwcl, .P, 65535, .leOr 8191 0xFFFF, 0x2061⟩, /- QUEUE -/
  ⟨0x0C, .u 2, .rwcl, .P, 64, .rg 1 1024, 0x2061⟩, /- BLOCK_LEN -/
  ⟨0x0D, .u 4, .rwcl, .P, 100000, .rg 10 10000000, 0x2061⟩, /- BLOCK_MAXAGE -/
  ⟨0x0E, .bool, .rwcl, .P, 0, .any, 0x2061⟩, /- SEAL -/
  ⟨0x0F, .u 1, .ro, .V, 0, .any, 0x2061⟩, /- PATH_STATE -/
  ⟨0x10, .u 8, .ro, .V, 0, .any, 0x2061⟩, /- COST -/
  ⟨0x11, .u 4, .ro, .V, 0, .any, 0x2061⟩, /- LATENCY -/
  ⟨0x12, .u 8, .ro, .V, 0, .any, 0x2061⟩, /- OUTPUTS -/
  ⟨0x13, .u 8, .ro, .V, 0, .any, 0x2061⟩, /- SKIPPED -/
  ⟨0x14, .t96, .ro, .V, 0, .any, 0x2061⟩, /- LAST_INSTANT -/
  ⟨0x15, .u 4, .ro, .V, 0, .any, 0x2061⟩, /- LAST_WORD -/
  ⟨0x16, .u 4, .ro, .V, 0, .any, 0x2061⟩, /- XFADE_LATE -/
  ⟨0x17, .t64, .ro, .V, 0, .any, 0x2061⟩, /- FADE_AT -/
  ⟨0x18, .u 2, .ro, .V, 65535, .any, 0x2061⟩] /- TENANT -/

/-- Table 6-7. -/
def rows_lehrEngine : List Row := [
  ⟨0x01, .u 8, .ro, .V, 0, .any, 0x2061⟩, /- LOAD -/
  ⟨0x02, .u 8, .ro, .V, 0x186a000000, .any, 0x2061⟩, /- CAPACITY -/
  ⟨0x03, .u 1, .ro, .V, 64, .any, 0x2061⟩, /- LANES_WORKING -/
  ⟨0x04, .u 1, .ro, .V, 4, .any, 0x2061⟩, /- LANE_SPARES -/
  ⟨0x05, .u 4, .ro, .V, 0, .any, 0x2061⟩, /- ROUND_DEMAND -/
  ⟨0x06, .u 2, .ro, .V, 0, .any, 0x2061⟩, /- CATCHUP -/
  ⟨0x07, .u 2, .ro, .V, 0, .any, 0x2061⟩, /- PATHS_ACTIVE -/
  ⟨0x08, .u 8, .ro, .V, 0, .any, 0x2061⟩, /- RESIDUE_RETRIES -/
  ⟨0x09, .u 4, .ro, .V, 0, .any, 0x2061⟩] /- BUDGET_REFUSALS -/

/-- Table 7-10. -/
def rows_punty : List Row := [
  ⟨0x01, .bool, .rwc, .P, 0, .any, 0x2071⟩, /- CAP_ENABLE -/
  ⟨0x02, .u 1, .rwc, .P, 0, .le 4, 0x2071⟩, /- TAP -/
  ⟨0x03, .u 1, .rwc, .P, 0, .le 5, 0x2071⟩, /- TRIG_TYPE -/
  ⟨0x04, .u 1, .rwc, .P, 0, .le 2, 0x2071⟩, /- POL -/
  ⟨0x05, .i 4, .rwc, .P, 0, .any, 0x2071⟩, /- LEVEL_A -/
  ⟨0x06, .i 4, .rwc, .P, 0, .any, 0x2071⟩, /- LEVEL_B -/
  ⟨0x07, .u 4, .rwc, .P, 0, .any, 0x2071⟩, /- HYST -/
  ⟨0x08, .u 2, .rwc, .P, 1, .rg 1 256, 0x2071⟩, /- SLOPE_SPAN -/
  ⟨0x09, .u 4, .rwc, .P, 1, .rg 1 16777215, 0x2071⟩, /- WIDTH_MIN -/
  ⟨0x0A, .u 4, .rwc, .P, 16777215, .rg 1 16777215, 0x2071⟩, /- WIDTH_MAX -/
  ⟨0x0B, .u 4, .rwc, .P, 1, .rg 1 16777215, 0x2071⟩, /- RUN_LEN -/
  ⟨0x0C, .u 4, .rwc, .P, 4096, .rg 64 1048576, 0x2071⟩, /- SEG_LEN -/
  ⟨0x0D, .u 4, .rwc, .P, 1024, .any, 0x2071⟩, /- PRE -/
  ⟨0x0E, .u 4, .rwc, .P, 100, .le 100000, 0x2071⟩, /- LOOKBACK -/
  ⟨0x0F, .u 1, .rwc, .P, 0, .le 2, 0x2071⟩, /- ARM_MODE -/
  ⟨0x10, .u 4, .rwc, .P, 1, .rg 1 4294967295, 0x2071⟩, /- ARM_COUNT -/
  ⟨0x11, .u 1, .rwc, .P, 0, .le 7, 0x2071⟩, /- CAP_PRIO -/
  ⟨0x12, .u 2, .rwc, .P, 65535, .leOr 8191 0xFFFF, 0x2071⟩, /- SEG_QUEUE -/
  ⟨0x13, .bool, .rwc, .P, 1, .any, 0x2071⟩, /- OVF_RESUME -/
  ⟨0x14, .bool, .w1, .P, 0, .any, 0x2071⟩, /- ARM -/
  ⟨0x15, .bool, .w1, .P, 0, .any, 0x2071⟩, /- DISARM -/
  ⟨0x16, .bool, .w1, .P, 0, .any, 0x2071⟩, /- FORCE -/
  ⟨0x17, .u 1, .ro, .V, 0, .any, 0x2071⟩, /- ARM_STATE -/
  ⟨0x18, .u 8, .ro, .V, 0, .any, 0x2071⟩, /- SEGMENTS -/
  ⟨0x19, .u 4, .ro, .V, 0, .any, 0x2071⟩, /- ARMS -/
  ⟨0x1A, .u 4, .ro, .V, 0, .any, 0x2071⟩, /- DISARMS -/
  ⟨0x1B, .u 4, .ro, .V, 0, .any, 0x2071⟩, /- REARM_DEFERRED -/
  ⟨0x1C, .u 8, .ro, .V, 0, .any, 0x2071⟩, /- DET_EVENTS -/
  ⟨0x1D, .u 8, .ro, .V, 0, .any, 0x2071⟩, /- MISSED_TOTAL -/
  ⟨0x1E, .u 4, .ro, .V, 0, .any, 0x2071⟩, /- LATE_TRIGGERS -/
  ⟨0x1F, .u 4, .ro, .V, 0, .any, 0x2071⟩, /- OVERFLOWS -/
  ⟨0x20, .t96, .ro, .V, 0, .any, 0x2071⟩, /- LAST_TRIG_TIME -/
  ⟨0x21, .u 4, .ro, .V, 0, .any, 0x2071⟩, /- SRAM_RESERVED -/
  ⟨0x22, .u 2, .ro, .V, 0, .any, 0x2071⟩, /- DESC_PENDING -/
  ⟨0x23, .u 4, .ro, .V, 0, .any, 0x2071⟩] /- SEGS_REMAINING -/

/-- Table 7-11. -/
def rows_matrix : List Row := [
  ⟨0x01, .u 2, .rwc, .P, 0, .any, 0x2071⟩, /- TRIG_EDGE -/
  ⟨0x02, .u 1, .rwc, .P, 0, .le 15, 0x2071⟩, /- ILINE_IN -/
  ⟨0x03, .u 4, .rwc, .P, 1000, .rg 100 1000000, 0x2071⟩, /- ILINE_PULSE -/
  ⟨0x04, .u 1, .rwc, .P, 127, .rg 1 127, 0x2071⟩, /- RT_HOPS_MAX -/
  ⟨0x05, .u 2, .ro, .V, 0, .any, 0x2071⟩, /- RT_SEQ -/
  ⟨0x06, .u 4, .ro, .V, 0, .any, 0x2071⟩, /- RT_RX -/
  ⟨0x07, .u 4, .ro, .V, 0, .any, 0x2071⟩, /- RT_DUP -/
  ⟨0x08, .u 4, .ro, .V, 0, .any, 0x2071⟩, /- RT_ERR -/
  ⟨0x1C, .u 4, .ro, .V, 0, .any, 0x2071⟩] /- ILINE_DRIVEN -/
  ++ ((List.range 8).map fun k => ⟨0x10 + k, .u 4, .ro, .V, 0, .any, 0x2071⟩ /- TRIG_COUNT -/)
  ++ ((List.range 4).map fun k => ⟨0x18 + k, .u 4, .ro, .V, 0, .any, 0x2071⟩ /- ILINE_COUNT -/)
  ++ ((List.range 32).map fun k => ⟨0x20 + k, .oct 16, .rwc, .P, 0xfffff0000000000000003ffffc000000, .any, 0x2071⟩ /- MOUT -/)
  ++ ((List.range 32).map fun k => ⟨0x40 + k, .u 4, .ro, .V, 0, .any, 0x2071⟩ /- MOUT_FIRED -/)

/-- Table 7-12. -/
def rows_rings : List Row := [
  ⟨0x01, .u 4, .ro, .V, 0, .any, 0x2071⟩, /- SEGS_PENDING -/
  ⟨0x02, .u 4, .ro, .V, 0, .any, 0x2071⟩, /- DRAIN_WORST -/
  ⟨0x03, .u 4, .ro, .V, 0, .any, 0x2071⟩, /- OVERFLOW_EVENTS -/
  ⟨0x04, .u 4, .ro, .V, 0, .any, 0x2071⟩] /- ARCHIVE_STALLS -/
  ++ ([1, 2, 3, 4, 5, 6, 7].map fun d => ⟨16 * d + 1, .u 4, .rwc, .O, 100000, .rg 1000 1500000, 0x2071⟩ /- DRAIN_RATE -/)
  ++ ([1, 2, 3, 4, 5, 6, 7].map fun d => ⟨16 * d + 2, .u 4, .ro, .V, 0, .any, 0x2071⟩ /- SRAM_RESERVED -/)
  ++ ([1, 2, 3, 4, 5, 6, 7].map fun d => ⟨16 * d + 3, .u 4, .ro, .V, 0, .any, 0x2071⟩ /- SRAM_USED -/)
  ++ ([1, 2, 3, 4, 5, 6, 7].map fun d => ⟨16 * d + 4, .u 4, .ro, .V, 0, .any, 0x2071⟩ /- SRAM_PEAK -/)
  ++ ([1, 2, 3, 4, 5, 6, 7].map fun d => ⟨16 * d + 5, .u 4, .ro, .V, 0, .any, 0x2071⟩ /- DESC_USED -/)
  ++ ([1, 2, 3, 4, 5, 6, 7].map fun d => ⟨16 * d + 6, .u 4, .ro, .V, 0, .any, 0x2071⟩ /- DESC_PEAK -/)
  ++ ([1, 2, 3, 4, 5, 6, 7].map fun d => ⟨16 * d + 7, .u 8, .ro, .V, 0, .any, 0x2071⟩ /- SEGS_DRAINED -/)
  ++ ([1, 2, 3, 4, 5, 6, 7].map fun d => ⟨16 * d + 8, .u 8, .ro, .V, 0, .any, 0x2071⟩ /- DRAIN_QUEUED -/)

/-- Table 8-3. -/
def rows_queue : List Row := [
  ⟨0x01, .bool, .rwc, .S, 0, .any, 0x2081⟩, /- ENABLE -/
  ⟨0x02, .u 1, .rwc, .S, 0, .le 3, 0x2081⟩, /- CONSUMER -/
  ⟨0x03, .u 4, .rwc, .S, 0, .le 192512, 0x2081⟩, /- CELL_RESERVE -/
  ⟨0x04, .u 4, .rwc, .S, 1024, .rg 48 196608, 0x2081⟩, /- CELL_QUOTA -/
  ⟨0x05, .bool, .rwc, .S, 0, .any, 0x2081⟩, /- SPILL_EN -/
  ⟨0x06, .u 8, .rwc, .S, 0, .mult 65536 68719476736, 0x2081⟩, /- SPILL_BYTES -/
  ⟨0x07, .u 1, .rwc, .S, 0, .le 1, 0x2081⟩, /- FULL_POLICY -/
  ⟨0x08, .u 1, .rwc, .S, 0, .any, 0x2081⟩, /- CT_CELLS -/
  ⟨0x09, .u 1, .rwc, .S, 1, .le 1, 0x2081⟩, /- LATE_POLICY -/
  ⟨0x0A, .u 1, .rwc, .S, 0, .le 1, 0x2081⟩, /- LAUNCH_MODE -/
  ⟨0x0B, .i 8, .rwc, .S, 0, .any, 0x2081⟩, /- LAUNCH_OFFSET -/
  ⟨0x0C, .u 2, .rwc, .S, 65535, .any, 0x2081⟩, /- FRIT_CTX -/
  ⟨0x0D, .u 1, .ro, .V, 0, .any, 0x2081⟩, /- QSTATE -/
  ⟨0x0E, .u 4, .ro, .S, 0, .any, 0x2081⟩, /- COUNT -/
  ⟨0x0F, .u 4, .ro, .S, 0, .any, 0x2081⟩, /- CELLS -/
  ⟨0x10, .u 4, .ro, .V, 0, .any, 0x2081⟩, /- CELLS_ON_CHIP -/
  ⟨0x11, .u 8, .ro, .V, 0, .any, 0x2081⟩, /- SPILL_USED -/
  ⟨0x12, .dom, .ro, .S, 0, .any, 0x2081⟩, /- FRAME_HEAD -/
  ⟨0x13, .u 2, .wo, .S, 0, .any, 0x2081⟩, /- FRAME_POP -/
  ⟨0x14, .dom, .wo, .P, 0, .any, 0x2081⟩, /- FRAME_IN -/
  ⟨0x15, .u 8, .ro, .V, 0, .any, 0x2081⟩, /- FRAMES_IN -/
  ⟨0x16, .u 8, .ro, .V, 0, .any, 0x2081⟩, /- FRAMES_OUT -/
  ⟨0x17, .u 4, .ro, .V, 0, .any, 0x2081⟩, /- SPILLS -/
  ⟨0x18, .u 8, .ro, .V, 0, .any, 0x2081⟩, /- DISCARDED -/
  ⟨0x19, .u 4, .ro, .V, 0, .any, 0x2081⟩, /- PEAK_CELLS -/
  ⟨0x1A, .u 4, .ro, .V, 0, .any, 0x2081⟩, /- ABORTED_FRAMES -/
  ⟨0x1B, .u 2, .rwc, .S, 65535, .leOr 1023 0xFFFF, 0x2081⟩] /- PRODUCER_GRANT -/

/-- Table 9-5. -/
def rows_fritEngine : List Row := [
  ⟨0x01, .u 1, .ro, .V, 2, .any, 0x2091⟩, /- ENGINES -/
  ⟨0x02, .u 8, .ro, .V, 0, .any, 0x2091⟩, /- LOAD_E0 -/
  ⟨0x03, .u 8, .ro, .V, 0, .any, 0x2091⟩, /- LOAD_E1 -/
  ⟨0x04, .u 1, .ro, .V, 0, .any, 0x2091⟩, /- PRIV_USED -/
  ⟨0x05, .u 1, .ro, .V, 0, .any, 0x2091⟩, /- JOBS_WAITING -/
  ⟨0x06, .u 8, .ro, .V, 0, .any, 0x2091⟩, /- BLOCKS -/
  ⟨0x07, .u 8, .ro, .V, 0, .any, 0x2091⟩] /- VERBATIM -/

/-- Table 9-6. -/
def rows_fritCtx : List Row := [
  ⟨0x01, .u 2, .rwc, .O, 65535, .leOr 1023 0xFFFF, 0x2091⟩, /- TENANT -/
  ⟨0x02, .bool, .rwc, .O, 0, .any, 0x2091⟩, /- PRIVILEGED -/
  ⟨0x03, .u 1, .rwc, .P, 0, .le 1, 0x2091⟩, /- MODE -/
  ⟨0x04, .u 1, .rwc, .P, 1, .le 4, 0x2091⟩, /- PRED -/
  ⟨0x05, .u 2, .rwc, .P, 65535, .leOr 63 0xFFFF, 0x2091⟩, /- REF_CTX -/
  ⟨0x06, .u 1, .rwc, .P, 1, .le 1, 0x2091⟩, /- CODE -/
  ⟨0x07, .u 1, .rwc, .P, 4, .le 24, 0x2091⟩, /- RICE_K -/
  ⟨0x08, .u 1, .rwc, .P, 0, .le 7, 0x2091⟩, /- MATCH_LEVEL -/
  ⟨0x09, .u 2, .rwc, .P, 4096, .rg 64 4096, 0x2091⟩, /- BLOCK_N -/
  ⟨0x0A, .u 4, .rwc, .P, 10000, .rg 10 10000000, 0x2091⟩, /- BLOCK_MAXAGE -/
  ⟨0x0B, .bool, .w1, .P, 0, .any, 0x2091⟩, /- FLUSH -/
  ⟨0x0C, .u 1, .ro, .V, 255, .any, 0x2091⟩, /- ENGINE -/
  ⟨0x0D, .u 1, .ro, .V, 0, .any, 0x2091⟩, /- CTX_STATE -/
  ⟨0x0E, .u 8, .ro, .V, 0, .any, 0x2091⟩, /- IN_OCTETS -/
  ⟨0x0F, .u 8, .ro, .V, 0, .any, 0x2091⟩, /- OUT_OCTETS -/
  ⟨0x10, .u 8, .ro, .V, 0, .any, 0x2091⟩, /- MATCH_TILES -/
  ⟨0x11, .u 4, .ro, .V, 0, .any, 0x2091⟩] /- BYPASSED_FRAMES -/

/-- Table 9-7. -/
def rows_fritJob : List Row := [
  ⟨0x01, .u 2, .rw, .P, 65535, .leOr 63 0xFFFF, 0x2091⟩, /- CTX -/
  ⟨0x02, .u 1, .rw, .P, 0, .le 3, 0x2091⟩, /- FORMAT -/
  ⟨0x03, .u 8, .rw, .P, 0, .any, 0x2091⟩, /- IN_ADDR -/
  ⟨0x04, .u 8, .rw, .P, 0, .any, 0x2091⟩, /- IN_LEN -/
  ⟨0x05, .u 8, .rw, .P, 0, .any, 0x2091⟩, /- OUT_ADDR -/
  ⟨0x06, .u 8, .rw, .P, 16512, .ge 16512, 0x2091⟩, /- OUT_LEN -/
  ⟨0x07, .bool, .w1, .P, 0, .any, 0x2091⟩, /- SUBMIT -/
  ⟨0x08, .bool, .w1, .P, 0, .any, 0x2091⟩, /- CONTINUE -/
  ⟨0x09, .u 1, .ro, .V, 0, .any, 0x2091⟩, /- JOB_STATE -/
  ⟨0x0A, .u 8, .ro, .V, 0, .any, 0x2091⟩, /- IN_USED -/
  ⟨0x0B, .u 8, .ro, .V, 0, .any, 0x2091⟩, /- OUT_USED -/
  ⟨0x0C, .u 2, .ro, .V, 0, .any, 0x2091⟩, /- JOB_STATUS -/
  ⟨0x0D, .u 4, .ro, .V, 0, .any, 0x2091⟩, /- SUBMITS -/
  ⟨0x0E, .u 4, .ro, .V, 0, .any, 0x2091⟩, /- ABORTS -/
  ⟨0x0F, .t96, .ro, .V, 0, .any, 0x2091⟩] /- DONE_AT -/

/-- Table 10-6. -/
def rows_freeze : List Row := [
  ⟨0x01, .bool, .ro, .V, 0, .any, 0x2101⟩, /- FROZEN -/
  ⟨0x02, .t96, .ro, .V, 0, .any, 0x2101⟩, /- F_TIME -/
  ⟨0x03, .u 1, .ro, .V, 0, .any, 0x2101⟩, /- F_KIND -/
  ⟨0x04, .u 8, .ro, .V, 0, .any, 0x2101⟩, /- F_ADDR -/
  ⟨0x05, .u 8, .ro, .V, 0, .any, 0x2101⟩, /- F_LOC -/
  ⟨0x06, .u 2, .ro, .V, 0, .any, 0x2101⟩, /- F_SYNDROME -/
  ⟨0x07, .u 1, .ro, .V, 0, .any, 0x2101⟩, /- F_CMD -/
  ⟨0x08, .u 1, .ro, .V, 0, .any, 0x2101⟩, /- F_PORT -/
  ⟨0x09, .u 2, .ro, .V, 65535, .any, 0x2101⟩, /- F_TENANT -/
  ⟨0x0A, .oct 16, .ro, .V, 0, .any, 0x2101⟩, /- F_QUEUES -/
  ⟨0x0B, .u 4, .ro, .V, 0, .any, 0x2101⟩, /- F_URGENCY -/
  ⟨0x0C, .u 4, .ro, .V, 0, .any, 0x2101⟩, /- FREEZE_EXTRA -/
  ⟨0x0D, .bool, .rw, .O, 0, .any, 0x2101⟩, /- DIAG_ENABLE -/
  ⟨0x0E, .u 8, .rw, .O, 0, .mult 64 0xFFFFFFFFFFFFFFFF, 0x2101⟩, /- DIAG_ADDR -/
  ⟨0x0F, .bool, .w1, .O, 0, .any, 0x2101⟩, /- DIAG_READ -/
  ⟨0x10, .oct 80, .ro, .O, 0, .any, 0x2101⟩, /- DIAG_DATA -/
  ⟨0x11, .u 1, .w1, .O, 0, .le 2, 0x2101⟩] /- RELEASE -/

/-- Table 10-7. -/
def rows_dramSet : List Row := [
  ⟨0x01, .u 2, .rwc, .O, 6400, .oneOf [6400, 5600, 4800], 0x2101⟩, /- DATA_RATE -/
  ⟨0x02, .u 1, .rwc, .O, 15, .any, 0x2101⟩, /- CH_SET -/
  ⟨0x03, .u 8, .rwc, .O, 134348928, .any, 0x2101⟩, /- BG_MASK0 -/
  ⟨0x04, .u 8, .rwc, .O, 268697856, .any, 0x2101⟩, /- BG_MASK1 -/
  ⟨0x05, .u 8, .rwc, .O, 537395712, .any, 0x2101⟩, /- BG_MASK2 -/
  ⟨0x06, .u 8, .rwc, .O, 1074791424, .any, 0x2101⟩, /- BA_MASK0 -/
  ⟨0x07, .u 8, .rwc, .O, 2149582848, .any, 0x2101⟩, /- BA_MASK1 -/
  ⟨0x08, .u 4, .rwc, .P, 86400, .rg 3600 604800, 0x2101⟩, /- SCRUB_PERIOD -/
  ⟨0x09, .u 2, .rwc, .P, 8, .rg 2 1000, 0x2101⟩, /- PPR_THRESHOLD -/
  ⟨0x0A, .bool, .rwc, .P, 0, .any, 0x2101⟩, /- SR_AUTO -/
  ⟨0x0B, .u 4, .rwc, .P, 1000, .rg 10 1000000, 0x2101⟩, /- SR_IDLE -/
  ⟨0x0C, .u 8, .ro, .V, 0, .any, 0x2101⟩, /- CAPACITY -/
  ⟨0x0D, .u 8, .ro, .V, 0, .any, 0x2101⟩] /- RESERVED_BW -/

/-- Table 10-7. -/
def rows_dramWin : List Row := [
  ⟨0x01, .u 8, .rw, .S, 0, .any, 0x2101⟩, /- WIN_ADDR -/
  ⟨0x02, .dom, .rw, .S, 0, .any, 0x2101⟩] /- WIN_DATA -/

/-- Table 10-8. -/
def rows_dramCh : List Row := [
  ⟨0x01, .u 1, .ro, .V, 0, .any, 0x2101⟩, /- CH_STATE -/
  ⟨0x02, .u 2, .ro, .V, 0, .any, 0x2101⟩, /- TRAINED_RATE -/
  ⟨0x03, .u 8, .ro, .V, 0, .any, 0x2101⟩, /- CE_COUNT -/
  ⟨0x04, .u 4, .ro, .V, 0, .any, 0x2101⟩, /- UE_COUNT -/
  ⟨0x05, .u 8, .ro, .V, 0, .any, 0x2101⟩, /- WCRC_RETRY -/
  ⟨0x06, .u 4, .ro, .V, 0, .any, 0x2101⟩, /- ODECC_COUNT -/
  ⟨0x07, .u 8, .ro, .V, 0, .any, 0x2101⟩, /- REF_FORCED -/
  ⟨0x08, .u 2, .ro, .V, 0, .any, 0x2101⟩, /- PPR_CANDIDATES -/
  ⟨0x09, .u 2, .ro, .V, 0, .any, 0x2101⟩, /- PPR_LEFT -/
  ⟨0x0A, .u 4, .ro, .V, 0, .any, 0x2101⟩] /- SR_ENTRIES -/

/-- Table 10-9. -/
def rows_dramPort : List Row := [
  ⟨0x01, .u 4, .rwc, .O, 10000, .rg 1000 1000000, 0x2101⟩, /- LAT_TARGET -/
  ⟨0x02, .u 1, .ro, .V, 0, .any, 0x2101⟩, /- URGENCY -/
  ⟨0x03, .u 4, .ro, .V, 0, .any, 0x2101⟩, /- LEVEL3_EVENTS -/
  ⟨0x04, .u 4, .ro, .V, 0, .any, 0x2101⟩] /- MAX_LATENCY -/

/-- Table 11-5. -/
def rows_laneCx : List Row := [
  ⟨0x01, .u 1, .rwc, .O, 0, .any, 0x2111⟩, /- CHAIN_ADDR -/
  ⟨0x02, .u 1, .ro, .V, 0, .any, 0x2111⟩, /- BACKLOG -/
  ⟨0x03, .u 4, .rwc, .P, 1000, .rg 10 100000, 0x2111⟩, /- REORDER_HOLD -/
  ⟨0x04, .u 8, .ro, .V, 0, .any, 0x2111⟩, /- DUP_DISCARDS -/
  ⟨0x05, .u 8, .ro, .V, 0, .any, 0x2111⟩, /- RSEQ_GAPS -/
  ⟨0x06, .u 4, .ro, .V, 0, .any, 0x2111⟩, /- UNDELIVERABLE -/
  ⟨0x07, .u 4, .ro, .V, 0, .any, 0x2111⟩] /- CTL_ERR -/

/-- Table 11-6. -/
def rows_lane : List Row := [
  ⟨0x01, .u 1, .rwc, .O, 0, .le 5, 0x2111⟩, /- MODE -/
  ⟨0x02, .u 1, .rwc, .O, 255, .leOr 3 0xFF, 0x2111⟩, /- MAC -/
  ⟨0x03, .u 1, .rwc, .O, 255, .leOr 1 0xFF, 0x2111⟩, /- BUNDLE -/
  ⟨0x04, .u 2, .rwc, .O, 0, .any, 0x2111⟩, /- SPARE_MAP -/
  ⟨0x05, .u 1, .ro, .V, 0, .any, 0x2111⟩, /- LANE_STATE -/
  ⟨0x06, .u 1, .ro, .V, 0, .any, 0x2111⟩, /- EYE -/
  ⟨0x07, .u 1, .rwc, .P, 64, .rg 1 255, 0x2111⟩, /- EYE_WARN -/
  ⟨0x08, .u 1, .rwc, .P, 32, .rg 1 255, 0x2111⟩, /- EYE_ALARM -/
  ⟨0x09, .u 8, .ro, .V, 0, .any, 0x2111⟩, /- HDR_ERR -/
  ⟨0x0A, .u 4, .ro, .V, 0, .any, 0x2111⟩, /- RUN_ERR -/
  ⟨0x0B, .u 4, .ro, .V, 0, .any, 0x2111⟩, /- LOCK_LOSSES -/
  ⟨0x0C, .u 4, .ro, .V, 0, .any, 0x2111⟩, /- TRAININGS -/
  ⟨0x0D, .oct 8, .ro, .V, 0, .any, 0x2111⟩] /- EQ_STATE -/

/-- Table 11-7. -/
def rows_bundle : List Row := [
  ⟨0x01, .u 1, .rwc, .P, 1, .rg 1 4, 0x2111⟩, /- MIN_LANES -/
  ⟨0x02, .u 8, .rwc, .O, 0, .any, 0x2111⟩, /- RELAY_RESERVE -/
  ⟨0x03, .u 1, .ro, .V, 0, .any, 0x2111⟩, /- BUNDLE_STATE -/
  ⟨0x04, .u 1, .ro, .V, 0, .any, 0x2111⟩, /- WORKING -/
  ⟨0x05, .u 8, .ro, .V, 0, .any, 0x2111⟩, /- CAPACITY -/
  ⟨0x06, .u 8, .ro, .V, 0, .any, 0x2111⟩, /- ADMITTED -/
  ⟨0x07, .u 8, .ro, .V, 0, .any, 0x2111⟩, /- RELAY_LOAD -/
  ⟨0x08, .u 1, .ro, .V, 0, .any, 0x2111⟩, /- PEER_ADDR -/
  ⟨0x09, .bool, .ro, .V, 0, .any, 0x2111⟩, /- DUPLICATED -/
  ⟨0x0A, .u 2, .ro, .V, 0, .any, 0x2111⟩, /- BFLAGS -/
  ⟨0x0B, .u 8, .ro, .V, 0, .any, 0x2111⟩, /- RESENT -/
  ⟨0x0C, .u 4, .ro, .V, 0, .any, 0x2111⟩, /- RETRAINS -/
  ⟨0x0D, .u 8, .ro, .V, 0, .any, 0x2111⟩, /- TURNED -/
  ⟨0x0E, .u 4, .ro, .V, 0, .any, 0x2111⟩, /- TURN_DROPS -/
  ⟨0x0F, .u 4, .ro, .V, 0, .any, 0x2111⟩] /- REPLAY_USED -/

/-- Table 11-8. -/
def rows_mac : List Row := [
  ⟨0x01, .u 1, .rwc, .O, 0, .le 1, 0x2111⟩, /- FEC -/
  ⟨0x02, .bool, .rwc, .O, 1, .any, 0x2111⟩, /- AUTONEG -/
  ⟨0x03, .u 2, .rwc, .P, 1500, .rg 1500 9216, 0x2111⟩, /- MTU -/
  ⟨0x04, .bool, .rwc, .P, 0, .any, 0x2111⟩, /- PAUSE_EN -/
  ⟨0x05, .oct 6, .ro, .V, 0, .any, 0x2111⟩, /- SRC_MAC -/
  ⟨0x06, .u 4, .rwc, .O, 0, .any, 0x2111⟩, /- IPV4 -/
  ⟨0x07, .oct 16, .rwc, .O, 0, .any, 0x2111⟩, /- IPV6 -/
  ⟨0x08, .u 1, .ro, .V, 0, .any, 0x2111⟩, /- LINK -/
  ⟨0x09, .u 8, .ro, .V, 0, .any, 0x2111⟩, /- TX_FRAMES -/
  ⟨0x0A, .u 8, .ro, .V, 0, .any, 0x2111⟩, /- FCS_ERR -/
  ⟨0x0B, .u 8, .ro, .V, 0, .any, 0x2111⟩] /- RX_DISCARDS -/

/-- Table 11-9. -/
def rows_route : List Row := [
  ⟨0x01, .u 2, .rwc, .P, 65535, .leOr2 8191 0xFFFE 0xFFFF, 0x2111⟩, /- QUEUE -/
  ⟨0x02, .u 1, .rwc, .P, 0, .oneOf [0, 1, 4, 5, 6, 7], 0x2111⟩, /- PORT -/
  ⟨0x03, .u 1, .rwc, .P, 0, .any, 0x2111⟩, /- DEST -/
  ⟨0x04, .bool, .rwc, .P, 0, .any, 0x2111⟩, /- DUAL -/
  ⟨0x05, .u 8, .rwc, .P, 0, .any, 0x2111⟩, /- SHARE -/
  ⟨0x06, .u 1, .rwc, .P, 1, .le 2, 0x2111⟩, /- ENCAP -/
  ⟨0x07, .oct 6, .rwc, .P, 0, .any, 0x2111⟩, /- DST_MAC -/
  ⟨0x08, .oct 16, .rwc, .P, 0, .any, 0x2111⟩, /- DST_IP -/
  ⟨0x09, .u 2, .rwc, .P, 50000, .any, 0x2111⟩, /- UDP_PORT -/
  ⟨0x0A, .u 2, .rwc, .P, 34997, .any, 0x2111⟩, /- ETYPE -/
  ⟨0x0B, .u 2, .ro, .V, 0, .any, 0x2111⟩, /- RSEQ -/
  ⟨0x0C, .u 2, .ro, .V, 65535, .any, 0x2111⟩] /- TENANT -/

/-- Table 11-10. -/
def rows_inj : List Row := [
  ⟨0x01, .t64, .rw, .O, 0, .any, 0x2111⟩] /- PERMIT_UNTIL -/

/-- Table 11-10. -/
def rows_injRule : List Row := [
  ⟨0x01, .bool, .rw, .P, 0, .any, 0x2111⟩, /- ENABLE -/
  ⟨0x02, .u 1, .rw, .P, 0, .any, 0x2111⟩, /- TARGET -/
  ⟨0x03, .u 1, .rw, .P, 1, .rg 1 4, 0x2111⟩, /- ACTION -/
  ⟨0x04, .u 1, .rw, .P, 0, .le 2, 0x2111⟩, /- SELECT -/
  ⟨0x05, .u 4, .rw, .P, 1, .any, 0x2111⟩, /- PARAM -/
  ⟨0x06, .u 4, .rw, .P, 0, .le 1000000, 0x2111⟩, /- DELAY -/
  ⟨0x07, .u 4, .rw, .P, 0, .any, 0x2111⟩, /- LIMIT -/
  ⟨0x08, .u 8, .ro, .V, 0, .any, 0x2111⟩, /- HITS -/
  ⟨0x09, .u 1, .ro, .V, 0, .any, 0x2111⟩] /- INJ_STATE -/

/-- Table 12-2. -/
def rows_identity : List Row := [
  ⟨0x01, .vstr, .ro, .V, 0, .any, 0x2123⟩, /- VENDOR -/
  ⟨0x02, .vstr, .ro, .V, 0, .any, 0x2123⟩, /- PART -/
  ⟨0x03, .vstr, .ro, .V, 0, .any, 0x2123⟩, /- SERIAL -/
  ⟨0x04, .oct 8, .ro, .V, 0, .any, 0x2123⟩, /- EUI64 -/
  ⟨0x05, .vstr, .ro, .V, 0, .any, 0x2123⟩, /- FW_ID -/
  ⟨0x06, .dom, .ro, .V, 0, .any, 0x2123⟩] /- DEVICE_CERT -/

/-- Table 12-5. -/
def rows_adpPorts : List Row := [
  ⟨0x01, .u 2, .rwc, .O, 50001, .any, 0x2123⟩, /- ADP_UDP_PORT -/
  ⟨0x02, .u 2, .rwc, .O, 30, .rg 5 3600, 0x2123⟩, /- SESSION_TIMEOUT -/
  ⟨0x03, .u 1, .rwc, .O, 0, .le 1, 0x2123⟩, /- CAN_RATE -/
  ⟨0x04, .u 2, .rwc, .O, 1600, .le 0x7FF, 0x2123⟩, /- CAN_ID_IN -/
  ⟨0x05, .u 2, .rwc, .O, 1472, .le 0x7FF, 0x2123⟩, /- CAN_ID_OUT -/
  ⟨0x06, .bool, .rwc, .O, 1, .any, 0x2123⟩, /- CAN_OWNER -/
  ⟨0x07, .u 1, .ro, .V, 0, .any, 0x2123⟩] /- SESSIONS -/

/-- Table 12-5. -/
def rows_session : List Row := [
  ⟨0x01, .u 2, .ro, .V, 65535, .any, 0x2123⟩, /- S_TENANT -/
  ⟨0x02, .u 1, .ro, .V, 0, .any, 0x2123⟩, /- S_TRANSPORT -/
  ⟨0x03, .t96, .ro, .V, 0, .any, 0x2123⟩, /- S_OPENED -/
  ⟨0x04, .t96, .ro, .V, 0, .any, 0x2123⟩] /- S_LAST_RX -/

/-- Table 12-6. -/
def rows_tenant : List Row := [
  ⟨0x01, .bool, .rwc, .O, 0, .any, 0x2123⟩, /- ENABLE -/
  ⟨0x02, .u 1, .rwc, .O, 3, .le 3, 0x2123⟩, /- CLASS -/
  ⟨0x03, .oct 32, .rwc, .O, 0, .any, 0x2123⟩, /- CERT_KEY -/
  ⟨0x04, .bool, .rwc, .O, 0, .any, 0x2123⟩, /- TIME_RIGHT -/
  ⟨0x05, .u 4, .rwc, .O, 0, .le 192512, 0x2123⟩, /- CELL_QUOTA -/
  ⟨0x06, .u 8, .rwc, .O, 0, .mult 67108864 0xFFFFFFFFFFFFFFFF, 0x2123⟩, /- DRAM_QUOTA -/
  ⟨0x07, .u 8, .rwc, .O, 0, .mult 67108864 0xFFFFFFFFFFFFFFFF, 0x2123⟩, /- ARCHIVE_BYTES -/
  ⟨0x08, .u 8, .rwc, .O, 0, .mult 67108864 0xFFFFFFFFFFFFFFFF, 0x2123⟩, /- WORK_BYTES -/
  ⟨0x09, .u 8, .rwc, .O, 0, .any, 0x2123⟩, /- DRAM_RATE -/
  ⟨0x0A, .u 4, .rwc, .O, 65536, .rg 64 16777216, 0x2123⟩, /- DRAM_BURST -/
  ⟨0x0B, .u 8, .rwc, .O, 0, .any, 0x2123⟩, /- LANE_QUOTA -/
  ⟨0x0C, .u 2, .rwc, .O, 0, .le 4096, 0x2123⟩, /- PATH_QUOTA -/
  ⟨0x0D, .u 8, .rwc, .O, 0, .any, 0x2123⟩, /- MAC_QUOTA -/
  ⟨0x0E, .u 4, .rwc, .O, 0, .le 458752, 0x2123⟩, /- DESC_QUOTA -/
  ⟨0x0F, .u 1, .rwc, .O, 4, .le 64, 0x2123⟩, /- CLAUSE_QUOTA -/
  ⟨0x10, .u 1, .rwc, .O, 0, .le 1, 0x2123⟩, /- RETENTION -/
  ⟨0x11, .u 1, .ro, .V, 0, .any, 0x2123⟩, /- OVER_QUOTA -/
  ⟨0x12, .u 4, .ro, .V, 0, .any, 0x2123⟩, /- USED_CELLS -/
  ⟨0x13, .u 8, .ro, .V, 0, .any, 0x2123⟩, /- USED_DRAM -/
  ⟨0x14, .u 8, .ro, .V, 0, .any, 0x2123⟩, /- USED_LANE -/
  ⟨0x15, .u 2, .ro, .V, 0, .any, 0x2123⟩, /- USED_PATHS -/
  ⟨0x16, .u 8, .ro, .V, 0, .any, 0x2123⟩, /- USED_MACS -/
  ⟨0x17, .u 4, .ro, .V, 0, .any, 0x2123⟩, /- USED_DESC -/
  ⟨0x18, .u 8, .ro, .V, 0, .any, 0x2123⟩, /- ARCHIVE_BASE -/
  ⟨0x19, .u 8, .ro, .V, 0, .any, 0x2123⟩, /- WORK_BASE -/
  ⟨0x1A, .u 8, .ro, .V, 0, .any, 0x2123⟩] /- RECLAIMED -/

/-- Table 12-8. -/
def rows_clauseSlot : List Row := [
  ⟨0x01, .u 1, .ro, .V, 0, .any, 0x2123⟩, /- CL_STATE -/
  ⟨0x02, .u 2, .ro, .V, 65535, .any, 0x2123⟩, /- CL_TENANT -/
  ⟨0x03, .u 2, .ro, .V, 65535, .any, 0x2123⟩, /- CL_SESSION -/
  ⟨0x04, .t96, .ro, .V, 0, .any, 0x2123⟩, /- LEASE_END -/
  ⟨0x05, .t64, .ro, .V, 0, .any, 0x2123⟩, /- WHEN -/
  ⟨0x06, .u 1, .ro, .V, 0, .any, 0x2123⟩, /- LOCKS -/
  ⟨0x07, .u 1, .ro, .V, 0, .any, 0x2123⟩, /- CL_RETRIES -/
  ⟨0x08, .u 4, .ro, .V, 0, .any, 0x2123⟩, /- ROLLBACKS -/
  ⟨0x09, .u 4, .ro, .V, 0, .any, 0x2123⟩] /- CHAIN_ORPHANS -/

/-- Table 13-6. -/
def rows_modes : List Row := [
  ⟨0x01, .u 1, .ro, .V, 11, .any, 0x2131⟩, /- MODE -/
  ⟨0x02, .u 2, .ro, .V, 1024, .any, 0x2131⟩, /- CONDITIONS -/
  ⟨0x03, .u 1, .wo, .O, 0, .rg 1 7, 0x2131⟩, /- MODE_REQ -/
  ⟨0x04, .t96, .ro, .V, 0, .any, 0x2131⟩, /- MODE_SINCE -/
  ⟨0x05, .u 2, .ro, .V, 0, .any, 0x2131⟩, /- SAFE_CAUSE -/
  ⟨0x06, .u 4, .ro, .V, 0, .any, 0x2131⟩, /- START_COUNT -/
  ⟨0x07, .u 4, .ro, .V, 0, .any, 0x2131⟩, /- LAST_START -/
  ⟨0x08, .u 4, .ro, .V, 0, .any, 0x2131⟩, /- CONFIG_SEQ -/
  ⟨0x09, .u 4, .ro, .V, 0, .any, 0x2131⟩, /- SCHED_LOST -/
  ⟨0x0A, .t64, .rw, .O, 0, .any, 0x2131⟩, /- WAKE_AT -/
  ⟨0x0B, .u 1, .ro, .V, 0, .any, 0x2131⟩] /- LAST_WAKE -/

/-- Table 13-6. -/
def rows_fw : List Row := [
  ⟨0x01, .dom, .wo, .O, 0, .any, 0x2131⟩, /- FW_IMAGE -/
  ⟨0x02, .u 1, .ro, .V, 0, .any, 0x2131⟩, /- FW_ACTIVE -/
  ⟨0x03, .u 4, .ro, .V, 0, .any, 0x2131⟩, /- FW_VERSION_A -/
  ⟨0x04, .u 4, .ro, .V, 0, .any, 0x2131⟩, /- FW_VERSION_B -/
  ⟨0x05, .u 1, .ro, .V, 0, .any, 0x2131⟩, /- FW_STATE -/
  ⟨0x06, .u 1, .wo, .O, 0, .rg 1 2, 0x2131⟩, /- FW_ACTIVATE -/
  ⟨0x07, .u 4, .ro, .V, 0, .any, 0x2131⟩] /- FW_MIN_VERSION -/

/-- Table 13-7. -/
def rows_power : List Row := [
  ⟨0x01, .u 4, .ro, .V, 0, .any, 0x2131⟩, /- P_LIMIT -/
  ⟨0x02, .u 4, .ro, .V, 0, .any, 0x2131⟩, /- P_EST -/
  ⟨0x03, .u 2, .rwc, .O, 2700, .rg 2700 5500, 0x2131⟩, /- VIN_FLOOR -/
  ⟨0x04, .u 2, .ro, .V, 0, .any, 0x2131⟩, /- VIN_MEAS -/
  ⟨0x05, .u 2, .ro, .V, 0, .any, 0x2131⟩, /- VIN_MIN_10S -/
  ⟨0x06, .u 2, .rwc, .O, 250, .rg 50 10000, 0x2131⟩, /- THETA_JA -/
  ⟨0x07, .i 2, .rwc, .O, 85, .srg (-40) 85, 0x2131⟩, /- TAMB_MAX -/
  ⟨0x08, .u 4, .ro, .V, 100000, .any, 0x2131⟩, /- P_THERMAL -/
  ⟨0x09, .u 4, .ro, .V, 0, .any, 0x2131⟩, /- P_REFUSALS -/
  ⟨0x0A, .u 1, .ro, .V, 0, .any, 0x2131⟩] /- P_FLAGS -/

/-- Table 13-7. -/
def rows_thermal : List Row := [
  ⟨0x01, .i 2, .ro, .V, 0, .any, 0x2131⟩, /- TJ_MAX -/
  ⟨0x02, .oct 16, .ro, .V, 0, .any, 0x2131⟩, /- TJ_DIE -/
  ⟨0x03, .i 2, .rwc, .O, 1050, .rg 900 1080, 0x2131⟩, /- TJ_THROTTLE -/
  ⟨0x04, .u 1, .ro, .V, 0, .any, 0x2131⟩, /- THROTTLED -/
  ⟨0x05, .u 4, .ro, .V, 0, .any, 0x2131⟩] /- THROTTLE_EVENTS -/

/-- Table 14-6. -/
def rows_integrity : List Row := [
  ⟨0x01, .u 4, .ro, .V, 0, .any, 0x2141⟩, /- EVT_SEQ -/
  ⟨0x02, .u 8, .ro, .V, 0, .any, 0x2141⟩, /- FSRAM_CE -/
  ⟨0x03, .u 4, .ro, .V, 0, .any, 0x2141⟩, /- FSRAM_UE -/
  ⟨0x04, .u 8, .ro, .V, 0, .any, 0x2141⟩, /- FABRIC_PARITY -/
  ⟨0x05, .u 4, .ro, .V, 0, .any, 0x2141⟩, /- FABRIC_POISON -/
  ⟨0x06, .u 8, .ro, .V, 0, .any, 0x2141⟩, /- QCELL_CE -/
  ⟨0x07, .u 4, .ro, .V, 0, .any, 0x2141⟩, /- QCELL_UE -/
  ⟨0x08, .u 4, .ro, .V, 0, .any, 0x2141⟩] /- GOB_MISMATCH -/

/-- Table 14-6. -/
def rows_events : List Row := [
  ]
  ++ ((List.range 64).map fun k => ⟨0x01 + k, .oct 16, .ro, .V, 0, .any, 0x2141⟩ /- EVENT -/)

/-- Table 14-7. -/
def rows_cullet : List Row := [
  ⟨0x01, .u 1, .rwc, .O, 1, .le 1, 0x2141⟩, /- SPARE_POLICY -/
  ⟨0x02, .bool, .rwc, .O, 0, .any, 0x2141⟩, /- PPR_AUTO -/
  ⟨0x03, .u 1, .w1, .O, 0, .le 3, 0x2141⟩, /- PPR_NOW -/
  ⟨0x04, .u 2, .ro, .V, 224, .any, 0x2141⟩, /- SLICE_SPARES -/
  ⟨0x05, .u 2, .ro, .V, 0, .any, 0x2141⟩, /- SLICES_OUT -/
  ⟨0x06, .u 4, .rwc, .O, 1048576, .rg 65536 16777216, 0x2141⟩, /- SHADOW_LEN -/
  ⟨0x07, .u 2, .rwc, .O, 8, .rg 4 1024, 0x2141⟩, /- SHADOW_BURSTS -/
  ⟨0x08, .u 4, .rwc, .O, 4096, .rg 16 65536, 0x2141⟩, /- FADE_LEN -/
  ⟨0x09, .u 2, .rwc, .O, 8, .rg 1 1024, 0x2141⟩, /- FADE_BURSTS -/
  ⟨0x0A, .u 4, .rwc, .O, 200000, .rg 10000 10000000, 0x2141⟩, /- DRIFT_LIMIT -/
  ⟨0x0B, .u 2, .rwc, .O, 8, .rg 1 64, 0x2141⟩, /- OFFSET_LIMIT -/
  ⟨0x0C, .u 2, .rwc, .O, 4, .rg 1 1000, 0x2141⟩, /- WIRE_LIMIT -/
  ⟨0x0D, .u 1, .w1, .O, 0, .le 15, 0x2141⟩, /- LANE_RESTORE -/
  ⟨0x0E, .u 2, .ro, .V, 448, .any, 0x2141⟩, /- WIRE_SPARES -/
  ⟨0x0F, .u 4, .ro, .V, 3968, .any, 0x2141⟩, /- ROW_SPARES -/
  ⟨0x10, .u 4, .ro, .V, 0, .any, 0x2141⟩] /- SUBSTITUTIONS -/

/-- Table 14-8. -/
def rows_sliceSpare : List Row := [
  ⟨0x01, .u 1, .wo, .P, 0, .oneOf [0, 1, 2, 3, 15], 0x2141⟩, /- SUBST_REQ -/
  ⟨0x02, .u 1, .ro, .V, 0, .any, 0x2141⟩, /- SUBST_STATE -/
  ⟨0x03, .u 1, .ro, .V, 255, .any, 0x2141⟩, /- SPARE_FOR -/
  ⟨0x04, .u 1, .ro, .V, 0, .any, 0x2141⟩, /- SLICE_HEALTH -/
  ⟨0x05, .u 1, .ro, .V, 0, .any, 0x2141⟩, /- SUBST_CAUSE -/
  ⟨0x06, .t96, .ro, .V, 0, .any, 0x2141⟩] /- SUBST_TIME -/

/-- Table 14-9. -/
def rows_ageing : List Row := [
  ⟨0x01, .u 4, .ro, .V, 0, .any, 0x2141⟩, /- AGE_PPM -/
  ⟨0x02, .u 4, .ro, .V, 0, .any, 0x2141⟩, /- AGE_RATE -/
  ⟨0x03, .u 4, .ro, .V, 4294967295, .any, 0x2141⟩, /- LIFE_LEFT -/
  ⟨0x04, .u 4, .rwc, .O, 40000, .rg 1000 50000, 0x2141⟩, /- AGE_WARN -/
  ⟨0x05, .t96, .ro, .V, 0, .any, 0x2141⟩] /- AGE_TIME -/

/-- Table 15-7. -/
def rows_amp : List Row := [
  ⟨0x01, .u 1, .ro, .V, 1, .any, 0x2151⟩, /- AMP_STATE -/
  ⟨0x02, .u 1, .ro, .V, 0, .any, 0x2151⟩, /- LOOP -/
  ⟨0x03, .bool, .w1, .O, 0, .any, 0x2151⟩, /- SEAL -/
  ⟨0x04, .bool, .w1, .O, 0, .any, 0x2151⟩, /- UNSEAL -/
  ⟨0x05, .u 4, .ro, .V, 0, .any, 0x2151⟩, /- EVENT_COUNT -/
  ⟨0x06, .oct 65, .ro, .V, 0, .any, 0x2151⟩, /- PUBKEY -/
  ⟨0x07, .oct 8, .ro, .V, 0, .any, 0x2151⟩, /- KEY_ID -/
  ⟨0x08, .u 4, .ro, .V, 0, .any, 0x2151⟩, /- LEGAL_CHECKSUM -/
  ⟨0x09, .vstr, .ro, .V, 0, .any, 0x2151⟩, /- AMP_FW_ID -/
  ⟨0x0A, .bool, .w1, .O, 0, .any, 0x2151⟩] /- AMP_RESTART -/

/-- Table 15-7. -/
def rows_ampProg : List Row := [
  ⟨0x01, .oct 64, .rw, .O, 0, .any, 0x2151⟩, /- PROG_KEY -/
  ⟨0x02, .dom, .wo, .O, 0, .any, 0x2151⟩, /- PROG_IMAGE -/
  ⟨0x03, .dom, .rw, .O, 0, .any, 0x2151⟩, /- PARAMS -/
  ⟨0x04, .bool, .w1, .O, 0, .any, 0x2151⟩, /- PROG_ACTIVATE -/
  ⟨0x05, .u 1, .ro, .V, 0, .any, 0x2151⟩, /- PROG_STATE -/
  ⟨0x06, .vstr, .ro, .V, 0, .any, 0x2151⟩, /- PROG_ID -/
  ⟨0x07, .u 4, .rw, .A, 0, .any, 0x2151⟩] /- PROG_STATUS -/

/-- Table 15-7. -/
def rows_legalSet : List Row := [
  ]
  ++ ((List.range 64).map fun k => ⟨0x01 + k, .u 2, .rw, .O, 65535, .leOr 895 0xFFFF, 0x2151⟩ /- LEGAL_CH -/)

/-- Table 15-7. -/
def rows_lrec : List Row := [
  ⟨0x01, .u 2, .ro, .S, 0, .any, 0x2151⟩, /- LREC_COUNT -/
  ⟨0x02, .dom, .ro, .S, 0, .any, 0x2151⟩, /- LREC_HEAD -/
  ⟨0x03, .u 4, .wo, .S, 0, .any, 0x2151⟩, /- LREC_POP -/
  ⟨0x04, .u 2, .rw, .O, 0, .le 1023, 0x2151⟩, /- LREC_TENANT -/
  ⟨0x05, .u 2, .rw, .O, 65535, .leOr 8191 0xFFFF, 0x2151⟩, /- LREC_COPY -/
  ⟨0x06, .u 4, .ro, .V, 0, .any, 0x2151⟩] /- LREC_LOST -/

/-- Table 15-7. -/
def rows_audit : List Row := [
  ⟨0x01, .u 4, .ro, .V, 0, .any, 0x2151⟩, /- AUDIT_NEXT -/
  ⟨0x02, .u 4, .rw, .V, 0, .any, 0x2151⟩, /- AUDIT_SEL -/
  ⟨0x03, .oct 64, .ro, .V, 0, .any, 0x2151⟩, /- AUDIT_ENTRY -/
  ⟨0x04, .oct 64, .ro, .V, 0, .any, 0x2151⟩, /- AUDIT_SIG -/
  ⟨0x05, .u 2, .ro, .V, 3072, .any, 0x2151⟩, /- CHANGES_LEFT -/
  ⟨0x06, .u 4, .ro, .V, 0, .any, 0x2151⟩, /- NOTICES_LOST -/
  ⟨0x07, .u 4, .ro, .V, 4294967295, .any, 0x2151⟩] /- OLDEST_NOTICE -/

/-- Table 16-10. -/
def rows_ctrlBalls : List Row := [
  ⟨0x01, .u 2, .rwc, .O, 3, .le 0x0FFF, 0x2161⟩, /- ALERT_MASK -/
  ⟨0x02, .bool, .ro, .V, 0, .any, 0x2161⟩, /- ALERT_STATE -/
  ⟨0x03, .u 1, .ro, .V, 1, .any, 0x2161⟩, /- LAST_RESET -/
  ⟨0x04, .u 2, .ro, .V, 0, .any, 0x2161⟩, /- VDDQ_MEAS -/
  ⟨0x05, .bool, .ro, .V, 0, .any, 0x2161⟩, /- REFCLK_OK -/
  ⟨0x06, .bool, .ro, .V, 0, .any, 0x2161⟩] /- JTAG_LOCK -/

/-- The entries of a group. -/
def rowsOf : Grp → List Row
  | .die => rows_die
  | .time => rows_time
  | .ptp => rows_ptp
  | .blTime => rows_blTime
  | .launch => rows_launch
  | .trigger => rows_trigger
  | .channel => rows_channel
  | .quad => rows_quad
  | .bank => rows_bank
  | .path => rows_path
  | .lehrEngine => rows_lehrEngine
  | .punty => rows_punty
  | .matrix => rows_matrix
  | .rings => rows_rings
  | .queue => rows_queue
  | .fritEngine => rows_fritEngine
  | .fritCtx => rows_fritCtx
  | .fritJob => rows_fritJob
  | .freeze => rows_freeze
  | .dramSet => rows_dramSet
  | .dramWin => rows_dramWin
  | .dramCh => rows_dramCh
  | .dramPort => rows_dramPort
  | .laneCx => rows_laneCx
  | .lane => rows_lane
  | .bundle => rows_bundle
  | .mac => rows_mac
  | .route => rows_route
  | .inj => rows_inj
  | .injRule => rows_injRule
  | .identity => rows_identity
  | .adpPorts => rows_adpPorts
  | .session => rows_session
  | .tenant => rows_tenant
  | .clauseSlot => rows_clauseSlot
  | .modes => rows_modes
  | .fw => rows_fw
  | .power => rows_power
  | .thermal => rows_thermal
  | .integrity => rows_integrity
  | .events => rows_events
  | .cullet => rows_cullet
  | .sliceSpare => rows_sliceSpare
  | .ageing => rows_ageing
  | .amp => rows_amp
  | .ampProg => rows_ampProg
  | .legalSet => rows_legalSet
  | .lrec => rows_lrec
  | .audit => rows_audit
  | .ctrlBalls => rows_ctrlBalls
  | .capList => []

/-- The entry of a group at a subindex. -/
def rowAt (g : Grp) (sub : Nat) : Option Row := (rowsOf g).find? fun r => r.sub == sub

/-- The value an entry has while nothing has written it: the table's default; SLICE defaults to the
channel's own slice (Table 4-8) and tenant 0 is enabled with CLASS 0 (Table 12-6). -/
def dfltOf (r : Reg) : Nat :=
  if r.grp = .channel ∧ r.sub = 0x1F then r.inst % 4
  else if r.grp = .tenant ∧ r.inst = 0 ∧ r.sub = 0x01 then 1
  else if r.grp = .tenant ∧ r.inst = 0 ∧ r.sub = 0x02 then 0
  else match rowAt r.grp r.sub with
    | some w => w.dflt
    | none => 0

/-- The octets of a type of fixed length (Table 0-5); 0 for VSTR and DOM. -/
def Ty.octets : Ty → Nat
  | .bool => 1 | .u n => n | .i n => n | .t64 => 8 | .t96 => 12 | .vstr => 0 | .oct n => n | .dom => 0

/-- May the access code be read (Table 0-6). -/
def Acc.readable : Acc → Bool
  | .wo => false
  | _ => true

/-- May the access code be written (Table 0-6). -/
def Acc.writable : Acc → Bool
  | .ro => false
  | _ => true

/-- Does the code carry suffix C: accepted only inside a clause (Table 0-6). -/
def Acc.clauseOnly : Acc → Bool
  | .rwc | .rwcl => true
  | _ => false

/-- Does the code carry suffix L: frozen on a sealed legal channel (Table 0-6). -/
def Acc.legal : Acc → Bool
  | .rwcl => true
  | _ => false

/-- Is the entry part of the committed configuration: access RW or suffix C (R324). -/
def Acc.config : Acc → Bool
  | .rw | .rwc | .rwcl => true
  | _ => false

/-- The order of the rights classes: O above P above S above V; A stands outside (R11). -/
def Cls.rank : Cls → Nat
  | .A => 4 | .O => 3 | .P => 2 | .S => 1 | .V => 0

/-- A class holds the rights of another (R11). Class A is held by no tenant. -/
def Cls.covers (held need : Cls) : Bool := need ≠ .A && need.rank ≤ held.rank

/-- The class that a tenant entry's CLASS names (Table 12-6). -/
def Cls.ofClass : Nat → Cls
  | 0 => .O | 1 => .P | 2 => .S | _ => .V

namespace Part

/-- Channels fitted: 128 on each front die (Table 0-2). -/
def channels (p : Part) : Nat := 128 * p.fronts
/-- Quads fitted: 32 on each front die (Table 0-2). -/
def quads (p : Part) : Nat := 32 * p.fronts
/-- Banks fitted: 4 on each front die (Table 0-2). -/
def banks (p : Part) : Nat := 4 * p.fronts
/-- DRAM controllers: two on BH128 and BH384, four on BH640 and BH896 (Table 1-1). -/
def drams (p : Part) : Nat := if p.fronts ≤ 3 then 2 else 4
/-- Lanes without spares (Table 1-1). -/
def lanes (p : Part) : Nat := if p.fronts ≤ 3 then 8 else 16
/-- Spare lanes (Table 1-1). -/
def spareLanes (p : Part) : Nat := if p.fronts ≤ 3 then 1 else 2
/-- The TIA input stage is on the BH896 only (Table 0-1). -/
def tia (p : Part) : Bool := p.fronts == 7
/-- Clock islands: 64 on the hub die and 24 on each front die (Table 1-1). -/
def islands (p : Part) : Nat := 64 + 24 * p.fronts
/-- Dies in the package (Table 0-1). -/
def dies (p : Part) : Nat := p.fronts + 1
/-- The members of Table 0-1 have one, three, five or seven front dies (R1). -/
def valid (p : Part) : Bool := p.fronts == 1 || p.fronts == 3 || p.fronts == 5 || p.fronts == 7
/-- A lane index of Table 11-6 that the part bonds out: 0 to 15 for L0 to L15, 16 and 17 for LS0, LS1. -/
def laneFitted (p : Part) (l : Nat) : Bool := l < p.lanes || (16 ≤ l && l < 16 + p.spareLanes)
/-- The fabric ports whose unit the part has (Tables 1-1 and 1-4, R12). -/
def portFitted (p : Part) (k : Nat) : Bool :=
  if k < 7 then k < p.fronts
  else if k < 11 then k - 7 < p.drams
  else if k = 13 then p.frit
  else k < 16

end Part

/-- Which instances of a group a part has (R3, R12). -/
def instFitted (p : Part) (g : Grp) (i : Nat) : Bool :=
  match g with
  | .channel | .punty => i < p.channels
  | .quad | .sliceSpare => i < p.quads
  | .bank => i < p.banks
  | .die => i < p.fronts
  | .ageing => i ≤ p.fronts
  | .path => i < 4096
  | .queue => i < 8192
  | .tenant => i < 1024
  | .session => i < 64
  | .clauseSlot => 1 ≤ i && i ≤ 64
  | .ptp | .mac => i < 4
  | .trigger => i < 16
  | .fritEngine => p.frit && i == 0
  | .fritCtx => p.frit && i < 64
  | .fritJob => p.frit && i < 32
  | .dramCh => i < p.drams
  | .dramPort => p.portFitted i
  | .lane => p.laneFitted i
  | .bundle => i < 2
  | .route => i < 64
  | .injRule => i < 16
  | .amp | .ampProg | .legalSet | .lrec => p.amp && i == 0
  | .capList => i < 256
  | _ => i == 0

/-- Which entry of an instance a part has: TIA entries only where the TIA is fitted (R72), the ring entries of
the dies fitted (R208). -/
def subFitted (p : Part) (g : Grp) (sub : Nat) : Bool :=
  match g with
  | .channel => p.tia || !(sub == 0x03 || sub == 0x04 || sub == 0x05)
  | .rings => sub < 0x10 || sub / 16 ≤ p.fronts
  | _ => true

/-- The index map (Table 12-1): the group and instance that an index names. -/
def groupAt (idx : Nat) : Option (Grp × Nat) :=
  if idx = 0x1000 then some (.identity, 0)
  else if idx = 0x1100 then some (.adpPorts, 0)
  else if 0x1101 ≤ idx ∧ idx ≤ 0x1140 then some (.session, idx - 0x1101)
  else if 0x1141 ≤ idx ∧ idx ≤ 0x1180 then some (.clauseSlot, idx - 0x1140)
  else if 0x1F00 ≤ idx ∧ idx ≤ 0x1FFF then some (.capList, idx - 0x1F00)
  else if idx = 0x2000 then some (.modes, 0)
  else if idx = 0x2010 then some (.power, 0)
  else if idx = 0x2020 then some (.fw, 0)
  else if idx = 0x2040 then some (.lehrEngine, 0)
  else if idx = 0x2100 then some (.thermal, 0)
  else if 0x2110 ≤ idx ∧ idx ≤ 0x2117 then some (.ageing, idx - 0x2110)
  else if idx = 0x2120 then some (.ctrlBalls, 0)
  else if 0x2C00 ≤ idx ∧ idx ≤ 0x2FFF then some (.tenant, idx - 0x2C00)
  else if idx = 0x3000 then some (.time, 0)
  else if 0x3100 ≤ idx ∧ idx ≤ 0x3103 then some (.ptp, idx - 0x3100)
  else if idx = 0x3200 then some (.blTime, 0)
  else if idx = 0x3300 then some (.launch, 0)
  else if 0x3301 ≤ idx ∧ idx ≤ 0x3310 then some (.trigger, idx - 0x3301)
  else if 0x4000 ≤ idx ∧ idx ≤ 0x437F then some (.channel, idx - 0x4000)
  else if 0x4400 ≤ idx ∧ idx ≤ 0x44DF then some (.quad, idx - 0x4400)
  else if 0x4500 ≤ idx ∧ idx ≤ 0x451B then some (.bank, idx - 0x4500)
  else if 0x4600 ≤ idx ∧ idx ≤ 0x4606 then some (.die, idx - 0x4600)
  else if 0x5000 ≤ idx ∧ idx ≤ 0x5FFF then some (.path, idx - 0x5000)
  else if 0x6000 ≤ idx ∧ idx ≤ 0x637F then some (.punty, idx - 0x6000)
  else if idx = 0x6400 then some (.matrix, 0)
  else if idx = 0x6500 then some (.rings, 0)
  else if idx = 0x7000 then some (.fritEngine, 0)
  else if 0x7010 ≤ idx ∧ idx ≤ 0x704F then some (.fritCtx, idx - 0x7010)
  else if 0x7080 ≤ idx ∧ idx ≤ 0x709F then some (.fritJob, idx - 0x7080)
  else if 0x8000 ≤ idx ∧ idx ≤ 0x9FFF then some (.queue, idx - 0x8000)
  else if idx = 0xA000 then some (.dramSet, 0)
  else if idx = 0xA002 then some (.dramWin, 0)
  else if 0xA010 ≤ idx ∧ idx ≤ 0xA013 then some (.dramCh, idx - 0xA010)
  else if 0xA020 ≤ idx ∧ idx ≤ 0xA02F then some (.dramPort, idx - 0xA020)
  else if idx = 0xA800 then some (.laneCx, 0)
  else if 0xA810 ≤ idx ∧ idx ≤ 0xA821 then some (.lane, idx - 0xA810)
  else if 0xA830 ≤ idx ∧ idx ≤ 0xA831 then some (.bundle, idx - 0xA830)
  else if 0xA840 ≤ idx ∧ idx ≤ 0xA843 then some (.mac, idx - 0xA840)
  else if 0xA8C0 ≤ idx ∧ idx ≤ 0xA8FF then some (.route, idx - 0xA8C0)
  else if idx = 0xB000 then some (.integrity, 0)
  else if idx = 0xB001 then some (.events, 0)
  else if idx = 0xB0C0 then some (.inj, 0)
  else if 0xB0C1 ≤ idx ∧ idx ≤ 0xB0D0 then some (.injRule, idx - 0xB0C1)
  else if idx = 0xB800 then some (.cullet, 0)
  else if 0xB810 ≤ idx ∧ idx ≤ 0xB8EF then some (.sliceSpare, idx - 0xB810)
  else if idx = 0xC000 then some (.amp, 0)
  else if idx = 0xC001 then some (.ampProg, 0)
  else if idx = 0xC002 then some (.legalSet, 0)
  else if idx = 0xC003 then some (.lrec, 0)
  else if idx = 0xC004 then some (.audit, 0)
  else if idx = 0xD000 then some (.freeze, 0)
  else none

/-- The first index of a group: the index of its instance 0 (instance numbers of clause slots start at 1). -/
def Grp.base : Grp → Nat
  | .identity => 0x1000 | .adpPorts => 0x1100 | .session => 0x1101 | .clauseSlot => 0x1140
  | .capList => 0x1F00 | .modes => 0x2000 | .power => 0x2010 | .fw => 0x2020 | .lehrEngine => 0x2040
  | .thermal => 0x2100 | .ageing => 0x2110 | .ctrlBalls => 0x2120 | .tenant => 0x2C00 | .time => 0x3000
  | .ptp => 0x3100 | .blTime => 0x3200 | .launch => 0x3300 | .trigger => 0x3301 | .channel => 0x4000
  | .quad => 0x4400 | .bank => 0x4500 | .die => 0x4600 | .path => 0x5000 | .punty => 0x6000
  | .matrix => 0x6400 | .rings => 0x6500 | .fritEngine => 0x7000 | .fritCtx => 0x7010
  | .fritJob => 0x7080 | .queue => 0x8000 | .dramSet => 0xA000 | .dramWin => 0xA002 | .dramCh => 0xA010
  | .dramPort => 0xA020 | .laneCx => 0xA800 | .lane => 0xA810 | .bundle => 0xA830 | .mac => 0xA840
  | .route => 0xA8C0 | .integrity => 0xB000 | .events => 0xB001 | .inj => 0xB0C0 | .injRule => 0xB0C1
  | .cullet => 0xB800 | .sliceSpare => 0xB810 | .amp => 0xC000 | .ampProg => 0xC001
  | .legalSet => 0xC002 | .lrec => 0xC003 | .audit => 0xC004 | .freeze => 0xD000

/-- The dictionary index of a register. -/
def Reg.index (r : Reg) : Nat := r.grp.base + r.inst

/-- The entry, if the part has it (R3, R297). -/
def entryAt (p : Part) (idx sub : Nat) : Option (Reg × Row) :=
  match groupAt idx with
  | none => none
  | some (g, i) =>
    if instFitted p g i && subFitted p g sub then
      (rowAt g sub).map fun w => (⟨g, i, sub⟩, w)
    else none

/-- The highest subindex present at an index, which subindex 00 holds. -/
def highestSub (p : Part) (idx : Nat) : Option Nat :=
  match groupAt idx with
  | none => none
  | some (g, i) =>
    if instFitted p g i then
      some (((rowsOf g).filter fun w => subFitted p g w.sub).foldl (fun m w => max m w.sub) 0)
    else none

/-- A value lies in its entry's stated range. -/
def Rng.holds (r : Rng) (ty : Ty) (v : Nat) : Bool :=
  match r with
  | .any => true
  | .le n => v ≤ n
  | .ge n => n ≤ v
  | .rg lo hi => lo ≤ v && v ≤ hi
  | .srg lo hi =>
    let x : Int := if 2 * v < 256 ^ ty.octets then v else (v : Int) - 256 ^ ty.octets
    lo ≤ x && x ≤ hi
  | .oneOf l => l.contains v
  | .leOr n x => v ≤ n || v == x
  | .leOr2 n x y => v ≤ n || v == x || v == y
  | .mult m hi => v % m == 0 && v ≤ hi

end Sys2Proof.Machine
end

