-- ==== Sys2Proof/Machine/Ops.lean ====
section
/-! DEFINITION. The named operations on the state: sparse tables in canonical form, registers and domains, the
units' own state, and what leaves the hub. -/

namespace Sys2Proof.Machine

variable {κ α : Type}

/-- The value a sparse list holds at a key, or the default. -/
def alGet [DecidableEq κ] (d : α) : List (κ × α) → κ → α
  | [], _ => d
  | e :: t, k => if e.1 = k then e.2 else alGet d t k

/-- A sparse list without a key. -/
def alErase [DecidableEq κ] (k : κ) : List (κ × α) → List (κ × α)
  | [] => []
  | e :: t => if e.1 = k then alErase k t else e :: alErase k t

/-- Insertion before the first entry with a larger code. -/
def alIns (code : κ → Nat) (k : κ) (v : α) : List (κ × α) → List (κ × α)
  | [] => [(k, v)]
  | e :: t => if code k < code e.1 then (k, v) :: e :: t else e :: alIns code k v t

/-- A sparse list with a key set; a value equal to the key's default removes the entry. -/
def alPut [DecidableEq κ] [DecidableEq α] (code : κ → Nat) (d : α) (k : κ) (v : α) (l : List (κ × α)) :
    List (κ × α) :=
  if v = d then alErase k l else alIns code k v (alErase k l)

/-- The canonical form: codes strictly rising, no entry equal to its key's default. -/
def alWf [DecidableEq α] (code : κ → Nat) (dfl : κ → α) : List (κ × α) → Bool
  | [] => true
  | e :: t => decide (e.2 ≠ dfl e.1) && t.all (fun x => decide (code e.1 < code x.1)) && alWf code dfl t

/-- The entry of a table. -/
def tabGet (d : α) (t : Tab α) (k : Nat) : α := alGet d t k

/-- A table with one entry set. -/
def tabPut [DecidableEq α] (d : α) (k : Nat) (v : α) (t : Tab α) : Tab α := alPut id d k v t

/-- A list with one position changed. -/
def listSet : List α → Nat → α → List α
  | [], _, _ => []
  | _ :: t, 0, v => v :: t
  | a :: t, n + 1, v => a :: listSet t n v

/-- The last n elements of a list. -/
def lastN (n : Nat) (l : List α) : List α := l.drop (l.length - n)

/-- A list without the first element that a test selects. -/
def dropFirst (p : α → Bool) : List α → List α
  | [] => []
  | a :: t => if p a then t else a :: dropFirst p t

/-- The state after an operation on each element of a list, in order. -/
def State.each (s : State) (l : List α) (f : State → α → State) : State := l.foldl f s

/-- The width of a register in bits (Table 0-5). -/
def regBits (r : Reg) : Nat :=
  match rowAt r.grp r.sub with
  | some w => 8 * w.ty.octets
  | none => 0

namespace State

/-- The value of a register. -/
def rd (s : State) (r : Reg) : Nat := alGet (dfltOf r) s.regs r

/-- A register set to a value. -/
def wr (s : State) (r : Reg) (v : Nat) : State :=
  { s with regs := alPut Reg.code (dfltOf r) r v s.regs }

/-- A BOOL register, or any register read as zero and not zero. -/
def rdB (s : State) (r : Reg) : Bool := s.rd r != 0

/-- A signed register of n bits. -/
def rdI (s : State) (r : Reg) (n : Nat) : Int := toSigned n (s.rd r)

/-- A signed register of n bits set to a value. -/
def wrI (s : State) (r : Reg) (n : Nat) (v : Int) : State := s.wr r (ofSigned n v)

/-- One bit of a register set or cleared. -/
def wrBit (s : State) (r : Reg) (i : Nat) (b : Bool) : State := s.wr r (putBit (s.rd r) i b)

/-- A counter increased by n; what it reads beyond its width is not stated (log entry 3). -/
def count (s : State) (r : Reg) (n : Nat) : State :=
  let c := s.rd r + n
  s.wr r (if c < 2 ^ regBits r then c else Config.counterAfterMax r.code c % 2 ^ regBits r)

/-- A domain. -/
def rdDom (s : State) (r : Reg) : List Byte := alGet [] s.doms r

/-- A domain set. -/
def wrDom (s : State) (r : Reg) (l : List Byte) : State := { s with doms := alPut Reg.code [] r l s.doms }

/-- A value is set in the state as the entry's type says. -/
def put (s : State) (r : Reg) : Val → State
  | .num v => s.wr r v
  | .dom l => s.wrDom r l

/-- Something leaves the hub. -/
def emit (s : State) (o : Out) : State := { s with out := s.out ++ [o] }

/-- A code of the hardware family is raised (R340, R377 and the codes 0x7xxx of each chapter). -/
def raise (s : State) (code inst : Nat) : State := s.emit (.raised code inst)

/-- The counter of free values moves on (log entry 15). -/
def bump (s : State) : State := { s with freeCount := s.freeCount + 1 }

/-- Hub time as a linear tick count since the PTP epoch. -/
def now (s : State) : Nat := s.time.ticks

/-- Hub time as a T96. -/
def now96 (s : State) : Nat := t96OfTicks s.time.ticks

/-! ### Parts of the state set whole -/

/-- The part `time` of the state set. -/
def putTime (s : State) (x : TimeSt) : State := { s with time := x }
/-- The part `dram` of the state set. -/
def putDram (s : State) (x : Dram) : State := { s with dram := x }
/-- The part `lehr` of the state set. -/
def putLehr (s : State) (x : Lehr) : State := { s with lehr := x }
/-- The part `matrix` of the state set. -/
def putMatrix (s : State) (x : Matrix) : State := { s with matrix := x }
/-- The part `lanes` of the state set. -/
def putLanes (s : State) (x : Lanes) : State := { s with lanes := x }
/-- The part `mode` of the state set. -/
def putMode (s : State) (x : ModeSt) : State := { s with mode := x }
/-- The part `mram` of the state set. -/
def putMram (s : State) (x : Mram) : State := { s with mram := x }
/-- The part `cores` of the state set. -/
def putCores (s : State) (x : Cores) : State := { s with cores := x }
/-- The part `amp` of the state set. -/
def putAmp (s : State) (x : Ampoule) : State := { s with amp := x }
/-- The part `segments` of the state set. -/
def putSegments (s : State) (x : List Segment) : State := { s with segments := x }
/-- The part `forwarded` of the state set. -/
def putForwarded (s : State) (x : List Fwd) : State := { s with forwarded := x }
/-- The part `held` of the state set. -/
def putHeld (s : State) (x : List HeldReq) : State := { s with held := x }
/-- The part `canIn` of the state set. -/
def putCanIn (s : State) (x : Option (Nat × List Byte)) : State := { s with canIn := x }
/-- The part `poisoned` of the state set. -/
def putPoisoned (s : State) (x : Bool) : State := { s with poisoned := x }
/-- The part `lastClause` of the state set. -/
def putLastClause (s : State) (x : Nat) : State := { s with lastClause := x }

/-! ### Units by number -/

/-- A session. -/
def session (s : State) (i : Nat) : Session := tabGet Session.init s.sessions i
/-- A session set. -/
def setSession (s : State) (i : Nat) (x : Session) : State :=
  { s with sessions := tabPut Session.init i x s.sessions }
/-- A clause slot, 1 to 64. -/
def clause (s : State) (i : Nat) : Clause := tabGet Clause.init s.clauses i
/-- A clause slot set. -/
def setClause (s : State) (i : Nat) (x : Clause) : State :=
  { s with clauses := tabPut Clause.init i x s.clauses }
/-- A time source, 1 to 7. -/
def source (s : State) (i : Nat) : Source := tabGet Source.init s.time.sources i
/-- A time source set. -/
def setSource (s : State) (i : Nat) (x : Source) : State :=
  { s with time := { s.time with sources := tabPut Source.init i x s.time.sources } }
/-- Breimlink time of a direction. -/
def linkTime (s : State) (i : Nat) : LinkTime := tabGet LinkTime.init s.time.links i
/-- Breimlink time of a direction set. -/
def setLinkTime (s : State) (i : Nat) (x : LinkTime) : State :=
  { s with time := { s.time with links := tabPut LinkTime.init i x s.time.links } }
/-- A PTP port with its MAC's transmit timestamps. -/
def ptp (s : State) (i : Nat) : PtpPort := tabGet PtpPort.init s.time.ptp i
/-- A PTP port set. -/
def setPtp (s : State) (i : Nat) (x : PtpPort) : State :=
  { s with time := { s.time with ptp := tabPut PtpPort.init i x s.time.ptp } }
/-- A queue. -/
def queue (s : State) (i : Nat) : Queue := tabGet Queue.init s.queues i
/-- A queue set. -/
def setQueue (s : State) (i : Nat) (x : Queue) : State :=
  { s with queues := tabPut Queue.init i x s.queues }
/-- A DRAM channel. -/
def dramCh (s : State) (i : Nat) : DramCh := tabGet DramCh.init s.dram.chans i
/-- A DRAM channel set. -/
def setDramCh (s : State) (i : Nat) (x : DramCh) : State :=
  { s with dram := { s.dram with chans := tabPut DramCh.init i x s.dram.chans } }
/-- The die link of a front die, 1 to 7. -/
def link (s : State) (d : Nat) : DieLink := tabGet DieLink.init s.links d
/-- A die link set. -/
def setLink (s : State) (d : Nat) (x : DieLink) : State :=
  { s with links := tabPut DieLink.init d x s.links }
/-- A channel's slice, input stage and Gob. -/
def chan (s : State) (n : Nat) : Chan := tabGet Chan.init s.chans n
/-- A channel set. -/
def setChan (s : State) (n : Nat) (x : Chan) : State :=
  { s with chans := tabPut Chan.init n x s.chans }
/-- A quad. -/
def quad (s : State) (q : Nat) : Quad := tabGet Quad.init s.quads q
/-- A quad set. -/
def setQuad (s : State) (q : Nat) (x : Quad) : State :=
  { s with quads := tabPut Quad.init q x s.quads }
/-- The references of a front die, 1 to 7. -/
def dieRef (s : State) (d : Nat) : DieRef := tabGet DieRef.init s.dieRefs d
/-- The references of a front die set. -/
def setDieRef (s : State) (d : Nat) (x : DieRef) : State :=
  { s with dieRefs := tabPut DieRef.init d x s.dieRefs }
/-- The slices of a quad. -/
def spare (s : State) (q : Nat) : Spare := tabGet Spare.init s.spares q
/-- The slices of a quad set. -/
def setSpare (s : State) (q : Nat) (x : Spare) : State :=
  { s with spares := tabPut Spare.init q x s.spares }
/-- A Lehr path. -/
def path (s : State) (p : Nat) : Path := tabGet Path.init s.paths p
/-- The lives of a path that begin when the present one has ended, oldest first (R159, R162). -/
def lives (s : State) (p : Nat) : List Path := tabGet [] s.lehr.waiting p
/-- The lives of a path that wait, set. -/
def setLives (s : State) (p : Nat) (l : List Path) : State :=
  { s with lehr := { s.lehr with waiting := tabPut [] p l s.lehr.waiting } }
/-- A Lehr path set. -/
def setPath (s : State) (p : Nat) (x : Path) : State :=
  { s with paths := tabPut Path.init p x s.paths }
/-- Punty's state of a channel. -/
def cap (s : State) (n : Nat) : Cap := tabGet Cap.init s.caps n
/-- Punty's state of a channel set. -/
def setCap (s : State) (n : Nat) (x : Cap) : State := { s with caps := tabPut Cap.init n x s.caps }
/-- A Frit context. -/
def ctx (s : State) (c : Nat) : FritCtx := tabGet FritCtx.init s.ctxs c
/-- A Frit context set. -/
def setCtx (s : State) (c : Nat) (x : FritCtx) : State :=
  { s with ctxs := tabPut FritCtx.init c x s.ctxs }
/-- A Frit job slot. -/
def job (s : State) (j : Nat) : FritJob := tabGet FritJob.init s.jobs j
/-- A Frit job slot set. -/
def setJob (s : State) (j : Nat) (x : FritJob) : State :=
  { s with jobs := tabPut FritJob.init j x s.jobs }
/-- A lane. -/
def lane (s : State) (l : Nat) : Lane := tabGet Lane.init s.lanes.lanes l
/-- A lane set. -/
def setLane (s : State) (l : Nat) (x : Lane) : State :=
  { s with lanes := { s.lanes with lanes := tabPut Lane.init l x s.lanes.lanes } }
/-- A bundle. -/
def bundle (s : State) (b : Nat) : Bundle := tabGet Bundle.init s.lanes.bundles b
/-- A bundle set. -/
def setBundle (s : State) (b : Nat) (x : Bundle) : State :=
  { s with lanes := { s.lanes with bundles := tabPut Bundle.init b x s.lanes.bundles } }

/-- The numbers of the entries of a register, rising, that are not at their default (`sub` of `grp`). -/
def insts (s : State) (g : Grp) (sub : Nat) : List Nat :=
  (s.regs.filter fun e => decide (e.1.grp = g) && e.1.sub == sub).map fun e => e.1.inst

end State

end Sys2Proof.Machine
end

