-- ==== Sys2Proof/Machine/Flags.lean ====
section
/-! DEFINITION. Marks and flag words, the integrity event ring (R340), the audit trail (R371, R372) and the committed
configuration in MRAM (R324). -/

namespace Sys2Proof.Machine

/-- The marks of two samples together. -/
def marksOr (a b : Marks) : Marks :=
  ⟨a.settling || b.settling, a.late || b.late, a.refSuspect || b.refSuspect, a.overRange || b.overRange,
   a.excFault || b.excFault, a.substituted || b.substituted, a.unset || b.unset⟩

/-- The marks of a list of samples together. -/
def marksAll (l : List Marks) : Marks := l.foldl marksOr Marks.none

/-- The marks of hub time: the time-unset flag while TIME_STATE is UNSET (R37, R323). -/
def State.timeMarks (s : State) : Marks := { Marks.none with unset := s.rd R.tm_TIME_STATE == 0 }

/-- An integrity event record, Table 14-3. -/
def eventRecord (seq time check inst kind : Nat) : Nat :=
  seq % 2 ^ 32 * 2 ^ 96 + time % 2 ^ 64 * 2 ^ 32 + check % 256 * 2 ^ 24 + inst % 65536 * 256 + kind % 256

/-- An integrity event enters the ring at subindex (s mod 64) + 1 (R340). -/
def State.logEvent (s : State) (check inst kind : Nat) : State :=
  let seq := s.rd R.ig_EVT_SEQ
  (s.wr (R.ev_EVENT (seq % 64 + 1)) (eventRecord seq (t64OfTicks s.now) check inst kind)).count R.ig_EVT_SEQ 1

/-- The octets of an audit entry in the order sent (R372). -/
def AuditEntry.octets (e : AuditEntry) : List Byte := octetsOfWords e.words

/-- PREV: the first 16 octets of SHA-256 over the previous entry of the class, as four words (R371, R372). -/
def auditPrev (l : List AuditEntry) : List Nat :=
  match l.getLast? with
  | none => [0, 0, 0, 0]
  | some e => wordsOfOctets ((sha256Octets e.octets).take 16)

/-- The low 32 bits of a number, and the next 32. -/
def words2 (v : Nat) : List Nat := [v % 2 ^ 32, v / 2 ^ 32 % 2 ^ 32]

/-- An audit entry, Table 15-3: words 0 to 15. -/
def auditEntry (kind : Nat) (change : Bool) (tenant eno count checksum time : Nat) (data prev : List Nat) :
    AuditEntry :=
  ⟨kind, change, eno,
   [kind % 256 * 2 ^ 24 + (if change then 0 else 1) * 2 ^ 16 + tenant % 65536, eno, count, checksum,
    time % 2 ^ 32, time / 2 ^ 32 % 2 ^ 32, time / 2 ^ 64 % 2 ^ 32,
    data.getD 0 0, data.getD 1 0, data.getD 2 0, data.getD 3 0] ++ prev ++ [0]⟩

namespace State

/-- EVENT_COUNT and LEGAL_CHECKSUM as an entry holds them: zero on a part without -A (R356). -/
def legalWords (s : State) : Nat × Nat :=
  if s.part.amp then (s.rd R.am_EVENT_COUNT, s.rd R.am_LEGAL_CHECKSUM) else (0, 0)

/-- An entry takes the next ENO and enters its area: a change for good, a notice over the oldest of 1,024
(R371). `time` is a linear tick count; `data` is words 7 to 10. -/
def audit (s : State) (kind : Nat) (change : Bool) (tenant time : Nat) (data : List Nat) : State :=
  let eno := s.rd R.au_AUDIT_NEXT
  let w := s.legalWords
  let held := if change then s.amp.changes else s.amp.notices
  let e := auditEntry kind change tenant eno w.1 w.2 (t96OfTicks time) data (auditPrev held)
  let s := s.count R.au_AUDIT_NEXT 1
  if change then
    let s := s.wr R.au_CHANGES_LEFT (s.rd R.au_CHANGES_LEFT - 1)
    (s.putAmp { s.amp with changes := s.amp.changes ++ [e] })
  else
    let full := 1024 ≤ s.amp.notices.length
    let s := if full then s.count R.au_NOTICES_LOST 1 else s
    let ring := (if full then s.amp.notices.drop 1 else s.amp.notices) ++ [e]
    let s := s.wr R.au_OLDEST_NOTICE (match ring with | [] => 0xFFFFFFFF | o :: _ => o.eno)
    (s.putAmp { s.amp with notices := ring })

/-- The time an entry carries: the Ampoule's last word of hub time (Table 15-1), or on a part without -A hub time. -/
def auditNow (s : State) : Nat := if s.part.amp then s.amp.now else s.now

/-- The entry of a legal notice, by its kind in Table 15-4 (R371, R372). -/
def noticeEntry (s : State) : Notice → State
  | .stepAccepted tenant before written applied =>
    s.audit 0x12 false tenant before (words2 (ofSigned 64 written) ++ words2 (ofSigned 64 applied))
  | .timeSet tenant at_ => s.audit 0x13 false tenant at_ []
  | .refSuspect die => s.audit 0x14 false 0xFFFF s.auditNow [die]
  | .recalibrated die uv => s.audit 0x15 false 0xFFFF s.auditNow [die, uv]
  | .substitution channel cause => s.audit 0x16 false 0xFFFF s.auditNow [channel, cause]

/-- A legal notice goes to the Ampoule (Table 15-1); without one the management cores keep the trail (R356). -/
def legalNotice (s : State) (n : Notice) : State := if s.part.amp then s.emit (.notice n) else s.noticeEntry n

/-- The audit entry that an ENO names, if it is held (R372). -/
def auditHeld (s : State) (eno : Nat) : Option AuditEntry :=
  (s.amp.changes ++ s.amp.notices).find? fun e => e.eno == eno

end State

/-- Is the value of an entry part of the committed configuration: access RW or suffix C (R324). The TENANT of
a path or route is kept with it, so that R325 returns to the claims too (log entry 16). -/
def inConfig (r : Reg) : Bool :=
  (match rowAt r.grp r.sub with | some w => w.acc.config | none => false)
    || r == ⟨.path, r.inst, 0x18⟩ || r == ⟨.route, r.inst, 0x0C⟩

namespace State

/-- The sequence number of the newest valid copy. -/
def configSeq (s : State) : Nat :=
  max (if s.mram.copyA.valid then s.mram.copyA.seq else 0) (if s.mram.copyB.valid then s.mram.copyB.seq else 0)

/-- The configuration in force, as a copy. -/
def snapshot (s : State) (seq : Nat) : Copy :=
  ⟨seq, true, s.regs.filter fun e => inConfig e.1, s.doms.filter fun e => inConfig e.1⟩

/-- The older copy is written and then marked newest (R324). -/
def commitMram (s : State) : State :=
  let seq := s.configSeq + 1
  let c := s.snapshot seq
  let a := s.mram.copyA
  let b := s.mram.copyB
  let useA := !a.valid || (b.valid && a.seq ≤ b.seq)
  let m := if useA then { s.mram with copyA := c } else { s.mram with copyB := c }
  (s.putMram m).wr R.mo_CONFIG_SEQ seq

/-- Is the hub committed to writing MRAM at each change: every mode but Commission (R324). -/
def inCommission (s : State) : Bool := s.mode.base == .commission

/-- After an accepted write: written to MRAM unless the hub is in Commission (R324). -/
def commitIfOutside (s : State) : State := if s.inCommission then s else s.commitMram

end State

end Sys2Proof.Machine
end

