-- ==== Sys2Proof/Machine/Queues.lean ====
section
/-! DEFINITION. Stream queues (chapter 8): cells, spill form, full policy, freeze, stream frames and the consumers. -/

namespace Sys2Proof.Machine

/-- What an operation answers: a status code and the state. -/
abbrev Ans := Nat × State

/-- An operation accepted. -/
def ok (s : State) : Ans := (0, s)

/-- Cells of a frame with n payload octets: ⌈(32 + LENGTH) / 256⌉ (R210). -/
def cellsOf (n : Nat) : Nat := ceilDiv (32 + n) 256

/-- Cells of a frame. -/
def Frame.cells (f : Frame) : Nat := cellsOf f.payload.length

/-- Cells of a list of frames. -/
def cellSum (l : List Frame) : Nat := (l.map Frame.cells).foldl (· + ·) 0

/-- Word 0 of a frame descriptor, Table 8-1. -/
def Frame.word0 (f : Frame) : Nat := f.ftype % 16 * 2 ^ 28 + f.src % 4096 * 2 ^ 16 + f.fseq % 65536

/-- Word 1 of a frame descriptor, Table 8-1. -/
def Frame.word1 (f : Frame) : Nat :=
  ofBool f.start * 2 ^ 31 + ofBool f.stop * 2 ^ 30 + ofBool f.late * 2 ^ 29 + ofBool f.bypassed * 2 ^ 28
    + ofBool f.spilled * 2 ^ 27 + ofBool f.aborted * 2 ^ 26 + ofBool f.loss * 2 ^ 25 + f.payload.length % 65536

/-- Descriptor and payload, as FRAME_HEAD gives them (R221). -/
def Frame.octets (f : Frame) : List Byte :=
  octetsOfWords ([f.word0, f.word1] ++ words2 f.queued) ++ natLE 16 f.launch ++ f.payload

/-- Octets padded with zero octets to a multiple of four (R224). -/
def padFour (l : List Byte) : List Byte := l ++ List.replicate ((4 - l.length % 4) % 4) 0#8

/-- A stream frame: header, padded payload, CRC-32C (R224, Table 8-2), complemented in a frame that its consumer had started when it
was aborted (R222). -/
def streamFrame (hub q : Nat) (f : Frame) : List Byte :=
  let body := octetsOfWords [0x01 * 2 ^ 24 + hub % 256 * 2 ^ 16 + q % 8192, f.word0, f.word1, f.discardedBefore]
    ++ padFour f.payload
  let crc := crc32c body
  body ++ natLE 4 (if f.cut then 2 ^ 32 - 1 - crc else crc)

/-- LAUNCH_EN of a launch word, Table 2-4. -/
def launchEn (w : Nat) : Bool := bitAt w 63
/-- TS_REQ of a launch word. -/
def launchTs (w : Nat) : Bool := bitAt w 62
/-- TS_ID of a launch word. -/
def launchId (w : Nat) : Nat := field w 15 0
/-- LAUNCH_T64 of a launch word. -/
def launchTime (w : Nat) : Nat := field w 127 64

/-- Frames whose cells [lo, hi) of the queue's order were moved to the spill region are marked (R216). -/
def markSpilled (lo hi : Nat) : Nat → List Frame → List Frame
  | _, [] => []
  | at_, f :: t =>
    let e := at_ + f.cells
    (if lo < hi && at_ < hi && lo < e then { f with spilled := true } else f) :: markSpilled lo hi e t

/-- The overlap of two intervals of cells. -/
def overlap (a b c d : Nat) : Nat := min b d - max a c

/-- Cells [lo, lo + k) leave a queue: head and spill region shrink by what they held of them. -/
def Queue.dropCells (x : Queue) (lo k : Nat) : Queue :=
  { x with
    headCells := x.headCells - overlap lo (lo + k) 0 x.headCells
    spillCells := x.spillCells - overlap lo (lo + k) x.headCells (x.headCells + x.spillCells) }

/-- A head that has fallen to 8 cells is refilled from the spill region to 16 (R216). -/
def Queue.refillHead (x : Queue) : Queue :=
  if x.spillCells = 0 ∨ 8 < x.headCells then x
  else
    let m := min (16 - x.headCells) x.spillCells
    { x with headCells := x.headCells + m, spillCells := x.spillCells - m }

/-- The cells of a queue in the pool (R216). -/
def Queue.onChip (x : Queue) : Nat := cellSum x.frames - x.spillCells

/-- The offset in cells and the index of the first frame that no consumer has started. -/
def firstFree : Nat → Nat → List Frame → Option (Nat × Nat)
  | _, _, [] => none
  | off, i, f :: t => if f.started then firstFree (off + f.cells) (i + 1) t else some (off, i)

/-- A frame taken out at an index, its count of losses handed to the next frame (R218). -/
def dropFrameAt (l : List Frame) (i : Nat) : List Frame × Nat :=
  match l.drop i with
  | [] => (l, 0)
  | [f] => (l.take i, f.discardedBefore + 1)
  | f :: g :: t =>
    (l.take i ++ { g with loss := true, discardedBefore := g.discardedBefore + f.discardedBefore + 1 } :: t, 0)

namespace State

/-- Every queue with frames or a configuration, in rising order. -/
def queueIds (s : State) : List Nat := s.queues.map (·.1)

/-- Are the DRAM controllers frozen (R265). -/
def frozen (s : State) : Bool := s.rdB R.fz_FROZEN

/-- The tenant that holds a queue: ⌊q / 8⌋ (R212). -/
def queueTenant (_s : State) (q : Nat) : Nat := q / 8

/-- The reserves of all queues together (R214). -/
def reserveSum (s : State) : Nat :=
  (s.insts .queue 0x03).foldl (fun a q => a + s.rd (R.qu_CELL_RESERVE q)) 0

/-- Cells drawn from the unreserved part of the pool (R214). -/
def unreservedUsed (s : State) : Nat :=
  s.queueIds.foldl (fun a q => a + ((s.queue q).onChip - s.rd (R.qu_CELL_RESERVE q))) 0

/-- Cells a queue may still draw: its reserve, then the unreserved pool, up to CELL_QUOTA; the 4,096 kept cells
are never drawn (R214). -/
def cellRoom (s : State) (q : Nat) : Nat :=
  let held := (s.queue q).onChip
  let res := s.rd (R.qu_CELL_RESERVE q)
  let pool := 192512 - s.reserveSum - s.unreservedUsed
  min (s.rd (R.qu_CELL_QUOTA q) - held) ((res - held) + pool)

/-- Octets of the spill region as cells (R217). -/
def spillRoom (s : State) (q : Nat) : Nat := s.rd (R.qu_SPILL_BYTES q) / 256 - (s.queue q).spillCells

/-- QSTATE after cells have left: full and frozen end when room is there again (R217, R218). -/
def settleQueue (s : State) (q : Nat) : State :=
  let x := s.queue q
  let st := s.rd (R.qu_QSTATE q)
  if st == 0 || st == 4 then s
  else if x.spillCells == 0 then
    (s.setQueue q { x with headCells := 0 }).wr (R.qu_QSTATE q) 1
  else s.wr (R.qu_QSTATE q) 2

/-- Cells of a tenant's queues in the pool: what counts against its cell quota (R212; log entry 17). -/
def usedCells (s : State) (t : Nat) : Nat :=
  (List.range 8).foldl (fun a i => a + (s.queue (8 * t + i)).onChip) 0

/-- The frame at an index of a queue is discarded; the head is refilled in its place unless the region is held (R216, R218,
R219). -/
def discardAt (s : State) (q i : Nat) : State :=
  let x := s.queue q
  let off := cellSum (x.frames.take i)
  match x.frames.drop i with
  | [] => s
  | f :: _ =>
    let r := dropFrameAt x.frames i
    let x := { x.dropCells off f.cells with frames := r.1, lost := x.lost + r.2 }
    let x := if s.frozen then x else x.refillHead
    ((s.setQueue q x).count (R.qu_DISCARDED q) 1).settleQueue q

/-- The oldest frame that no consumer has started leaves a queue, if there is one. -/
def discardOldest (s : State) (q : Nat) : Option State :=
  (firstFree 0 0 (s.queue q).frames).map fun p => s.discardAt q p.2

/-- A new frame is discarded: it takes an FSEQ, and the next frame carries the loss (R218). -/
def discardNew (s : State) (q : Nat) : State :=
  let x := s.queue q
  (s.setQueue q { x with fseq := (x.fseq + 1) % 65536, lost := x.lost + 1 }).count (R.qu_DISCARDED q) 1

/-- Does a frame of k cells fit in a queue now: normal form within its limit, or through its spill region
(R216). Not while the controllers are frozen (R219). -/
def queueFits (s : State) (q k : Nat) : Bool :=
  let x := s.queue q
  let st := s.rd (R.qu_QSTATE q)
  let spill := s.rdB (R.qu_SPILL_EN q) && !s.frozen
  if st == 2 || 0 < x.spillCells then
    let tail := cellSum x.frames - x.headCells - x.spillCells
    spill && (tail + k - 16) ≤ s.spillRoom q
  else if k ≤ s.cellRoom q then true
  else spill && cellSum x.frames + k - 32 ≤ s.rd (R.qu_SPILL_BYTES q) / 256

/-- A frame that fits joins its queue: in normal form, entering spill form, or at the tail (R216). -/
def joinQueue (s : State) (q : Nat) (f : Frame) : State :=
  let x := s.queue q
  let st := s.rd (R.qu_QSTATE q)
  let k := f.cells
  let f := { f with
    fseq := x.fseq, start := x.startNext, loss := 0 < x.lost, discardedBefore := x.lost
    queued := t64OfTicks s.now }
  let frames := x.frames ++ [f]
  let total := cellSum frames
  let x := { x with frames := frames, fseq := (x.fseq + 1) % 65536, startNext := false, lost := 0 }
  let s1 :=
    if st == 2 || 0 < x.spillCells then
      let tail := total - x.headCells - x.spillCells
      let pushed := tail - 16
      let lo := x.headCells + x.spillCells
      (s.setQueue q { x with spillCells := x.spillCells + pushed
                             frames := markSpilled lo (lo + pushed) 0 frames }).wr (R.qu_QSTATE q) 2
    else if k ≤ s.cellRoom q then (s.setQueue q x).wr (R.qu_QSTATE q) 1
    else
      ((s.setQueue q { x with headCells := 16, spillCells := total - 32
                              frames := markSpilled 16 (total - 16) 0 frames }).wr (R.qu_QSTATE q) 2).count
        (R.qu_SPILLS q) 1
  let s2 := s1.count (R.qu_FRAMES_IN q) 1
  if s2.rd (R.qu_PEAK_CELLS q) < total then s2.wr (R.qu_PEAK_CELLS q) total else s2

/-- Frames are discarded from the head until k cells fit, at most n of them (R218). -/
def makeRoom (s : State) (q k : Nat) : Nat → State
  | 0 => s
  | n + 1 =>
    if s.queueFits q k then s
    else match s.discardOldest q with
      | none => s
      | some s' => s'.makeRoom q k n

/-- Could the oldest unstarted frames make room for k cells at all (R218): a trial of `makeRoom`. -/
def roomCanBeMade (s : State) (q k : Nat) : Bool :=
  (s.makeRoom q k (s.queue q).frames.length).queueFits q k

/-- The queue with the oldest unstarted frame among a list of queues, by QUEUED. -/
def oldestOf (s : State) (qs : List Nat) : Option Nat :=
  (qs.foldl (fun (b : Option (Nat × Nat)) q =>
    match firstFree 0 0 (s.queue q).frames with
    | none => b
    | some p =>
      let w := (((s.queue q).frames.drop p.2).map (·.queued)).headD 0
      match b with
      | none => some (q, w)
      | some c => if w < c.2 then some (q, w) else b) none).map (·.1)

/-- With RETENTION 1 whole unstarted frames are discarded until the tenant is within its cell quota, queues in
spill form first (R308). At most n of them. -/
def quotaReclaim (s : State) (t : Nat) : Nat → State
  | 0 => s
  | n + 1 =>
    if s.rd (R.te_RETENTION t) != 1 || s.usedCells t ≤ s.rd (R.te_CELL_QUOTA t) then s
    else
      let mine := (List.range 8).map (8 * t + ·)
      let spilled := mine.filter fun q => 0 < (s.queue q).spillCells
      match (s.oldestOf spilled).orElse (fun _ => s.oldestOf mine) with
      | none => s
      | some q =>
        match s.discardOldest q with
        | none => s
        | some s' => (s'.count (R.te_RECLAIMED t) 1).quotaReclaim t n

/-- All frames of a tenant's queues: the bound of a reclaim. -/
def tenantFrames (s : State) (t : Nat) : Nat :=
  (List.range 8).foldl (fun a i => a + (s.queue (8 * t + i)).frames.length) 0

/-- The reclaim of R308 for a tenant. -/
def reclaim (s : State) (t : Nat) : State := s.quotaReclaim t (s.tenantFrames t)

/-- Would a frame of k cells need spill form (R219). -/
def needsSpill (s : State) (q k : Nat) : Bool :=
  s.rd (R.qu_QSTATE q) == 2 || 0 < (s.queue q).spillCells || (s.rdB (R.qu_SPILL_EN q) && s.cellRoom q < k)

/-- A frame is offered to a queue (R210, R216, R218, R219). The answer tells whether it was taken. -/
def offer (s : State) (q : Nat) (f : Frame) : Bool × State :=
  let st := s.rd (R.qu_QSTATE q)
  let k := f.cells
  if st == 0 then (false, s)
  else if s.frozen && (st == 4 || s.needsSpill q k) then
    let x := s.queue q
    (false, ((s.setQueue q { x with fseq := (x.fseq + 1) % 65536, frozenFrames := x.frozenFrames + 1 }).count
      (R.qu_DISCARDED q) 1).wr (R.qu_QSTATE q) 4)
  else if s.queueFits q k then (true, (s.joinQueue q f).reclaim (s.queueTenant q))
  else if s.rd (R.qu_FULL_POLICY q) == 1 && s.rd (R.te_RETENTION (s.queueTenant q)) == 1 && s.roomCanBeMade q k then
    (true, ((s.makeRoom q k (s.queue q).frames.length).joinQueue q f).reclaim (s.queueTenant q))
  else (false, (s.discardNew q).wr (R.qu_QSTATE q) 3)

/-- The launch word of a frame the hub produces (R213). -/
def launchOf (s : State) (q : Nat) (ref : Option Nat) : Nat :=
  if s.rd (R.qu_LAUNCH_MODE q) == 1 then
    let r := match ref with | some t => t | none => s.now
    ofSigned 64 ((r : Int) + s.rdI (R.qu_LAUNCH_OFFSET q) 64) * 2 ^ 64 + 2 ^ 63
  else 0

/-- A frame the hub produces: type, source, payload, and the reference instant of R213 in ticks. -/
def hubFrame (s : State) (q ftype src : Nat) (payload : List Byte) (ref : Option Nat) : Frame :=
  ⟨ftype, src, 0, false, false, false, false, false, false, false, 0, s.launchOf q ref, payload, false, 0, false⟩

/-- Has a consumer of a queue started on a frame that joins it as its head before the frame is whole: a lane or a subscription with
CT_CELLS above 0 (R222). -/
def cutThroughStarts (s : State) (q : Nat) : Bool :=
  (s.rd (R.qu_CONSUMER q) == 1 || s.rd (R.qu_CONSUMER q) == 2) && s.rd (R.qu_CT_CELLS q) != 0 && (s.queue q).frames == []

/-- A frame enters a queue itself (R211); one with a poisoned word is completed as ABORTED (R337, R222). -/
def enqueueNow (s : State) (q : Nat) (f : Frame) : State :=
  if s.poisoned then
    (((s.putPoisoned false).count (R.qu_ABORTED_FRAMES q) 1).offer q
      { f with aborted := true, cut := s.cutThroughStarts q, payload := f.payload.map fun _ => 0#8 }).2
  else (s.offer q f).2

/-- The channel behind a frame: of a Lehr block its path's SOURCE, of a segment record its own (Table 8-1). -/
def frameChan (s : State) (ftype src : Nat) : Option Nat :=
  let n := if ftype == 1 then (s.path src).fr.source else src
  if (ftype == 1 || ftype == 2) && n < 896 then some n else none

/-- Does the front die behind a frame shed step 3 (R28). -/
def frameShed (s : State) (ftype src : Nat) : Bool :=
  match s.frameChan ftype src with
  | some n => s.rd (R.di_SHED_LEVEL (n / 128)) == 3
  | none => false

/-- A producer's frame is written to a queue (R211), through the context that FRIT_CTX names, or past it with
BYPASSED while its front die sheds step 3; the first block coded after it carries RESET (R28, R239, R240). -/
def enqueue (s : State) (q ftype src : Nat) (payload : List Byte) (ref : Option Nat) : State :=
  let c := s.rd (R.qu_FRIT_CTX q)
  let f := s.hubFrame q ftype src payload ref
  if c == 0xFFFF || s.rd (R.qu_QSTATE q) == 0 then s.enqueueNow q f
  else
    let x := s.ctx c
    if s.frameShed ftype src then
      let s := s.setCtx c { x with bypass := true, history := [], blockLens := [], resetNext := true }
      (s.enqueueNow q { f with bypassed := true }).count (R.fc_BYPASSED_FRAMES c) 1
    else
      let g : FritFrame := ⟨ftype, (s.queue q).startNext && x.pend == [], false, false, wordsOfOctets payload, ref⟩
      (s.setCtx c { x with pend := x.pend ++ [g], bypass := false }).count (R.fc_IN_OCTETS c) payload.length

/-- A frame is consumed: the archive space of a segment whose record it is becomes free (R199). -/
def releasePlace (s : State) (f : Frame) : State :=
  if f.ftype == 2 then
    let a := leNat ((f.payload.drop 64).take 8)
    { s with dram := { s.dram with archive := dropFirst (fun e => e.1 == a) s.dram.archive } }
  else s

/-- The head frame is removed and counted as consumed (R221, R318). -/
def popHead (s : State) (q : Nat) : State :=
  let x := s.queue q
  match x.frames with
  | [] => s
  | f :: t =>
    (((s.setQueue q { x.dropCells 0 f.cells with frames := t, sent := 0 }).count (R.qu_FRAMES_OUT q) 1).settleQueue q).releasePlace f

/-- The frames a consumer can have: all, or in a frozen queue those whose cells all lie in the head (R219). -/
def available (s : State) (q : Nat) : List Frame :=
  let x := s.queue q
  if s.rd (R.qu_QSTATE q) == 4 && 0 < x.spillCells then
    (x.frames.zip (List.range x.frames.length)).filterMap fun p =>
      if cellSum (x.frames.take (p.2 + 1)) ≤ x.headCells then some p.1 else none
  else x.frames

/-- The octets one STREAM message can carry: 16,384 less the header and QUEUE, MSEQ (R298). -/
def streamRoom : Nat := 16368

/-- The head frame goes out in STREAM messages while the session has credit, at most n of them (R318). -/
def streamHead (s : State) (q : Nat) : Nat → State
  | 0 => s
  | n + 1 =>
    let x := s.queue q
    match x.subscriber, (s.available q).head? with
    | some sess, some f =>
      if x.credit == 0 then s
      else
        let all := streamFrame (s.rd R.lx_CHAIN_ADDR) q f
        let rest := all.drop x.sent
        let more := streamRoom < rest.length
        let s1 := s.emit (.stream sess q x.mseq more (rest.take streamRoom))
        let s1 := s1.setQueue q { x with
          credit := x.credit - 1, mseq := (x.mseq + 1) % 65536, sent := x.sent + streamRoom
          frames := (match x.frames with | [] => [] | g :: t => { g with started := true } :: t) }
        if more then s1.streamHead q n else (s1.popHead q).streamHead q n
    | _, _ => s

/-- The subscription of a queue sends what its credit allows (R318): one message uses one credit. -/
def pumpStream (s : State) (q : Nat) : State := s.streamHead q ((s.queue q).credit + 1)

/-- The subscription to a queue ends; a frame begun is not finished (R318, R226). -/
def endSubscription (s : State) (q : Nat) : State :=
  let x := s.queue q
  s.setQueue q { x with
    subscriber := none, credit := 0, mseq := 0, sent := 0
    frames := (match x.frames with | [] => [] | g :: t => { g with started := false } :: t) }

/-- A commit that disables a queue (R226). -/
def disableQueue (s : State) (q : Nat) : State :=
  let x := s.queue q
  let s := s.count (R.qu_DISCARDED q) x.frames.length
  (s.setQueue q Queue.init).wr (R.qu_QSTATE q) 0

/-- A commit that enables a queue: FSEQ counts from 0, the first frame carries START (R226). -/
def enableQueue (s : State) (q : Nat) : State :=
  ((s.setQueue q Queue.init).wr (R.qu_QSTATE q) 1).wr (R.qu_PEAK_CELLS q) 0

/-- A stop marker with END set and the frames lost in DISCARDED_BEFORE (R213, R219). -/
def stopMarker (s : State) (q lost : Nat) : Frame :=
  ⟨7, 0, 0, false, true, false, false, false, false, decide (0 < lost), t64OfTicks s.now, s.launchOf q none, [], false, lost, false⟩

/-- A frozen queue goes on after RELEASE: with its region intact it delivers what it held, else the spill region
and tail are released and counted; then a stop marker, and the next frame carries START (R219). -/
def thawQueue (s : State) (q : Nat) (intact : Bool) : State :=
  let x := s.queue q
  if s.rd (R.qu_QSTATE q) != 4 then s
  else
    let kept := if intact then x.frames else s.available q
    let gone := x.frames.drop kept.length
    let before := gone.foldl (fun a f => a + f.discardedBefore) 0
    let s := s.count (R.qu_DISCARDED q) gone.length
    let m := { s.stopMarker q (x.lost + x.frozenFrames + before + gone.length) with fseq := x.fseq }
    let x := { x with frames := kept ++ [m], fseq := (x.fseq + 1) % 65536, startNext := true, frozenFrames := 0, lost := 0
                      sent := if kept == [] then 0 else x.sent
                      spillCells := if intact then x.spillCells else 0
                      headCells := if intact then x.headCells else 0 }
    ((s.setQueue q x).wr (R.qu_QSTATE q) (if 0 < x.spillCells then 2 else 1)).settleQueue q

/-- Is a FRAME_IN domain well formed (R227). -/
def frameInOk (d : List Byte) : Bool :=
  let w (i : Nat) := leNat ((d.drop (4 * i)).take 4)
  let launch := leNat ((d.drop 16).take 16)
  decide (32 ≤ d.length) && decide (d.length = 32 + field (w 1) 15 0) && decide (field (w 1) 15 0 ≤ 65504)
    && w 0 == 0x60000000 && field (w 1) 31 16 == 0 && w 2 == 0 && w 3 == 0 && field launch 61 16 == 0

/-- A FRAME_IN domain becomes a tenant frame, or is refused (R227); while the tenant exceeds a cut quota a new
cell is refused with 0x4021 (R308). -/
def frameInAct (s : State) (q : Nat) (d : List Byte) : Ans :=
  if !frameInOk d then (0x2082, s)
  else
    let f : Frame := ⟨6, 0, 0, false, false, false, false, false, false, false, 0, leNat ((d.drop 16).take 16),
      d.drop 32, false, 0, false⟩
    let t := s.queueTenant q
    if s.rd (R.qu_QSTATE q) == 0 then (0x4083, s)
    else if s.rd (R.te_CELL_QUOTA t) < s.usedCells t then (0x4021, s)
    else
      let r := s.offer q f
      if r.1 then ok r.2 else (0x4083, s)

/-- A write of FRAME_POP (R221). -/
def framePopAct (s : State) (q fseq : Nat) : Ans :=
  if s.rd (R.qu_CONSUMER q) != 0 then (0x3081, s)
  else match s.available q with
    | [] => (0x3081, s)
    | f :: _ => if f.fseq == fseq then ok (s.popHead q) else (0x3081, s)

end State

/-- Is a payload one that a producer of the type writes: at most 65,504 octets (R210); of Gob or raw words, the 1 to 30 words of one
die-link flit; a 72-octet segment record (R211). Tenant frames and stop markers come from no producer (Table 8-1). -/
def payloadOk (ftype n : Nat) : Bool :=
  n ≤ 65504 && (match ftype with
    | 1 => true
    | 2 => n == 72
    | 3 | 4 => n % 4 == 0 && 4 ≤ n && n ≤ 120
    | 5 => true
    | _ => false)

/-- FRAME_ENQUEUE offers a producer's frame to a queue (R210, R211). -/
def frameEnqueue (q ftype src : Nat) (payload : List Byte) (ref : Option Nat) (s : State) : State :=
  if payloadOk ftype payload.length then s.enqueue q ftype src payload ref else s

/-- SPILL_HEAD_REFILL: a head of at most 8 cells is refilled from the spill region to 16; an empty region returns
the queue to normal form (R216, R217). Held while frozen (R219). -/
def spillHeadRefill (q : Nat) (s : State) : State :=
  let x := s.queue q
  if s.rd (R.qu_QSTATE q) == 4 || x.spillCells == 0 || 8 < x.headCells then s
  else
    (s.setQueue q x.refillHead).settleQueue q

/-- The SECDED check of the head frame's cells as they are read (R210, Table 14-1): a corrected cell is counted; an uncorrectable one is
counted and logged, and the frame is completed as ABORTED, zeros from that cell on, its CRC complemented where a lane or a
subscription has sent the cells before (R222, R340). -/
def State.cellsRead (s : State) (q : Nat) (check : CellCheck) : State :=
  let x := s.queue q
  match check, s.available q, x.frames with
  | .corrected, _ :: _, _ => s.count R.ig_QCELL_CE 1
  | .uncorrectable cell, _ :: _, f :: t =>
    if f.cells ≤ cell then s
    else
      let keep := 256 * cell - 32
      let hw := s.rd (R.qu_CONSUMER q) == 1 || s.rd (R.qu_CONSUMER q) == 2
      let g := { f with
        aborted := true, cut := f.cut || (hw && 0 < cell)
        payload := f.payload.take keep ++ List.replicate (f.payload.length - keep) 0#8 }
      (((s.setQueue q { x with frames := g :: t }).count R.ig_QCELL_UE 1).count (R.qu_ABORTED_FRAMES q) 1).logEvent 4 0 1
  | _, _, _ => s

/-- HW_CONSUMER_START: a consumer starts on the head frame, whose cells are checked as they are read (R210, R222): a lane or Frit has
begun it, a subscription sends it as far as its credit goes (R318), and software reads it whole. -/
def hwConsumerStart (q : Nat) (check : CellCheck) (s : State) : State :=
  let s := s.cellsRead q check
  let x := s.queue q
  if s.rd (R.qu_CONSUMER q) == 2 then s.pumpStream q
  else if s.rd (R.qu_CONSUMER q) == 0 then s
  else match s.available q, x.frames with
    | _ :: _, f :: t => s.setQueue q { x with frames := { f with started := true } :: t }
    | _, _ => s

end Sys2Proof.Machine
end

