-- ==== Sys2Proof/Machine/Memory.lean ====
section
/-! DEFINITION. DRAM (chapter 10): the octets, the address map, allocations, the channels' queues, checks, freeze and
repair. -/

namespace Sys2Proof.Machine

/-- The octets DRAM holds, in canonical form. -/
abbrev Memory := List Host.Cell

/-- What an octet that nothing has written reads as (DESIGN CHOICE, log entry 19). -/
def memDefault : Byte := 0#8

/-- The form holds: addresses strictly rising, no entry equal to what an unlisted address reads as. -/
def Memory.wf (m : Memory) : Bool := alWf id (fun _ => memDefault) m

/-- One octet. -/
def memGet (m : Memory) (a : Nat) : Byte := alGet memDefault m a

/-- One octet written. -/
def memPut (m : Memory) (a : Nat) (b : Byte) : Memory := alPut id memDefault a b m

/-- n octets from an address. -/
def memRead (m : Memory) (a n : Nat) : List Byte := (List.range n).map fun i => memGet m (a + i)

/-- Octets written from an address on. -/
def memWrite (m : Memory) (a : Nat) : List Byte → Memory
  | [] => m
  | b :: t => memWrite (memPut m a b) (a + 1) t

/-- The octets of [a, a + n) return to what memory nothing has written reads as. -/
def memClear (m : Memory) (a n : Nat) : Memory := m.filter fun e => e.1 < a || a + n ≤ e.1

/-- One unit of allocation: 64 MiB (R251). -/
def dramUnit : Nat := 67108864

/-- Capacity of a channel in octets, by configuration (Table 10-1); none outside the table. -/
def dramCapacity : Nat → Nat
  | 0 => 17179869184
  | 1 => 34359738368
  | 2 => 34359738368
  | 3 => 68719476736
  | _ => 0

/-- Are the devices of a configuration 32 Gb (Table 10-1). -/
def dramBig (config : Nat) : Bool := config == 2 || config == 3

/-- The rates of Table 10-1 from DATA_RATE downwards, in the order training tries them (R248). -/
def trainingRates (rate : Nat) : List Nat := [6400, 5600, 4800].filter (· ≤ rate)

/-- The channels a set names, rising. -/
def chanList (n set : Nat) : List Nat := (List.range n).filter (bitAt set)

/-- The parity of the bits of L that a mask selects (R249). -/
def maskParity (l m : Nat) : Nat := (List.range 64).foldl (fun a i => if bitAt m i && bitAt l i then 1 - a else a) 0

/-- The lowest set bit of a mask: its pivot (R250). -/
def pivot (m : Nat) : Nat := ((List.range 64).find? (bitAt m)).getD 64

/-- L[63:7] with the pivot bits removed, lowest bit first packed from bit 0 (R250). -/
def withoutPivots (l : Nat) (ms : List Nat) : Nat :=
  let keep := (List.range 57).filter fun i => !(ms.map pivot).contains (i + 7)
  (keep.zip (List.range keep.length)).foldl (fun a p => a + ofBool (bitAt l (p.1 + 7)) * 2 ^ p.2) 0

/-- F_LOC of a local address of a controller (Table 10-6, R249, R250). -/
def dramLoc (ms : List Nat) (config d l : Nat) : Nat :=
  let par (i : Nat) := maskParity l (ms.getD i 0)
  let bg := par 0 + 2 * par 1 + 4 * par 2
  let ba := par 3 + 2 * par 4
  let w := withoutPivots l ms
  let rowBits := if dramBig config then 17 else 16
  let row := w / 64 % 2 ^ rowBits
  let rank := w / 64 / 2 ^ rowBits % 2
  d % 256 * 2 ^ 56 + l / 64 % 2 * 2 ^ 55 + rank * 2 ^ 54 + bg * 2 ^ 51 + ba * 2 ^ 49 + row * 2 ^ 32 + w % 64 * 2 ^ 26

/-- F_CMD of an access (Table 10-6). -/
def cmdCode : DramCmd → Nat
  | .read => 1 | .write => 2 | .readModifyWrite => 3 | .writeBack => 4 | .patrol => 5

/-- F_KIND of a check that failed (Table 10-6). -/
def checkKind : WordCheck → Nat
  | .clean | .corrected => 0 | .doubleBit _ => 1 | .addressCrc _ => 2

/-- The word of a burst in which a check failed. -/
def checkWord : WordCheck → Nat
  | .doubleBit w | .addressCrc w => w
  | _ => 0

/-- The burst that an address lies in. -/
def burstOf (a : Nat) : Nat := a / 64

/-- The bursts that n octets from an address on lie in (R258). -/
def burstsIn (a n : Nat) : Nat := if n = 0 then 0 else burstOf (a + n - 1) - burstOf a + 1

/-- Do n octets from an address on touch a burst. -/
def touchesBurst (a n b : Nat) : Bool := 0 < n && a < 64 * b + 64 && 64 * b < a + n

/-- Do n octets from an address on fill a burst. -/
def fillsBurst (a n b : Nat) : Bool := a ≤ 64 * b && 64 * b + 64 ≤ a + n

/-- Is a request one burst: a read from its first octet on, a write of octets within it (R247, R252). -/
def burstOk (write : Bool) (addr n : Nat) : Bool := if write then 0 < n && addr % 64 + n ≤ 64 else addr % 64 == 0

/-- CRC-8, polynomial 0x2F, over octets from a value on (Table 10-4). -/
def crc8 (crc : Nat) (octets : List Byte) : Nat :=
  octets.foldl (fun c b => (List.range 8).foldl (fun c _ => if 128 ≤ c then (2 * c % 256) ^^^ 0x2F else 2 * c) (c ^^^ b.toNat)) crc

/-- ACRC of a data word: initial value 0xFF, over the word's 40-bit address and then its eight octets, least significant octet first
(Table 10-4; log entry 141). -/
def acrc (addr : Nat) (word : List Byte) : Nat := crc8 0xFF (natLE 5 (addr % 2 ^ 40) ++ word)

/-- The check octets of a data word: SECDED, then ACRC (Table 10-4; log entries 12 and 141). -/
def checkBits (addr : Nat) (word : List Byte) : List Byte :=
  natLE 2 (Config.secded (leNat word) (acrc addr word) % 256 + 256 * acrc addr word)

/-- Nanoseconds in a number of main-clock edges (R5). -/
def nsOfEdges (e : Nat) : Nat := e * 40000 / 65536

/-- The masks break R250: pivots distinct, at bit 7 or above, and in no other mask. -/
def masksBad (ms : List Nat) : Bool :=
  (List.range ms.length).any fun i =>
    let p := pivot (ms.getD i 0)
    p < 7 || 64 ≤ p || (List.range ms.length).any fun j => j != i && bitAt (ms.getD j 0) p

namespace State

/-- The channels fitted, as a set. -/
def chFitted (s : State) : Nat := 2 ^ s.part.drams - 1

/-- CH_SET as the entry stands, among the channels fitted (its default is all fitted, Table 10-7). -/
def chSetEntry (s : State) : Nat := s.rd R.ds_CH_SET &&& s.chFitted

/-- Capacity of a channel in octets (Table 10-1). -/
def chCapacity (s : State) : Nat := dramCapacity s.dram.config

/-- CH_SET in force since the last cold start (R249). -/
def chSetNow (s : State) : List Nat := chanList s.part.drams s.dram.chSet

/-- The controller and local address of a DRAM address (R249). -/
def dramMap (s : State) (a : Nat) : Option (Nat × Nat) :=
  let set := s.chSetNow
  let n := set.length
  if a < n * s.chCapacity then
    let g := a / 256
    some (set.getD (g % n) 0, g / n * 256 + a % 256)
  else
    let d := a / 2 ^ 40 - 1
    if 2 ^ 40 ≤ a && d < s.part.drams && !set.contains d && a % 2 ^ 40 < s.chCapacity then some (d, a % 2 ^ 40) else none

/-- The regions of a tenant. -/
def regionsOf (s : State) (t : Nat) : List Region := s.dram.regions.filter fun r => r.tenant == t

/-- Octets allocated to a tenant, in whole units (R251). -/
def usedDram (s : State) (t : Nat) : Nat := (s.regionsOf t).foldl (fun a r => a + r.size) 0

/-- The region of a kind of a tenant. -/
def regionOf (s : State) (t k : Nat) : Option Region := s.dram.regions.find? fun r => r.tenant == t && r.kind == k

/-- The lowest address where free units hold a region of `size` octets (R251). -/
def freeRun (s : State) (size : Nat) : Option Nat :=
  let cap := s.chSetNow.length * s.chCapacity
  let free (b : Nat) : Bool := b + size ≤ cap && s.dram.regions.all fun r => b + size ≤ r.base || r.base + r.size ≤ b
  let bases := 0 :: s.dram.regions.map fun r => r.base + r.size
  (bases.filter free).foldl (fun (m : Option Nat) b => match m with | none => some b | some c => some (min b c)) none

/-- A region is placed for a tenant (R251), or there is no run for it. -/
def placeRegion (s : State) (t k octets : Nat) : Option State :=
  let size := ceilDiv octets dramUnit * dramUnit
  (s.freeRun size).map fun b =>
    s.putDram { s.dram with regions := s.dram.regions ++ [⟨t, k, b, size, true⟩] }

/-- A region is released; what it held is lost, and with it the places of an archive (R251; log entries 19 and 25). -/
def releaseRegion (s : State) (t k : Nat) : State :=
  match s.regionOf t k with
  | none => s
  | some r =>
    s.putDram { s.dram with
        mem := memClear s.dram.mem r.base r.size
        archive := s.dram.archive.filter fun e => !(r.base ≤ e.1 && e.1 < r.base + r.size)
        regions := s.dram.regions.filter fun x => !(x.tenant == t && x.kind == k) }

/-- Does [a, a + n) lie in the archive or the work area of a tenant (R251, R252). -/
def inAllocation (s : State) (t a n : Nat) : Bool :=
  (s.regionsOf t).any fun r => r.kind ≤ 1 && r.base ≤ a && a + n ≤ r.base + r.size

/-- The regions that hold an address are marked not intact (R268). -/
def markLost (s : State) (a : Nat) : State :=
  s.putDram { s.dram with regions := s.dram.regions.map fun r =>
      if r.base ≤ a && a < r.base + r.size then { r with intact := false } else r }

/-- Tokens short of a full bucket, times the edges of a second, after filling at DRAM_RATE since (R258). -/
def bucketSpent (s : State) (t : Nat) : Nat :=
  let b := tabGet (0, 0) s.dram.buckets t
  b.1 - s.rd (R.te_DRAM_RATE t) * (s.time.edge - b.2)

/-- May a tenant's request of one burst be charged now: 64 tokens (R258). -/
def bucketHas (s : State) (t : Nat) : Bool :=
  s.bucketSpent t + 64 * edgesPerSec ≤ s.rd (R.te_DRAM_BURST t) * edgesPerSec

/-- 64 tokens for each of some bursts are taken from a tenant's bucket (R258). A bucket that runs short owes the rest, as after
the wait at the port (log entry 142). -/
def chargeBursts (s : State) (t k : Nat) : State :=
  let spent := s.bucketSpent t + 64 * k * edgesPerSec
  (s.putDram { s.dram with buckets := tabPut (0, 0) t (spent, s.time.edge) s.dram.buckets })

/-- A request of one burst is charged (R258). -/
def charge (s : State) (t : Nat) : State := s.chargeBursts t 1

/-- The bank of an address: controller, subchannel, rank, group and bank (Table 10-6). -/
def bankOf (s : State) (d a : Nat) : Nat :=
  match s.dramMap a with
  | some (_, l) => dramLoc s.dram.masks s.dram.config d l / 2 ^ 49
  | none => 0

/-- The row of an address: its bank and row. -/
def rowOf (s : State) (d a : Nat) : Nat :=
  match s.dramMap a with
  | some (_, l) => dramLoc s.dram.masks s.dram.config d l / 2 ^ 32
  | none => 0

/-- Does a request address the bank under repair (R264). -/
def inRepair (s : State) (c : Nat) (r : DramReq) : Bool :=
  ((s.dramCh c).repairing.map (· / 2 ^ 17)) == some (s.bankOf c r.addr)

/-- A request waits at its port, behind those that wait there already (R254, R258, R264). -/
def holdAtPort (s : State) (c : Nat) (r : DramReq) : State :=
  s.putDram { s.dram with portHeld := s.dram.portHeld ++ [(c, r)] }

/-- Is there room for a request in the queue it goes to: the hold buffer of 32 for a bank in repair, a read or write
queue of 64; one that a queued write answers or takes in needs none (R254, R264). -/
def roomFor (s : State) (c : Nat) (r : DramReq) : Bool :=
  let x := s.dramCh c
  if s.inRepair c r then x.heldReqs.length < 32
  else (x.writes.any fun w => burstOf w.addr == burstOf r.addr)
    || (if r.cmd == .read then x.reads.length < 64 else x.writes.length < 64)

/-- A later write of a burst laid over a queued one (R254): from the same octet on, its octets replace the queued ones and those beyond
it stay; from another octet on, both are laid over what memory holds of the burst. -/
def overWrite (s : State) (w r : DramReq) : DramReq :=
  if w.addr = r.addr then
    let data := r.data ++ w.data.drop r.data.length
    { w with data := data, cmd := if data.length < 64 then .readModifyWrite else .write }
  else
    let b := 64 * burstOf w.addr
    { w with
      addr := b, data := memRead (memWrite (memWrite s.dram.mem w.addr w.data) r.addr r.data) b 64
      cmd := if w.data.length < 64 ∧ r.data.length < 64 then .readModifyWrite else .write }

/-- A request enters its channel's queues: a write replaces queued data in place, a read of a queued write is
answered from the queue, a full queue holds it at the fabric, a bank in repair in the hold buffer (R254, R264). -/
def queueReq (s : State) (c : Nat) (r : DramReq) : State :=
  let x := s.dramCh c
  if !s.roomFor c r then s.holdAtPort c r
  else if s.inRepair c r then s.setDramCh c { x with heldReqs := x.heldReqs ++ [r] }
  else if r.cmd == .read then
    match x.writes.find? fun w => burstOf w.addr == burstOf r.addr with
    | some w => s.emit (.dramRead r.port r.addr (memRead (memWrite s.dram.mem w.addr w.data) r.addr 64) true)
    | none => s.setDramCh c { x with reads := x.reads ++ [r] }
  else if x.writes.any fun w => burstOf w.addr == burstOf r.addr then
    s.setDramCh c { x with writes := x.writes.map fun w => if burstOf w.addr == burstOf r.addr then s.overWrite w r else w }
  else
    s.setDramCh c { x with writes := x.writes ++ [r], drain := x.drain || 48 ≤ x.writes.length + 1 }

/-- Does a request wait at a port before one of the same channel, port and tenant (R258). -/
def waitsBefore (s : State) (c : Nat) (r : DramReq) : Bool :=
  s.dram.portHeld.any fun e => e.1 == c && e.2.port == r.port && e.2.tenant == r.tenant

/-- A request reaches its channel: it waits at its port behind an earlier one of its tenant there, while its queue has no
room, or, unreserved, while its tenant's bucket is empty; else it enters, charged if unreserved (R254, R258). -/
def admitReq (s : State) (c : Nat) (r : DramReq) : State :=
  if s.waitsBefore c r || !s.roomFor c r then s.holdAtPort c r
  else if r.tenant == 0xFFFF then s.queueReq c r
  else if s.bucketHas r.tenant then (s.charge r.tenant).queueReq c r
  else s.holdAtPort c r

/-- Requests held at the fabric or for want of tokens go on, oldest first, where they can (R254, R258). -/
def releaseHeld (s : State) (c : Nat) : State :=
  let mine := s.dram.portHeld.filter (·.1 == c)
  let s := s.putDram { s.dram with portHeld := s.dram.portHeld.filter (·.1 != c) }
  s.each mine fun s p => s.admitReq c p.2

/-- The urgency level of an age against LAT_TARGET (R255). -/
def urgencyOf (s : State) (port ageNs : Nat) : Nat :=
  let t := s.rd (R.dp_LAT_TARGET port)
  if t ≤ ageNs then 3 else if 3 * t ≤ 4 * ageNs then 2 else if t ≤ 2 * ageNs then 1 else 0

/-- A port's urgency level is set; an entry into level 3 is counted (Table 10-9). -/
def setUrgency (s : State) (port lvl : Nat) : State :=
  let was := s.rd (R.dp_URGENCY port)
  let s := s.wr (R.dp_URGENCY port) lvl
  if lvl == 3 && was != 3 then s.count (R.dp_LEVEL3_EVENTS port) 1 else s

/-- The oldest of some requests, the first of equals. -/
def oldestReq (l : List DramReq) : Option DramReq :=
  l.foldl (fun b r => match b with | none => some r | some q => if r.arrived < q.arrived then some r else b) none

/-- The reads that a channel may issue: none to the bank under repair (R264). -/
def readsReady (s : State) (c : Nat) : List DramReq := (s.dramCh c).reads.filter fun r => !s.inRepair c r

/-- The writes that a channel may issue: none to the bank under repair (R264), and none to a burst whose read, older than it, still
waits (R254). -/
def writesReady (s : State) (c : Nat) : List DramReq :=
  let x := s.dramCh c
  x.writes.filter fun w => !s.inRepair c w && !x.reads.any fun r => burstOf r.addr == burstOf w.addr

/-- The request a channel issues next, and whether it is a write: Table 10-2, order 2 to 5. -/
def nextReq (s : State) (c : Nat) : Option (DramReq × Bool) :=
  let x := s.dramCh c
  let lvl (r : DramReq) := if r.cmd == .writeBack then 0 else s.rd (R.dp_URGENCY r.port)
  let reads := s.readsReady c
  let writes := s.writesReady c
  let both := reads.map (fun r => (r, false)) ++ writes.map fun r => (r, true)
  let urgent := both.filter fun p => lvl p.1 == 3
  let rank (p : Nat) := (p + 15 - x.lastUrgent) % 16
  let pick := urgent.foldl (fun (b : Option (DramReq × Bool)) p =>
    match b with
    | none => some p
    | some q =>
      if rank p.1.port < rank q.1.port || (p.1.port == q.1.port && p.1.arrived < q.1.arrived) then some p else b) none
  match pick with
  | some p => some p
  | none =>
    let w := (oldestReq writes).map fun r => (r, true)
    if x.drain && w.isSome then w
    else
      let at_ (n : Nat) := (oldestReq (reads.filter fun r => lvl r == n)).map fun r => (r, false)
      (((at_ 2).orElse fun _ => at_ 1).orElse fun _ => at_ 0).orElse fun _ => w

/-- A request leaves its channel's queue; the round robin of level-3 ports moves on to its port if it is one (Table 10-2). -/
def takeReq (s : State) (c : Nat) (r : DramReq) (isWrite : Bool) : State :=
  let x := s.dramCh c
  let x := if r.cmd != .writeBack && s.rd (R.dp_URGENCY r.port) == 3 then { x with lastUrgent := r.port } else x
  if isWrite then
    let ws := dropFirst (fun w => w == r) x.writes
    s.setDramCh c { x with writes := ws, drain := x.drain && 16 < ws.length, wcrc := x.wcrc.filter fun e => e.1 != r }
  else s.setDramCh c { x with reads := dropFirst (fun w => w == r) x.reads }

/-- The longest completion of a port, and its urgency from its oldest remaining request, wherever it waits (Table 10-9, R255). What the
controller writes back is no port's request. -/
def portDone (s : State) (r : DramReq) : State :=
  if r.cmd == .writeBack then s else
  let ns := nsOfEdges (s.time.edge - r.arrived)
  let s := if s.rd (R.dp_MAX_LATENCY r.port) < ns then s.wr (R.dp_MAX_LATENCY r.port) ns else s
  let all := (List.range s.part.drams).flatMap fun c =>
    let x := s.dramCh c
    x.reads ++ x.writes.filter (fun w => w.cmd != .writeBack) ++ x.heldReqs
  let ages := ((all ++ s.dram.portHeld.map (·.2)).filter fun q => q.port == r.port).map fun q => nsOfEdges (s.time.edge - q.arrived)
  s.setUrgency r.port (s.urgencyOf r.port (ages.foldl max 0))

/-- The queued requests to the bank under repair go to the hold buffer, as many as it takes, reads before the writes they are older
than (R254, R264). -/
def holdForRepair (s : State) (c : Nat) : State :=
  let x := s.dramCh c
  let held := ((x.reads ++ x.writes).filter (s.inRepair c)).take (32 - x.heldReqs.length)
  s.setDramCh c { x with
    reads := x.reads.filter fun r => !held.contains r, writes := x.writes.filter fun r => !held.contains r
    heldReqs := x.heldReqs ++ held }

/-- The soft repair of a channel's next candidate row starts, if it may (R352). -/
def startRepair (s : State) (c : Nat) : State :=
  let x := s.dramCh c
  match x.candidates with
  | [] => s
  | r :: _ =>
    if x.repairing.isSome || s.frozen || s.rd (R.dc_PPR_LEFT c) == 0 then s
    else (s.setDramCh c { x with repairing := some r }).holdForRepair c

/-- A corrected word: counted, and its row a repair candidate once PPR_THRESHOLD is reached in 24 h (R262, R263);
with PPR_AUTO the repair starts (R352). -/
def corrected (s : State) (c a : Nat) : State :=
  let s := s.count (R.dc_CE_COUNT c) 1
  let x := s.dramCh c
  let row := s.rowOf c a
  let day := 86400 * edgesPerSec
  let times := ((tabGet [] x.rowErrors row).filter fun t => s.time.edge < t + day) ++ [s.time.edge]
  let x := { x with rowErrors := tabPut [] row times x.rowErrors }
  if s.rd R.ds_PPR_THRESHOLD ≤ times.length && !x.candidates.contains row then
    let s := (s.setDramCh c { x with candidates := x.candidates ++ [row] }).count (R.dc_PPR_CANDIDATES c) 1
    let s := s.logEvent 5 c 2
    if s.rdB R.cu_PPR_AUTO then s.startRepair c else s
  else s.setDramCh c x

/-- F_QUEUES: reads then writes queued, U16 per controller, D0 first (Table 10-6). -/
def queuesWord (s : State) : Nat :=
  (List.range 4).foldl (fun a d =>
    let x := s.dramCh d
    a + (x.reads.length + x.writes.length * 65536) * 2 ^ (32 * d)) 0

/-- F_URGENCY: two bits for each port (Table 10-6). -/
def urgencyWord (s : State) : Nat := (List.range 16).foldl (fun a p => a + s.rd (R.dp_URGENCY p) % 4 * 4 ^ p) 0

/-- A further error while the controllers are frozen: one of another channel in the cycle of the first counts in
FREEZE_EXTRA, and its request stays held; a controller that is frozen issues no access that could bring another (R265;
log entry 126). -/
def extraError (s : State) (c : Nat) : State :=
  if s.frozen && s.rd (R.dc_CH_STATE c) == 4 && s.now96 == s.rd R.fz_F_TIME && s.rd R.fz_F_LOC / 2 ^ 56 != c then
    (s.count (R.dc_UE_COUNT c) 1).count R.fz_FREEZE_EXTRA 1
  else s

/-- Every controller in service freezes and the capture is taken (R265, Table 10-6). Queues in spill form go to QSTATE 4
(R219). -/
def freeze (s : State) (c a kind cmd port tenant syndrome : Nat) (failed : Option DramReq) : State :=
  let s := s.count (R.dc_UE_COUNT c) 1
  if s.frozen then s
  else
    let loc := match s.dramMap a with | some (_, l) => dramLoc s.dram.masks s.dram.config c l | none => 0
    let s := ((((s.wr R.fz_FROZEN 1).wr R.fz_F_TIME s.now96).wr R.fz_F_KIND kind).wr R.fz_F_ADDR a).wr R.fz_F_LOC loc
    let s := (((s.wr R.fz_F_SYNDROME (syndrome % 65536)).wr R.fz_F_CMD cmd).wr R.fz_F_PORT port).wr R.fz_F_TENANT tenant
    let s := (s.wr R.fz_F_QUEUES s.queuesWord).wr R.fz_F_URGENCY s.urgencyWord
    let s := s.putDram { s.dram with failed := failed }
    let s := s.each (List.range s.part.drams) fun s d =>
      if s.rd (R.dc_CH_STATE d) == 2 then s.wr (R.dc_CH_STATE d) 4 else s
    let s := s.each s.queueIds fun s q =>
      let st := s.rd (R.qu_QSTATE q)
      if st == 2 || (st == 3 && 0 < (s.queue q).spillCells) then s.wr (R.qu_QSTATE q) 4 else s
    (s.logEvent 5 c 1).raise 0x7101 c

/-- Does a channel issue commands: in service and not frozen. -/
def chServes (s : State) (c : Nat) : Bool := s.rd (R.dc_CH_STATE c) == 2 && !s.frozen

/-- May a burst complete at a channel: one in service, or one that freezes, in the cycle of the error, which completes what it has
issued (R265; log entry 126). -/
def chCompletes (s : State) (c : Nat) : Bool :=
  s.chServes c || (s.frozen && s.rd (R.dc_CH_STATE c) == 4 && s.now96 == s.rd R.fz_F_TIME)

/-- The tries of a write that have failed their CRC (R262). -/
def triesOf (s : State) (c : Nat) (r : DramReq) : Nat := (((s.dramCh c).wcrc.find? fun e => e.1 == r).map (·.2)).getD 0

/-- A corrected burst is written back: an access of the controller's own, unless a queued write of the burst takes its place or the
write queue is full (R262). -/
def writeBack (s : State) (c port a : Nat) : State :=
  let x := s.dramCh c
  if (x.writes.any fun w => burstOf w.addr == burstOf a) || 64 ≤ x.writes.length then s
  else
    let b := 64 * burstOf a
    s.setDramCh c { x with
      writes := x.writes ++ [⟨port, b, memRead s.dram.mem b 64, 0xFFFF, .writeBack, s.time.edge⟩]
      drain := x.drain || 48 ≤ x.writes.length + 1 }

/-! ### Accesses that are served as they come: the window, Frit and the collector (R199, R241, R252) -/

/-- The writes that wait at the controllers, each channel's in order. -/
def queuedWrites (s : State) : List DramReq :=
  (List.range s.part.drams).flatMap fun c => (s.dramCh c).writes ++ (s.dramCh c).heldReqs.filter fun r => r.cmd != .read

/-- Octets as the controllers answer a read of them: in order of arrival, what is queued over what memory holds (R254). -/
def dramGet (s : State) (a n : Nat) : List Byte :=
  memRead (s.queuedWrites.foldl (fun m w => memWrite m w.addr w.data) s.dram.mem) a n

/-- A queued write whose octets a later write has replaced in place (R254). -/
def patchReq (a : Nat) (octets : List Byte) (w : DramReq) : DramReq :=
  { w with data := (w.data.zip (List.range w.data.length)).map fun p =>
      if a ≤ w.addr + p.2 ∧ w.addr + p.2 < a + octets.length then octets.getD (w.addr + p.2 - a) p.1 else p.1 }

/-- Does a channel hold some of n octets from an address on. -/
def rangeHits (s : State) (c a n : Nat) : Bool :=
  (List.range (n / 256 + 2)).any fun i =>
    let g := 256 * (a / 256 + i)
    g < a + n && (s.dramMap g).map (·.1) == some c

/-- A channel in self-refresh that some octets need leaves it (R260), unless it is frozen there. -/
def wakeFor (s : State) (a n : Nat) : State :=
  if s.frozen then s
  else s.each ((List.range s.part.drams).filter fun c => s.rd (R.dc_CH_STATE c) == 3 && s.rangeHits c a n) fun s c =>
    s.wr (R.dc_CH_STATE c) 2

/-- Octets are written: into the writes that are queued for them, and into memory; a poisoned word of one of them leaves check bits that
read back as a double-bit error (R254, R337). -/
def dramPut (s : State) (a : Nat) (octets : List Byte) : State :=
  let n := octets.length
  let s := s.each (List.range s.part.drams) fun s c =>
    let x := s.dramCh c
    let fix := List.map fun r => if r.cmd == .read then r else patchReq a octets r
    s.setDramCh c { x with writes := fix x.writes, heldReqs := fix x.heldReqs }
  let s := s.putDram { s.dram with
    mem := memWrite s.dram.mem a octets, bad := s.dram.bad.filter fun b => !fillsBurst a n b }
  s.each ((List.range s.part.drams).filter fun c => (s.dramCh c).poisoned && s.rangeHits c a n) fun s c =>
    let s := s.setDramCh c { s.dramCh c with poisoned := false }
    s.putDram { s.dram with bad := s.dram.bad ++ [burstOf a] }

/-- The first burst of double-bit errors that a read of n octets meets (R261, R337). -/
def badRead (s : State) (a n : Nat) : Option Nat := s.dram.bad.find? (touchesBurst a n)

/-- The first that a write of n octets meets: one that it fills only in part, so that it must be read (R252). -/
def badWrite (s : State) (a n : Nat) : Option Nat := s.dram.bad.find? fun b => touchesBurst a n b && !fillsBurst a n b

/-- An access meets a double-bit error, and the controllers freeze (R265). -/
def freezeBurst (s : State) (b cmd port tenant : Nat) : State :=
  let c := ((s.dramMap (64 * b)).map (·.1)).getD 0
  (s.freeze c (64 * b + 8 * (Config.foundWord s.freeCount % 8)) 1 cmd port tenant (Config.foundSyndrome s.freeCount) none).bump

/-- Does a channel hold no request, nor any port one for it (R260). -/
def chIdle (s : State) (d : Nat) : Bool :=
  let x := s.dramCh d
  x.reads == [] && x.writes == [] && x.heldReqs == [] && s.dram.portHeld.all fun e => e.1 != d

/-- Where a channel goes as a freeze ends: a frozen one to service or to training, and one in self-refresh with it, but for
one that Dormant keeps there with no request waiting (R260, R268). -/
def thawedState (s : State) (d chState : Nat) : Nat :=
  let st := s.rd (R.dc_CH_STATE d)
  if st == 3 && s.mode.base == .dormant && chState == 2 && s.chIdle d then 3
  else if st == 3 || st == 4 then chState else st

/-- A freeze ends: channels go on, spilled queues are thawed with the mark of their region (R268, R219). -/
def thaw (s : State) (chState : Nat) : State :=
  let s := s.wr R.fz_FROZEN 0
  let s := s.each (List.range s.part.drams) fun s d => s.wr (R.dc_CH_STATE d) (s.thawedState d chState)
  s.each s.queueIds fun s q =>
    let ok := match s.regionOf (s.queueTenant q) (2 + q) with | some r => r.intact | none => true
    let s := s.thawQueue q ok
    (s.putDram { s.dram with regions := s.dram.regions.map fun r =>
        if r.kind == 2 + q then { r with intact := true } else r })

/-- The request that failed is answered as uncorrectable (R268). -/
def answerFailed (s : State) : State :=
  match s.dram.failed with
  | some r => (s.putDram { s.dram with failed := none }).emit (.dramRead r.port r.addr [] false)
  | none => s

/-- A write of RELEASE: 1 resumes, 2 discards every queued write and retrains (R268). -/
def releaseAct (s : State) (v : Nat) : Ans :=
  if v == 0 then ok s
  else if !s.frozen then (0x3102, s)
  else
    let s := (s.answerFailed).markLost (s.rd R.fz_F_ADDR)
    if v == 1 then ok (s.thaw 2)
    else
      let s := s.each (List.range s.part.drams) fun s c =>
        let x := s.dramCh c
        let s := s.each x.writes fun s w => s.markLost w.addr
        s.setDramCh c { s.dramCh c with
          writes := [], drain := false, trainFails := 0, wcrc := []
          poisonBursts := x.poisonBursts.filter fun b => !x.writes.any fun w => burstOf w.addr == b }
      ok (s.thaw 1)

/-- The check octets of a burst's eight words (Table 10-4). -/
def burstChecks (a : Nat) (octets : List Byte) : List Byte :=
  (List.range 8).flatMap fun i => checkBits (a + 8 * i) ((octets.drop (8 * i)).take 8)

/-- A write of DIAG_READ: the 64 data octets of the burst, then the 16 check octets of its words (R267). -/
def diagReadAct (s : State) (v : Nat) : Ans :=
  if v == 0 then ok s
  else if !s.frozen || !s.rdB R.fz_DIAG_ENABLE then (0x3101, s)
  else
    let d := memRead s.dram.mem (s.rd R.fz_DIAG_ADDR) 64
    ok (s.wr R.fz_DIAG_DATA (leNat (d ++ burstChecks (s.rd R.fz_DIAG_ADDR) d)))

/-- A write of PPR_NOW: the controller's candidate rows are repaired one at a time (R352, R353). Value 0 names controller 0 (log
entry 121). -/
def pprNowAct (s : State) (c : Nat) : Ans :=
  if s.frozen then (0x3142, s)
  else if s.part.drams ≤ c then (0x2141, s)
  else if (s.dramCh c).candidates ≠ [] && s.rd (R.dc_PPR_LEFT c) == 0 then (0x4141, s)
  else ok (s.startRepair c)

end State

/-- DRAM_REQUEST: a request, of one burst or part of one, reaches its channel, after those that wait for room or tokens and can go on. An unreserved one
is charged to its tenant's bucket or held for want of tokens (R258; log entry 126); a channel in self-refresh exits first
(R260); a write takes along the poison of a word that reached the controller (R337). -/
def dramRequest (c port : Nat) (write : Bool) (addr : Nat) (data : List Byte) (tenant : Nat) (reserved : Bool)
    (s : State) : State :=
  let st := s.rd (R.dc_CH_STATE c)
  if (s.dramMap addr).map (·.1) ≠ some c || st == 0 || st == 5 || !s.part.portFitted port || !burstOk write addr data.length then s
  else
    let cmd : DramCmd := if !write then .read else if data.length < 64 then .readModifyWrite else .write
    let r : DramReq := ⟨port, addr, data, if reserved then 0xFFFF else tenant, cmd, s.time.edge⟩
    let x := s.dramCh c
    let s :=
      if write && x.poisoned then
        s.setDramCh c { x with poisoned := false, poisonBursts := x.poisonBursts ++ [burstOf addr] }
      else s
    ((if st == 3 && !s.frozen then s.wr (R.dc_CH_STATE c) 2 else s).releaseHeld c).admitReq c r

/-- URGENCY_LEVEL_CHANGE: the age of a port's oldest request sets its level (R255). -/
def urgencyLevelChange (port ageNs : Nat) (s : State) : State := s.setUrgency port (s.urgencyOf port ageNs)

/-- Does a request read the devices: a read, and a write of part of a burst (R252). -/
def readsDevices (r : DramReq) : Bool := r.cmd == .read || r.cmd == .readModifyWrite

/-- Can a read of a burst have an outcome: one of double-bit errors has no other (R337). -/
def checkCan (s : State) (a : Nat) (check : WordCheck) : Bool := !s.dram.bad.contains (burstOf a) || checkKind check == 1

/-- A write reaches the devices: its octets are in memory, with check bits of their own, or of a poisoned word that read back as
a double-bit error (R337). -/
def writeDevices (s : State) (c : Nat) (r : DramReq) : State :=
  let b := burstOf r.addr
  let x := s.dramCh c
  let bad := s.dram.bad.filter fun k => k != b || !fillsBurst r.addr r.data.length k
  let s := s.putDram { s.dram with
    mem := memWrite s.dram.mem r.addr r.data, bad := if x.poisonBursts.contains b then bad ++ [b] else bad }
  s.setDramCh c { x with poisonBursts := x.poisonBursts.filter (· ≠ b) }

/-- DRAM_ACCESS_COMPLETE: the burst that Table 10-2 names completes with its check (R254, R261, R262, R265). A corrected read is
written back; what a controller has issued when it freezes completes with no error. -/
def dramAccessComplete (c : Nat) (isWrite : Bool) (check : WordCheck) (syndrome : Nat) (s : State) : State :=
  match s.nextReq c with
  | none => s
  | some (r, w) =>
    if w != isWrite || (readsDevices r && !checkCan s r.addr check) then s
    else if checkKind check != 0 then
      if s.chServes c then
        (s.takeReq c r w).freeze c (64 * burstOf r.addr + 8 * checkWord check) (checkKind check) (cmdCode r.cmd) r.port r.tenant
          syndrome (some r)
      else s.extraError c
    else if !s.chCompletes c then s
    else
      let s := (s.takeReq c r w).portDone r
      let s := if check == .corrected then s.corrected c r.addr else s
      let s :=
        if w then writeDevices s c r
        else
          let s := s.emit (.dramRead r.port r.addr (memRead s.dram.mem r.addr 64) true)
          if check == .corrected then s.writeBack c r.port r.addr else s
      s.releaseHeld c

/-- WRITE_CRC_ERROR: the write being issued is repeated up to three times; a fourth failure freezes (R262, R265). -/
def writeCrcError (c : Nat) (s : State) : State :=
  match s.nextReq c with
  | none | some (_, false) => s
  | some (r, true) =>
    let tries := s.triesOf c r
    if !s.chServes c then if 3 ≤ tries then s.extraError c else s
    else
      let x := s.dramCh c
      if tries < 3 then
        (s.setDramCh c { x with wcrc := x.wcrc.filter (fun e => e.1 != r) ++ [(r, tries + 1)] }).count (R.dc_WCRC_RETRY c) 1
      else (s.takeReq c r true).freeze c r.addr 3 (cmdCode r.cmd) r.port r.tenant 0 (some r)

/-- REFRESH_DUE: a bank index of a channel in service or frozen owes one more refresh; while its banks are idle all it owes are
issued, and once four are owed one is forced (R256, R265). -/
def refreshDue (c bankIndex : Nat) (idle : Bool) (s : State) : State :=
  let x := s.dramCh c
  let owed := tabGet 0 x.owed bankIndex + 1
  let forced := !idle && 4 ≤ owed
  let left := if idle then 0 else if forced then owed - 1 else owed
  if s.rd (R.dc_CH_STATE c) != 2 && s.rd (R.dc_CH_STATE c) != 4 then s
  else
    let s := s.setDramCh c { x with owed := tabPut 0 bankIndex left x.owed }
    if forced then s.count (R.dc_REF_FORCED c) 1 else s

/-- PATROL_SCRUB: a burst is read and, if corrected, written back (R262); an uncorrectable one freezes (R265). One of the bank under
repair waits (R264). -/
def patrolScrub (c addr : Nat) (check : WordCheck) (syndrome : Nat) (s : State) : State :=
  if (s.dramMap addr).map (·.1) ≠ some c || ((s.dramCh c).repairing.map (· / 2 ^ 17)) == some (s.bankOf c addr)
    || !checkCan s addr check then s
  else if !s.chServes c then if checkKind check != 0 then s.extraError c else s
  else match check with
    | .clean => s
    | .corrected => (s.corrected c addr).writeBack c 0 addr
    | .doubleBit w => s.freeze c (64 * burstOf addr + 8 * w) 1 (cmdCode .patrol) 0 0xFFFF syndrome none
    | .addressCrc w => s.freeze c (64 * burstOf addr + 8 * w) 2 (cmdCode .patrol) 0 0xFFFF syndrome none

/-- ODECC_HOURLY: the on-die counts are read into ODECC_COUNT (R261). -/
def odeccHourly (c count : Nat) (s : State) : State := s.wr (R.dc_ODECC_COUNT c) (count % 2 ^ 32)

/-- SELF_REFRESH_IDLE: a channel with SR_AUTO and no request for SR_IDLE enters self-refresh, and so does one in Dormant once
no request waits (R260). -/
def selfRefreshIdle (c : Nat) (s : State) : State :=
  if (s.rdB R.ds_SR_AUTO || s.mode.base == .dormant) && s.chServes c && s.chIdle c then
    (s.wr (R.dc_CH_STATE c) 3).count (R.dc_SR_ENTRIES c) 1
  else s

/-- Training of a channel at the rate being tried ends (R248); it fails where the configuration is outside Table 10-1 (R247).
The second part tells that the channel was left out
of service while CH_SET in force names it, which makes the hub enter Safe. -/
def trainingResult (c : Nat) (passed : Bool) (pprLeft : Nat) (s : State) : State × Bool :=
  let x := s.dramCh c
  let rates := trainingRates s.dram.rate
  let known := s.chCapacity != 0
  if s.rd (R.dc_CH_STATE c) != 1 then (s, false)
  else if known && passed then
    let s := (s.setDramCh c { x with trainFails := 0 }).wr (R.dc_TRAINED_RATE c) (rates.getD x.trainFails 4800)
    ((s.wr (R.dc_CH_STATE c) 2).wr (R.dc_PPR_LEFT c) (pprLeft % 65536), false)
  else if known && x.trainFails + 1 < rates.length then (s.setDramCh c { x with trainFails := x.trainFails + 1 }, false)
  else
    let s := ((s.wr (R.dc_CH_STATE c) 5).wr (R.dc_TRAINED_RATE c) 0).raise 0x7102 c
    (s, s.chSetNow.contains c)

/-- PPR_ROW_DONE: one row is repaired, its data written back and its bank released (R264, R352); the next candidate
follows. -/
def pprRowDone (c : Nat) (s : State) : State :=
  let x := s.dramCh c
  match x.repairing with
  | none => s
  | some r =>
    let x := { x with
      repairing := none, candidates := x.candidates.filter (· ≠ r), rowErrors := tabPut [] r [] x.rowErrors
      heldReqs := [], softRows := x.softRows ++ [r] }
    let held := (s.dramCh c).heldReqs
    let s := (s.setDramCh c x).wr (R.dc_PPR_LEFT c) (s.rd (R.dc_PPR_LEFT c) - 1)
    let s := s.wr (R.dc_PPR_CANDIDATES c) x.candidates.length
    let s := s.count R.cu_SUBSTITUTIONS 1
    let s := s.each held fun s q => s.queueReq c q
    (s.releaseHeld c).startRepair c

end Sys2Proof.Machine
end

