-- ==== Sys2Proof/Machine/Line.lean ====
section
/-! DEFINITION. The Breimlink line (chapter 11): control blocks, the scrambler and the stuffing of each lane, the lanes of a bundle,
and the blocks of a frame over them (R272 to R275, R279, R281). -/

namespace Sys2Proof.Machine

/-- A control block: CTYPE, fields at their places, CRC (R275). -/
def ctlBlock (ctype fields : Nat) : Block :=
  let body := ctype * 2 ^ 248 + fields
  BitVec.ofNat 256 (body + blockCrc (BitVec.ofNat 256 body))

/-- The mask of bits [hi:lo]. -/
def maskBits (hi lo : Nat) : Nat := 2 ^ (hi + 1) - 2 ^ lo

/-- Does a control block pass: CTYPE, CRC, and every bit that is not named zero (R275). -/
def ctlOk (ctype named : Nat) (p : Block) : Bool :=
  let v := p.toNat
  field v 255 248 == ctype && field v 31 0 == blockCrc p && (v &&& (2 ^ 248 - 2 ^ 32)) ||| named == named

/-- Bits of TRAIN, ACK, NAK, SOF, EOF, BEACON and REMOTE_TRIGGER that Tables 11-2, 11-4, 2-2 and 7-2 name. -/
def namedTrain : Nat := maskBits 247 236 + maskBits 231 208
/-- ACK_LSEQ, CREDIT and RX_LANES. -/
def namedAck : Nat := maskBits 247 204
/-- NAK_LSEQ. -/
def namedNak : Nat := maskBits 247 232
/-- SOF fields. -/
def namedSof : Nat := maskBits 247 169
/-- EOF fields. -/
def namedEof : Nat := maskBits 247 225 + maskBits 63 32
/-- BEACON fields. -/
def namedBeacon : Nat := maskBits 247 229 + maskBits 223 32
/-- REMOTE_TRIGGER fields. -/
def namedRemote : Nat := maskBits 247 227 + maskBits 223 112 + maskBits 32 32

/-- The self-synchronous scrambler s = d ⊕ s−39 ⊕ s−58 over payload bits in the order they are sent, after the scrambled bits `h`,
newest first (R272). -/
def scramble (h : List Bool) : List Bool → List Bool
  | [] => []
  | d :: t =>
    let b := d ^^ (h.getD 38 false ^^ h.getD 57 false)
    b :: scramble (b :: h.take 57) t

/-- The descrambler: after 58 received bits it depends on nothing before them (R272). -/
def descramble (h : List Bool) : List Bool → List Bool
  | [] => []
  | b :: t => (b ^^ (h.getD 38 false ^^ h.getD 57 false)) :: descramble (b :: h.take 57) t

/-- Line bits with the opposite value inserted after 36 identical ones, and the last bit and run they end with; `run` bits equal to
`last` went before (R273). -/
def stuff (last : Bool) (run : Nat) : List Bool → List Bool × Bool × Nat
  | [] => ([], last, run)
  | b :: t =>
    let n := if b == last then run + 1 else 1
    if n == 36 then
      let p := stuff (!b) 1 t
      (b :: (!b) :: p.1, p.2)
    else
      let p := stuff b n t
      (b :: p.1, p.2)

/-- What line bits hold: with the bit after any 36 identical ones removed, how many of those were not the complement, and the last
bit and run (R273). -/
structure Unstuffed where
  bits : List Bool
  errors : Nat
  last : Bool
  run : Nat
  deriving DecidableEq, Repr

/-- The receiver's removal of stuffed bits after a run of `run` bits equal to `last` (R273). -/
def unstuff (last : Bool) (run : Nat) : List Bool → Unstuffed
  | [] => ⟨[], 0, last, run⟩
  | b :: t =>
    if run == 36 then
      let p := unstuff b 1 t
      { p with errors := p.errors + ofBool (b == last) }
    else
      let p := unstuff b (if b == last then run + 1 else 1) t
      { p with bits := b :: p.bits }

/-- The bits of a header, most significant bit first (R272). -/
def headerBits (header : Nat) : List Bool := (List.range 4).map fun i => bitAt header (3 - i)

/-- The bits of a payload, bit 255 first (R272). -/
def payloadBits (p : Block) : List Bool := (List.range 256).map fun i => p.getLsbD (255 - i)

/-- The number that bits spell, the first the most significant. -/
def bitsNat (l : List Bool) : Nat := l.foldl (fun a b => 2 * a + ofBool b) 0

/-- The last 58 scrambled payload bits, newest first, after some more. -/
def newest (h l : List Bool) : List Bool := (l.reverse ++ h).take 58

/-- A block as it goes on a lane's line, and the line's end after it (R272, R273). Header bits do not enter the scrambler. -/
def codeLine (x : LineEnd) (header : Nat) (payload : Block) : List Bool × LineEnd :=
  let scrambled := scramble x.hist (payloadBits payload)
  let p := stuff x.last x.run (headerBits header ++ scrambled)
  (p.1, ⟨newest x.hist scrambled, p.2.1, p.2.2⟩)

/-- A block read from line bits: the line's end after it, header, payload, and stuffed bits that were wrong; none unless the bits
hold one block (R272, R273). -/
def readLine (x : LineEnd) (line : List Bool) : Option (LineEnd × Nat × Block × Nat) :=
  let u := unstuff x.last x.run line
  let scrambled := u.bits.drop 4
  if u.bits.length != 260 then none
  else some (⟨newest x.hist scrambled, u.last, u.run⟩, bitsNat (u.bits.take 4),
    BitVec.ofNat 256 (bitsNat (descramble x.hist scrambled)), u.errors)

/-- The training burst that ends a lane's idle: 63 repetitions of 0b1100, then 0b1110 (R277). -/
def burstBits : List Bool := (List.range 63).flatMap (fun _ => headerBits 12) ++ headerBits 14

/-- Data blocks of a frame of n octets. -/
def dataBlocks (n : Nat) : Nat := ceilDiv n 32

/-- The octets of a frame's data blocks, the last padded with zeros (R281). -/
def paddedOctets (f : TxFrame) : List Byte :=
  f.octets ++ List.replicate (32 * dataBlocks f.octets.length - f.octets.length) 0#8

/-- The SOF of a frame of NBLK data blocks (Table 11-4). -/
def sofBlock (f : TxFrame) (nblk : Nat) : Block :=
  ctlBlock 0x10 (f.dest * 2 ^ 240 + f.origin * 2 ^ 232 + f.hops * 2 ^ 224 + f.route * 2 ^ 218 + f.cls * 2 ^ 216 + f.rseq * 2 ^ 200
    + f.lseq * 2 ^ 184 + nblk * 2 ^ 172 + ofBool f.late * 2 ^ 171 + ofBool f.dual * 2 ^ 170
    + ofBool f.turned * 2 ^ 169)

/-- An EOF for an LSEQ: the valid octets of the last data block, STOMP, and FCRC (Table 11-4). -/
def eofBlock (lseq last : Nat) (stomp : Bool) (fcrc : Nat) : Block :=
  ctlBlock 0x11 (lseq * 2 ^ 232 + last * 2 ^ 226 + ofBool stomp * 2 ^ 225 + fcrc * 2 ^ 32)

/-- The data blocks of octets with their headers (R281). -/
def octetBlocks (octets : List Byte) : List (Nat × Block) :=
  (List.range (octets.length / 32)).map fun i => (6, blockOfOctets ((octets.drop (32 * i)).take 32))

/-- The blocks of a frame that is cut off after some of its data: SOF, those data blocks, and an EOF with STOMP (R282, R283;
log entry 143). -/
def stompedBlocks (f : TxFrame) (nblk : Nat) (octets : List Byte) : List (Nat × Block) :=
  (9, sofBlock f nblk) :: octetBlocks octets ++ [(9, eofBlock f.lseq 1 true 0)]

/-- The blocks of a frame with their headers: SOF, NBLK data blocks, EOF (R281). -/
def frameBlocks (f : TxFrame) : List (Nat × Block) :=
  let octets := paddedOctets f
  let n := dataBlocks f.octets.length
  (9, sofBlock f n) :: octetBlocks octets
    ++ [(9, eofBlock f.lseq (f.octets.length - 32 * (n - 1)) false (crc32c octets))]

/-- Blocks with one bit of a payload inverted (R293 ACTION 2). -/
def flipBlocks (k : Nat) (l : List (Nat × Block)) : List (Nat × Block) :=
  let i := k / 256 % max 1 l.length
  (l.zip (List.range l.length)).map fun e => if e.2 == i then (e.1.1, e.1.2 ^^^ BitVec.ofNat 256 (2 ^ (k % 256))) else e.1

namespace State

/-- A control block that fails is counted (R275). -/
def ctlErr (s : State) : State := s.count R.lx_CTL_ERR 1

/-- The lanes configured into a bundle, in ascending lane number: their places are the bundle's positions, spares that
stand in taking the place of theirs. -/
def lanesOf (s : State) (b : Nat) : List Nat :=
  (List.range 16).filter fun l =>
    s.rd (R.ln_BUNDLE l) == b && (s.rd (R.ln_MODE l) == 1 || s.rd (R.ln_MODE l) == 2)

/-- The lane that serves a place: the spare that stands in for it, or itself (R292, R349). -/
def servingLane (s : State) (l : Nat) : Nat :=
  if (s.lane 16).standIn == some l then 16 else if (s.lane 17).standIn == some l then 17 else l

/-- Is a lane locked: LANE_STATE 4 or 5. -/
def laneLocked (s : State) (l : Nat) : Bool :=
  let st := s.rd (R.ln_LANE_STATE l)
  st == 4 || st == 5

/-- Does a lane carry blocks: neither off, nor idle, nor out of service, nor a spare in standby. -/
def laneLive (s : State) (l : Nat) : Bool :=
  let st := s.rd (R.ln_LANE_STATE l)
  2 ≤ st && st ≤ 5

/-- RX_LANES of a bundle: the places received in lock. -/
def rxLanes (s : State) (b : Nat) : Nat :=
  ((s.lanesOf b).zip (List.range 4)).foldl (fun a p => a + ofBool (s.laneLocked (s.servingLane p.1)) * 2 ^ p.2) 0

/-- The lanes of a bundle that work, in ascending position: named in the peer's latest RX_LANES, and live here (R279). -/
def workLanes (s : State) (b : Nat) : List Nat :=
  (((s.lanesOf b).zip (List.range 4)).filter fun p => bitAt (s.bundle b).peerLanes p.2 && s.laneLive (s.servingLane p.1)).map
    fun p => s.servingLane p.1

/-- How many of them (R279). -/
def workingLanes (s : State) (b : Nat) : Nat := (s.workLanes b).length

/-- The bundle of a lane, if it serves one. -/
def bundleOf (s : State) (l : Nat) : Nat :=
  match (s.lane l).standIn with
  | some k => s.rd (R.ln_BUNDLE k)
  | none => s.rd (R.ln_BUNDLE l)

/-- EYE of a lane as it reads (Table 11-6; log entry 13). -/
def eyeOf (s : State) (l : Nat) : Nat := Config.laneReading l s.freeCount % 256

/-- The TRAIN block of a lane in a state, 1 adapting or 2 ready (Table 11-2). -/
def trainBlock (s : State) (l st : Nat) : Block :=
  let place := ((s.lane l).standIn).getD l
  let pos := ((s.lanesOf (s.bundleOf l)).findIdx? (· == place)).getD 0
  ctlBlock 0x02 (s.rd R.lx_CHAIN_ADDR % 256 * 2 ^ 240 + s.bundleOf l % 4 * 2 ^ 238 + pos % 4 * 2 ^ 236
    + s.rd (R.ln_MODE l) % 256 * 2 ^ 224 + st * 2 ^ 216 + s.eyeOf l * 2 ^ 208)

/-- A block leaves on a lane, coded after what the lane has sent (R272, R273). -/
def sendBlock (s : State) (l header : Nat) (p : Block) : State :=
  let c := codeLine (s.lane l).tx header p
  (s.setLane l { s.lane l with tx := c.2 }).emit (.line l c.1)

/-- A block leaves on some lanes, on each for itself. -/
def sendOnLanes (s : State) (ls : List Nat) (p : Block) : State := s.each ls fun s l => s.sendBlock l 9 p

/-- A lane's transmitter leaves idle: the training burst, then FILL blocks for 1 µs (R277). -/
def leaveIdle (s : State) (l : Nat) : State :=
  let x := s.lane l
  if !x.txIdle then s
  else
    let fills := if s.rd (R.ln_MODE l) == 1 then 101 else 51
    let s := (s.setLane l { x with txIdle := false, tx := { x.tx with last := false, run := 1 } }).emit (.line l burstBits)
    s.each (List.range fills) fun s _ => s.sendBlock l 9 (ctlBlock 0x05 0)

/-- A lane trains, and says so in TRAIN blocks (R276). -/
def startTraining (s : State) (l : Nat) : State :=
  let s := s.leaveIdle l
  let s := s.setLane l { s.lane l with good := 0, recent := [], idle := false, trainState := 0 }
  let s := (s.wr (R.ln_LANE_STATE l) 2).count (R.ln_TRAININGS l) 1
  if s.bundleOf l < 2 then s.sendBlock l 9 (s.trainBlock l 1) else s

/-- A control block of a bundle leaves on its first working lane (R275; log entry 143). -/
def sendCtl (s : State) (b : Nat) (p : Block) : State := (s.emit (.ctl b p)).sendOnLanes ((s.workLanes b).take 1) p

/-- The blocks of a frame leave round robin over the working lanes in ascending position, on from the lane of the last frame; a change
of the set takes effect at the SOF, and begins at its first lane (R279; log entry 143). -/
def sendStriped (s : State) (b : Nat) (l : List (Nat × Block)) : State :=
  let ls := s.workLanes b
  let x := s.bundle b
  let start := if x.txLanes == ls then x.stripe else 0
  let n := max 1 ls.length
  let s := s.setBundle b { x with txLanes := ls, stripe := (start + l.length) % n }
  if ls == [] then s
  else s.each (l.zip (List.range l.length)) fun s e => s.sendBlock (ls.getD ((start + e.2) % n) 0) e.1.1 e.1.2

/-- A unit goes out, with one bit inverted where a rule says so (R293): a Breimlink frame as its blocks (R281). -/
def leave (s : State) (flip : Option Nat) (o : Out) : State :=
  match o with
  | .frame b f =>
    let l := frameBlocks f
    match flip with
    | some k => (s.emit (.damaged k (.frame b f))).sendStriped b (flipBlocks k l)
    | none => (s.emit (.frame b f)).sendStriped b l
  | o => s.emit (match flip with | some k => .damaged k o | none => o)

end State

end Sys2Proof.Machine
end

