-- ==== Sys2Proof/Machine/Gob.lean ====
section
/-! DEFINITION. The die link's flits as the front die sends them (R13, R14), and the Gob (chapter 5): calibration,
cascade, coarse value, fills, step detection, mains tracking, and the words of the Gob stream. -/

namespace Sys2Proof.Machine

/-- The front die of a channel, 1 to 7 (R4). -/
def dieOf (n : Nat) : Nat := n / 128 + 1
/-- The quad of a channel (R4). -/
def quadOf (n : Nat) : Nat := n / 4
/-- The bank of a channel (R4). -/
def bankOfChan (n : Nat) : Nat := n / 32
/-- The channels of a quad. -/
def chansOfQuad (q : Nat) : List Nat := [4 * q, 4 * q + 1, 4 * q + 2, 4 * q + 3]
/-- The channels of a bank. -/
def chansOfBank (b : Nat) : List Nat := (List.range 32).map (32 * b + ·)
/-- The quads of a bank. -/
def State.quadsOfBank (b : Nat) : List Nat := (List.range 8).map (8 * b + ·)
/-- The bank that an entry of a channel, a quad, a bank, a capture or a spare slice lies in. -/
def bankOfReg (r : Reg) : Option Nat :=
  match r.grp with
  | .channel => some (bankOfChan r.inst)
  | .punty => some (bankOfChan r.inst)
  | .quad => some (r.inst / 8)
  | .sliceSpare => some (r.inst / 8)
  | .bank => some r.inst
  | _ => none
/-- The channels of a front die. -/
def chansOfDie (d : Nat) : List Nat := (List.range 128).map (128 * (d - 1) + ·)

/-- The words of a flit, word 0 in [991:960]. -/
def flitWords : List Nat → Nat → Nat
  | [], _ => 0
  | w :: t, i => w % 2 ^ 32 * 2 ^ (960 - 32 * i) + flitWords t (i + 1)

/-- A flit of Table 1-2 with the CRC that its sequence number seeds (R14). -/
def mkFlit (typ stream : Nat) (start stop : Bool) (words : List Nat) (seq : Nat) : Flit :=
  let body := typ % 16 * 2 ^ 1020 + stream % 4096 * 2 ^ 1008 + words.length % 32 * 2 ^ 1003 + ofBool start * 2 ^ 1002
    + ofBool stop * 2 ^ 1001 + flitWords words 0
  let f : Flit := BitVec.ofNat 1024 body
  BitVec.ofNat 1024 (body + flitCrc f seq)

/-- Link stream numbers of a die (DESIGN CHOICE, log entry 20): the Gob stream of channel c of the die is c, its
raw forwarding 128 + c, the segment drain 256. -/
def gobStream (n : Nat) : Nat := n % 128
/-- The raw forwarding stream of a channel (log entry 20). -/
def rawStream (n : Nat) : Nat := 128 + n % 128
/-- The segment drain stream of a die (log entry 20). -/
def drainStream : Nat := 256

/-- The first of `n` words and the rest. -/
def takeWords (n : Nat) (l : List Nat) : List Nat × List Nat := (l.take n, l.drop n)

/-- Units of 2^-8 main-clock period between conversions at a code of Table 4-1. -/
def convSpacing (code : Nat) : Nat := if code = 0 then 128 else 256 * 2 ^ (code - 1)

/-- Conversion rate of a code in samples per second (Table 4-1). -/
def convRate (code : Nat) : Nat := 3276800000 / 2 ^ code

/-- A raw word of three samples or fewer, Table 7-9. -/
def rawWord (l : List Sample) : Nat :=
  let mark := l.any fun x => x.marks.late || x.marks.refSuspect || x.marks.excFault || x.marks.substituted || x.marks.unset
  let ov := l.any fun x => x.marks.overRange || x.value == -512 || x.value == 511
  let c (i : Nat) := ofSigned 10 ((l.map (·.value)).getD i 0)
  ofBool mark * 2 ^ 31 + ofBool ov * 2 ^ 30 + c 2 * 2 ^ 20 + c 1 * 2 ^ 10 + c 0

/-- A Gob value word, Table 5-1. -/
def valueWord (coarse : Bool) (m : Marks) (v : Int) : Nat :=
  ofBool coarse * 2 ^ 30 + ofBool m.settling * 2 ^ 29 + ofBool m.late * 2 ^ 28 + ofBool m.refSuspect * 2 ^ 27
    + ofBool m.overRange * 2 ^ 26 + ofBool m.excFault * 2 ^ 25 + ofBool m.substituted * 2 ^ 24 + ofSigned 24 v

/-- A TIME marker and its second word, Table 5-2. -/
def timeMarker (pos : Nat) : List Nat :=
  [2 ^ 31 + 1 * 2 ^ 28 + pos / 2 ^ 32 % 2 ^ 24, pos % 2 ^ 32]

/-- A GAP marker, Table 5-2. -/
def gapMarker (n : Nat) : Nat := 2 ^ 31 + 2 * 2 ^ 28 + n % 2 ^ 24

/-- The nominal mains frequency in µHz (Table 5-7). -/
def mainsNominal (code : Nat) : Nat := if code = 0 then 50000000 else if code = 1 then 60000000 else 16700000

/-- The tracked range of a nominal frequency in µHz: ±10 % (R134). -/
def mainsRange (code : Nat) : Nat × Nat :=
  if code = 0 then (45000000, 55000000) else if code = 1 then (54000000, 66000000) else (15030000, 18370000)

/-- A length in 2^-8 inputs from cycles, the input rate num / den in µS/s and the frequency in µHz, rounded to nearest (R135). -/
def trackedLength (cycles num den freqMicro : Nat) : Nat :=
  if den * freqMicro = 0 then 256 else (roundEven (cycles * num * 256 : Nat) (den * freqMicro)).toNat

/-- The value that the counter of a record has at a main-clock edge (R31). -/
def TimeRec.at_ (r : TimeRec) (m : Nat) : Nat :=
  (((r.ticks * 2 ^ 32 + r.frac : Nat) + ((m : Int) - r.edge) * r.incr) / 2 ^ 32).toNat

/-- The unit of the values in a Gob: 2^-32 of the unit 1/4,000,000,000 of VALUE in which calibration is exact, so that samples
and quotients truncated at 2^-32 VALUE are whole numbers of it (R124). -/
def valueUnit : Nat := 4000000000 * 2 ^ 32

/-- A sum divided, truncated towards minus infinity at 32 bits of fraction of VALUE (R124). -/
def quotient (sum : Int) (len : Nat) : Int := sum / ((len * 4000000000 : Nat) : Int) * 4000000000

namespace State

/-- Does an injection rule act on the unit that now passes its target (R293), and what the rule then counts. -/
def ruleActs (s : State) (i : Nat) : Bool × State :=
  let c := tabGet 0 s.lanes.injCount i + 1
  let p := s.rd (R.ir_PARAM i)
  let s := s.putLanes { s.lanes with injCount := tabPut 0 i c s.lanes.injCount }
  let acts := match s.rd (R.ir_SELECT i) with
    | 0 => p != 0 && c % p == 0
    | 1 => decide (Config.injectDraw s.freeCount % 2 ^ 32 < p)
    | _ => decide (c ≤ p)
  let s := s.bump
  if !acts then (false, s)
  else
    let s := s.count (R.ir_HITS i) 1
    let l := s.rd (R.ir_LIMIT i)
    (true, if l != 0 && l ≤ s.rd (R.ir_HITS i) then (s.wr (R.ir_ENABLE i) 0).wr (R.ir_INJ_STATE i) 5 else s)

/-- The ACTION of the first rule that acts on a unit of a target, 0 none, with the rule (R293). -/
def injectAction (s : State) (target : Nat) : (Nat × Nat) × State :=
  let rules := (s.insts .injRule 0x01).filter fun i =>
    s.rdB (R.ir_ENABLE i) && s.rd (R.ir_INJ_STATE i) == 1 && s.rd (R.ir_TARGET i) == target
  rules.foldl (fun p i =>
    if p.1.1 != 0 then p
    else
      let r := p.2.ruleActs i
      (if r.1 then (s.rd (R.ir_ACTION i), i) else (0, 0), r.2)) ((0, 0), s)

/-- Main-clock edges of a time in ns. -/
def edgesOfNs (ns : Nat) : Nat := ceilDiv (ns * 16384) 10000

/-- A unit leaves on a target, as the injection rules let it (R293): dropped, with one bit inverted, after the next unit, after its
DELAY, or as it is. Other units pass one that is held (log entry 144). -/
def emitUnit (s : State) (target : Nat) (o : Out) : State :=
  let r := s.injectAction target
  let s := r.2
  if r.1.1 == 1 then s
  else if r.1.1 == 3 then s.putLanes { s.lanes with injHeld := s.lanes.injHeld ++ [(target, o)] }
  else if r.1.1 == 4 then
    s.putLanes { s.lanes with injDelayed := s.lanes.injDelayed ++ [(s.time.edge + edgesOfNs (s.rd (R.ir_DELAY r.1.2)), o)] }
  else
    let s := if r.1.1 == 2 then s.bump.leave (some (Config.injectBit s.freeCount)) o else s.leave none o
    let late := s.lanes.injHeld.filter (·.1 == target)
    let s := s.putLanes { s.lanes with injHeld := s.lanes.injHeld.filter (·.1 != target) }
    s.each late fun s p => s.leave none p.2

/-- Units whose DELAY has passed leave (R293). -/
def leaveDelayed (s : State) : State :=
  let due := s.lanes.injDelayed.filter fun e => e.1 ≤ s.time.edge
  (s.putLanes { s.lanes with injDelayed := s.lanes.injDelayed.filter fun e => s.time.edge < e.1 }).each due fun s e => s.leave none e.2

/-- A die link carries flits: its front die is fitted, and LINK_STATE is 2 or 3 (R12, Table 1-7). -/
def linkUp (s : State) (d : Nat) : Bool :=
  d ≤ s.part.fronts && (s.rd (R.di_LINK_STATE (d - 1)) == 2 || s.rd (R.di_LINK_STATE (d - 1)) == 3)

/-- A direction of a die link: to the hub die, or from it. -/
def linkDir (s : State) (d : Nat) (toHub : Bool) : LinkDir := if toHub then (s.link d).up else (s.link d).down

/-- A direction of a die link set. -/
def setLinkDir (s : State) (d : Nat) (toHub : Bool) (x : LinkDir) : State :=
  s.setLink d (if toHub then { s.link d with up := x } else { s.link d with down := x })

/-- A flit goes on the wires of a direction, which are targets of injection (R293). -/
def wireFlit (s : State) (d : Nat) (toHub : Bool) (f : Flit) : State :=
  s.emitUnit (0x20 + 2 * (d - 1) + ofBool toHub) (.flit d toHub f)

/-- A transmitter numbers one flit, keeps it for replay with the 127 before it, and sends it (R14, R15). -/
def transmit (s : State) (d : Nat) (toHub : Bool) (r : FlitRec) : State :=
  let x := s.linkDir d toHub
  let f := mkFlit r.typ r.stream r.start r.stop r.words x.txSeq
  (s.setLinkDir d toHub { x with txSeq := (x.txSeq + 1) % 4096, history := lastN 128 (x.history ++ [f]) }).wireFlit d toHub f

/-- What a transmitter holds leaves in order once the link carries flits and, from the front die, the hub die gives
credit (R16, R22, R27). -/
def releaseFlits (s : State) (d : Nat) (toHub : Bool) : State :=
  let x := s.linkDir d toHub
  if !s.linkUp d || (toHub && (s.link d).creditHeld) then s
  else (s.setLinkDir d toHub { x with held := [] }).each x.held fun s r => s.transmit d toHub r

/-- A transmitter takes one flit, behind those it holds (R13 to R16, R22, R27). -/
def sendRec (s : State) (d : Nat) (toHub : Bool) (r : FlitRec) : State :=
  let x := s.linkDir d toHub
  (s.setLinkDir d toHub { x with held := x.held ++ [r] }).releaseFlits d toHub

/-- The front die sends one flit of a link stream (R13). -/
def sendFlit (s : State) (d typ stream : Nat) (start stop : Bool) (words : List Nat) : State :=
  s.sendRec d true ⟨typ, stream, start, stop, words⟩

/-- Has a front die's transmitter flits that the hub die has not accepted yet. -/
def uplinkBusy (s : State) (d : Nat) : Bool :=
  let x := s.linkDir d true
  x.held != [] || x.rxSeq != x.txSeq

/-- The link of a die that is off goes to electrical idle once what the die sent has crossed, the END flits of its streams
among it (R13, R25, R117). -/
def settleLink (s : State) (d : Nat) : State :=
  let st := s.rd (R.di_LINK_STATE (d - 1))
  if s.rd (R.di_DIE_STATE (d - 1)) != 0 || st == 0 || (2 ≤ st && st ≤ 4 && s.uplinkBusy d) then s
  else s.wr (R.di_LINK_STATE (d - 1)) 0

/-- The channels whose streams of a kind have a flit on the way across a die link (R24): 2 Gob, 1 raw forwarding. -/
def crossing (s : State) (d typ : Nat) : List Nat :=
  let x := s.linkDir d true
  let sent := (lastN ((x.txSeq + 4096 - x.rxSeq) % 4096) x.history).map fun f =>
    (field f.toNat 1023 1020, field f.toNat 1019 1008)
  let l := (x.held.map fun e => (e.typ, e.stream)) ++ sent
  ((l.filter (·.1 == typ)).map fun e => 128 * (d - 1) + e.2 % 128).eraseDups

/-- Is an entry behind the fence of a bank or die being gated, until the bank is off (R115, R117). -/
def fenced (s : State) (r : Reg) : Bool :=
  match bankOfReg r with
  | some b => s.rd (R.bk_BANK_STATE b) == 4 || s.rd (R.bk_BANK_STATE b) == 5
  | none => r.grp == .die && 0x12 ≤ r.sub && s.rd (R.di_DIE_STATE r.inst) == 2

/-- Has the first conversion of the burst in hand come (R96, R103). -/
def burstBegun (s : State) (q : Nat) : Bool := (s.quad q).burstRunning && (s.quad q).burstEdge ≤ s.time.edge

/-- Does a channel convert in the burst in hand of its quad, which is not cut short (R100). -/
def inBurst (s : State) (n : Nat) : Bool := s.burstBegun (quadOf n) && (s.quad (quadOf n)).inHand.contains n

/-- Does the channel convert (CONV_STATUS bit 0). -/
def converting (s : State) (n : Nat) : Bool := bitAt (s.rd (R.ch_CONV_STATUS n)) 0

/-- The enabled Lehr paths whose SOURCE is the channel. -/
def pathsOf (s : State) (n : Nat) : List Nat :=
  (s.insts .path 0x01).filter fun p => s.rdB (R.pa_ENABLE p) && s.rd (R.pa_SOURCE p) == n

/-- Does a Lehr path still read a channel: it runs, or it finishes the outputs before its end (R159, R162). -/
def pathReads (s : State) (n : Nat) : Bool :=
  s.paths.any fun e => e.2.live && (e.2.fr.source == n || (s.lives e.1).any (·.fr.source == n))

/-- Does the Gob stream of a channel cross the die link (R129): GOB_STATUS bit 0. -/
def gobActive (s : State) (n : Nat) : Bool :=
  s.converting n && 1 ≤ s.rd (R.ch_STAGES n) && (s.pathsOf n != [] || s.pathReads n)

/-- Flits leave while 30 words are held (R13), at most k of them. -/
def drainWords (s : State) (n : Nat) : Nat → State
  | 0 => s
  | k + 1 =>
    let c := s.chan n
    if c.tailWords.length < 30 then s
    else
      let s := s.sendFlit (dieOf n) 2 (gobStream n) (!c.streamOpen) false (c.tailWords.take 30)
      (s.setChan n { c with tailWords := c.tailWords.drop 30, streamOpen := true }).drainWords n k

/-- Words of the Gob stream enter the packer (R129, R132). -/
def gobWords (s : State) (n : Nat) (ws : List Nat) : State :=
  if s.gobActive n then
    let c := s.chan n
    (s.setChan n { c with tailWords := c.tailWords ++ ws, sent := c.sent + ws.length }).drainWords n (c.tailWords.length + ws.length)
  else s

/-- The words held are sent in a flit of fewer than 30 (R13). -/
def flushWords (s : State) (n : Nat) : State :=
  let c := s.chan n
  if c.tailWords == [] then s
  else
    (s.sendFlit (dieOf n) 2 (gobStream n) (!c.streamOpen) false c.tailWords).setChan n
      { c with tailWords := [], streamOpen := true }

/-- The Gob stream ends: its last words go in an END flit (R13, R115). -/
def endGobStream (s : State) (n : Nat) : State :=
  let c := s.chan n
  let s :=
    if c.streamOpen || c.tailWords != [] then
      s.sendFlit (dieOf n) 2 (gobStream n) (!c.streamOpen) true c.tailWords
    else s
  s.setChan n { s.chan n with tailWords := [], streamOpen := false, needTime := true, lastFine := none }

/-- The Gob stream ends when nothing takes it any longer (R129). -/
def settleGob (s : State) (n : Nat) : State := if s.gobActive n then s else s.endGobStream n

/-- Raw forwarding runs: configured, converting and not shed (R28, R142). -/
def rawActive (s : State) (n : Nat) : Bool :=
  s.rdB (R.ch_RAW_FWD n) && s.converting n && s.rd (R.di_SHED_LEVEL (dieOf n - 1)) == 0

/-- Raw forwarding of a channel ends with an END flit (R25, R28). -/
def endRawStream (s : State) (n : Nat) : State :=
  let c := s.chan n
  let ws := c.rawWords ++ (if c.rawPend == [] then [] else [rawWord c.rawPend])
  let s := if c.rawOpen || ws != [] then s.sendFlit (dieOf n) 1 (rawStream n) (!c.rawOpen) true ws else s
  s.setChan n { c with rawPend := [], rawWords := [], rawOpen := false }

/-- A sample is forwarded raw: three to a word, thirty words to a flit (R13, R204). -/
def rawPush (s : State) (n : Nat) (x : Sample) : State :=
  let c := s.chan n
  let pend := c.rawPend ++ [x]
  if pend.length < 3 then s.setChan n { c with rawPend := pend }
  else
    let ws := c.rawWords ++ [rawWord pend]
    if ws.length < 30 then s.setChan n { c with rawPend := [], rawWords := ws }
    else
      (s.sendFlit (dieOf n) 1 (rawStream n) (!c.rawOpen) false ws).setChan n
        { c with rawPend := [], rawWords := [], rawOpen := true }

/-- Whole raw words held are sent in a flit of fewer than 30 (R13). -/
def flushRaw (s : State) (n : Nat) : State :=
  let c := s.chan n
  if c.rawWords == [] then s
  else
    (s.sendFlit (dieOf n) 1 (rawStream n) (!c.rawOpen) false c.rawWords).setChan n
      { c with rawWords := [], rawOpen := true }

/-- The marks that a channel's own condition puts on its samples (R75, R76, R105, R67, R70, R344, R37). -/
def chanMarks (s : State) (n : Nat) : Marks :=
  let st := s.rd (R.ch_CH_STATUS n)
  let q := quadOf n
  ⟨false, (s.chan n).deferred, bitAt (s.rd (R.ch_CONV_STATUS n)) 3,
   bitAt st 0 || bitAt st 3 || bitAt st 7, bitAt st 4,
   (s.spare q).phase == 3 && (s.spare q).moving == n % 4, s.rd R.tm_TIME_STATE == 0⟩

/-- Stage lengths and decimations as the entries give them. -/
def stageLenEntry (s : State) (n k : Nat) : Nat := s.rd ⟨.channel, n, 0x27 + 2 * k⟩
/-- D of a stage. -/
def stageDec (s : State) (n k : Nat) : Nat := s.rd ⟨.channel, n, 0x28 + 2 * k⟩

/-- The product of the decimations of stages 1 to k. -/
def decProduct (s : State) (n : Nat) : Nat → Nat
  | 0 => 1
  | k + 1 => s.decProduct n k * s.stageDec n (k + 1)

/-- Is the channel in burst conversion. -/
def isBurst (s : State) (n : Nat) : Bool := s.rd (R.ch_CONV_MODE n) == 1

/-- Is the polarity of a channel reversed each conversion cycle: in stage 1, by CHOP or by a swap mode in force (R73,
R80). -/
def chopOn (s : State) (n : Nat) : Bool :=
  s.rd (R.ch_STAGE n) == 1 && (s.rdB (R.ch_CHOP n) || 3 ≤ (s.quad (quadOf n)).exc.mode)

/-- The period of a quad's bursts in ns: TIMER_PERIOD or PWM_PERIOD as START_SRC says (R96). -/
def burstPeriod (s : State) (q : Nat) : Nat :=
  let src := s.rd (R.qd_START_SRC q)
  if src == 1 then s.rd (R.qd_TIMER_PERIOD q) else if src == 0 then 0 else s.rd (R.qd_PWM_PERIOD q)

/-- The input rate of stage k in µS/s, as a fraction: the conversion rate, or one burst value a period, over the decimations before
(R123, R125). -/
def rateFrac (s : State) (n k : Nat) : Nat × Nat :=
  let d := s.decProduct n (k - 1)
  if s.isBurst n then
    let p := s.burstPeriod (quadOf n)
    if p == 0 then (0, 1) else (1000000000000000, p * d)
  else (convRate (s.rd (R.ch_CONV_RATE n)) * 1000000, d)

/-- The input rate of stage k in whole µS/s. -/
def stageRate (s : State) (n k : Nat) : Nat := (s.rateFrac n k).1 / (s.rateFrac n k).2

/-- The mains frequency that lengths follow, in µHz (R135): MAINS_FREQ while tracking, the last tracked one while holding,
else the nominal one. -/
def mainsFollowed (s : State) (d : Nat) : Nat :=
  let nominal := mainsNominal (s.rd (R.di_MAINS_NOMINAL (d - 1)))
  match s.rd (R.di_MAINS_STATE (d - 1)) with
  | 2 => s.rd (R.di_MAINS_FREQ (d - 1))
  | 3 => if (s.dieRef d).lastFreq == 0 then nominal else (s.dieRef d).lastFreq
  | _ => nominal

/-- The length of stage k in 2^-8 inputs for TRACK_CYCLES periods of a mains frequency (R135). -/
def lengthAt (s : State) (n k freq : Nat) : Nat :=
  trackedLength (s.rd (R.ch_TRACK_CYCLES n)) (s.rateFrac n k).1 (s.rateFrac n k).2 freq

/-- The length of a stage in force, in 2^-8 inputs: tracked on TRACK_STAGE, else its entry (R135). -/
def stageLen (s : State) (n k : Nat) : Nat :=
  if s.rd (R.ch_TRACK_STAGE n) == k then
    let t := (s.chan n).tracked
    if t == 0 then s.lengthAt n k (s.mainsFollowed (dieOf n)) else t
  else s.stageLenEntry n k

/-- The inputs a stage's delay line keeps: those of its window, on TRACK_STAGE of the longest in the tracked range (R135,
R143). -/
def lineRoom (s : State) (n k : Nat) : Nat :=
  let len := if s.rd (R.ch_TRACK_STAGE n) == k then
    max (s.stageLen n k) (s.lengthAt n k (mainsRange (s.rd (R.di_MAINS_NOMINAL (dieOf n - 1)))).1) else s.stageLen n k
  len / 256 + 1

/-- Input spacing of stage k in 2^-24 main-clock periods. -/
def stageSpacing (s : State) (n k : Nat) : Nat :=
  let one :=
    if s.isBurst n then s.burstPeriod (quadOf n) * 65536 * 2 ^ 24 / 40000
    else convSpacing (s.rd (R.ch_CONV_RATE n)) * 2 ^ 16
  one * s.decProduct n (k - 1)

/-- The centroid of a stage behind its newest input, in input periods times the length, 2^-8 (R128). -/
def centroid (len : Nat) : Nat := len / 256 * (len / 256 - 1) / 2 * 256 + len % 256 * (len / 256)

/-- GROUP_DELAY for the settings in force, in 2^-8 main-clock periods, to nearest (R128). -/
def groupDelay (s : State) (n : Nat) : Nat :=
  let d := (List.range (s.rd (R.ch_STAGES n))).foldl (fun (a : Nat × Nat) i =>
    let len := s.stageLen n (i + 1)
    (a.1 * len + a.2 * centroid len * s.stageSpacing n (i + 1), a.2 * len)) (0, 1)
  (roundEven d.1 (d.2 * 65536)).toNat

/-- Steps 1 to 3 of R124 for k codes that add up to a sum: offset, gain, sign, times 2^14, exactly. -/
def calibrateWith (offset gain : Int) (sum : Int) (k : Nat) (neg : Bool) : Int :=
  let v := (sum * 65536 + k * offset) * (1000000000 + gain) * 2 ^ 32
  if neg then -v else v

/-- The correction of the reference that a channel's bank converts on, in ppb (R109; log entry 136). -/
def refCorr (s : State) (n : Nat) : Int :=
  let x := s.dieRef (dieOf n)
  if s.rd (R.bk_REF_SEL (bankOfChan n)) == 0 then x.corrA else x.corrB

/-- The calibrated value of k codes of the slice that serves a channel, its gain with the correction of the reference; in a fade,
of what it and the new slice took, the new one's share `w` rising to one in 2^-16 (R109, R124, R344). -/
def calibrate (s : State) (n : Nat) (sum other : Int) (k : Nat) (neg : Bool) : Int :=
  let ref := s.refCorr n
  let old := calibrateWith (s.rdI (R.ch_CAL_OFFSET n) 32) (s.rdI (R.ch_CAL_GAIN n) 32 + ref) sum k neg
  let x := s.spare (quadOf n)
  if x.phase == 3 && x.moving == n % 4 then
    let len := max 1 (if s.isBurst n then s.rd R.cu_FADE_BURSTS else s.rd R.cu_FADE_LEN)
    let w : Nat := min (x.done + 1) len * 65536 / len
    old + (calibrateWith x.newOffset (x.newGain + ref) other k neg - old) * w / 65536
  else old

/-- A substitution of a channel counts the sample, or the burst, that both slices took (Table 14-5 steps 2 and 4). -/
def substCount (s : State) (n : Nat) : State :=
  let x := s.spare (quadOf n)
  if x.phase != 0 && x.moving == n % 4 then s.setSpare (quadOf n) { x with done := x.done + 1 } else s

/-- The counter as it now goes on from the present edge (R31). -/
def recNow (s : State) : TimeRec :=
  ⟨s.time.edge, s.time.ticks, s.time.frac, s.rd R.tm_INCR, s.rd R.tm_TIME_STATE == 0⟩

/-- How the counter went on at an edge: the newest record not after it, else the oldest kept. -/
def recAt (s : State) (m : Nat) : TimeRec :=
  let l := s.recNow :: s.time.hist
  match l.find? fun r => r.edge ≤ m with
  | some r => r
  | none => l.getLastD s.recNow

/-- C(m), the hub time of a main-clock edge (R31): past the present edge, as the counter now goes on. -/
def timeOfEdge (s : State) (m : Nat) : Nat := (s.recAt m).at_ m

/-- The instant of an edge position (R32, R128; log entry 21): on an edge C(m), halfway C(m) and half of INCR's whole
ticks, elsewhere between the counter's values at the two edges beside it. -/
def timeOfPos (s : State) (pos : Nat) : Nat :=
  let m := pos / 256
  let r := s.recAt m
  let c := r.at_ m
  if pos % 256 == 0 then c
  else if pos % 256 == 128 then c + r.incr / 2 ^ 32 / 2
  else c + (r.at_ (m + 1) - c) * (pos % 256) / 256

/-- Was hub time UNSET at an edge position (R23, R37). -/
def unsetAt (s : State) (pos : Nat) : Bool := (s.recAt (pos / 256)).unset

/-- The edge position nearest the present that 56 bits stand for (R128). -/
def unwrapPos (s : State) (p : Nat) : Nat :=
  let here := s.time.edge * 256
  (here + toSigned 56 (ofSigned 56 ((p : Int) - here))).toNat

/-- AP_DELAY: the ball-to-aperture delay at the present stage, its gain or TIA setting, and the die's temperature (R71, R111). -/
def apDelay (s : State) (n : Nat) : Nat :=
  let stage := s.rd (R.ch_STAGE n)
  let setting := if stage == 1 || stage == 2 then s.rd (R.ch_PGA_GAIN n)
    else if stage == 3 then 4 * s.rd (R.ch_TIA_RF n) + s.rd (R.ch_TIA_CF n) else 0
  Config.apertureDelay n stage setting (tabGet 0 s.mode.tj (dieOf n)) % 2 ^ 32

/-- The delay that held at an edge position: settings of before end where they were changed (R111). -/
def apDelayAt (s : State) (n pos : Nat) : Nat :=
  match ((s.chan n).apOld.filter fun e => pos < e.1 * 256).getLast? with
  | some e => e.2
  | none => s.apDelay n

/-- A sample's instant at the input ball: its edge position's hub time less AP_DELAY (R32, R111; log entry 108). -/
def ballTime (s : State) (n pos : Nat) : Nat := s.timeOfPos pos - s.apDelayAt n pos

end State

/-- The element of a stage's line, or what stands for a sample that never was: the coarse value with its marks and
SETTLING, spaced back from the newest (R137, R140; log entry 22). -/
def lineAt (line : List GobVal) (dflt : Int × Marks) (newest spacing i : Nat) : GobVal :=
  match line.drop i with
  | v :: _ => v
  | [] => ⟨dflt.1, newest - i * spacing, newest - i * spacing, { dflt.2 with settling := true }⟩

/-- The output of a stage over its line, newest first: quotient, centroid, marks (R123, R124, R128, R132). -/
def stageOutput (line : List GobVal) (len : Nat) (dflt : Int × Marks) (newest spacing : Nat) : GobVal :=
  let n := len / 256
  let f := len % 256
  let full := (List.range n).map (lineAt line dflt newest spacing)
  let part := lineAt line dflt newest spacing n
  let sum := (full.foldl (fun a v => a + v.value) 0) * 256 + (if f = 0 then 0 else part.value * f)
  let psum := (full.foldl (fun a v => a + v.pos) 0) * 256 + (if f = 0 then 0 else part.pos * f)
  let marks := marksAll (full.map (·.marks) ++ (if f = 0 then [] else [part.marks]))
  let firsts := full.map (·.first) ++ (if f = 0 then [] else [part.first])
  ⟨quotient sum len, psum / len, firsts.foldl min newest, marks⟩

/-- A value as an output word carries it: to nearest, ties to even, saturated (R124). The second part tells saturation. -/
def gobValue (y : Int) : Int × Bool :=
  let v := roundEven y valueUnit
  let c := clampInt (-8388608) 8388607 v
  (c, decide (c ≠ v))

/-- A block with one more sample. -/
def GobBlock.add (b : GobBlock) (x : GobVal) : GobBlock :=
  ⟨b.sum + x.value, b.n + 1, b.pos + x.pos, if b.n = 0 then x.first else b.start, marksOr b.marks x.marks⟩

/-- The mean of a block (R137, R138). -/
def GobBlock.mean (b : GobBlock) : Int := quotient b.sum b.n

/-- The mean of a block as a coarse word carries it (R137, R139): to nearest, saturated with OVER_RANGE; and its edge
position, the mean of its samples'. -/
def GobBlock.coarse (b : GobBlock) : Int × Marks × Nat :=
  let v := gobValue b.mean
  (v.1, { b.marks with overRange := b.marks.overRange || v.2 }, (roundEven b.pos (b.n * 65536)).toNat)

namespace State

/-- Has the quantity a detector watches returned past its level by HYST (R182). -/
def detReturned (s : State) (n : Nat) (x : Int) : Bool :=
  let a := s.rdI (R.pu_LEVEL_A n) 32
  let h : Int := s.rd (R.pu_HYST n)
  if s.rd (R.pu_TRIG_TYPE n) == 3 then s.rdI (R.pu_LEVEL_B n) 32 + h ≤ x && x ≤ a - h
  else match s.rd (R.pu_POL n) with
    | 0 => x ≤ a - h
    | 1 => a + h ≤ x
    | _ => (x.natAbs : Int) ≤ a - h

/-- Is a sample beyond LEVEL_A as POL has it (Table 7-1). -/
def beyondLevel (s : State) (n : Nat) (x : Int) : Bool :=
  let a := s.rdI (R.pu_LEVEL_A n) 32
  match s.rd (R.pu_POL n) with
  | 0 => a ≤ x
  | 1 => x ≤ a
  | _ => a ≤ (x.natAbs : Int)

/-- The leading crossing after one more sample at an instant: it begins between a sample within the level and one beyond it,
goes on with every sample beyond it, and ends with the first that is not (Table 7-1, types 4 and 5). -/
def leadAfter (s : State) (n : Nat) (x : Int) (t : Nat) : Option Lead :=
  let c := s.cap n
  if s.beyondLevel n x then
    match c.lead with
    | some l => if l.ended then none else some { l with beyond := l.beyond + 1 }
    | none => c.prev.bind fun p => if s.beyondLevel n p.1 then none else some ⟨p.1, x, p.2, t, 1, false⟩
  else c.lead.bind fun l => if l.ended then none else some { l with ended := true }

/-- Punty sees a sample at a tap of a channel it watches (R179): its instant, the detector's return (R182), and the leading
crossing that types 4 and 5 wait on. -/
def tapSample (s : State) (n tap : Nat) (x : Int) (pos : Nat) : State :=
  if s.rdB (R.pu_CAP_ENABLE n) && s.rd (R.pu_TAP n) == tap then
    let c := s.cap n
    let t := s.ballTime n pos
    let span := if s.rd (R.pu_TRIG_TYPE n) == 2 then s.rd (R.pu_SLOPE_SPAN n) else 0
    let q := if span == 0 then x else x - (c.hist.drop (span - 1)).headD x
    s.setCap n { c with
      lastSample := t, hist := (x :: c.hist).take span
      detReady := c.detReady || s.detReturned n q, prev := some (x, t), lead := s.leadAfter n x t }
  else s

/-- Every value held in the cascade that a test selects carries SETTLING from now on (R140). -/
def settleWhere (s : State) (n : Nat) (p : GobVal → Bool) : State :=
  let c := s.chan n
  let mk (g : GobVal) : GobVal := if p g then { g with marks := { g.marks with settling := true } } else g
  (s.setChan n { c with lines := c.lines.map fun l => l.map mk }).wrBit (R.ch_GOB_STATUS n) 1 true

/-- Every value held in the cascade carries SETTLING from now on (R140). -/
def settleLines (s : State) (n : Nat) : State := s.settleWhere n fun _ => true

/-- The tracked stage takes a new length at its next output (R135): a change counts and moves the centroid, one of more
than 0.5 % from the last flagged length counts as a replacement. -/
def adoptLength (s : State) (n k : Nat) : State :=
  let was := (s.chan n).tracked
  let len := s.lengthAt n k (s.mainsFollowed (dieOf n))
  if s.rd (R.ch_TRACK_STAGE n) != k || len == was then s
  else if was == 0 then s.setChan n { s.chan n with tracked := len, trackFlag := len }
  else
    let base := (s.chan n).trackFlag
    let big := base * 5 < ((len : Int) - base).natAbs * 1000
    let s := (s.setChan n { s.chan n with tracked := len, needTime := true, trackFlag := if big then len else base }).count
      (R.di_MAINS_UPDATES (dieOf n - 1)) 1
    if big then s.settleLines n else s

/-- One input enters stage k: the line shifts, the count rises, and at D an output falls due (R123, R135). -/
def stageIn (s : State) (n k : Nat) (x : GobVal) : State × Option GobVal :=
  let c := s.chan n
  let cnt := c.counts.getD (k - 1) 0 + 1
  let due := s.stageDec n k ≤ cnt
  let s := s.setChan n { c with
    lines := listSet c.lines (k - 1) ((x :: c.lines.getD (k - 1) []).take (s.lineRoom n k))
    counts := listSet c.counts (k - 1) (if due then 0 else cnt) }
  if !due then (s, none)
  else
    let s := s.adoptLength n k
    let c := s.chan n
    (s, some (stageOutput (c.lines.getD (k - 1) []) (s.stageLen n k) (c.coarseMean, c.coarseMarks) x.pos (s.stageSpacing n k)))

/-- How far the hub die has read a channel's Gob stream. -/
def rxStream (s : State) (n : Nat) : RxStream := tabGet ⟨none, none, none, 0⟩ s.lehr.streams n
/-- How far a channel's Gob stream has been read, set. -/
def setRxStream (s : State) (n : Nat) (x : RxStream) : State :=
  s.putLehr { s.lehr with streams := tabPut ⟨none, none, none, 0⟩ n x s.lehr.streams }

/-- The output spacing of a channel's Gob stream for the settings in force, for a word on (R130, R158). -/
def stepNow (s : State) (n word : Nat) : StreamStep :=
  let k := s.rd (R.ch_STAGES n)
  ⟨word, s.stageSpacing n (k + 1) / 65536,
   if s.isBurst n then s.burstPeriod (quadOf n) * s.decProduct n k * ticksPerNs else 0⟩

/-- The word to be sent `ahead` words on begins a new spacing; spacings of words already read are forgotten (R23, R130). -/
def noteStep (s : State) (n ahead : Nat) : State :=
  let c := s.chan n
  let e := s.stepNow n (c.sent + ahead)
  if !s.gobActive n || c.steps.head?.any (fun o => o.span == e.span && o.burst == e.burst) then s
  else
    let read := (s.rxStream n).read
    let unread := c.steps.takeWhile fun o => read < o.word
    s.setChan n { c with steps := e :: (unread ++ (c.steps.drop unread.length).take 1) }

/-- The spacing that a word of a Gob stream was sent with (R23, R130). -/
def stepOf (s : State) (n word : Nat) : StreamStep :=
  ((s.chan n).steps.find? fun e => e.word ≤ word).getD (s.stepNow n 0)

/-- A fine output leaves the cascade: LAST_VALUE, the status bits and the words of the stream (R130, R140). -/
def fineOutput (s : State) (n : Nat) (y : GobVal) : State :=
  let v := gobValue y.value
  let m := { y.marks with overRange := y.marks.overRange || v.2 }
  let pos := (roundEven y.pos 65536).toNat % 2 ^ 56
  let c := s.chan n
  let spacing := s.stageSpacing n (s.rd (R.ch_STAGES n) + 1) / 65536
  let same := (c.lastFine.map fun p => (p + spacing) % 2 ^ 56) == some pos
  let mark := c.needTime || s.isBurst n || !same
  let s := (s.setChan n { c with lastFine := some pos, needTime := !s.gobActive n }).wrI (R.ch_LAST_VALUE n) 32 v.1
  let s := if m.settling then s else s.wrBit (R.ch_GOB_STATUS n) 1 false
  let time := if mark then timeMarker pos else []
  (s.noteStep n time.length).gobWords n (time ++ [valueWord false m v.1])

/-- An output whose newest input is a burst that R100 did not start: it is not produced, and a GAP marker counts it
(R141). -/
def gapOutput (s : State) (n : Nat) : State :=
  ((s.setChan n { s.chan n with needTime := true }).noteStep n 0).gobWords n [gapMarker 1]

/-- A stage-1 output of the channel that MAINS_SENSE names reaches the mains tracker of its die (R134). -/
def senseIn (s : State) (n k : Nat) (y : GobVal) : State :=
  let d := dieOf n
  if k != 1 || s.rd (R.di_MAINS_SENSE (d - 1)) != n then s
  else s.setDieRef d { s.dieRef d with sense := ((y.value, y.pos) :: (s.dieRef d).sense).take 2 }

/-- An input runs through the stages still to come (R123); after a missing burst, without taps and outputs (R141). -/
def cascade (s : State) (n : Nat) (missing : Bool) (x : GobVal) : List Nat → State
  | [] => if missing then s.gapOutput n else s.fineOutput n x
  | k :: t =>
    match s.stageIn n k x with
    | (s, none) => s
    | (s, some y) =>
      (if missing then s else (s.tapSample n k (gobValue y.value).1 (y.pos / 65536)).senseIn n k y).cascade n missing y t

/-- An input of stage 1 runs through the cascade; STAGES 0 has none (R123). -/
def gobInput (s : State) (n : Nat) (missing : Bool) (x : GobVal) : State :=
  let k := s.rd (R.ch_STAGES n)
  if k == 0 then s else s.cascade n missing x ((List.range k).map (· + 1))

/-- The fill value: the mean of the last COARSE_LEN valid samples, or the last burst value; with the flags of those and
SETTLING (R132, R138, R140; log entry 155). -/
def fillFor (s : State) (n pos : Nat) : GobVal :=
  let c := s.chan n
  let l := c.recent.take (if s.isBurst n then 1 else s.rd (R.ch_COARSE_LEN n))
  if l == [] then ⟨c.coarseMean, pos, pos, { c.coarseMarks with settling := true }⟩
  else ⟨quotient ((l.map (·.1)).foldl (· + ·) 0) l.length, pos, pos, { marksAll (l.map (·.2)) with settling := true }⟩

/-- A valid value is remembered for fills (R138). -/
def remember (s : State) (n : Nat) (x : GobVal) : State :=
  let c := s.chan n
  s.setChan n { c with recent := ((x.value, x.marks) :: c.recent).take (s.rd (R.ch_COARSE_LEN n)) }

/-- A coarse word: COARSE_VALUE, COARSE_TIME and a value word with COARSE behind a TIME marker (R130, R137). -/
def coarseWord (s : State) (n : Nat) (b : GobBlock) : State :=
  let (v, m, pos) := b.coarse
  let s := (s.wrI (R.ch_COARSE_VALUE n) 32 v).wr (R.ch_COARSE_TIME n) (t96OfTicks (s.ballTime n pos))
  let s := s.gobWords n (timeMarker (pos % 2 ^ 56) ++ [valueWord true m v])
  s.setChan n { s.chan n with needTime := true }

/-- Samples of a block: COARSE_LEN, or one burst value (R137, R139). -/
def blockNeed (s : State) (n : Nat) : Nat := if s.isBurst n then 1 else s.rd (R.ch_COARSE_LEN n)

/-- A change begins: samples are withheld and outputs held for the coarse value (R137 step 1, Table 5-3), which also stands for what
an earlier change still held. With `restart` every stage counts anew, and a conversion cycle begins (R73, R123). -/
def gobChange (s : State) (n : Nat) (restart : Bool) : State :=
  let c := s.chan n
  let old := c.heldIn.map fun e => (e.1, if e.2 == .valid then .withheld else e.2)
  let s := s.setChan n { c with
    hold := .change, held := 1, block := GobBlock.init, det := GobBlock.init, detDone := [], prevMean := none
    heldIn := if restart && old != [] then old ++ [(⟨0, 0, 0, Marks.none⟩, .restart)] else old
    counts := if restart && old == [] then [0, 0, 0, 0] else c.counts
    chopNeg := if restart && c.cycle != 0 then s.chopOn n && !c.chopNeg else c.chopNeg
    cycle := if restart then 0 else c.cycle }
  (s.wrBit (R.ch_GOB_STATUS n) 1 true).wrBit (R.ch_GOB_STATUS n) 2 true

/-- Samples are withheld without a change: they are filled (R138). -/
def gobWithhold (s : State) (n : Nat) (h : Hold) : State :=
  let c := s.chan n
  if c.hold == .change then s
  else (s.setChan n { c with hold := h }).wrBit (R.ch_GOB_STATUS n) 1 true

/-- A coarse value is to follow, unless one is awaited with the outputs held (R138). -/
def awaitCoarse (s : State) (n : Nat) : State :=
  let c := s.chan n
  (s.setChan n { c with
    held := if c.held == 1 then 1 else 2, block := if c.held == 1 then c.block else GobBlock.init }).wrBit
    (R.ch_GOB_STATUS n) 2 true

/-- Samples pass again: after a change the coarse value is awaited with the outputs held, after a fill it is only
published (R137, R138). -/
def gobResume (s : State) (n : Nat) : State :=
  if (s.chan n).hold == .none then s else (s.setChan n { s.chan n with hold := .none }).awaitCoarse n

/-- A valid sample counts for step detection (R139), which is suspended while GOB_STATUS bit 1 is set. -/
def detTake (s : State) (n : Nat) (x : GobVal) : State :=
  let c := s.chan n
  if s.rd (R.ch_STEP_DETECT n) == 0 || bitAt (s.rd (R.ch_GOB_STATUS n)) 1 then
    s.setChan n { c with det := GobBlock.init, detDone := [], prevMean := none }
  else
    let b := c.det.add x
    if b.n < s.blockNeed n then s.setChan n { c with det := b }
    else s.setChan n { c with det := GobBlock.init, detDone := c.detDone ++ [b] }

/-- A value at the input of stage 1 takes its way: withheld or held back until the coarse value is known, filled, or
passed (R137, R138). -/
def gobTake (s : State) (n : Nat) (x : GobVal) : State :=
  let c := s.chan n
  let kind : HeldKind := if c.hold == .none then .valid else .withheld
  let s :=
    if c.hold != .none then s
    else
      let s := (s.remember n x).detTake n x
      let c := s.chan n
      if c.held != 0 && c.block.n < s.blockNeed n then s.setChan n { c with block := c.block.add x } else s
  if c.hold == .change || c.held == 1 then s.setChan n { s.chan n with heldIn := (s.chan n).heldIn ++ [(x, kind)] }
  else if c.hold != .none then (s.count (R.ch_WITHHELD n) 1).gobInput n false (s.fillFor n x.pos)
  else s.gobInput n false x

/-- A value held back takes its way once the coarse value is known: a withheld one as the coarse value (R137 step 4). -/
def takeHeld (s : State) (n : Nat) (cov : GobVal → GobVal) (e : GobVal × HeldKind) : State :=
  if e.2 == .restart then s.setChan n { s.chan n with counts := [0, 0, 0, 0] }
  else s.gobInput n (e.2 == .missing) (if e.2 == .valid then e.1 else cov e.1)

/-- The coarse value is published and, after a change, stands for every sample before the first valid one; the
outputs held back follow on their own instants (R137 steps 2 to 4; log entry 154). -/
def publishCoarse (s : State) (n : Nat) : State :=
  let c := s.chan n
  let v := c.block.mean
  let s := (s.coarseWord n c.block).wrBit (R.ch_GOB_STATUS n) 2 false
  let s := s.setChan n { s.chan n with coarseMean := v, coarseMarks := c.block.marks, held := 0, heldIn := [], block := GobBlock.init }
  if c.held == 1 then
    let cov (g : GobVal) : GobVal := ⟨v, g.pos, g.pos, { c.block.marks with settling := true, unset := g.marks.unset }⟩
    let c2 := s.chan n
    let lines := c2.lines.map fun l => l.map cov
    let inCascade := min (c2.lines.getD 0 []).length (ceilDiv (s.stageLen n 1) 256)
    let gone := (c.heldIn.filter fun e => e.2 != .valid && e.2 != .restart).length + (if s.rd (R.ch_STAGES n) == 0 then 0 else inCascade)
    let s := (s.setChan n { c2 with lines := lines }).count (R.ch_WITHHELD n) gone
    s.each c.heldIn fun s e => s.takeHeld n cov e
  else s

/-- Step detection compares the means of two consecutive blocks; the later one is published and what holds a sample
from before it settles (R139, R140). -/
def stepDetect (s : State) (n : Nat) (b : GobBlock) : State :=
  let c := s.chan n
  let limit := s.rd (R.ch_STEP_DETECT n)
  let jump := match c.prevMean with
    | some p => decide (((limit * valueUnit * p.2 * b.n : Nat) : Int) < ((b.sum * p.2 - p.1 * b.n).natAbs : Int))
    | none => false
  let s := s.setChan n { c with prevMean := some (b.sum, b.n) }
  if jump then ((s.coarseWord n b).count (R.ch_STEPS_DETECTED n) 1).settleWhere n fun g => g.first < b.start else s

/-- A burst that R100 does not start: a fill value in its place, and the outputs it would have been the newest input of
not produced; the coarse value follows when bursts resume (R138, R141). -/
def gobMissingBurst (s : State) (n pos : Nat) : State :=
  let c := s.chan n
  let fill := s.fillFor n (pos * 65536)
  if c.hold == .change || c.held == 1 then s.setChan n { c with heldIn := c.heldIn ++ [(fill, .missing)] }
  else (((s.count (R.ch_WITHHELD n) 1).wrBit (R.ch_GOB_STATUS n) 1 true).gobInput n true fill).awaitCoarse n

/-- GOB_STATUS as it reads (Table 5-6): bit 0 while the stream crosses, bits 3 and 4 while the tracked length follows or
holds (R129, R135). -/
def gobStatus (s : State) (n : Nat) : Nat :=
  let track := s.rd (R.ch_TRACK_STAGE n) != 0
  let st := s.rd (R.di_MAINS_STATE (dieOf n - 1))
  putBit (putBit (putBit (s.rd (R.ch_GOB_STATUS n)) 0 (s.gobActive n)) 3 (track && st == 2)) 4 (track && st == 3)

/-- Tracking stops and lengths hold (R135). -/
def mainsHold (s : State) (d : Nat) : State :=
  (s.setDieRef d { s.dieRef d with mainsTimes := [], goodCycles := 0 }).wr (R.di_MAINS_STATE (d - 1)) 3

end State

namespace State

/-- The channels a reference state affects (R106, R107): all of the die without an accepted REFX or a single drifted
reference, else the banks that use the drifted one; and the banks that a REF_SEL write has left flagged (log entry 28). -/
def refAffects (s : State) (d n : Nat) : Bool :=
  let st := s.rd (R.di_REF_STATE (d - 1))
  let sel := s.rd (R.bk_REF_SEL (bankOfChan n))
  if (s.dieRef d).heldBanks.contains (bankOfChan n) || !s.rdB (R.di_REFX_PRESENT (d - 1)) || bitAt st 6 then true
  else if bitAt st 2 then sel == 0 else if bitAt st 3 then sel == 1 else !bitAt st 4

/-- CONV_STATUS bits 2 and 3 of a die's channels follow REF_STATE (R105). -/
def markRefs (s : State) (d : Nat) : State :=
  let st := s.rd (R.di_REF_STATE (d - 1))
  s.each (chansOfDie d) fun s n =>
    let a := s.refAffects d n
    (s.wrBit (R.ch_CONV_STATUS n) 2 (a && bitAt st 0)).wrBit (R.ch_CONV_STATUS n) 3 (a && bitAt st 1)

/-- A bank that waits to leave a drifted reference switches between bursts, and in continuous conversion at the end of a
conversion cycle (R73, R107). -/
def settleSwitch (s : State) (b : Nat) (cycleEnd : Bool) : State :=
  let d := b / 4 + 1
  let x := s.dieRef d
  let chans := (chansOfBank b).filter s.converting
  let burst := (List.range 8).any fun i => s.burstBegun (8 * b + i)
  let cycle := chans.any fun n => !s.isBurst n
  if !x.switching.contains b || burst || (cycle && !cycleEnd) then s
  else
    let s := s.setDieRef d { x with switching := x.switching.filter (· != b) }
    let s := (s.wr (R.bk_REF_SEL b) (1 - s.rd (R.bk_REF_SEL b))).count (R.bk_REF_SWITCHES b) 1
    (s.each chans settleLines).markRefs d

end State

/-- The code of an input in 2^-16 LSB: to nearest with ties to even, between -512 and +511; from 510.5 LSB on it is +511 (R94; of
the tie at 510.5 LSB the rule says both, log entry 135). -/
def codeOf (input : Int) : Int := if 1021 * 32768 ≤ input then 511 else clampInt (-512) 511 (roundEven input 65536)

namespace State

/-- A sample's marks: its own, its channel's, and over-range at the last codes (R132). -/
def sampleMarks (s : State) (n : Nat) (x : Sample) (code : Int) : Marks :=
  let m := marksOr x.marks (s.chanMarks n)
  { m with overRange := m.overRange || code == -512 || code == 511 }

/-- A slice sample leaves the slice: it is counted, forwarded raw with its sign restored, and seen at tap 0; its sign and
marks (R73, R94, R142). -/
def sliceSample (s : State) (n : Nat) (x : Sample) (pos : Nat) : State × Sample :=
  let code := codeOf x.value
  let neg := (s.chan n).chopNeg
  let raw : Sample := ⟨if neg then -code else code, s.sampleMarks n x code⟩
  let s := s.count (R.ch_SAMPLES n) 1
  let s := if s.rawActive n && (s.chan n).hold == .none then s.rawPush n raw else s
  (s.tapSample n 0 raw.value pos, raw)

/-- A channel in continuous conversion has taken one more sample: at the end of the conversion cycle, one window of stage 1, CHOP
reverses the input stage, and after the first cycle of a deferred start samples are no longer late (R73, R103). -/
def cycleTick (s : State) (n : Nat) : State :=
  let c := s.chan n
  let ends := s.stageDec n 1 ≤ c.cycle + 1
  s.setChan n { c with
    cycle := if ends then 0 else c.cycle + 1, chopNeg := if ends then s.chopOn n && !c.chopNeg else c.chopNeg
    lateLeft := c.lateLeft - 1, deferred := c.deferred && 1 < c.lateLeft }

end State

/-- COARSE_VALUE_PUBLISH: COARSE_LEN valid samples after a change or a fill give the coarse value (R137, R138). -/
def coarseValuePublish (n : Nat) (s : State) : State :=
  let c := s.chan n
  if c.held == 0 || c.hold != .none || c.block.n < s.blockNeed n || c.block.n == 0 then s else s.publishCoarse n

/-- COARSE_BLOCK_END: a block of COARSE_LEN valid samples has ended, and its mean is compared (R139). -/
def coarseBlockEnd (n : Nat) (s : State) : State :=
  let c := s.chan n
  match c.detDone with
  | [] => s
  | b :: t =>
    if bitAt (s.rd (R.ch_GOB_STATUS n)) 1 || c.hold != .none then s.setChan n { c with detDone := [], prevMean := none }
    else (s.setChan n { c with detDone := t }).stepDetect n b

/-- SHADOW_SUM_RESTART: the shadow sum replaces the running sum; a difference is counted and logged (R143). -/
def shadowSumRestart (n _stage : Nat) (mismatch : Bool) (s : State) : State :=
  if mismatch then
    (((s.count (R.ch_SUM_MISMATCH n) 1).count R.ig_GOB_MISMATCH 1).wrBit (R.ch_GOB_STATUS n) 5 true).logEvent 9 n 1
  else s

/-- GOB_FLUSH_INTERVAL: the oldest word has waited the flush interval (R13; log entry 148). -/
def gobFlushInterval (n : Nat) (s : State) : State := (s.flushWords n).flushRaw n

/-- The positive-going crossing of the sense signal through its mean, between its last two outputs: the edge position found by
interpolation (R134). -/
def State.crossingPos (s : State) (d : Nat) (mean : Int) : Option Nat :=
  match (s.dieRef d).sense with
  | (v1, p1) :: (v0, p0) :: _ =>
    if s.rd (R.di_MAINS_SENSE (d - 1)) != 0xFFFF && v0 < mean && mean ≤ v1 then some ((p0 * (v1 - mean) + p1 * (mean - v0)) / ((v1 - v0) * 65536)).toNat else none
  | _ => none

/-- MAINS_CROSSING: the tracker, which knows the mean of the sense signal, finds a positive-going crossing (R134, R135; log entry
137). -/
def mainsCrossing (d : Nat) (mean : Int) (s : State) : State :=
  let i := d - 1
  match s.crossingPos d mean with
  | none => s
  | some pos =>
    let x := { s.dieRef d with sense := (s.dieRef d).sense.take 1 }
    let avg := s.rd (R.di_MAINS_AVG i)
    let times := lastN (avg + 1) (x.mainsTimes ++ [pos])
    let cycles := times.length - 1
    let span := times.getLastD 0 - times.headD 0
    let freq := if span = 0 then 0 else cycles * 1638400000 * 256 * 1000000 / span
    let s := s.setDieRef d { x with mainsTimes := times, goodCycles := x.goodCycles + 1 }
    if cycles = 0 then (if s.rd (R.di_MAINS_STATE i) == 0 then s.wr (R.di_MAINS_STATE i) 1 else s)
    else
      let r := mainsRange (s.rd (R.di_MAINS_NOMINAL i))
      if freq < r.1 || r.2 < freq then s.mainsHold d
      else
        let s := s.wr (R.di_MAINS_FREQ i) (freq % 2 ^ 32)
        let tracking := avg ≤ (s.dieRef d).goodCycles - 1 || s.rd (R.di_MAINS_STATE i) == 2
        if tracking then (s.wr (R.di_MAINS_STATE i) 2).setDieRef d { s.dieRef d with lastFreq := freq % 2 ^ 32 }
        else if s.rd (R.di_MAINS_STATE i) == 0 then s.wr (R.di_MAINS_STATE i) 1 else s

/-- MAINS_MISSED_CYCLES: the sense signal left the range or missed three cycles (R135). -/
def mainsMissedCycles (d : Nat) (s : State) : State :=
  let st := s.rd (R.di_MAINS_STATE (d - 1))
  if st == 1 || st == 2 then s.mainsHold d else s

end Sys2Proof.Machine
end

