-- ==== Sys2Proof/Machine/Punty.lean ====
section
/-! DEFINITION. Punty and the trigger matrix (chapter 7): detectors, triggers, segments, space, the collector, the
matrix and remote triggers. -/

namespace Sys2Proof.Machine

/-- A quotient rounded to nearest, a tie upwards (R183, R200; log entry 23). -/
def roundNear (a b : Nat) : Nat := (2 * a + b) / (2 * b)

/-- FRAC of R183: 256 (level − x0) / (x1 − x0) to nearest, limited to 0 to 255. -/
def crossFrac (level x0 x1 : Int) : Nat :=
  let num := 256 * (level - x0)
  let den := x1 - x0
  let n := if den < 0 then -num else num
  if den = 0 ∨ n ≤ 0 then 0 else min 255 (roundNear n.toNat den.natAbs)

/-- The ILINE, TRIG, ALERT and other balls by number, as `Out.pin` names them: ILINE l is 16 + l, PPS_OUT is 1. -/
def pinIline (l : Nat) : Nat := 16 + l

/-- Words of k stored samples at a tap: ⌈k/3⌉ raw words at TAP 0, k value words else (R197). -/
def tapWords (tap k : Nat) : Nat := if tap = 0 then ceilDiv k 3 else k

/-- The data words of a segment (R202): raw words at TAP 0, Gob value words else. -/
def segmentWords (tap : Nat) : List Sample → List Nat
  | [] => []
  | [a] => if tap = 0 then [rawWord [a]] else [valueWord false a.marks a.value]
  | [a, b] => if tap = 0 then [rawWord [a, b]] else [valueWord false a.marks a.value, valueWord false b.marks b.value]
  | a :: b :: c :: t =>
    (if tap = 0 then [rawWord [a, b, c]] else [a, b, c].map fun x => valueWord false x.marks x.value)
      ++ segmentWords tap t

/-- The stored sample of largest magnitude, the first of equals, with its index (Table 7-7 words 13 and 14). -/
def peakOf (l : List Sample) : Int × Nat :=
  ((l.zip (List.range l.length)).foldl (fun (b : Int × Nat) p =>
    if b.1.natAbs < p.1.value.natAbs then (p.1.value, p.2) else b) ((l.map (·.value)).headD 0, 0))

/-- FLAGS that an early close sets, by row of Table 7-6: 1 ABORT, 2 gated, 3 shed, 4 time, 5 withheld; 6 is a stop for want of
space that no segment reports (R196, R198). -/
def closeFlags (row : Nat) : Nat :=
  match row with
  | 1 => 4 + 2 | 2 => 4 + 2 + 1 | 3 => 2 + 1 | 4 => 2 ^ 13 + 2 | 5 => 2 ^ 12 + 2 | 6 => 1 | _ => 0

/-- Bits [8:3] of FLAGS: the marks of every stored sample together (R203). -/
def markFlags (m : Marks) : Nat :=
  ofBool m.late * 8 + ofBool m.refSuspect * 16 + ofBool m.overRange * 32 + ofBool m.excFault * 64
    + ofBool m.substituted * 128 + ofBool m.unset * 256

/-- A segment of sixteen header words and its data, with the CRC in word 15 (R202, R205). -/
def sealSegment (header data : List Nat) : List Nat :=
  header ++ [crc32c (octetsOfWords (header ++ data))] ++ data

/-- Remote trigger block, Table 7-2. -/
def remoteBlock (origin hops tag seq t96 : Nat) (late : Bool) : Block :=
  let body := 0x0C * 2 ^ 248 + origin % 256 * 2 ^ 240 + hops % 256 * 2 ^ 232 + tag % 32 * 2 ^ 227
    + seq % 65536 * 2 ^ 208 + t96 % 2 ^ 96 * 2 ^ 112 + ofBool late * 2 ^ 32
  let b : Block := BitVec.ofNat 256 body
  BitVec.ofNat 256 (body + blockCrc b)

/-- Does the list of distinct sources of some events reach a number. -/
def sourceCount (l : List MxEvent) : Nat := (l.map (·.src)).eraseDups.length

namespace State

/-- The tap period of a channel in ticks (R179). -/
def tapPeriod (s : State) (n : Nat) : Nat :=
  let code := s.rd (R.ch_CONV_RATE n)
  (if code == 0 then 20000 else 40000 * 2 ^ (code - 1)) * s.decProduct n (s.rd (R.pu_TAP n))

/-- Samples of history: PRE + ⌈LOOKBACK / Ts⌉ (R190). -/
def historyLen (s : State) (n : Nat) : Nat :=
  s.rd (R.pu_PRE n) + ceilDiv (s.rd (R.pu_LOOKBACK n) * ticksPerNs) (s.tapPeriod n)

/-- S of R197: the octets of one segment. -/
def segOctets (s : State) (n : Nat) : Nat := 64 + 4 * tapWords (s.rd (R.pu_TAP n)) (s.rd (R.pu_SEG_LEN n))

/-- H of R197: the octets of a channel's history. -/
def histOctets (s : State) (n : Nat) : Nat := 4 * tapWords (s.rd (R.pu_TAP n)) (s.historyLen n)

/-- The channels with capture enabled, rising. -/
def capChannels (s : State) : List Nat := (s.insts .punty 0x01).filter fun n => s.rdB (R.pu_CAP_ENABLE n)

/-- The channels of a die with capture enabled. -/
def capOfDie (s : State) (d : Nat) : List Nat := s.capChannels.filter fun n => dieOf n == d

/-- Is the capture of a channel stopped by shedding step 2: its CAP_PRIO is below the highest in use on its die (R28). -/
def shedCapture (s : State) (n : Nat) : Bool :=
  let top := ((s.capOfDie (dieOf n)).map fun c => s.rd (R.pu_CAP_PRIO c)).foldl max 0
  2 ≤ s.rd (R.di_SHED_LEVEL (dieOf n - 1)) && s.rd (R.pu_CAP_PRIO n) < top

/-- Reserved octets of a die (R197). -/
def sramReserved (s : State) (d : Nat) : Nat :=
  (s.capOfDie d).foldl (fun a n => a + s.segOctets n + s.histOctets n) 0

/-- The segments of a channel that wait to drain. -/
def segsOf (s : State) (n : Nat) : List Segment := s.segments.filter fun g => g.chan == n

/-- The segments of a die that wait to drain: its ring. -/
def ringOf (s : State) (d : Nat) : List Segment := s.segments.filter fun g => dieOf g.chan == d

/-- Octets in use in a die's segment SRAM: histories of armed channels and segments not yet drained. -/
def sramUsed (s : State) (d : Nat) : Nat :=
  let live := (s.capOfDie d).filter fun n => s.rd (R.pu_ARM_STATE n) == 2 || s.rd (R.pu_ARM_STATE n) == 3
  (s.ringOf d).foldl (fun a g => a + 4 * g.words.length) (live.foldl (fun a n => a + s.histOctets n) 0)

/-- Has a channel a claim on the space of its next segment: armed, capturing or about to re-arm. -/
def claims (s : State) (n : Nat) : Bool :=
  let st := s.rd (R.pu_ARM_STATE n)
  st == 2 || st == 3 || st == 4

/-- Octets of the shared space that are taken: by segments, and by channels that will take one (R197). -/
def sharedOctets (s : State) (d : Nat) : Nat :=
  let held := ((s.ringOf d).filter (·.shared)).foldl (fun a g => a + 4 * g.words.length) 0
  ((s.capOfDie d).filter fun n => s.claims n && (s.cap n).nextShared).foldl (fun a n => a + s.segOctets n) held

/-- Descriptors a channel uses beyond the three of its reserve (R197, R198). -/
def sharedDescs (s : State) (n : Nat) : Nat := (s.segsOf n).length + ofBool (s.claims n) - 3

/-- Descriptors of a tenant: four for each enabled channel, and the shared ones in use (R197). -/
def usedDescs (s : State) (t : Nat) : Nat :=
  (s.capChannels.filter fun n => (s.cap n).tenant == t).foldl (fun a n => a + 4 + s.sharedDescs n) 0

/-- May a channel take a shared descriptor now (R197). -/
def descShareFree (s : State) (n : Nat) : Bool :=
  let d := dieOf n
  let cs := s.capOfDie d
  let used := cs.foldl (fun a c => a + s.sharedDescs c) 0
  let t := (s.cap n).tenant
  used < 65536 - 4 * cs.length && s.usedDescs t < s.rd (R.te_DESC_QUOTA t)

/-- Is the segment space of a channel's reserve free. -/
def reserveFree (s : State) (n : Nat) : Bool := (s.segsOf n).all (·.shared)

/-- Can a channel take another segment (R198): space from its reserve or shared, and a descriptor. -/
def canTake (s : State) (n : Nat) : Bool :=
  let space := s.reserveFree n
    || s.sramReserved (dieOf n) + s.sharedOctets (dieOf n) + s.segOctets n ≤ 67108864
  space && ((s.segsOf n).length + 1 ≤ 3 || s.descShareFree n)

/-- Descriptors in use in a die's ring, one for each completed segment (R197). -/
def ringDescs (s : State) (d : Nat) : Nat := (s.ringOf d).length

/-- SRAM_PEAK and DESC_PEAK follow (Table 7-12). -/
def ringPeaks (s : State) (d : Nat) : State :=
  let u := s.sramUsed d
  let k := s.ringDescs d
  let s := if s.rd (R.ri_SRAM_PEAK d) < u then s.wr (R.ri_SRAM_PEAK d) u else s
  if s.rd (R.ri_DESC_PEAK d) < k then s.wr (R.ri_DESC_PEAK d) k else s

/-- The segments that a counted run has still to take: ARM_COUNT less those taken since the last ARM (R192). -/
def segsLeft (s : State) (n : Nat) : Nat :=
  if s.rd (R.pu_ARM_MODE n) == 2 then s.rd (R.pu_ARM_COUNT n) - (s.cap n).taken else 0

/-- SEGS_REMAINING shows the segments still to take (Table 7-10). -/
def showLeft (s : State) (n : Nat) : State := s.wr (R.pu_SEGS_REMAINING n) (s.segsLeft n)

/-- The channel is armed and its arming instant recorded (R193); while shedding stops its capture, it is stopped (R28). An ARM
that waited for this starts its count anew (R194). -/
def armChannel (s : State) (n : Nat) : State :=
  let c := s.cap n
  let shed := s.shedCapture n
  let s := (s.setCap n { c with
    armInstant := s.now, deferredArm := false, stayArmed := false, shedStop := shed, rearmDue := false
    nextShared := !s.reserveFree n, lastArmEdge := none }).wr (R.pu_ARM_STATE n) (if shed then 5 else 2)
  let s := if c.deferredArm then (s.setCap n { s.cap n with taken := 0 }).showLeft n else s
  s.ringPeaks (dieOf n)

/-- The channel goes to idle. -/
def idleChannel (s : State) (n : Nat) : State :=
  (s.setCap n { s.cap n with
    disarmNext := false, deferredArm := false, stayArmed := false, shedStop := false, rearmDue := false
    lastEnd := none }).wr (R.pu_ARM_STATE n) 1

/-- A trigger is missed (R189). -/
def missTrigger (s : State) (n : Nat) : State :=
  let c := s.cap n
  (s.setCap n { c with missed := min 0xFFFFFFFF (c.missed + 1) }).count (R.pu_MISSED_TOTAL n) 1

/-- Samples after the trigger sample that have been taken: ⌊(now − time) / Ts⌋. -/
def trigAge (s : State) (n time : Nat) : Nat := (s.now - time) / s.tapPeriod n

/-- The position of a time after its trigger sample, in 1/256 of the tap period, on the grid of the newest sample
(R191; log entry 24). -/
def gridFrac (s : State) (n time : Nat) : Nat :=
  let ts := s.tapPeriod n
  ((((time : Int) - (s.cap n).lastSample) % ts) * 256 / ts).toNat

/-- Is a trigger that a channel does not accept missed (R189): one from an accepted trigger onwards, or while samples are
withheld or capture is stopped. -/
def countsMissed (s : State) (n : Nat) : Bool :=
  (s.cap n).trigTime.isSome || (s.chan n).hold != .none || s.rd (R.pu_ARM_STATE n) == 5

/-- Does an armed channel take a trigger of some time, accepted or late: one at or after its arming instant (R189, R190). -/
def mayAccept (s : State) (n time : Nat) : Bool :=
  s.rd (R.pu_ARM_STATE n) == 2 && (s.chan n).hold == .none && decide ((s.cap n).armInstant ≤ time)

/-- A trigger reaches a channel: accepted, merged, late or missed (R189 to R191; log entry 24). -/
def trigger (s : State) (n time tsrc mout frac : Nat) (late : Bool) : State :=
  if !s.rdB (R.pu_CAP_ENABLE n) then s
  else
    let c := s.cap n
    let ts := s.tapPeriod n
    let merged := match c.trigTime with | some t => decide (((time : Int) - t).natAbs ≤ ts) | none => false
    if merged then s
    else if !s.mayAccept n time then (if s.countsMissed n then s.missTrigger n else s)
    else
      let age := s.trigAge n time
      let hist := s.historyLen n
      if time < c.histFrom || hist < age then (s.missTrigger n).count (R.pu_LATE_TRIGGERS n) 1
      else
        let want := s.rd (R.pu_PRE n)
        let have_ := min want (min (hist - age) ((time - c.histFrom) / ts))
        (s.setCap n { c with
          trigTime := some time, frac := frac, tsrc := tsrc, mout := mout, trigLate := late, closing := 0
          missedHdr := c.missed, missed := 0
          pre := have_, preShort := decide (have_ < want)
          cfg := ⟨s.rd (R.pu_TAP n), s.rd (R.pu_SEG_LEN n), want, s.rd (R.pu_CAP_PRIO n), ts,
            s.rd R.tm_TIME_STATE == 0⟩ }).wr (R.pu_ARM_STATE n) 3

/-- Samples the segment in progress will hold when nothing closes it early (R191). -/
def segExpected (s : State) (n : Nat) : Nat :=
  let c := s.cap n
  c.cfg.segLen - (c.cfg.pre - c.pre)

/-- A segment's spacing in 2^-16 ticks: the mean interval under the increment in force, nominal for fewer than two
samples (R202; log entry 21). -/
def segSpacing (s : State) (n len : Nat) : Nat :=
  let ts := (s.cap n).cfg.period
  if len < 2 then ts * 65536 else ts * s.rd R.tm_INCR / (40000 * 65536)

/-- The header words 0 to 14 of Table 7-7. -/
def segHeader (s : State) (n tsrc time dead len pre flags spacing : Nat) (peak : Int × Nat) : List Nat :=
  let c := s.cap n
  let own := tsrc != 3
  let t := t96OfTicks time
  [7 * 2 ^ 28 + n % 1024 * 2 ^ 18 + c.cfg.tap % 8 * 2 ^ 15 + tsrc * 2 ^ 13
     + (if tsrc == 1 then c.mout % 32 else 0) * 256 + (if own then c.frac % 256 else 0),
   c.segNo % 2 ^ 32, t % 2 ^ 32, t / 2 ^ 32 % 2 ^ 32, t / 2 ^ 64 % 2 ^ 32,
   dead % 2 ^ 32, dead / 2 ^ 32 % 2 ^ 32, c.missedHdr, len, pre, flags,
   spacing % 2 ^ 32, spacing / 2 ^ 32 % 2 ^ 32, ofSigned 32 peak.1, peak.2]

/-- DEAD of the segment in progress (R193). -/
def deadOf (s : State) (n : Nat) : Nat :=
  match (s.cap n).lastEnd with
  | none => 0xFFFFFFFFFFFFFFFF
  | some e => (s.cap n).armInstant - e

/-- A segment's descriptor is posted to its die's ring (R193 step 3). -/
def postSegment (s : State) (n : Nat) (words : List Nat) (shared : Bool) : State :=
  let c := s.cap n
  let s := s.setCap n { c with segNo := (c.segNo + 1) % 2 ^ 32, stepNext := c.stepAfter, stepAfter := false }
  ((s.putSegments (s.segments ++ [Segment.mk n words shared])).count (R.pu_SEGMENTS n) 1).ringPeaks (dieOf n)

/-- A stop marker: LENGTH 0, TSRC 3, the flags of the event, and the triggers missed until it (R189, R196). -/
def postMarker (s : State) (n row : Nat) : State :=
  let c := s.cap n
  let flags := s.rd (R.pu_CAP_PRIO n) * 65536 + closeFlags row + ofBool c.stepNext * 512
  let s := s.setCap n { c with cfg := { c.cfg with tap := s.rd (R.pu_TAP n) }, missedHdr := c.missed, missed := 0 }
  let h := s.segHeader n 3 s.now (s.deadOf n) 0 0 flags (s.tapPeriod n * 65536) (0, 0)
  s.postSegment n (sealSegment h []) false

/-- A channel stops (R198, R28). -/
def stopChannel (s : State) (n : Nat) (shed : Bool) : State :=
  let s := (s.setCap n { s.cap n with shedStop := shed }).wr (R.pu_ARM_STATE n) 5
  let s := if shed then s else s.count (R.pu_OVERFLOWS n) 1
  s.count R.ri_OVERFLOW_EVENTS 1

/-- The channel is armed if it can take a segment (R198) or shedding stops it anyway (R28); else it is stopped, and a stop marker
says so where a descriptor is left for one (R196; log entry 138). -/
def armOrStop (s : State) (n : Nat) : State :=
  if s.shedCapture n || s.canTake n then s.armChannel n
  else
    let s := if (s.segsOf n).length < 4 || s.descShareFree n then s.postMarker n 6 else s
    s.stopChannel n false

/-- The channel leaves idle: its history begins to fill, and a counted run starts (R192, R193). -/
def armFromIdle (s : State) (n : Nat) : State :=
  let s := (s.setCap n { s.cap n with histFrom := s.now, lastEnd := none, taken := 0 }).armOrStop n
  (s.setCap n { s.cap n with lastArmEdge := some s.time.edge }).showLeft n

/-- An event of Table 7-6 closes the segment in progress, the higher row of two kept; without a segment in progress
the row's effect and, for gating and shed, a stop marker (R196). -/
def closeCapture (s : State) (n row : Nat) : State :=
  if !s.rdB (R.pu_CAP_ENABLE n) then s
  else
    let c := s.cap n
    let st := s.rd (R.pu_ARM_STATE n)
    let row' := if c.closing == 0 then row else min c.closing row
    let s := s.setCap n { c with prev := none, lead := none }
    let c := s.cap n
    if st == 3 then s.setCap n { c with closing := row', stepAfter := c.stepAfter || row == 4 }
    else if st == 1 || st == 6 || st == 0 then (if row == 4 then s.setCap n { c with stepNext := true } else s)
    else match row with
      | 1 => s.idleChannel n
      | 2 => (s.postMarker n 2).idleChannel n
      | 3 => if st == 5 then s else (s.postMarker n 3).stopChannel n true
      | 4 => s.setCap n { c with stepNext := true, histFrom := s.now, armInstant := s.now }
      | _ => s

/-- Samples pass again: the history starts with them, and a channel that waited for them is armed, or goes to idle after a DISARM
(R192, R196). -/
def capResume (s : State) (n : Nat) : State :=
  if !s.rdB (R.pu_CAP_ENABLE n) then s
  else
    let s := s.setCap n { s.cap n with histFrom := s.now }
    if (s.cap n).rearmDue && s.rd (R.pu_ARM_STATE n) == 4 then
      (if (s.cap n).disarmNext then s.idleChannel n else s.armChannel n)
    else s

/-- An ARM in dead time or while stopped waits until the channel is next armed (R194), in place of a DISARM before it. -/
def deferArm (s : State) (n : Nat) : State :=
  (s.setCap n { s.cap n with deferredArm := true, disarmNext := false }).count (R.pu_REARM_DEFERRED n) 1

/-- A write of ARM (R116, R192, R194, R195): a DISARM on the same cycle wins. -/
def armAct (s : State) (n : Nat) (on : Bool) : Ans :=
  if !on then ok s
  else if !s.rdB (R.pu_CAP_ENABLE n) then (0x3072, s)
  else if s.rd (R.bk_BANK_STATE (bankOfChan n)) == 0 then (0x3032, s)
  else
    let s := s.count (R.pu_ARMS n) 1
    let st := s.rd (R.pu_ARM_STATE n)
    let cancel := match (s.cap n).lastDisarmEdge with
      | some (e, was) => if e == s.time.edge then some was else none
      | none => none
    match cancel with
    | some was =>
      if st == 1 || st == 6 then ok (if was then s else s.wr (R.pu_ARM_STATE n) 6)
      else if st == 4 then ok (s.count (R.pu_REARM_DEFERRED n) 1)
      else ok s
    | none => ok (if st == 1 || st == 6 then s.armFromIdle n else if st == 4 || st == 5 then s.deferArm n else s)

/-- A write of DISARM (R116, R192, R195): an armed channel goes to idle, a capturing one after its segment. -/
def disarmAct (s : State) (n : Nat) (on : Bool) : Ans :=
  if !on then ok s
  else if s.rd (R.bk_BANK_STATE (bankOfChan n)) == 0 then (0x3032, s)
  else
    let s := s.count (R.pu_DISARMS n) 1
    let c := s.cap n
    let st := s.rd (R.pu_ARM_STATE n)
    let mark (s : State) (was : Bool) : State :=
      s.setCap n { s.cap n with lastDisarmEdge := some (s.time.edge, was) }
    if (st == 2 || st == 5) && c.lastArmEdge == some s.time.edge then ok (mark ((s.idleChannel n).wr (R.pu_ARM_STATE n) 6) false)
    else if st == 2 || st == 5 || (st == 4 && c.rearmDue) then ok (mark (s.idleChannel n) true)
    else if st == 3 || st == 4 then ok (mark (s.setCap n { c with disarmNext := true }) true)
    else ok (mark s false)

/-- A write of FORCE: a trigger at the hub time at which it is served (R116, R189). -/
def forceAct (s : State) (n : Nat) (on : Bool) : Ans :=
  let st := s.rd (R.pu_ARM_STATE n)
  if !on then ok s
  else if !s.rdB (R.pu_CAP_ENABLE n) || st == 1 || st == 6 then (0x3072, s)
  else if s.rd (R.bk_BANK_STATE (bankOfChan n)) == 0 then (0x3032, s)
  else ok (s.trigger n s.now 2 0 (s.gridFrac n s.now) false)

/-- Words leave a front die on the segment-drain stream, thirty to a flit, the first of the stream with START (R13, R199), at
most k flits. -/
def drainFlits (s : State) (d : Nat) : Nat → List Nat → State
  | 0, _ => s
  | k + 1, ws =>
    if ws == [] then s
    else
      let s := s.sendFlit d 3 drainStream (!(s.link d).drainOpen) false (ws.take 30)
      (s.setLink d { s.link d with drainOpen := true }).drainFlits d k (ws.drop 30)

/-- The segment drain of a die ends with an END flit when its ring is empty and no channel of a powered bank has capture
enabled any longer (R13, R199). -/
def settleDrain (s : State) (d : Nat) : State :=
  let live := (s.capOfDie d).any fun n => s.rd (R.bk_BANK_STATE (bankOfChan n)) != 0
  if !(s.link d).drainOpen || live || s.segments.any fun g => dieOf g.chan == d then s
  else
    let s := s.sendFlit d 3 drainStream false true []
    s.setLink d { s.link d with drainOpen := false }

/-- Capture is enabled on a channel by a commit of a tenant: idle, SEGNO from 0 (R192). -/
def enableCapture (s : State) (n t : Nat) : State :=
  ((s.setCap n { Cap.init with tenant := t, segTenant := (s.cap n).segTenant }).wr (R.pu_ARM_STATE n) 1)

/-- Capture is disabled on a channel by a commit. -/
def disableCapture (s : State) (n : Nat) : State :=
  ((s.setCap n { Cap.init with tenant := (s.cap n).tenant, segTenant := (s.cap n).segTenant }).wr (R.pu_ARM_STATE n) 0).settleDrain (dieOf n)

/-- A commit changes Punty settings of an enabled channel: the history restarts under the new settings, after the
segment in progress (R192), and a counted run goes on to the new count. -/
def recapture (s : State) (n : Nat) : State :=
  let st := s.rd (R.pu_ARM_STATE n)
  if st == 3 then s.setCap n { s.cap n with histRestart := true, stayArmed := true }
  else
    let s := if st == 2 then s.setCap n { s.cap n with
        histFrom := s.now, hist := [], detReady := true, firedAt := 0, prev := none, lead := none } else s
    if st == 2 || st == 4 || st == 5 then s.showLeft n else s

/-- The lowest free place for a segment in a tenant's archive (R199; log entry 25). -/
def archivePlace (s : State) (t len : Nat) : Option Nat :=
  match s.regionOf t 0 with
  | none => none
  | some r =>
    let used := s.dram.archive
    let free (b : Nat) : Bool :=
      r.base ≤ b && b + len ≤ r.base + r.size && used.all fun e => b + len ≤ e.1 || e.1 + e.2.1 ≤ b
    ((r.base :: used.map fun e => e.1 + e.2.1).filter free).foldl
      (fun (m : Option Nat) b => match m with | none => some b | some c => some (min b c)) none

/-- The linear tick count of a segment's TRIG_TIME. -/
def segTime (g : Segment) : Nat :=
  ticksOfT96 (g.words.getD 2 0 + g.words.getD 3 0 * 2 ^ 32 + g.words.getD 4 0 * 2 ^ 64)

/-- The collector takes one segment over the die link: to the archive, and its record to SEG_QUEUE (R199), or leaves it where it is:
while DRAM is frozen, while the link carries nothing, and while the archive is full (R201). -/
def collect (s : State) (g : Segment) : State :=
  let t := (s.cap g.chan).tenant
  let oct := octetsOfWords g.words
  if s.frozen || !s.linkUp (dieOf g.chan) || (s.link (dieOf g.chan)).creditHeld then s
  else match s.archivePlace t oct.length with
  | none => s.count R.ri_ARCHIVE_STALLS 1
  | some a =>
    match s.badWrite a oct.length with
    | some b => s.freezeBurst b 3 14 t
    | none =>
    let d := dieOf g.chan
    let q := s.rd (R.pu_SEG_QUEUE g.chan)
    let s := s.drainFlits d g.words.length g.words
    let s := ((s.putSegments (dropFirst (fun x => x == g) s.segments)).wakeFor a oct.length).dramPut a oct
    let s := s.putDram { s.dram with archive := s.dram.archive ++ [(a, oct.length, q)] }
    let s := (s.count (R.ri_SEGS_DRAINED d) 1).settleDrain d
    if q == 0xFFFF then s else s.enqueue q 2 g.chan (oct.take 64 ++ natLE 8 a) (some (segTime g))

/-- Is a source one of an output's sources (R188). -/
def mxSource (mr : Nat) (m : Nat) : TrigSrc → Bool
  | .channel n => let f := field mr 127 118; f != 0x3FF && f ≤ n && n ≤ field mr 117 108
  | .trig k => bitAt (field mr 107 100) k
  | .iline l => bitAt (field mr 99 96) l
  | .timer k => bitAt (field mr 95 80) k
  | .remote tag => bitAt mr 79 && tag == m

/-- A remote trigger block leaves on a bundle, but for one in wiring fault or address conflict (R187, R276). -/
def sendRemote (s : State) (b : Nat) (p : Block) : State :=
  if s.rd (R.bu_BUNDLE_STATE b) == 5 || s.rd (R.bu_BUNDLE_STATE b) == 6 then s
  else (s.emit (.remote b p)).sendOnLanes ((s.workLanes b).take 1) p

/-- A matrix output fires (R188): destinations, instrument lines, remote trigger. -/
def fireOutput (s : State) (m time : Nat) (late : Bool) : State :=
  let mr := s.rd (R.mx_MOUT m)
  let s := s.count (R.mx_MOUT_FIRED m) 1
  let s := if field mr 15 0 == 0 then s else s.putMatrix { s.matrix with holdoff := s.matrix.holdoff ++ [m] }
  let lo := field mr 45 36
  let dest := if lo == 0x3FF then [] else s.capChannels.filter fun n => lo ≤ n && n ≤ field mr 35 26
  let s := s.each dest fun s n => s.trigger n time 1 m (s.gridFrac n time) late
  let lines := (List.range 4).filter (bitAt (field mr 25 22))
  let s := s.each lines fun s l =>
    let s := s.putMatrix { s.matrix with driven := putBit s.matrix.driven l true }
    (s.count R.mx_ILINE_DRIVEN 1).emit (.pin (pinIline l) false)
  if bitAt mr 78 then
    let seq := s.rd R.mx_RT_SEQ
    let b := remoteBlock (s.rd R.lx_CHAIN_ADDR) 0 m seq (t96OfTicks time) late
    ((s.sendRemote 0 b).sendRemote 1 b).wr R.mx_RT_SEQ ((seq + 1) % 65536)
  else s

/-- An event reaches output m of the matrix: kept, and tested for coincidence (R188; log entry 26). -/
def mxTake (s : State) (src : TrigSrc) (time : Nat) (late : Bool) (m : Nat) : State :=
  let mr := s.rd (R.mx_MOUT m)
  let k := field mr 75 66
  if k == 0 || !mxSource mr m src || s.matrix.holdoff.contains m then s
  else
    let e : MxEvent := ⟨m, src, time, late⟩
    let w := field mr 65 46 * ticksPerNs
    let mine := (s.matrix.events.filter fun x => x.output == m) ++ [e]
    let near (a : Nat) := mine.filter fun x => a ≤ x.time && x.time ≤ a + w
    let starts := (mine.map (·.time)).filter fun a => a ≤ time && time ≤ a + w
    let hits := starts.filter fun a => k ≤ sourceCount (near a)
    match hits.foldl (fun (b : Option Nat) a => match b with | none => some a | some c => some (min a c)) none with
    | none => s.putMatrix { s.matrix with events := s.matrix.events ++ [e] }
    | some a =>
      let used := near a
      let t := if bitAt mr 77 then time else a
      let s := s.putMatrix { s.matrix with
        events := s.matrix.events.filter fun x => x.output != m || !used.contains x }
      s.fireOutput m t (used.any (·.late))

end State

/-- The level a detector interpolates through, if the two samples are a crossing as TRIG_TYPE and POL require
(Table 7-1). The samples are in the watched quantity: the difference for slope, the leading crossing for types 4
and 5. -/
def crossing (typ pol : Nat) (a b x0 x1 : Int) : Option (Int × Int × Int) :=
  let up (l x y : Int) : Bool := x < l && l ≤ y
  let down (l x y : Int) : Bool := l < x && y ≤ l
  if typ = 0 then none
  else if typ = 3 then
    let inside (x : Int) : Bool := b ≤ x && x ≤ a
    let leaves := inside x0 && !inside x1
    let enters := !inside x0 && inside x1
    let bound := if leaves then (if a < x1 then a else b) else (if a < x0 then a else b)
    if (pol ≠ 1 ∧ leaves) ∨ (pol ≠ 0 ∧ enters) then some (bound, x0, x1) else none
  else if pol = 0 then (if up a x0 x1 then some (a, x0, x1) else none)
  else if pol = 1 then (if down a x0 x1 then some (a, x0, x1) else none)
  else if up a x0.natAbs x1.natAbs then some (a, x0.natAbs, x1.natAbs) else none

/-- Does a detector of type 4 or 5 fire on a leading crossing between two samples at two instants (Table 7-1): the quantity has
returned after WIDTH_MIN to WIDTH_MAX samples beyond the level, or has stayed beyond it for RUN_LEN. -/
def State.leadFires (s : State) (n : Nat) (x0 x1 : Int) (t0 t1 : Nat) : Bool :=
  match (s.cap n).lead with
  | none => false
  | some l =>
    l.x0 == x0 && l.x1 == x1 && l.t0 == t0 && l.t1 == t1
      && (if s.rd (R.pu_TRIG_TYPE n) == 4 then
          l.ended && s.rd (R.pu_WIDTH_MIN n) ≤ l.beyond && l.beyond ≤ s.rd (R.pu_WIDTH_MAX n)
        else !l.ended && s.rd (R.pu_RUN_LEN n) ≤ l.beyond)

/-- May a detector fire between two samples of which the first is taken at t0: it has returned since its last firing, at the latest
with that sample (R182). -/
def State.detMayFire (s : State) (n : Nat) (x0 : Int) (t0 : Nat) : Bool :=
  (s.cap n).detReady || (s.detReturned n x0 && decide ((s.cap n).firedAt ≤ t0))

/-- DETECTOR_FIRE: a channel's detector fires between two samples of its quantity at the instants t0 and t1 (R181 to
R183); the trigger reaches the channel and the event the matrix. -/
def detectorFire (n : Nat) (x0 x1 : Int) (t0 t1 : Nat) (s : State) : State :=
  if !s.rdB (R.pu_CAP_ENABLE n) || (s.chan n).hold != .none then s
  else
    let c := s.cap n
    match crossing (s.rd (R.pu_TRIG_TYPE n)) (s.rd (R.pu_POL n)) (s.rdI (R.pu_LEVEL_A n) 32) (s.rdI (R.pu_LEVEL_B n) 32)
        x0 x1 with
    | none => s
    | some (l, y0, y1) =>
      if !s.detMayFire n x0 t0 || (4 ≤ s.rd (R.pu_TRIG_TYPE n) && !s.leadFires n x0 x1 t0 t1) then s
      else
        let frac := crossFrac l y0 y1
        let time := t0 + roundNear (frac * (t1 - t0)) 256
        let s := (s.setCap n { c with detReady := false, firedAt := t1, lastSample := t0 }).count (R.pu_DET_EVENTS n) 1
        (s.emit (.event (.channel n) time false)).trigger n time 0 0 frac false

/-- TRIG_INPUT_EDGE: an edge that TRIG_EDGE selects, at the instant of its timestamp, is an event (R184). -/
def trigInputEdge (k : Nat) (rising : Bool) (at_ : Nat) (s : State) : State :=
  let sel := s.rd R.mx_TRIG_EDGE / 4 ^ k % 4
  if k < 8 && (if rising then sel % 2 == 1 else 2 ≤ sel) then
    (s.count (R.mx_TRIG_COUNT k) 1).emit (.event (.trig k) at_ false)
  else s

/-- ILINE_EDGE: a falling edge on an enabled line that the hub does not drive (R185). -/
def ilineEdge (l : Nat) (s : State) : State :=
  if l < 4 && bitAt (s.rd R.mx_ILINE_IN) l && !bitAt s.matrix.driven l then
    (s.count (R.mx_ILINE_COUNT l) 1).emit (.event (.iline l) s.now false)
  else s

/-- ILINE_PULSE_END: the hub releases the lines driven by a firing (R185). -/
def ilinePulseEnd (lines : Nat) (s : State) : State :=
  s.each ((List.range 4).filter fun l => bitAt lines l && bitAt s.matrix.driven l) fun s l =>
    (s.putMatrix { s.matrix with driven := putBit s.matrix.driven l false }).emit (.pin (pinIline l) true)

/-- MATRIX_EVENT: an event reaches the matrix, carrying its own time (R188). -/
def matrixEvent (src : TrigSrc) (time : Nat) (late : Bool) (s : State) : State :=
  s.each (List.range 32) fun s m => s.mxTake src time late m

/-- MATRIX_EVENT_EXPIRY: the event that an output has held longest is dropped (R188). -/
def matrixEventExpiry (output : Nat) (s : State) : State :=
  s.putMatrix { s.matrix with events := dropFirst (fun x => x.output == output) s.matrix.events }

/-- MATRIX_HOLDOFF_END: the output takes events again (R188). -/
def matrixHoldoffEnd (output : Nat) (s : State) : State :=
  s.putMatrix { s.matrix with holdoff := s.matrix.holdoff.filter (· != output) }

/-- SEGMENT_COMPLETE: the last sample of the segment in progress is written, its header formed, space checked and
its descriptor posted (R193, R198). `samples` are the stored samples; an early close may give fewer (log entry 156). -/
def segmentComplete (n : Nat) (samples : List Sample) (s : State) : State :=
  let c := s.cap n
  let samples := samples.take (s.segExpected n)
  if s.rd (R.pu_ARM_STATE n) != 3 || (c.closing == 0 && samples.length < s.segExpected n) then s
  else
    let t := c.trigTime.getD 0
    let len := samples.length
    let spacing := s.segSpacing n len
    let marks := marksAll (samples.map (·.marks))
    let sat := samples.any fun x =>
      if c.cfg.tap == 0 then x.value == -512 || x.value == 511 else x.value == -8388608 || x.value == 8388607
    let endAt := ((t : Int) * 65536 - (c.frac * spacing / 256 : Nat) + ((len : Int) - 1 - c.pre) * spacing) / 65536
    let stop := c.closing == 0 || 4 ≤ c.closing
    let dead := s.deadOf n
    let words (over_ : Bool) :=
      sealSegment (s.segHeader n c.tsrc t dead len c.pre
        (c.cfg.prio % 16 * 65536 + closeFlags c.closing ||| markFlags { marks with
            overRange := marks.overRange || sat, unset := marks.unset || c.cfg.unset }
          ||| ofBool c.preShort * 2 ^ 11 ||| ofBool c.trigLate * 2 ^ 10 ||| ofBool c.stepNext * 2 ^ 9 ||| ofBool over_)
        spacing (peakOf samples)) (segmentWords c.cfg.tap samples)
    let s1 := (s.wr (R.pu_ARM_STATE n) 4).wr (R.pu_LAST_TRIG_TIME n) (t96OfTicks t)
    let s1 := s1.setCap n { c with
      lastEnd := some endAt.toNat, closing := 0, taken := c.taken + ofBool (c.closing == 0), histRestart := false
      stayArmed := c.stayArmed || 4 ≤ c.closing
      histFrom := if c.histRestart || c.closing == 4 then s.now else c.histFrom }
    let s1 := s1.showLeft n
    let post (over_ : Bool) : State := s1.postSegment n (words over_) c.nextShared
    if c.closing == 1 || c.closing == 2 then (post false).idleChannel n
    else if c.closing == 3 then
      let p := (post false).stopChannel n true
      if c.disarmNext then p.idleChannel n else if p.shedCapture n then p
      else if p.canTake n then p.armChannel n
      else (p.setCap n { p.cap n with shedStop := false }).count (R.pu_OVERFLOWS n) 1
    else
      let s2 := ((post false).wr (R.pu_ARM_STATE n) 5)
      if stop && !s2.canTake n then
        let p := (post true).stopChannel n false
        if c.disarmNext then p.idleChannel n else p
      else
        let p := post false
        p.setCap n { p.cap n with nextShared := !p.reserveFree n }

/-- SEGMENT_REARM: the channel re-arms per ARM_MODE, once samples resume if they are withheld, or goes to idle (R192 to R194,
Table 7-6). -/
def segmentRearm (n : Nat) (s : State) : State :=
  let c := s.cap n
  let mode := s.rd (R.pu_ARM_MODE n)
  if s.rd (R.pu_ARM_STATE n) != 4 then s
  else if c.disarmNext then s.idleChannel n
  else if c.stayArmed || c.deferredArm || mode == 1 || (mode == 2 && 0 < s.rd (R.pu_SEGS_REMAINING n)) then
    (if (s.chan n).hold == .none then s.armChannel n else s.setCap n { c with rearmDue := true })
  else s.idleChannel n

/-- OVF_RESUME_REARM: a stopped channel re-arms once its segments have drained (R198, R194). -/
def ovfResumeRearm (n : Nat) (s : State) : State :=
  let c := s.cap n
  if s.rd (R.pu_ARM_STATE n) == 5 && !c.shedStop && s.segsOf n == [] && (s.rdB (R.pu_OVF_RESUME n) || c.deferredArm) then
    s.armChannel n
  else s

/-- COLLECTOR_PASS: a pass takes the oldest completed segment of every channel of a die that has one, in ascending
channel number (R199). -/
def collectorPass (d : Nat) (s : State) : State :=
  s.each ((chansOfDie d).filter fun n => s.segsOf n != []) fun s n =>
    match s.segsOf n with
    | [] => s
    | g :: _ => s.collect g

end Sys2Proof.Machine
end

