-- ==== Sys2Proof/Machine/Channel.lean ====
section
/-! DEFINITION. The input channel and excitation (chapter 3): input-stage changes, protection, diagnostic slots,
reflectometry, PWM; and conversion starting and stopping (R95, R103, R115), which other units use too. -/

namespace Sys2Proof.Machine

/-- The distance of a round trip in mm (R87). -/
def tdrDist (vop roundTrip : Nat) : Nat := roundNear (vop * roundTrip) (2 * 65536000)

/-- TYPE of a single point: open, short, impedance rise or fall (Table 3-7). -/
def tdrType (p : LeadPoint) : Nat := if 16384 ≤ p.rho then 1 else if p.rho ≤ -16384 then 2 else if 0 < p.change then 3 else 4

/-- A reflectometry event word, Table 3-7 (R87). -/
def tdrWord (dist : Nat) (rho : Int) (typ extent : Nat) : Nat :=
  dist % 2 ^ 32 * 2 ^ 32 + ofSigned 16 rho * 65536 + typ * 4096 + extent % 4096

/-- The events of the points of a lead, nearest first: each with its round trip. A rise and a fall, or a fall and a rise,
within 40.95 m are one damaged section (Table 3-7; log entry 27). -/
def tdrEvents (vop : Nat) : List LeadPoint → List (Nat × Nat)
  | [] => []
  | [p] => [(p.roundTrip, tdrWord (tdrDist vop p.roundTrip) p.rho (tdrType p) 0)]
  | p :: q :: t =>
    let d := tdrDist vop p.roundTrip
    let far := tdrDist vop q.roundTrip - d
    if 3 ≤ tdrType p && 3 ≤ tdrType q && tdrType p != tdrType q && far ≤ 40950 then
      (p.roundTrip, tdrWord d (if p.rho.natAbs < q.rho.natAbs then q.rho else p.rho) 5 (roundNear far 10)) :: tdrEvents vop t
    else (p.roundTrip, tdrWord d p.rho (tdrType p) 0) :: tdrEvents vop (q :: t)

/-- Points of a lead in order of distance. -/
def sortPoints (l : List LeadPoint) : List LeadPoint :=
  l.foldl (fun acc p => acc.takeWhile (fun q => q.roundTrip ≤ p.roundTrip) ++ p
    :: acc.dropWhile (fun q => q.roundTrip ≤ p.roundTrip)) []

namespace State

/-- Is a channel sealed as legal (Table 3-9). -/
def isLegal (s : State) (n : Nat) : Bool := s.rdB (R.ch_LEGAL n)

/-- Does a bank hold a sealed legal channel. -/
def bankLegal (s : State) (b : Nat) : Bool := (chansOfBank b).any s.isLegal

/-- Is a bank on. -/
def bankOn (s : State) (b : Nat) : Bool := s.rd (R.bk_BANK_STATE b) == 3

/-- The photodiode bias that AINn_N drives, in mV: PD_BIAS in stage 3 while the bank is powered, none in Safe (R72, R332). -/
def biasOut (s : State) (n : Nat) : Nat :=
  if s.rd (R.ch_STAGE n) == 3 && s.rd (R.bk_BANK_STATE (bankOfChan n)) != 0 && s.mode.base != .safe then s.rd (R.ch_PD_BIAS n) else 0

/-- VIN_MEAS: what the events that carry VIN gave last, else a free value (log entry 13). -/
def vinMeas (s : State) : Nat :=
  if s.mode.vin == 0 then Config.measured R.pw_VIN_MEAS.code 0 % 65536 else s.mode.vin

/-- Does a stage change, a slot, a run or a hard fault withhold the samples of a channel (R68, R84, R86, R345). -/
def heldBack (s : State) (n : Nat) : Bool :=
  let st := s.rd (R.ch_CH_STATUS n)
  (s.chan n).changing || bitAt st 5 || bitAt st 6 || (s.chan n).faultEnd.isSome

/-- The samples of a channel pass again unless something still withholds them. -/
def resumeIf (s : State) (n : Nat) : State := if s.heldBack n then s else (s.gobResume n).capResume n

/-- A configuration change in which no sample is withheld (R137): lengths, rate, excitation. -/
def quickChange (s : State) (n : Nat) (restart : Bool) : State :=
  let s := s.gobChange n restart
  if restart then s.resumeIf n else if s.heldBack n then s else s.gobResume n

/-- A change of stage, gain or TIA begins (R68, R196); with the bank off it waits for power-up (R116). A channel put in stage 0
produces no more samples than those of a burst in hand (R100). -/
def beginStageChange (s : State) (n : Nat) : State :=
  if s.rd (R.bk_BANK_STATE (bankOfChan n)) == 0 then s
  else if s.rd (R.ch_STAGE n) == 0 then s.closeCapture n 5
  else
    let s := (s.gobChange n false).closeCapture n 5
    let c := s.chan n
    s.setChan n { c with changing := true, chopNeg := c.chopNeg && (s.rd (R.ch_STAGE n) == 1 || s.inBurst n) }

/-- A channel starts to convert: its stream starts anew, its counts run from its first input, and of a deferred start the first
conversion cycle is late (R95, R103, R123, R137; log entry 119). -/
def startConverting (s : State) (n : Nat) : State :=
  let s := (s.wrBit (R.ch_CONV_STATUS n) 0 true).wrBit (R.ch_CONV_STATUS n) 1 false
  let c := s.chan n
  let s := s.setChan n { c with
    lines := [[], [], [], []], counts := [0, 0, 0, 0], needTime := true, lastFine := none, chopNeg := false, recent := []
    heldIn := [], cycle := 0, lateLeft := if c.deferred then ceilDiv (s.stageLen n 1) 256 else 0 }
  (s.gobChange n true).resumeIf n

/-- A channel stops converting: its streams end with END flits, and what it still held back is gone (R13, R115). -/
def stopConverting (s : State) (n : Nat) : State :=
  let s := if s.converting n then (s.endGobStream n).endRawStream n else s
  let s := (s.wrBit (R.ch_CONV_STATUS n) 0 false).wrBit (R.ch_CONV_STATUS n) 1 false
  s.setChan n { s.chan n with awake := false, deferred := false, heldIn := [], cycle := 0, lateLeft := 0 }

/-- A start is deferred to READY_AT (R103): counted for the channel, and for its bank when `bank` says so. -/
def deferStart (s : State) (n : Nat) (bank : Bool) : State :=
  let s := if bank then s.count (R.bk_DEFERRALS (bankOfChan n)) 1 else s
  let s := (s.count (R.ch_DEFERRED_STARTS n) 1).wrBit (R.ch_CONV_STATUS n) 1 true
  s.setChan n { s.chan n with deferred := true }

/-- A channel converts, waits for READY_AT, or does not convert, as its stage and bank now say, once a burst in hand has ended (R95,
R100, R103). -/
def settleConversion (s : State) (n : Nat) : State :=
  let b := bankOfChan n
  let st := s.rd (R.bk_BANK_STATE b)
  let s := s.wrBit (R.ch_CONV_STATUS n) 6 (st != 3)
  let want := s.rd (R.ch_STAGE n) != 0 && !(s.spare (quadOf n)).lost.contains (n % 4)
  if want && st == 3 then (if s.converting n then s else s.startConverting n)
  else if want && st == 1 && s.rd (R.bk_BANK_POWER b) == 2 then
    if s.isBurst n || bitAt (s.rd (R.ch_CONV_STATUS n)) 1 then s else s.deferStart n true
  else if s.converting n then (if s.inBurst n then s else s.stopConverting n)
  else if (s.chan n).deferred && !s.isBurst n then
    (s.setChan n { s.chan n with deferred := false }).wrBit (R.ch_CONV_STATUS n) 1 false
  else s

/-- The driver of a quad is on or off: EXC_STATUS bit 0, which keeps its value while the bank is off (R91, R116). What
EXC_MEAS_V and EXC_MEAS_I read stays as last measured. -/
def setDriver (s : State) (q : Nat) (on : Bool) : State :=
  let x := s.quad q
  let s := s.setQuad q { x with driverOn := on, measured := if x.driverOn then some s.freeCount else x.measured }
  if s.rd (R.bk_BANK_STATE (q / 8)) == 0 then s else s.wrBit (R.qd_EXC_STATUS q) 0 on

/-- Excitation fault of channels of a quad: CH_STATUS bit 4 (R75, R76). -/
def excFault (s : State) (l : List Nat) (b : Bool) : State := s.each l fun s n => s.wrBit (R.ch_CH_STATUS n) 4 b

/-- The excitation that a quad's entries command. -/
def excEntries (s : State) (q : Nat) : ExcCfg :=
  ⟨s.rd (R.qd_EXC_MODE q), s.rd (R.qd_EXC_VOLT q), s.rd (R.qd_EXC_CURR q), s.rdB (R.qd_PULSED q), s.rd (R.qd_PWM_PERIOD q),
   s.rd (R.qd_PWM_WIDTH q), s.rd (R.qd_PWM_PHASE q)⟩

/-- Does VIN still clamp a driver in voltage mode (R75). -/
def stillClamped (s : State) (q : Nat) (e : ExcCfg) : Bool :=
  bitAt (s.rd (R.qd_EXC_STATUS q)) 3 && e.mode == 1 && s.mode.vin < e.volt + 300

/-- The excitation as its entries now command takes effect: flags of the old setting end, the clamp only with VIN's
recovery, and the Gob sees a change (R75, R79; log entries 58 and 109). -/
def excTakesEffect (s : State) (q : Nat) : State :=
  let e := s.excEntries q
  let keep := s.stillClamped q e
  let s := s.setQuad q { s.quad q with pendingExc := false, swapped := false, exc := e }
  let st := s.rd (R.qd_EXC_STATUS q)
  let s := s.wr (R.qd_EXC_STATUS q) (putBit (putBit (putBit st 1 false) 2 false) 3 keep)
  let s := s.excFault (chansOfQuad q) keep
  s.each ((chansOfQuad q).filter s.converting) fun s n => s.quickChange n false

/-- The excitation takes effect away from a pulse, and the driver follows it (R77, R79). -/
def excNow (s : State) (q : Nat) : State :=
  let s := s.excTakesEffect q
  let s := s.setQuad q { s.quad q with rise := none }
  s.setDriver q ((s.quad q).exc.mode != 0 && !(s.quad q).exc.pulsed)

/-- A commit changes the excitation of a quad: at once, at the next rising edge of a pulsed quad, or when its bank powers
up (R79, R116). -/
def commitExc (s : State) (q : Nat) : State :=
  if (s.quad q).exc.pulsed || s.rd (R.bk_BANK_STATE (q / 8)) == 0 then s.setQuad q { s.quad q with pendingExc := true }
  else s.excNow q

/-- The buffer of a bank is enabled: Table 4-4 step 1. -/
def enableBank (s : State) (b : Nat) : State :=
  let s := (s.wr (R.bk_BANK_STATE b) 1).wr (R.bk_BUF_ON_SINCE b) s.now96
  let s := s.wr (R.bk_READY_AT b) (t96OfTicks (s.now + 25000000 * ticksPerNs))
  let s := s.each (quadsOfBank b) fun s q => if (s.quad q).pendingExc then s.excNow q else s
  s.each (chansOfBank b) settleConversion

/-- A bank is gated: Table 4-7 step 1. -/
def fenceBank (s : State) (b : Nat) : State :=
  let st := s.rd (R.bk_BANK_STATE b)
  if st == 0 || st == 4 || st == 5 then s else s.wr (R.bk_BANK_STATE b) 4

/-- The bursts of a bank that are fixed and have not begun do not take place, once the bank converts no more (R102, R103). -/
def withdrawBursts (s : State) (b : Nat) : State :=
  s.each ((quadsOfBank b).filter fun q => (s.quad q).burstRunning && !s.burstBegun q) fun s q =>
    let x := s.quad q
    let s := s.setQuad q { x with burstRunning := false, deferred := false, stretchTo := none, inHand := [] }
    s.each x.inHand fun s n => (s.setChan n { s.chan n with deferred := false }).wrBit (R.ch_CONV_STATUS n) 1 false

/-- A bank goes where its BANK_POWER, its die and the mode command it (R102, R117). -/
def commandBank (s : State) (b : Nat) : State :=
  let st := s.rd (R.bk_BANK_STATE b)
  let off := s.rd (R.di_DIE_STATE (b / 4)) != 1 || s.mode.base == .safe || s.mode.base == .dormant
    || s.mode.base == .boot || s.mode.dormantPending
  let p := if off then 0 else s.rd (R.bk_BANK_POWER b)
  if p == 0 then s.fenceBank b
  else if st == 0 then s.enableBank b
  else if st == 1 then (if p == 1 then s.withdrawBursts b else s).each (chansOfBank b) settleConversion
  else if st == 2 && p == 2 then (s.wr (R.bk_BANK_STATE b) 3).each (chansOfBank b) settleConversion
  else if st == 3 && p == 1 then ((s.wr (R.bk_BANK_STATE b) 2).withdrawBursts b).each (chansOfBank b) settleConversion
  else s

/-- A diagnostic slot or a reflectometry run withholds samples (R83, R86, R138, R196). -/
def withhold (s : State) (n : Nat) (h : Hold) (bit : Nat) : State :=
  ((s.wrBit (R.ch_CH_STATUS n) bit true).gobWithhold n h).closeCapture n 5

/-- A reflectometry run begins (R86; log entry 112). -/
def beginTdr (s : State) (n : Nat) : State :=
  let s := s.setChan n { s.chan n with tdrPending := false }
  (s.wr (R.ch_TDR_STATE n) 1).withhold n .run 6

/-- A reflectometry run ends in a state; the input stage is restored and samples pass again (R86, R89). -/
def endTdr (s : State) (n st : Nat) : State :=
  let s := (s.wr (R.ch_TDR_STATE n) st).wr (R.ch_TDR_TIME n) s.now96
  (s.wrBit (R.ch_CH_STATUS n) 6 false).resumeIf n

/-- A write of TDR_START (R89); the actions of a bank that is not on are refused (R116; log entry 152). -/
def tdrStartAct (s : State) (n : Nat) (on : Bool) : Ans :=
  let stage := s.rd (R.ch_STAGE n)
  let st := s.rd (R.ch_CH_STATUS n)
  if !on then ok s
  else if stage == 0 || stage == 3 then (0x3041, s)
  else if bitAt st 6 then (0x3042, s)
  else if s.isLegal n then (0x6041, s)
  else if s.rd (R.bk_BANK_STATE (bankOfChan n)) == 0 then (0x3032, s)
  else if bitAt st 5 then ok (s.setChan n { s.chan n with tdrPending := true })
  else ok (s.beginTdr n)

/-- A write of OW_NOW: one more slot is due (R83, R116; log entry 110). -/
def owNowAct (s : State) (n : Nat) (on : Bool) : Ans :=
  if !on then ok s
  else if s.isLegal n then (0x6041, s)
  else if s.rd (R.bk_BANK_STATE (bankOfChan n)) == 0 then (0x3032, s)
  else ok (s.setChan n { s.chan n with owNow := (s.chan n).owNow + 1 })

/-- A diagnostic slot is abandoned and posts no result (Table 4-7 step 3). -/
def abandonSlot (s : State) (n : Nat) : State :=
  if bitAt (s.rd (R.ch_CH_STATUS n)) 5 then (s.wrBit (R.ch_CH_STATUS n) 5 false).resumeIf n else s

/-- The counter with its fraction, in 2^-32 tick. -/
def counter (s : State) : Nat := s.time.ticks * 2 ^ 32 + s.time.frac

/-- The main-clock edge nearest a hub time not before the present, the later of two equally near (R77, R96). -/
def edgeOfTime (s : State) (t : Nat) : Nat :=
  s.time.edge + (2 * (t * 2 ^ 32 - s.counter) + s.rd R.tm_INCR) / (2 * s.rd R.tm_INCR)

/-- Is the present edge the one on which an event of a schedule is taken: it is the nearest to a hub time t with
(t - phase) a whole multiple of the period, the later of two equally near (R77, R96). In ns. -/
def onEvent (s : State) (period phase : Nat) : Bool :=
  let p := period * ticksPerNs * 2 ^ 32
  let r := (s.counter + (p - phase * ticksPerNs * 2 ^ 32 % p)) % p
  let i := s.rd R.tm_INCR
  0 < period && (2 * r ≤ i || 2 * (p - r) < i)

/-- Is the present edge the one nearest a hub time, the later of two equally near (R77, R96). -/
def nearEdge (s : State) (t : Nat) : Bool :=
  let u := t * 2 ^ 32
  let i := s.rd R.tm_INCR
  (u ≤ s.counter && 2 * (s.counter - u) ≤ i) || (s.counter ≤ u && 2 * (u - s.counter) < i)

/-- The hub time nearest the present with (t - phase) a whole multiple of the period, in ticks (R77). -/
def eventTime (s : State) (period phase : Nat) : Nat :=
  let p := period * ticksPerNs * 2 ^ 32
  let r := (s.counter + (p - phase * ticksPerNs * 2 ^ 32 % p)) % p
  (if 2 * r ≤ p then s.counter - r else s.counter + (p - r)) / 2 ^ 32

/-- The hub time at which a pulse ends that began with a rising edge: a step of hub time meanwhile does not alter its length (R77). -/
def fallTime (s : State) (rise : Nat × Nat) : Nat :=
  ((rise.2 : Int) + ((s.time.jumps.filter fun j => rise.1 < j.edge).map (·.delta)).foldl (· + ·) 0).toNat

/-- The first hub time after the present with (t - phase) a whole multiple of the period, in ticks (R77, R96). -/
def nextEvent (s : State) (period phase : Nat) : Nat :=
  let ns := s.now / ticksPerNs
  (ns + period - (ns + (period - phase % period)) % period) * ticksPerNs

/-- The schedule of a quad's start events, period and phase in ns (R96): its timer, or its PWM's rising or falling edges. -/
def startSchedule (s : State) (q : Nat) : Nat × Nat :=
  let e := (s.quad q).exc
  match s.rd (R.qd_START_SRC q) with
  | 1 => (s.rd (R.qd_TIMER_PERIOD q), s.rd (R.qd_TIMER_PHASE q))
  | 2 => (e.period, e.phase)
  | 3 => (e.period, e.phase + e.width)
  | _ => (0, 0)

/-- Does a start event of a quad fall on the present edge: of its timer, or of its PWM as its pulses now stand (R77, R79, R96). -/
def startDue (s : State) (q : Nat) : Bool :=
  let x := s.quad q
  let e := s.startSchedule q
  match s.rd (R.qd_START_SRC q), x.rise with
  | 2, some r => r.1 == s.time.edge || s.onEvent e.1 e.2
  | 3, some r => s.nearEdge (s.fallTime r)
  | _, _ => s.onEvent e.1 e.2

/-- The first start event of a quad after the present, in ticks. -/
def nextStartEvent (s : State) (q : Nat) : Nat := let p := s.startSchedule q; s.nextEvent p.1 p.2

/-- The length of a channel's diagnostic slot, ns (R83). -/
def slotLen (s : State) (n : Nat) : Nat :=
  match s.rd (R.ch_OW_CURRENT n) with | 1 => 20000000 | 2 => 2000000 | _ => 200000

/-- Is there room for a channel's diagnostic slot now (R84): in burst conversion a gap between bursts as long as the slot, up to the
burst in hand where it is fixed and has not begun, with the excitation of a pulsed quad off throughout. -/
def slotFits (s : State) (n : Nat) : Bool :=
  let q := quadOf n
  let x := s.quad q
  let stop := s.now + s.slotLen n * ticksPerNs
  !s.isBurst n ||
    ((if x.burstRunning then !s.burstBegun q && stop ≤ s.timeOfEdge x.burstEdge
        else s.rd (R.qd_START_SRC q) == 0 || stop ≤ s.nextStartEvent q + s.rd (R.qd_START_DELAY q) * 40000)
      && (!x.exc.pulsed || (!x.driverOn && stop ≤ s.nextEvent x.exc.period x.exc.phase)))

end State

/-- STAGE_CHANGE_DONE: valid samples resume after a stage, gain or TIA change (R68, R137). -/
def stageChangeDone (n : Nat) (s : State) : State :=
  if (s.chan n).changing then (s.setChan n { s.chan n with changing := false }).resumeIf n else s

/-- INPUT_OVER_RANGE: the range, common-mode and TIA detectors of an input as they now stand (R67, R70, R82). -/
def inputOverRange (n : Nat) (range commonMode tia : Bool) (s : State) : State :=
  let stage := s.rd (R.ch_STAGE n)
  if stage == 0 then s
  else
    let s := s.wrBit (R.ch_CH_STATUS n) 0 range
    let s := s.wrBit (R.ch_CH_STATUS n) 1 (range && s.rd (R.ch_BURNOUT n) != 0)
    let s := s.wrBit (R.ch_CH_STATUS n) 7 (commonMode && stage == 1)
    s.wrBit (R.ch_CH_STATUS n) 8 (tia && stage == 3)

/-- TERMINATION_OVERVOLTAGE: the 50 Ω termination opens (R71). -/
def terminationOvervoltage (n : Nat) (s : State) : State :=
  if s.rd (R.ch_STAGE n) == 2 then s.wrBit (R.ch_CH_STATUS n) 3 true else s

/-- TERMINATION_RECLOSE: the termination closes again (R71). -/
def terminationReclose (n : Nat) (s : State) : State := s.wrBit (R.ch_CH_STATUS n) 3 false

/-- EXC_SENSE_LOOP_FAULT: the driver regulates at its own balls (R74). -/
def excSenseLoopFault (q : Nat) (s : State) : State :=
  if (s.quad q).exc.mode == 1 then s.wrBit (R.qd_EXC_STATUS q) 2 true else s

/-- EXC_CURRENT_LIMIT: the driver holds at its limit in voltage mode, or the sources at QEX_A and QEX_B at their compliance
limit, with the channels each feeds in fault: in mode 4 those of its own string (R75, R76, Table 3-4; log entry 151). -/
def excCurrentLimit (q : Nat) (a b : Bool) (s : State) : State :=
  let x := s.quad q
  if !x.driverOn || !(a || b) then s
  else
    let s := s.wrBit (R.qd_EXC_STATUS q) 1 true
    if x.exc.mode < 2 then s
    else if x.exc.mode == 4 then
      s.excFault ((if a then [4 * q, 4 * q + 1] else []) ++ if b then [4 * q + 2, 4 * q + 3] else []) true
    else s.excFault (chansOfQuad q) true

/-- VIN_FALL_CLAMP: the driver clamps at VIN − 300 mV (R75). -/
def vinFallClamp (q vinMv : Nat) (s : State) : State :=
  let s := s.putMode { s.mode with vin := vinMv }
  if (s.quad q).exc.mode == 1 && vinMv < (s.quad q).exc.volt + 300 then
    (s.wrBit (R.qd_EXC_STATUS q) 3 true).excFault (chansOfQuad q) true
  else s

/-- VIN_RECOVERED: the driver returns to its setting and the bits clear (R75). -/
def vinRecovered (q vinMv : Nat) (s : State) : State :=
  let s := s.putMode { s.mode with vin := vinMv }
  if bitAt (s.rd (R.qd_EXC_STATUS q)) 3 && (s.quad q).exc.volt + 300 ≤ vinMv then
    (s.wrBit (R.qd_EXC_STATUS q) 3 false).excFault (chansOfQuad q) false
  else s

/-- PWM_RISING_EDGE: on the main-clock edge of the schedule, in a bank that is powered, a pending excitation change takes effect and
the pulsed driver switches on for its width; the stretch flag of earlier pulses ends (R77, R79, R100, R116). -/
def pwmRisingEdge (q : Nat) (s : State) : State :=
  let x := s.quad q
  if !x.exc.pulsed || s.rd (R.bk_BANK_STATE (q / 8)) == 0 || !s.onEvent x.exc.period x.exc.phase then s
  else
    let t := s.eventTime x.exc.period x.exc.phase
    let s := if x.stretchTo.isNone then s.wrBit (R.qd_EXC_STATUS q) 4 false else s
    let s := if x.pendingExc then s.excTakesEffect q else s
    let e := (s.quad q).exc
    let s := s.setQuad q { s.quad q with rise := if e.pulsed then some (s.time.edge, t + e.width * ticksPerNs) else none }
    s.setDriver q ((s.quad q).exc.mode != 0 && !bitAt (s.rd (R.qd_EXC_STATUS q)) 5)

/-- PWM_FALLING_EDGE: the driver switches off PWM_WIDTH after its rising edge, after a stretched burst at its end (R77,
R100). -/
def pwmFallingEdge (q : Nat) (s : State) : State :=
  let x := s.quad q
  let due := match x.stretchTo, x.rise with
    | some p, _ => decide (p ≤ s.time.edge * 256)
    | none, some r => s.nearEdge (s.fallTime r) || decide (s.fallTime r * 2 ^ 32 ≤ s.counter)
    | none, none => s.onEvent x.exc.period (x.exc.phase + x.exc.width)
  if !x.exc.pulsed || !due then s else (s.setQuad q { x with stretchTo := none }).setDriver q false

/-- OW_SLOT_DUE: OW_PERIOD seconds, counted from the commit, make a diagnostic slot due (R83). -/
def owSlotDue (n : Nat) (s : State) : State :=
  let c := s.chan n
  let p := s.rd (R.ch_OW_PERIOD n) * edgesPerSec
  if s.rd (R.ch_STAGE n) == 1 && p != 0 && s.rd (R.ch_OW_CURRENT n) != 0 && c.owBase + p ≤ s.time.edge then
    s.setChan n { c with owDue := true, owBase := s.time.edge - (s.time.edge - c.owBase) % p }
  else s

/-- OW_SLOT_START: a due slot starts where there is room for it, not during a run (R83, R84). -/
def owSlotStart (n : Nat) (s : State) : State :=
  let c := s.chan n
  let st := s.rd (R.ch_CH_STATUS n)
  if (c.owDue || 0 < c.owNow) && s.rd (R.ch_STAGE n) == 1 && s.rd (R.ch_OW_CURRENT n) != 0 && s.converting n && s.slotFits n
      && !bitAt st 5 && !bitAt st 6 then
    (s.setChan n { c with owDue := false, owNow := if c.owDue then c.owNow else c.owNow - 1 }).withhold n .slot 5
  else s

/-- OW_SLOT_END: OW_DELTA and OW_RESULT are posted and samples pass again; an open result with TDR_AUTO, or a start
that waited, begins a reflectometry run (R85, R89). -/
def owSlotEnd (n : Nat) (deltaUv : Int) (overRange : Bool) (s : State) : State :=
  if !bitAt (s.rd (R.ch_CH_STATUS n)) 5 then s
  else
    let isOpen := overRange || (s.rd (R.ch_OW_THRESHOLD n) : Int) < deltaUv.natAbs
    let s := (s.wrI (R.ch_OW_DELTA n) 32 deltaUv).wr (R.ch_OW_RESULT n) (if isOpen then 2 else 1)
    let s := (s.wrBit (R.ch_CH_STATUS n) 2 isOpen).wrBit (R.ch_CH_STATUS n) 5 false
    let s := s.resumeIf n
    if (s.chan n).tdrPending || (isOpen && s.rdB (R.ch_TDR_AUTO n) && !s.isLegal n) then s.beginTdr n else s

/-- TDR_NO_EDGE: no edge returned within 20 ns of launch (R89; log entry 113). -/
def tdrNoEdge (n : Nat) (s : State) : State :=
  if bitAt (s.rd (R.ch_CH_STATUS n)) 6 then s.endTdr n 3 else s

/-- TDR_RUN_END: a run completes; the points at which the reflection changes by more than TDR_THRESHOLD give its events,
nearest first, and the end delay (R87, R88; log entry 111). -/
def tdrRunEnd (n : Nat) (points : List LeadPoint) (s : State) : State :=
  if !bitAt (s.rd (R.ch_CH_STATUS n)) 6 then s
  else
    let found := tdrEvents (s.rd (R.ch_TDR_VOP n))
      (sortPoints (points.filter fun p => s.rd (R.ch_TDR_THRESHOLD n) < p.change.natAbs))
    let kept := found.take 8
    let s := (s.wr (R.ch_TDR_EVENTS n) kept.length).wr (R.ch_TDR_EVENT n) (leNat (kept.flatMap fun e => natLE 8 e.2))
    let s := s.wr (R.ch_TDR_END_DELAY n) ((found.getLast?.map (·.1)).getD 0 / 2 % 2 ^ 32)
    s.endTdr n (if 8 < found.length then 5 else 2)

end Sys2Proof.Machine
end

