-- ==== Sys2Proof/Machine/Conversion.lean ====
section
/-! DEFINITION. Conversion (chapter 4): bursts, banks, the references and their supervision. -/

namespace Sys2Proof.Machine

namespace State

/-- The channels of a quad that convert in bursts (R96). -/
def burstChans (s : State) (q : Nat) : List Nat :=
  (chansOfQuad q).filter fun n => s.isBurst n && s.rd (R.ch_STAGE n) != 0

/-- D of a quad in ticks: START_DELAY main-clock periods (R96). -/
def burstDelay (s : State) (q : Nat) : Nat := s.rd (R.qd_START_DELAY q) * 40000

/-- B of a quad in ticks (R96): BURST_N samples at BURST_RATE. -/
def burstLen (s : State) (q : Nat) : Nat := s.rd (R.qd_BURST_N q) * convSpacing (s.rd (R.qd_BURST_RATE q)) * 40000 / 256

/-- The edge position of sample i of the burst in hand (R96). -/
def burstPos (s : State) (q i : Nat) : Nat := (s.quad q).burstEdge * 256 + i * convSpacing (s.quad q).burstCode

/-- A burst is not started: SKIPPED counts, and each Gob fills its place and sends its GAP (R100, R138, R141). -/
def skipBurst (s : State) (q : Nat) : State :=
  let first := (s.time.edge + s.rd (R.qd_START_DELAY q)) * 256
  let pos := first + (s.rd (R.qd_BURST_N q) - 1) * convSpacing (s.rd (R.qd_BURST_RATE q)) / 2
  (s.count (R.qd_SKIPPED q) 1).each (s.burstChans q) fun s n => s.gobMissingBurst n pos

/-- A burst is started with its first conversion on an edge, for the channels and with the samples that are set now (R96, R100). -/
def fixBurst (s : State) (q first : Nat) : State :=
  (s.setQuad q { s.quad q with
    burstRunning := true, burstEdge := first, burstN := s.rd (R.qd_BURST_N q), burstCode := s.rd (R.qd_BURST_RATE q)
    inHand := s.burstChans q }).wr (R.qd_NEXT_START q) (t64OfTicks (s.timeOfEdge first))

/-- Does a quad start bursts: a source, a channel in burst mode, a bank on or on its way to on (R96, R102). -/
def burstsLive (s : State) (q : Nat) : Bool :=
  let st := s.rd (R.bk_BANK_STATE (q / 8))
  s.rd (R.qd_START_SRC q) != 0 && s.burstChans q != [] &&
    (st == 3 || (st == 1 && s.rd (R.bk_BANK_POWER (q / 8)) == 2))

/-- The first main-clock edge whose hub time is READY_AT or later (R103). -/
def readyEdge (s : State) (b : Nat) : Nat :=
  s.time.edge + ceilDiv (ticksOfT96 (s.rd (R.bk_READY_AT b)) * 2 ^ 32 - s.counter) (max 1 (s.rd R.tm_INCR))

/-- NEXT_START: the first conversion of the next burst, C(m0 + START_DELAY) (Table 4-9): of the burst fixed and not begun,
else of the next start event, no earlier than READY_AT in a bank that settles (R96, R103). -/
def nextStart (s : State) (q : Nat) : Nat :=
  if !s.burstsLive q || ((s.quad q).burstRunning && !s.burstBegun q) then s.rd (R.qd_NEXT_START q)
  else
    let first := s.edgeOfTime (s.nextStartEvent q) + s.rd (R.qd_START_DELAY q)
    t64OfTicks (s.timeOfEdge (if s.rd (R.bk_BANK_STATE (q / 8)) == 1 then max first (s.readyEdge (q / 8)) else first))

/-- CONV_STATUS as it reads (Table 4-8): bit 6 from the bank; a channel in burst mode sleeps between bursts, so
bit 0 shows while its burst runs, and bit 1 until its start takes place (R96, R103). -/
def convStatus (s : State) (n : Nat) : Nat :=
  let st := putBit (s.rd (R.ch_CONV_STATUS n)) 6 (s.rd (R.bk_BANK_STATE (bankOfChan n)) != 3)
  if s.isBurst n then
    let on := s.inBurst n
    putBit (putBit st 0 (bitAt st 0 && on)) 1 (bitAt st 1 && !on)
  else st

/-- The threshold of Table: does a magnitude exceed ppm, in 0.01 ppm (R105). -/
def beyond (x : Int) (ppm : Nat) : Bool := ppm * 100 < x.natAbs

/-- The disagreements that count: DIS_AB, and with REFX accepted DIS_AX and DIS_BX (R105 to R107). -/
def refDis (s : State) (d : Nat) : List Int :=
  let i := d - 1
  let ext := s.rdB (R.di_REFX_PRESENT i) && !bitAt (s.rd (R.di_REF_STATE i)) 6
  s.rdI (R.di_DIS_AB i) 32 :: (if ext then [s.rdI (R.di_DIS_AX i) 32, s.rdI (R.di_DIS_BX i) 32] else [])

/-- The vote of R107 over 50 ppm: 4 REF-A, 8 REF-B, 16 REFX drifted, 32 no majority, 0 nothing beyond. -/
def refVote (ab ax bx : Int) : Nat :=
  let w (x : Int) := beyond x 50
  if w ab && w ax && !w bx then 4 else if w ab && w bx && !w ax then 8
  else if w ax && w bx && !w ab then 16 else if w ab || w ax || w bx then 32 else 0

/-- A bank with REF_POLICY 1 whose reference is judged drifted beyond 200 ppm, in both its disagreements, is to be switched
(R107; log entry 114); never one that holds a sealed legal channel (R108). -/
def voteSwitch (s : State) (d : Nat) (ab ax bx : Int) : State :=
  let st := s.rd (R.di_REF_STATE (d - 1))
  let bad (sel : Nat) : Bool :=
    beyond ab 200 && (if sel == 0 then bitAt st 2 && beyond ax 200 else bitAt st 3 && beyond bx 200)
  s.each ((List.range 4).map (4 * (d - 1) + ·)) fun s b =>
    let x := s.dieRef d
    if s.rd (R.bk_REF_POLICY b) == 1 && bad (s.rd (R.bk_REF_SEL b)) && !s.bankLegal b && !x.switching.contains b then
      (s.setDieRef d { x with switching := x.switching ++ [b] }).settleSwitch b false
    else s

/-- The recorded values of REF-A and REF-B of a die, in nV (R105; log entry 106). -/
def recorded (s : State) (d : Nat) : Nat × Nat :=
  let x := s.dieRef d
  (if x.recA == 0 then Config.factoryReference d 0 else x.recA, if x.recB == 0 then Config.factoryReference d 1 else x.recB)

/-- Does a die hold a sealed legal channel. -/
def dieLegal (s : State) (d : Nat) : Bool := (chansOfDie d).any s.isLegal

/-- A write of REF_RECAL (R109). -/
def refRecalAct (s : State) (d : Nat) (on : Bool) : Ans :=
  if !on then ok s
  else if !s.rdB (R.di_REFX_PRESENT (d - 1)) || bitAt (s.rd (R.di_REF_STATE (d - 1))) 6 then (0x3033, s)
  else ok (s.setDieRef d { s.dieRef d with recalBusy := true })

/-- A die's link begins to train (R117); one that is not up a retraining later leaves the die unreachable (R30). -/
def trainLink (s : State) (d : Nat) : State :=
  (s.setLink d { s.link d with downSince := some s.time.edge }).wr (R.di_LINK_STATE (d - 1)) 1

/-- Does the spare slice of a quad serve a channel (SLICE 4). -/
def spareServes (s : State) (q : Nat) : Bool := (chansOfQuad q).any fun n => s.rd (R.ch_SLICE n) == 4

/-- A substitution starts: Table 14-5 step 1, for a cause of SUBST_CAUSE (R344). -/
def startSubst (s : State) (q c cause : Nat) : State :=
  let s := s.setSpare q { s.spare q with moving := c, restoring := false, phase := 1, done := 0 }
  ((s.wr (R.ss_SUBST_STATE q) 1).wr (R.ss_SUBST_CAUSE q) cause).logEvent 11 (4 * q + c) 3

/-- A write of CAL_NOW (R112). -/
def calNowAct (s : State) (b : Nat) (on : Bool) : Ans :=
  if !on then ok s
  else if !s.bankOn b then (0x3032, s)
  else if s.bankLegal b then (0x6031, s)
  else
    let s := s.wr (R.bk_CAL_STATE b) 1
    ok (s.each ((quadsOfBank b).filter fun q => s.rd (R.ss_SUBST_STATE q) == 0) fun s q => s.startSubst q 0 4)

/-- The gap between two bursts of a quad is at least 50 µs: long enough to calibrate in (R110). -/
def longGap (s : State) (q : Nat) : Bool :=
  s.rd (R.qd_START_SRC q) == 0 || s.burstLen q + 50000 * ticksPerNs ≤ s.burstPeriod q * ticksPerNs

/-- Have the slices of a quad each been replaced, calibrated while out, and restored in the run of CAL_NOW (R112). -/
def calRan (s : State) (q : Nat) : Bool := s.rd (R.ss_SUBST_CAUSE q) == 4 && s.rd (R.ss_SUBST_STATE q) == 0

/-- Is a quad skipped by CAL_NOW: its spare slice is in service, so that only burst gaps are left, and it has continuous channels or
no gap long enough (R110, R112). -/
def calSkips (s : State) (q : Nat) : Bool :=
  !s.calRan q && (!s.longGap q || (chansOfQuad q).any fun n => !s.isBurst n && s.rd (R.ch_STAGE n) != 0)

/-- Is the run of CAL_NOW still at work on a quad (R112). -/
def calBusy (s : State) (q : Nat) : Bool := (s.spare q).phase != 0 && s.rd (R.ss_SUBST_CAUSE q) == 4

/-- The spare of a quad is idle again, or out of service while it is judged failing; SLICE_SPARES counts it or not
(Tables 14-7 and 14-8). -/
def spareIdle (s : State) (q : Nat) (counted : Bool) : State :=
  let failing := bitAt (s.rd (R.ss_SLICE_HEALTH q)) 4
  let n := s.rd R.cu_SLICE_SPARES
  (s.wr (R.ss_SUBST_STATE q) (if failing then 6 else 0)).wr R.cu_SLICE_SPARES
    (if failing == !counted then n else if failing then n - 1 else n + 1)

/-- A substitution in progress is abandoned: the spare returns to idle, or goes on serving (R346). -/
def abandonSubst (s : State) (q : Nat) : State :=
  let x := s.spare q
  if x.phase == 0 then s
  else
    let s := s.setSpare q { x with phase := 0, restoring := false }
    (if x.restoring then s.wr (R.ss_SUBST_STATE q) 4 else s.spareIdle q true).logEvent 11 (4 * q + x.moving) 5

/-- Half skew is trimmed in steps of 100 fs (R111). -/
def trimSkew (fs : Int) : Int := roundEven fs 100 * 100

/-- The calibration words of the slice that now serves a channel (Table 4-8). -/
def setCal (s : State) (n : Nat) (offset gain skew : Int) : State :=
  ((s.wrI (R.ch_CAL_OFFSET n) 32 offset).wrI (R.ch_CAL_GAIN n) 32 gain).wrI (R.ch_CAL_SKEW n) 16 (trimSkew skew)

/-- The slices of a list of channels have been calibrated in full, as at power-up: offset and half skew found, gain from MRAM
(Table 4-4; log entry 107); CAL_TIME, CAL_DRIFT, and the offset that R341 counts from. -/
def calibrated (s : State) (l : List Nat) : State :=
  s.each l fun s n =>
    let k := s.freeCount
    let c := s.rd (R.ch_SLICE n)
    let s := s.bump.setCal n (Config.foundCal 0 (quadOf n) c k) (Config.factoryGain (quadOf n) c) (Config.foundCal 1 (quadOf n) c k)
    let s := (s.wr (R.ch_CAL_TIME n) s.now96).wr (R.ch_CAL_DRIFT n) 0
    s.setChan n { s.chan n with calBase := s.rdI (R.ch_CAL_OFFSET n) 32 }

/-- The idle spare slices of quads have been calibrated in full (Table 4-4, R110). -/
def sparesCalibrated (s : State) (l : List Nat) : State :=
  s.each (l.filter fun q => !s.spareServes q) fun s q =>
    let k := s.freeCount
    s.bump.setSpare q { s.spare q with
      calOffset := Config.foundCal 0 q 4 k, calGain := Config.factoryGain q 4, calSkew := trimSkew (Config.foundCal 1 q 4 k) }

/-- The conversion of a bank stops (Table 4-7 step 3). -/
def stopBank (s : State) (b : Nat) : State :=
  s.each (chansOfBank b) fun s n =>
    let s := if bitAt (s.rd (R.ch_CH_STATUS n)) 6 then s.endTdr n 4 else s
    let s := (s.abandonSlot n).setChan n { (s.abandonSlot n).chan n with owDue := false, tdrPending := false }
    ((s.closeCapture n 2).stopConverting n).wrBit (R.ch_CONV_STATUS n) 6 true

end State

/-- BURST_START_EVENT: on the main-clock edge of the schedule the event fixes the burst's first conversion, or defers,
stretches or skips it (R96, R100, R103). -/
def burstStartEvent (q : Nat) (s : State) : State :=
  let cs := s.burstChans q
  let src := s.rd (R.qd_START_SRC q)
  let b := q / 8
  if !s.burstsLive q || !s.startDue q then s
  else if (s.quad q).burstRunning then s.skipBurst q
  else
    let first := s.time.edge + s.rd (R.qd_START_DELAY q)
    let ready := s.readyEdge b
    if s.rd (R.bk_BANK_STATE b) == 3 || ready ≤ first then s.fixBurst q first
    else
      let width := s.timeOfEdge ready + s.burstLen q - s.now
      let limit := min 1000000000 ((s.startSchedule q).1 - 1000) * ticksPerNs
      if src == 2 && limit < width then (s.skipBurst q).count (R.bk_DEFERRALS b) 1
      else
        let s := s.each cs fun s n => s.deferStart n false
        let s := (s.count (R.bk_DEFERRALS b) 1).fixBurst q ready
        if src == 2 && (s.quad q).exc.width * ticksPerNs < width then
          ((s.wrBit (R.qd_EXC_STATUS q) 4 true).count (R.qd_STRETCHED q) 1).setQuad q
            { s.quad q with stretchTo := some (s.burstPos q (s.quad q).burstN), deferred := true }
        else s

/-- After a hard fault the spare's first sample passes again (R345). -/
def State.settleFault (s : State) (n pos : Nat) : State :=
  match (s.chan n).faultEnd with
  | some e => if pos < e * 256 then s else (s.setChan n { s.chan n with faultEnd := none }).resumeIf n
  | none => s

/-- GOB_OUTPUT: one slice sample of a channel in continuous conversion, on a conversion edge of its rate, reaches its Gob
and, through the decimation counts, its outputs (R95, R123 to R132); raw forwarding takes it too (R142). The inputs, of the
slice that serves and of the one that a substitution fades to, are in 2^-16 LSB, the edge position in 2^-8 main-clock
periods. -/
def gobOutput (n : Nat) (input other : Int) (marks : Marks) (pos : Nat) (s : State) : State :=
  if !s.converting n || s.isBurst n || s.inBurst n || pos % convSpacing (s.rd (R.ch_CONV_RATE n)) != 0 then s
  else
    let s := s.settleFault n pos
    let neg := (s.chan n).chopNeg
    let v := s.calibrate n (codeOf input) (codeOf other) 1 neg
    let r := s.sliceSample n ⟨input, marks⟩ pos
    let s := ((r.1.gobTake n ⟨v, pos * 65536, pos * 65536, r.2.marks⟩).substCount n).cycleTick n
    s.settleSwitch (bankOfChan n) ((s.chan n).cycle == 0)

/-- SLICE_WAKE: the slices and input stages of a quad's burst channels wake (R96). -/
def sliceWake (q : Nat) (s : State) : State :=
  if s.rd (R.qd_START_SRC q) == 0 then s
  else s.each ((s.burstChans q).filter s.converting) fun s n => s.setChan n { s.chan n with awake := true }

/-- One channel's samples of a burst are counted, forwarded and tapped, and their mean reaches its Gob (R96, R124, R125,
R128, R142). -/
def burstValue (q : Nat) (s : State) (x : BurstSum) : State :=
  let n := x.chan
  let k := (s.quad q).burstN
  let neg := (s.chan n).chopNeg
  let s := s.settleFault n (s.burstPos q 0)
  let sum (l : List Int) := (l.map codeOf).foldl (· + ·) 0
  let m := marksAll (x.samples.map fun y => s.sampleMarks n y (codeOf y.value))
  let v := quotient (s.calibrate n (sum (x.samples.map (·.value))) (sum x.other) k neg) k
  let s := s.each (x.samples.zip (List.range k)) fun s y => (s.sliceSample n y.1 (s.burstPos q y.2)).1
  let first := s.burstPos q 0
  let s := (s.gobTake n ⟨v, (first + s.burstPos q (k - 1)) * 32768, first * 65536, m⟩).substCount n
  let c := s.chan n
  let near := s.burstPeriod q * ticksPerNs < s.burstLen q + 4000 * ticksPerNs
  s.setChan n { c with chopNeg := s.chopOn n && !c.chopNeg, deferred := false, awake := near }

/-- BURST_END: the last sample is taken; the burst's values are posted, its channels sleep, the swap modes exchange
sources, what was switched off meanwhile stops, and a bank that waits for it switches its reference (R80, R96, R100, R107). A burst
gives every channel that it was started for the samples that BURST_N then was. -/
def burstEnd (q : Nat) (sums : List BurstSum) (s : State) : State :=
  let k := (s.quad q).burstN
  if !(s.quad q).burstRunning || s.time.edge * 256 < s.burstPos q (k - 1) then s
  else
    let cs := (s.quad q).inHand.filter s.converting
    let s := s.each (sums.filter fun x => cs.contains x.chan && x.samples.length == k) (burstValue q)
    let s := s.each cs fun s n => s.wrBit (R.ch_CONV_STATUS n) 1 false
    let x := s.quad q
    let s := (s.setQuad q { x with
      burstRunning := false, deferred := false, inHand := []
      swapped := if 3 ≤ x.exc.mode then !x.swapped else x.swapped }).count (R.qd_BURSTS q) 1
    (s.each cs State.settleConversion).settleSwitch (q / 8) false

/-- BANK_READY_AT: at READY_AT the bank goes to on or standby, its slices calibrated; deferred starts proceed (R103,
Table 4-4). -/
def bankReadyAt (b : Nat) (s : State) : State :=
  if s.rd (R.bk_BANK_STATE b) != 1 || s.now < ticksOfT96 (s.rd (R.bk_READY_AT b)) then s
  else
    let s := s.wr (R.bk_BANK_STATE b) (if s.rd (R.bk_BANK_POWER b) == 2 then 3 else 2)
    ((s.calibrated (chansOfBank b)).sparesCalibrated (State.quadsOfBank b)).each (chansOfBank b) State.settleConversion

/-- The bursts in hand of a bank come to nothing. -/
def State.dropBursts (s : State) (b : Nat) : State :=
  s.each (State.quadsOfBank b) fun s q =>
    s.setQuad q { s.quad q with burstRunning := false, deferred := false, stretchTo := none, inHand := [] }

/-- REF_BUFFER_TIMEOUT: the buffer has not settled; the bank goes to fault and converts nothing (R104). -/
def refBufferTimeout (b : Nat) (s : State) : State :=
  let st := s.rd (R.bk_BANK_STATE b)
  if st == 1 || st == 2 || st == 3 then
    (((s.wr (R.bk_BANK_STATE b) 6).dropBursts b).each (chansOfBank b) State.settleConversion).raise 0x7031 b
  else s

/-- A disagreement in 0.01 ppm: the measured ratio over the ratio of two recorded values, less one (R105). -/
def disagreement (a b recA recB : Nat) : Int :=
  if b * recA = 0 then 0 else roundEven (((a * recB : Nat) - (b * recA : Nat) : Int) * 100000000) (b * recA)

/-- REF_SUPERVISION_AVERAGE: REF-A, REF-B and REFX as measured over 1 s, in nV. The disagreements are updated, in 0.01 ppm, and
the flags and the vote follow; a legal channel whose reference becomes suspect is signalled (R105 to R108; log entry 115). -/
def refSupervisionAverage (d a b x : Nat) (s : State) : State :=
  let i := d - 1
  let present := s.rdB (R.di_REFX_PRESENT i)
  let inRange : Bool := 2490000000 ≤ x && x ≤ 2510000000
  let (ra, rb) := s.recorded d
  let v := s.rd (R.di_REF_RECAL_V i) * 1000
  let (ab, ax, bx) := (disagreement a b ra rb, disagreement a x ra v, disagreement b x rb v)
  let s := s.wrBit (R.di_REF_STATE i) 6 (present && !inRange)
  let s := s.wrI (R.di_DIS_AB i) 32 ab
  let s := if present then (s.wrI (R.di_DIS_AX i) 32 ax).wrI (R.di_DIS_BX i) 32 bx else s
  let l := s.refDis d
  let st := s.rd (R.di_REF_STATE i)
  let warn := bitAt st 0 || l.any fun x => State.beyond x 50
  let susp := bitAt st 1 || l.any fun x => State.beyond x 200
  let vote := if present && inRange then State.refVote ab ax bx else 0
  let votes := if l.any (fun x => State.beyond x 50) then vote else if warn then st / 4 % 16 * 4 else 0
  let s := if warn && !bitAt st 0 then s.count (R.di_REF_WARNINGS i) 1 else s
  let clean := (chansOfDie d).filter fun n => s.isLegal n && !bitAt (s.rd (R.ch_CONV_STATUS n)) 3
  let s := s.wr (R.di_REF_STATE i) (ofBool warn + ofBool susp * 2 + votes + st / 64 % 2 * 64)
  let s := (s.voteSwitch d ab ax bx).markRefs d
  if clean.any fun n => bitAt (s.rd (R.ch_CONV_STATUS n)) 3 then s.emit (.notice (.refSuspect d)) else s

/-- REF_FLAG_CLEAR: the disagreements have stayed below 40 ppm, or 160 ppm for the suspect flag, for 60 s (R105); not while the
references are recalibrated (R109). -/
def refFlagClear (d : Nat) (suspect : Bool) (s : State) : State :=
  if (s.dieRef d).recalBusy then s
  else
  let i := d - 1
  let limit := if suspect then 16000 else 4000
  let low (x : Int) : Bool := decide (x.natAbs < limit)
  let s :=
    if (s.refDis d).all low then
      let st := s.rd (R.di_REF_STATE i)
      let st := if suspect then putBit st 1 false else st / 64 % 2 * 64 + ofBool (bitAt st 1) * 2
      (s.wr (R.di_REF_STATE i) st).setDieRef d { s.dieRef d with heldBanks := if suspect then (s.dieRef d).heldBanks else [] }
    else
      let ext := s.rdB (R.di_REFX_PRESENT i)
      let own (b : Nat) : Int :=
        if !ext then s.rdI (R.di_DIS_AB i) 32
        else if s.rd (R.bk_REF_SEL b) == 0 then s.rdI (R.di_DIS_AX i) 32 else s.rdI (R.di_DIS_BX i) 32
      s.setDieRef d { s.dieRef d with heldBanks := (s.dieRef d).heldBanks.filter fun b => !low (own b) }
  s.markRefs d

/-- REF_RECAL_DONE: REF-A and REF-B, measured against REFX in nV, are recorded and corrected as traced to it, by what they differ
from their values of manufacture, on which the gains in MRAM rest (log entry 136); the disagreements read zero, and REF_STATE bits 0 to 5 clear (R109). -/
def refRecalDone (d a b x : Nat) (s : State) : State :=
  let i := d - 1
  if !(s.dieRef d).recalBusy then s
  else
    let v := s.rd (R.di_REF_RECAL_V i) * 1000
    let traced (y : Nat) : Nat := if x = 0 then y else (roundEven (y * v : Nat) x).toNat
    let corr (sel y : Nat) : Int :=
      let made := Config.factoryReference d sel
      if made = 0 then 0 else roundEven (((traced y : Int) - made) * 1000000000) made
    let s := s.setDieRef d { s.dieRef d with
      recalBusy := false, heldBanks := [], switching := [], recA := traced a, recB := traced b, corrA := corr 0 a, corrB := corr 1 b }
    let s := ((s.wr (R.di_DIS_AB i) 0).wr (R.di_DIS_AX i) 0).wr (R.di_DIS_BX i) 0
    let s := (s.wr (R.di_REF_STATE i) (s.rd (R.di_REF_STATE i) / 64 * 64)).wr (R.di_REF_RECAL_TIME i) s.now96
    let s := if s.dieLegal d then s.emit (.notice (.recalibrated d (s.rd (R.di_REF_RECAL_V i)))) else s
    s.markRefs d

/-- CAL_NOW_DONE: the recalibration of a bank completes once every quad that runs has restored its last slice (R112): the others
have been calibrated in burst gaps, or are skipped. -/
def calNowDone (b : Nat) (s : State) : State :=
  let quads := State.quadsOfBank b
  if s.rd (R.bk_CAL_STATE b) != 1 || quads.any s.calBusy then s
  else
    let done := quads.filter fun q => !s.calSkips q
    let gaps := done.filter fun q => !s.calRan q
    let s := s.wr (R.bk_CAL_STATE b) (if done.length < 8 then 3 else 2)
    (s.calibrated (gaps.flatMap chansOfQuad)).sparesCalibrated done

/-- BANK_CONVERSION_STOP: a gating bank stops at the end of its bursts or cycle, and drains (Table 4-7 steps 3 and 4); a run of
CAL_NOW ends there. -/
def bankConversionStop (b : Nat) (s : State) : State :=
  if s.rd (R.bk_BANK_STATE b) != 4 || (State.quadsOfBank b).any s.burstBegun then s
  else
    let s := (s.each (State.quadsOfBank b) State.abandonSubst).dropBursts b
    let s := if s.rd (R.bk_CAL_STATE b) == 1 then s.wr (R.bk_CAL_STATE b) 0 else s
    (s.stopBank b).wr (R.bk_BANK_STATE b) 5

/-- BANK_DRAIN_DONE: the bank is unpowered, its die follows once all four are off; a bank commanded on meanwhile
powers up again (R115, R117). -/
def bankDrainDone (b : Nat) (s : State) : State :=
  if s.rd (R.bk_BANK_STATE b) != 5 then s
  else
    let s := s.wr (R.bk_BANK_STATE b) 0
    let i := b / 4
    let off := (List.range 4).all fun j => s.rd (R.bk_BANK_STATE (4 * i + j)) == 0
    let s := s.settleDrain (i + 1)
    let s := if s.rd (R.di_DIE_STATE i) == 2 && off then (s.wr (R.di_DIE_STATE i) 0).settleLink (i + 1) else s
    s.commandBank b

end Sys2Proof.Machine
end

