-- ==== Sys2Proof/Machine/Lehr.lean ====
section
/-! DEFINITION. The Lehr (chapter 6): paths' inputs, the FIR and the resampler, blocks, fades, time events, the budget
and the lanes. -/

namespace Sys2Proof.Machine

/-- Coefficients of a domain: I32 each, least significant octet first (R154). -/
def coefs : List Byte → List Int
  | a :: b :: c :: d :: t => toSigned 32 (leNat [a, b, c, d]) :: coefs t
  | _ => []

/-- One product of R156: shifted right by 30 bits, to nearest, ties to even. -/
def mac (acc : Int) (p : Int × Int) : Int := acc + roundEven (p.1 * p.2) (2 ^ 30)

/-- A value between the FIR and the resampler (R154, R156): the 32-bit operand, its marks, whether its span holds a copy
(R158) or an input converted while hub time was UNSET (R161), and its instant. -/
structure MidVal where
  value : Int
  marks : Marks
  copied : Bool
  unset : Bool
  instant : Nat
  deriving DecidableEq, Repr

/-- An instant FIR_CENTRE / 256 taps back from the newest of some inputs, newest first (R154). -/
def centreInstant (l : List LehrIn) (centre : Nat) : Nat :=
  let at_ (i : Nat) := (l.drop i).map (·.instant)
  match at_ (centre / 256) with
  | [] => 0
  | [a] => a
  | a :: b :: _ => a - (a - b) * (centre % 256) / 256

/-- The FIR outputs of a path's inputs (newest first), newest first (R154, R156). -/
def midVals (c : LehrCfg) (dec : Nat) : List LehrIn → List MidVal
  | [] => []
  | x :: t =>
    let rest := midVals c dec t
    let l := x :: t
    if c.taps = [] then ⟨x.value * 256, x.marks, x.copy, x.marks.unset, x.instant⟩ :: rest
    else if l.length < c.taps.length ∨ (x.seq + 1) % dec ≠ 0 then rest
    else
      let used := l.zip c.taps
      let sum := (used.map fun p => (p.1.value * 256, p.2)).foldl mac 0
      let v := clampInt (-2147483648) 2147483647 sum
      let m := marksAll ((used.filter (·.2 ≠ 0)).map (·.1.marks))
      ⟨v, { m with overRange := m.overRange || v != sum }, used.any (·.1.copy), used.any (·.1.marks.unset),
        centreInstant l c.centre⟩ :: rest

/-- A coefficient of the prototype of RS_TAPS at a position of 2^-32 within a tap: interpolated between the two nearest
of 256 phases (R151; log entry 5). -/
def protoAt (rs tap pos : Nat) : Int :=
  let k := pos / 2 ^ 24
  let r := pos % 2 ^ 24
  roundEven (Config.prototype rs k tap * (2 ^ 24 - r : Nat) + Config.prototype rs (k + 1) tap * r) (2 ^ 24)

/-- The marks of an output: those of the values with a non-zero coefficient, SETTLING for a copy anywhere in the span, and
whether any input of the span was converted while hub time was UNSET (R157, R158, R161). -/
def spanMarks (used : List (MidVal × Int)) : Marks :=
  let m := marksAll ((used.filter (·.2 ≠ 0)).map (·.1.marks))
  { m with settling := m.settling || used.any (·.1.copied), unset := used.any (·.1.unset) }

/-- The place of an input in the prototype, in 2^-32 tap from its start: the input is `i` input periods after the one at or before
the instant, which lies `frac` of an interval past that; an input period is `ratio` of a tap (R151, R155). -/
def tapPlace (rs : Nat) (frac : Nat) (ratio : Nat × Nat) (i : Int) : Int :=
  (rs / 2 * 2 ^ 32 : Nat) + (i * 2 ^ 32 - frac) * ratio.1 / ratio.2

/-- The resampler's sum at an instant over values oldest first, scaled by 2^8, with its marks; none while an input of the span is
missing. The instant's position between the two inputs that bracket it, to 2^-32 of the interval, gives each input its place in the
prototype, which where f_mid exceeds f_out spans more inputs than it has taps and is scaled down accordingly (R151, R155; log
entry 5). -/
def resample (c : LehrCfg) (mids : List MidVal) (x : Nat) (ratio : Nat × Nat) : Option (Int × Marks) :=
  let rs := c.rsTaps
  let before := mids.filter fun m => m.instant ≤ x
  let after := mids.filter fun m => x < m.instant
  match before.getLast?, after.head? with
  | some a, some b =>
    let place := tapPlace rs ((x - a.instant) * 2 ^ 32 / (b.instant - a.instant)) ratio
    let top : Int := (rs * 2 ^ 32 : Nat)
    let placed := ((before ++ after).zip (List.range mids.length)).map fun m => (m.1, place ((m.2 : Int) + 1 - before.length))
    let span := placed.filter fun m => 0 < m.2 && m.2 ≤ top
    if 0 < place (-before.length) || place (after.length + 1) ≤ top then none
    else
      let coef (v : Nat) : Int :=
        let j := ceilDiv v (2 ^ 32) - 1
        roundEven (protoAt rs j ((j + 1) * 2 ^ 32 - v) * rs) span.length
      let used := span.map fun m => (m.1, coef m.2.toNat)
      some ((used.map fun q => (q.1.value, q.2)).foldl mac 0, spanMarks used)
  | _, _ => none

/-- A result at scale 2^(8 + k) as a 24-bit VALUE, and whether it saturated (R156). -/
def lehrValue (acc : Int) (k : Nat) : Int × Bool :=
  let v := roundEven acc (2 ^ (8 + k))
  let c := clampInt (-8388608) 8388607 v
  (c, decide (c ≠ v))

/-- A Lehr output word, Table 6-4. -/
def lehrWord (m : Marks) (xfade time : Bool) (v : Int) : Nat :=
  ofBool m.settling * 2 ^ 31 + ofBool xfade * 2 ^ 30 + ofBool m.late * 2 ^ 29 + ofBool m.refSuspect * 2 ^ 28
    + ofBool m.overRange * 2 ^ 27 + ofBool m.excFault * 2 ^ 26 + ofBool m.substituted * 2 ^ 25 + ofBool time * 2 ^ 24
    + ofSigned 24 v

/-- A Lehr block: header of Table 6-5, words, and the seal (R170, R171). -/
def lehrBlock (p bseq tkind first skipped : Nat) (start end_ sealed : Bool) (words : List Nat) : List Nat :=
  let t := t96OfTicks first
  let body := [6 * 2 ^ 28 + p % 4096 * 65536 + bseq % 65536,
    words.length * 2 ^ 21 + ofBool start * 2 ^ 20 + ofBool end_ * 2 ^ 19 + ofBool sealed * 2 ^ 18 + tkind * 65536,
    t % 2 ^ 32, t / 2 ^ 32 % 2 ^ 32, t / 2 ^ 64 % 2 ^ 32, min 0xFFFFFFFF skipped] ++ words
  if sealed then body ++ [crc32c (octetsOfWords body)] else body

/-- A sum of fractions, rounded up. -/
def ceilSum (l : List (Nat × Nat)) : Nat :=
  let r := l.foldl (fun a x => (a.1 * x.2 + x.1 * a.2, a.2 * x.2)) (0, 1)
  ceilDiv r.1 r.2

/-- The larger of two fractions. -/
def maxFrac (a b : Nat × Nat) : Nat × Nat := if a.1 * b.2 < b.1 * a.2 then b else a
/-- The smaller of two fractions. -/
def minFrac (a b : Nat × Nat) : Nat × Nat := if a.1 * b.2 < b.1 * a.2 then a else b

/-- The first row of Table 6-2: changes that fade. -/
def fadeSubs : List Nat := [0x04, 0x05, 0x07, 0x08, 0x09]
/-- The second row of Table 6-2: changes that restart. -/
def restartSubs : List Nat := [0x02, 0x03, 0x06, 0x0B]

/-- The first grid instant of a period at or after a time (R153). -/
def gridAt (period t : Nat) : Nat := ceilDiv t period * period

namespace State

/-- The filters that a path's entries give (R154, Table 6-6). -/
def pathCfg (s : State) (p : Nat) : LehrCfg :=
  ⟨(coefs (s.rdDom (R.pa_FIR_COEF p))).take (s.rd (R.pa_FIR_TAPS p)), s.rd (R.pa_FIR_CENTRE p), s.rd (R.pa_RS_TAPS p),
   s.rd (R.pa_DELAY p)⟩

/-- The frame that a path's entries give. -/
def pathFrame (s : State) (p : Nat) : LehrFrame :=
  ⟨s.rd (R.pa_SOURCE p), s.rd (R.pa_OUT_PERIOD p), s.rd (R.pa_FIR_DEC p), s.rd (R.pa_QUEUE p)⟩

/-- f_in of a source in µS/s: the rate of its Gob stream (R155). -/
def fIn (s : State) (src : Nat) : Nat := s.stageRate src (s.rd (R.ch_STAGES src) + 1)

/-- f_in of a source in S/s, as a fraction: the conversion rate, or one burst a period, through its decimations (R155). -/
def inRate (s : State) (n : Nat) : Nat × Nat :=
  let d := s.decProduct n (s.rd (R.ch_STAGES n))
  if s.isBurst n then
    let p := s.burstPeriod (quadOf n)
    if p == 0 then (0, 1) else (1000000000, p * d)
  else (convRate (s.rd (R.ch_CONV_RATE n)), d)

/-- f_mid in S/s, as a fraction (R155). -/
def midRate (s : State) (f : LehrFrame) : Nat × Nat := ((s.inRate f.source).1, (s.inRate f.source).2 * f.dec)

/-- f_out in S/s, as a fraction (R155). -/
def outRate (f : LehrFrame) : Nat × Nat := (ticksPerSec, f.period)

/-- f_out in µS/s. -/
def fOut (f : LehrFrame) : Nat := ticksPerSec * 1000000 / f.period

/-- Do the rates of a frame keep R155. -/
def ratioOk (s : State) (f : LehrFrame) : Bool :=
  let m := s.midRate f
  m.1 * f.period ≤ 2 * m.2 * ticksPerSec && ticksPerSec * m.2 ≤ 65536 * m.1 * f.period

/-- The cost of a path with some filters, MAC/s, rounded up (R166; log entry 29). -/
def pathCost (s : State) (f : LehrFrame) (c : LehrCfg) : Nat :=
  let m := s.midRate f
  let x := maxFrac m (outRate f)
  ceilSum [(c.taps.length * m.1, m.2), (c.rsTaps * x.1, x.2)]

/-- Demand of a path in one round of 10 µs, MACs (R167). -/
def pathDemand (s : State) (f : LehrFrame) (c : LehrCfg) : Nat :=
  let m := s.midRate f
  let x := maxFrac m (outRate f)
  ceilDiv m.1 (m.2 * 100000) * c.taps.length + ceilDiv x.1 (x.2 * 100000) * c.rsTaps

/-- MACs of one output of a path, rounded up: its cost over its output rate (R166). -/
def outputMacs (s : State) (f : LehrFrame) (c : LehrCfg) : Nat :=
  let m := s.midRate f
  let x := maxFrac m (outRate f)
  max 1 (ceilSum [(c.taps.length * m.1 * f.period, m.2 * ticksPerSec), (c.rsTaps * x.1 * f.period, x.2 * ticksPerSec)])

/-- The enabled paths, rising. -/
def enabledPaths (s : State) : List Nat := (s.insts .path 0x01).filter fun p => s.rdB (R.pa_ENABLE p)

/-- The life of a path that its entries configure: the last of those that wait, or the present one (R159, R162). -/
def newestLife (s : State) (p : Nat) : Path := ((s.lives p).getLast?).getD (s.path p)

/-- The filters a path's budget counts: those of its entries, and the old ones of a fade (R166). -/
def budgetCfgs (s : State) (p : Nat) : List LehrCfg :=
  let x := s.newestLife p
  s.pathCfg p :: (if x.fade.isSome then [x.cur] else [])

/-- The cost of a path in force, with its fade (R166). -/
def costOf (s : State) (p : Nat) : Nat := (s.budgetCfgs p).foldl (fun a c => a + s.pathCost (s.pathFrame p) c) 0

/-- Does a commit change the value in force of any of some subindices. -/
def changedSubs (s0 s : State) (g : Grp) (i : Nat) (subs : List Nat) : Bool :=
  subs.any fun k => s0.rd ⟨g, i, k⟩ != s.rd ⟨g, i, k⟩ || s0.rdDom ⟨g, i, k⟩ != s.rdDom ⟨g, i, k⟩

/-- Does a commit start a fade on a path (Table 6-2, R162). -/
def fades (s0 s : State) (p : Nat) : Bool :=
  s0.rdB (R.pa_ENABLE p) && s.rdB (R.pa_ENABLE p) && changedSubs s0 s .path p fadeSubs && !changedSubs s0 s .path p restartSubs

/-- The clauses that are scheduled or chain admitted: their capacity is reserved (R313, R317). -/
def reservedClauses (s : State) : List Nat :=
  (s.clauses.map (·.1)).filter fun c => s.rd (R.cs_CL_STATE c) == 2 || s.rd (R.cs_CL_STATE c) == 4

/-- A path's entries as a clause would leave them. -/
def pathStaged (s : State) (c p : Nat) : State :=
  s.each ((s.clause c).staged.filter fun e => e.1.grp == .path && e.1.inst == p) fun s e => s.put e.1 e.2

/-- The reserved clause that holds a fade of a path, whose fade is pending until its instant (R164 to R166). -/
def fadeClause (s : State) (p : Nat) : Option Nat := s.reservedClauses.find? fun c => fades s (s.pathStaged c p) p

/-- The extra cost that the fade of a path in a reserved clause holds: the new configuration beside the old (R166). -/
def fadeReserve (s : State) (p : Nat) : Nat :=
  match s.fadeClause p with
  | some c => s.pathCost (s.pathFrame p) ((s.pathStaged c p).pathCfg p)
  | none => 0

/-- FADE_AT: the first output of a path's pending fade, in a clause that is scheduled too; 0 none (Table 6-6). -/
def fadeAt (s : State) (p : Nat) : Nat :=
  if s.rd (R.pa_FADE_AT p) != 0 then s.rd (R.pa_FADE_AT p)
  else match s.fadeClause p with
    | some c => t64OfTicks (gridAt (s.pathFrame p).period ((s.now : Int) + t64Diff (s.rd (R.cs_WHEN c)) s.now).toNat)
    | none => 0

/-- The extra cost that the fades of reserved clauses hold (R166). -/
def reservedFades (s : State) : Nat := s.enabledPaths.foldl (fun a p => a + s.fadeReserve p) 0

/-- The sum of the costs of the enabled paths in force, with the fades in progress (R166). -/
def costInForce (s : State) : Nat := s.enabledPaths.foldl (fun a p => a + s.costOf p) 0

/-- The cost that fades of reserved clauses hold beside the configuration they lead to: the old configurations (R166). -/
def scheduledOld (s0 : State) (ps : List Nat) : Nat :=
  ps.foldl (fun a p => if (s0.fadeClause p).isSome then a + s0.pathCost (s0.pathFrame p) (s0.pathCfg p) else a) 0

/-- The entries as the reserved clauses would leave them, a path that one claims held by its tenant (R307, R313). -/
def reservedConfig (s : State) : State :=
  s.each s.reservedClauses fun s c => s.each (s.clause c).staged fun s e =>
    let s := s.put e.1 e.2
    if e.1.grp == .path && s.rd (R.pa_TENANT e.1.inst) == 0xFFFF then
      s.wr (R.pa_TENANT e.1.inst) (s.rd (R.cs_CL_TENANT c)) else s

/-- LOAD: the admitted cost with reserved fades, the greater of the cost in force and of the cost that the scheduled clauses
lead to and reserve from their commit on (R166, R313; log entry 80). -/
def lehrLoad (s : State) : Nat :=
  max (s.costInForce + s.reservedFades) (s.reservedConfig.costInForce + s.scheduledOld s.enabledPaths)

/-- W of R167. -/
def roundDemand (s : State) : Nat :=
  s.enabledPaths.foldl (fun a p => a + (s.budgetCfgs p).foldl (fun b c => b + s.pathDemand (s.pathFrame p) c) 0) 0

/-- K of R167. -/
def catchUp (s : State) : Nat := ceilDiv s.roundDemand (s.rd R.le_LANES_WORKING * 16384) - 1

/-- The flush interval of a Gob stream in s, as a fraction: 30 sample periods, at most 1 ms (R13). -/
def flushTime (s : State) (n : Nat) : Nat × Nat :=
  let r := s.inRate n
  if r.1 == 0 then (1, 1000) else minFrac (30 * r.2, r.1) (1, 1000)

/-- The bound of a path's outputs in ns, rounded up (Table 6-3 step 4). -/
def boundNs (s : State) (p : Nat) : Nat :=
  let f := s.pathFrame p
  let n := f.source
  let c := s.pathCfg p
  let r := s.inRate n
  let lo := minFrac (s.midRate f) (outRate f)
  let q := quadOf n
  let code := s.rd (R.qd_BURST_RATE q)
  let ns : Nat := 1000000000
  let ofEdges256 (k : Nat) : Nat × Nat := (k * 40000, 256 * 65536)
  let burst := if s.isBurst n then
      [ofEdges256 ((s.rd (R.qd_BURST_N q) * convSpacing code + convSpacing code) / 2), (1000, 1)] else []
  let fl := s.flushTime n
  ceilSum ([(c.delay, 65536), ofEdges256 (s.groupDelay n), ofEdges256 (68 * 256), (fl.1 * ns, fl.2),
      ((1 + s.catchUp) * 10000, 1)]
    ++ (if r.1 == 0 then [] else [(c.centre * r.2 * ns, 256 * r.1)])
    ++ (if lo.1 == 0 then [] else [(c.rsTaps / 2 * lo.2 * ns, lo.1)]) ++ burst)

/-- LATENCY of a path, at most what the entry holds (Table 6-6). -/
def pathLatency (s : State) (p : Nat) : Nat := min 0xFFFFFFFF (s.boundNs p)

/-- A path's block closes and is written to its queue; a legal path's goes to the Ampoule too (R170, R175). A block with no
word carries the grid instant after the last output since the start, or the first at or after it. -/
def closeBlock (s : State) (p : Nat) (end_ : Bool) : State :=
  let x := s.path p
  let first := if x.words != [] then x.firstInstant
    else if x.produced then x.lastOut + x.fr.period else x.firstGrid
  let sealed := if x.words == [] then s.rdB (R.pa_SEAL p) else x.openSealed
  let b := lehrBlock p x.bseq x.tkind first x.skipped x.startNext end_ sealed x.words
  let s := s.setPath p { x with
    words := [], bseq := (x.bseq + 1) % 65536, startNext := false, skipped := 0, tkind := 0, closed := end_ }
  let s := if s.isLegal x.fr.source then s.emit (.legalCopy p b) else s
  s.enqueue x.fr.queue 1 p (octetsOfWords b) (some first)

/-- A life of a path from an instant on, with the configuration of its entries (R159). -/
def newLife (s : State) (p t : Nat) (restarted : Bool) : Path :=
  let f := s.pathFrame p
  let g := gridAt f.period t
  { Path.init with live := true, fr := f, cur := s.pathCfg p, nextGrid := g, firstGrid := g, restarted := restarted }

/-- A life of a path begins. A time event that has marked no output yet stays (R160), and so does the instant that hub time must
pass again (R42). -/
def beginLife (s : State) (p : Nat) (x : Path) : State :=
  let old := s.path p
  ((s.setPath p { x with
    nextGrid := max x.nextGrid (gridAt x.fr.period old.notBefore), event := if old.live then old.event else 0
    notBefore := old.notBefore }).wr (R.pa_PATH_STATE p) (if x.ending.isSome then 4 else 1)).wr
    (R.pa_FADE_AT p) (if x.fade.isSome then t64OfTicks x.fadeFrom else 0)

/-- A path starts at an instant (R159). -/
def startPath (s : State) (p t : Nat) (restarted : Bool) : State := s.beginLife p (s.newLife p t restarted)

/-- A path ends: its open block, or one with COUNT 0, carries END; then the next life that waits begins, or it stops, or waits for
its source (R159, R162). -/
def endPath (s : State) (p st : Nat) : State :=
  let x := s.path p
  let s := if x.closed then s else s.closeBlock p true
  match s.lives p with
  | y :: l => ((s.setLives p l).beginLife p y).settleGob x.fr.source
  | [] => (((s.setPath p { Path.init with
      fr := x.fr, cur := x.cur, live := st == 1, nextGrid := x.nextGrid, firstGrid := x.firstGrid, closed := true
      event := x.event, notBefore := x.notBefore }).wr (R.pa_PATH_STATE p) st).wr (R.pa_FADE_AT p) 0).settleGob x.fr.source

/-- An output word is placed in the open block; the block rules of R170 close and open blocks. -/
def placeWord (s : State) (p t w kind : Nat) : State :=
  let x := s.path p
  let fresh := 2 ≤ kind || (x.words != [] && (kind == 1) != (x.tkind == 1))
  let s := if fresh && x.words != [] then s.closeBlock p false else s
  let x := s.path p
  let skip := if !x.produced && x.restarted then (t - x.firstGrid) / x.fr.period else 0
  let s := if skip == 0 then s else s.count (R.pa_SKIPPED p) skip
  let opens := x.words == []
  let s := s.setPath p { x with
    words := x.words ++ [w], produced := true, event := 0, nextGrid := t + x.fr.period, skipped := x.skipped + skip
    lastOut := t, tkind := if opens then kind else x.tkind, firstInstant := if opens then t else x.firstInstant
    openLen := if opens then s.rd (R.pa_BLOCK_LEN p) else x.openLen
    openSealed := if opens then s.rdB (R.pa_SEAL p) else x.openSealed }
  let s := ((s.count (R.pa_OUTPUTS p) 1).wr (R.pa_LAST_INSTANT p) (t96OfTicks t)).wr (R.pa_LAST_WORD p) w
  if (s.path p).openLen ≤ (s.path p).words.length then s.closeBlock p false else s

/-- Taps of the prototype in a period of f_mid, as a fraction: one, or where f_mid exceeds f_out and the prototype is scaled to the
output rate, f_out / f_mid (R155). -/
def tapRatio (s : State) (f : LehrFrame) : Nat × Nat :=
  let m := s.midRate f
  if ticksPerSec * m.2 < m.1 * f.period then (ticksPerSec * m.2, m.1 * f.period) else (1, 1)

/-- Do the outputs of a path from an instant on belong to its fade (R164). -/
def inFade (x : Path) (t : Nat) : Bool := x.fade.isSome && x.fadeFrom ≤ t

/-- The configurations that a path runs at an instant (R163). -/
def runCfgs (x : Path) (t : Nat) : List LehrCfg := x.cur :: (if inFade x t then x.fade.toList else [])

/-- The output of a path at its next grid instant, if every input of its spans is there: the word, and whether the
fade moved on (R151, R156, R157, R163). -/
def pathOutput (s : State) (p : Nat) : Option (Nat × Nat × Bool) :=
  let x := s.path p
  let t := x.nextGrid
  let run (c : LehrCfg) := resample c (midVals c x.fr.dec x.inputs).reverse (t + c.delay) (s.tapRatio x.fr)
  let kind (m : Marks) : Nat := if x.event != 0 then x.event else ofBool m.unset
  match run x.cur, (if inFade x t then x.fade.map run else none) with
  | some o, none =>
    let v := lehrValue o.1 0
    let kind := kind o.2
    some (lehrWord { o.2 with overRange := o.2.overRange || v.2 } false (kind != 0) v.1, kind, false)
  | some o, some (some n) =>
    let w : Int := ((x.fadeJ + 1) * 65536 / x.fadeLen : Nat)
    let v := lehrValue (o.1 * 65536 + w * (n.1 - o.1)) 16
    let m := marksOr o.2 n.2
    let kind := kind m
    some (lehrWord { m with overRange := m.overRange || v.2 } true (kind != 0) v.1, kind, true)
  | _, _ => none

/-- A fade has produced one more output; after XFADE_LEN of them the old configuration retires (R163). -/
def fadeStep (s : State) (p : Nat) : State :=
  let x := s.path p
  if x.fadeJ + 1 < x.fadeLen then
    (s.setPath p { x with fadeJ := x.fadeJ + 1 }).wr (R.pa_FADE_AT p) 0
  else (s.setPath p { x with cur := x.fade.getD x.cur, fade := none, fadeJ := 0 }).wr (R.pa_FADE_AT p) 0

/-- A path passes grid instants without an output for each, counting those since its first output: the open block closes before
them, and the next header counts them (R158, R159, R170). -/
def passGrid (s : State) (p g : Nat) : State :=
  let k := if (s.path p).produced then (g - (s.path p).nextGrid) / (s.path p).fr.period else 0
  let s := if k == 0 || (s.path p).words == [] then s else s.closeBlock p false
  let x := s.path p
  let s := s.setPath p { x with nextGrid := g, skipped := x.skipped + k }
  if k == 0 then s else s.count (R.pa_SKIPPED p) k

/-- Grid instants inside the skipped intervals of forward steps are not produced (R160). -/
def skipGap (s : State) (p : Nat) : State :=
  s.each (s.path p).gaps.reverse fun s g =>
    let x := s.path p
    if g.1 < x.nextGrid && x.nextGrid < g.2 then s.passGrid p (gridAt x.fr.period g.2) else s

/-- The earliest instant at which a configuration's span lies within the inputs held. -/
def coveredFrom (s : State) (x : Path) (c : LehrCfg) : Option Nat :=
  let mids := (midVals c x.fr.dec x.inputs).reverse
  let r := s.tapRatio x.fr
  let ahead := c.rsTaps / 2 * r.2 - r.1
  match mids.drop (ahead / r.1) with
  | [] => none
  | [a] => if ahead % r.1 == 0 then some (a.instant - c.delay) else none
  | a :: b :: _ => some (a.instant + ceilDiv ((b.instant - a.instant) * (ahead % r.1)) r.1 - c.delay)

/-- A path passes the grid instants whose spans begin before the inputs that it holds: those before its first output, and those
that a step or a set has left behind (R159, R160). -/
def firstCovered (s : State) (p : Nat) : State :=
  let x := s.path p
  let from_ := ((runCfgs x x.nextGrid).filterMap (s.coveredFrom x)).foldl max 0
  if x.nextGrid < from_ then s.passGrid p (gridAt x.fr.period from_) else s

/-- Has a path nothing to wait for: its last block carried END, or it has no input and its source does not convert (R159). -/
def pathIdle (s : State) (p : Nat) : Bool :=
  let x := s.path p
  x.closed || (x.inputs == [] && !x.produced && !s.converting x.fr.source)

/-- PATH_STATE of a path that has produced an output: 4 ending, 3 fading, 2 running (Table 6-6). -/
def runState (x : Path) : Nat := if x.ending.isSome then 4 else if x.fadeJ == 0 then 2 else 3

/-- A path computes every output whose inputs are all present, at most n of them; an ending path up to its commit
instant (R150, R159). -/
def runPath (s : State) (p : Nat) : Nat → State
  | 0 => s
  | n + 1 =>
    let s := (s.firstCovered p).skipGap p
    let x := s.path p
    let done := match x.ending with | some e => decide (e ≤ x.nextGrid) || s.pathIdle p | none => false
    if done then s.endPath p 0
    else match s.pathOutput p with
      | none => s
      | some (w, kind, fading) =>
        let s := s.placeWord p x.nextGrid w kind
        let s := if fading then s.fadeStep p else s
        (s.wr (R.pa_PATH_STATE p) (runState (s.path p))).runPath p n

/-- Outputs that the inputs of a path can cover: the bound of a visit. -/
def pathFuel (s : State) (p : Nat) : Nat :=
  let x := s.path p
  ((x.inputs.map (·.instant)).headD 0 - x.nextGrid) / (max 1 x.fr.period) + 2

/-- Is a running path's next input late (R26): its bound has passed. -/
def inputLate (s : State) (p : Nat) : Bool :=
  let x := s.path p
  x.produced && x.nextGrid + s.boundNs p * ticksPerNs < s.now

/-- Inputs a path must hold behind its next output: the longest spans of R154 and R155. -/
def keepInputs (x : Path) : Nat := 130 * x.fr.dec + 258

/-- A path keeps the inputs that outputs still to come can need (R150). -/
def pruneInputs (s : State) (p : Nat) : State :=
  let x := s.path p
  let k := (x.inputs.takeWhile fun i => x.nextGrid ≤ i.instant).length
  s.setPath p { x with inputs := x.inputs.take (k + keepInputs x) }

/-- A path's source stream ends with END: what its inputs cover is produced, the path closes with END and waits
(R159). -/
def sourceEnd (s : State) (p : Nat) : State :=
  let x := s.path p
  if !x.live || x.closed then s
  else
    let t := s.runPath p (s.pathFuel p)
    if (t.lives p).length < (s.lives p).length || !(t.path p).live || (t.path p).closed then t
    else t.endPath p (if x.ending.isSome then 0 else 1)

/-- A path is visited in a round for at most n outputs (R150, R26); a life whose source ended while it waited ends too (R159). -/
def visitPath (s : State) (p n : Nat) : State :=
  if !(s.path p).live then s
  else if (s.path p).cutOff then (s.setPath p { s.path p with cutOff := false }).sourceEnd p
  else
    let s := (s.runPath p (min n (s.pathFuel p))).pruneInputs p
    let st := s.rd (R.pa_PATH_STATE p)
    if st == 2 && s.inputLate p then s.wr (R.pa_PATH_STATE p) 5
    else if st == 5 && !s.inputLate p then s.wr (R.pa_PATH_STATE p) 2 else s

/-- What is left of a round: the MACs, and the paths whose work goes on in the next (R150). -/
structure RoundLeft where
  macs : Nat
  carry : List Nat
  deriving DecidableEq, Repr

/-- One path's turn in a round, which its MACs bound (R150). -/
def takeTurn (a : State × RoundLeft) (p : Nat) : State × RoundLeft :=
  let s := a.1
  if a.2.carry != [] then (s, { a.2 with carry := a.2.carry ++ [p] })
  else
    let x := s.path p
    let k := (x.cur :: x.fade.toList).foldl (fun b c => b + s.outputMacs x.fr c) 0
    let t := s.visitPath p (a.2.macs / k)
    let left := a.2.macs - (t.rd (R.pa_OUTPUTS p) - s.rd (R.pa_OUTPUTS p)) * k
    let more := (t.path p).live && decide (left < k) && (t.pathOutput p).isSome
    (t, ⟨left, if more then [p] else []⟩)

/-- One input enters a path. -/
def pushInput (s : State) (p : Nat) (v : Int) (m : Marks) (instant : Nat) (copy : Bool) : State :=
  let x := s.path p
  s.setPath p { x with inputs := LehrIn.mk v m instant x.count copy :: x.inputs, count := x.count + 1 }

/-- The instant of an input at an edge position, with every step since then (R151, R160), and whether hub time was UNSET there
and has not been set since (R161). -/
def inputInstant (s : State) (n pos : Nat) : Nat × Bool :=
  let late := s.time.jumps.filter fun j => pos / 256 < j.edge
  ((late.foldl (fun a j => a + j.delta) (s.ballTime n pos : Int)).toNat, s.unsetAt pos && !late.any (·.isSet))

/-- Copies of the last input for missing ones (R158), k of them: each a burst period later, or at the next edge position of the
stream. -/
def pushCopies (s : State) (p : Nat) (e : StreamStep) : Nat → State
  | 0 => s
  | k + 1 =>
    let x := s.path p
    match x.inputs with
    | [] => s
    | l :: _ =>
      let next := x.lastPos.map (· + e.span)
      let t := if e.burst != 0 then l.instant + e.burst
        else match next with
          | some pos => (s.inputInstant x.fr.source pos).1
          | none => l.instant
      let s := s.pushInput p l.value l.marks t true
      (s.setPath p { s.path p with lastPos := next }).pushCopies p e k

/-- Outputs of a stream that are missing between two positions a whole number of spacings apart (R158). -/
def missingInputs (span last pos : Nat) : Nat :=
  if span == 0 then 0 else (pos - last + span / 2) / span - 1

/-- The marks of a Gob value word, Table 5-1. -/
def wordMarks (w : Nat) (unset : Bool) : Marks :=
  ⟨bitAt w 29, bitAt w 28, bitAt w 27, bitAt w 26, bitAt w 25, bitAt w 24, unset⟩

/-- A fine value word of a channel at an edge position reaches a path; across a change of spacing none is missing (R149, R151,
R158, R161). -/
def pathWord (s : State) (p n w pos : Nat) (e : StreamStep) (first : Bool) : State :=
  let miss := match (s.path p).lastPos with | some l => if first then 0 else missingInputs e.span l pos | none => 0
  let i := s.inputInstant n pos
  let s := (s.pushCopies p e miss).pushInput p (toSigned 24 w) (wordMarks w i.2) i.1 false
  s.setPath p { s.path p with lastPos := some pos }

/-- The live paths that read a channel, now or in a life that waits. -/
def livePaths (s : State) (n : Nat) : List Nat :=
  (s.paths.filter fun e => e.2.live && (e.2.fr.source == n || (s.lives e.1).any (·.fr.source == n))).map (·.1)

/-- What a stream brings for a path reaches every life of it that takes the channel, those that wait too (R149, R159). -/
def feedPath (s : State) (p n : Nat) (f : State → Nat → State) : State :=
  let s := if (s.path p).fr.source == n then f s p else s
  let x := s.path p
  let r := (s.lives p).foldl (fun (a : State × List Path) y =>
    if y.fr.source != n then (a.1, a.2 ++ [y])
    else
      let t := f (a.1.setPath p y) p
      (t.setPath p x, a.2 ++ [t.path p])) (s, [])
  if s.lives p == [] then s else r.1.setLives p r.2

/-- One word of a channel's Gob stream is read at the hub die, for every path that takes the channel: placed by the spacing it was
sent with (R23, R129, R130, R149). -/
def streamWord (n : Nat) (s : State) (w : Nat) : State :=
  let k := (s.rxStream n).read
  let x := { s.rxStream n with read := k + 1 }
  let e := s.stepOf n k
  match x.half with
  | some h => s.setRxStream n { x with half := none, pos := some (s.unwrapPos (h * 2 ^ 32 + w)) }
  | none =>
    if bitAt w 31 then
      if field w 30 28 == 1 then s.setRxStream n { x with half := some (w % 2 ^ 24) }
      else if field w 30 28 == 2 then
        let m := w % 2 ^ 24
        (s.setRxStream n { x with last := x.last.map (· + m * e.span) }).each (s.livePaths n) fun s p =>
          s.feedPath p n fun s p => s.pushCopies p e m
      else s.setRxStream n x
    else if bitAt w 30 then s.setRxStream n { x with pos := none }
    else
      let pos := x.pos.getD ((x.last.map (· + e.span)).getD 0)
      (s.setRxStream n ⟨none, none, some pos, k + 1⟩).each (s.livePaths n) fun s p =>
        s.feedPath p n fun s p => s.pathWord p n w pos e (e.word == k)

/-- A path's source stream restarts with START: what an earlier run left closes with END (R159). A path that starts again after a
change and waits for its new source goes on counting the grid instants since then (R162). -/
def sourceStart (s : State) (p : Nat) : State :=
  let x := s.path p
  if x.ending.isSome then s.endPath p 0
  else
    let again := x.restarted && !x.produced && !x.closed
    let s := (if x.closed || !x.produced then s else s.closeBlock p true).startPath p s.now again
    if again then s.setPath p { s.path p with firstGrid := x.firstGrid } else s

/-- START of a channel's stream reaches a path: a life that waits starts with it, and so does the present one (R159). -/
def startFlit (n : Nat) (s : State) (p : Nat) : State :=
  let again (x : Path) : Path :=
    let g := gridAt x.fr.period s.now
    if x.fr.source == n then
      { x with
        inputs := [], count := 0, lastPos := none, nextGrid := g, firstGrid := if x.restarted then x.firstGrid else g
        cutOff := false }
    else x
  let s := if s.lives p == [] then s else s.setLives p ((s.lives p).map again)
  if (s.path p).fr.source == n then s.sourceStart p else s

/-- END of a channel's stream reaches a path: a life that waits ends when it has begun, the present one now (R159). -/
def endFlit (n : Nat) (s : State) (p : Nat) : State :=
  let cut (x : Path) : Path := if x.fr.source == n then { x with cutOff := true } else x
  let s := if s.lives p == [] then s else s.setLives p ((s.lives p).map cut)
  if (s.path p).fr.source == n then s.sourceEnd p else s

/-- One buffered flit of a die reaches the paths: a Gob flit those that read its channel; raw words and segment records are no
input of the Lehr (R149, Table 1-2). -/
def deliver (d : Nat) (s : State) (e : FlitRec) : State :=
  if e.typ != 2 || 128 ≤ e.stream then s
  else
    let n := 128 * (d - 1) + e.stream
    let s := if e.start then (s.setRxStream n ⟨none, none, none, (s.rxStream n).read⟩).each (s.livePaths n) (startFlit n) else s
    let s := s.each e.words (streamWord n)
    if e.stop then s.each (s.livePaths n) (endFlit n) else s

/-- Words in a die's elastic buffer, in octets (R27). -/
def ebufOctets (s : State) (d : Nat) : Nat := (s.link d).ebuf.foldl (fun a e => a + 4 * e.words.length) 0

/-- EBUF_FILL and EBUF_PEAK follow; above 7/8 of 1 MiB link credit is withheld, which a link-control flit tells the front die,
and then its FIFOs hold its words (R27; log entry 105). -/
def ebufSettle (s : State) (d : Nat) : State :=
  let k := s.ebufOctets d
  let was := (s.link d).creditHeld
  let held := decide (917504 < k)
  let s := (s.setLink d { s.link d with creditHeld := held }).wr (R.di_EBUF_FILL (d - 1)) k
  let s := if s.rd (R.di_EBUF_PEAK (d - 1)) < k then s.wr (R.di_EBUF_PEAK (d - 1)) k else s
  if was == held then s
  else
    let s := s.sendRec d false ⟨5, 0, false, false, [Config.linkControlWord held]⟩
    if held then s else s.releaseFlits d true

/-- The Lehr reads a die's elastic buffer (R149). -/
def readEbuf (s : State) (d : Nat) : State :=
  let l := (s.link d).ebuf
  let s := s.setLink d { s.link d with ebuf := [] }
  (l.foldl (deliver d) s).ebufSettle d

/-- A path is ended by ABORT or Safe: what was computed goes out with END (R174, R332). -/
def cutPath (s : State) (p st : Nat) : State :=
  if !(s.path p).live then s.wr (R.pa_PATH_STATE p) st
  else
    let x := s.path p
    let s := if x.closed then s else s.closeBlock p true
    let s := if s.lives p == [] then s else s.setLives p []
    ((s.setPath p { Path.init with fr := x.fr, cur := x.cur, notBefore := x.notBefore }).wr (R.pa_PATH_STATE p) st).wr
      (R.pa_FADE_AT p) 0

/-- ABORT of one path: ENABLE reads false, in the committed configuration too (R174). -/
def abortPath (s : State) (p : Nat) : State :=
  let srcs := (s.path p :: s.lives p).map (·.fr.source)
  (((s.cutPath p 0).wr (R.pa_ENABLE p) 0).wr (R.pa_FADE_AT p) 0).each srcs State.settleGob

/-- The paths that run, rising: enabled ones, and those that finish the outputs before their end (R150, R159). -/
def livePathList (s : State) : List Nat := (s.paths.filter fun e => e.2.live).map (·.1)

/-- The paths that are enabled, or disabled and still ending (R159), rising. -/
def workingPaths (s : State) : List Nat :=
  s.livePathList.foldl (fun l p => if l.contains p then l else l.filter (· < p) ++ p :: l.filter (p < ·)) s.enabledPaths

/-- Safe ends every path, in descending path number (R173, R332). -/
def endAllPaths (s : State) : State :=
  s.each s.workingPaths.reverse fun s p => s.cutPath p (if s.rdB (R.pa_ENABLE p) then 6 else 0)

/-- A step or set of hub time reaches the Lehr: `jump` ticks, kind 2 for a step and 3 for a set (R160). -/
def jumpPath (jump : Int) (kind oldNow : Nat) (s : State) (p : Nat) : State :=
  let s := if (s.path p).words == [] then s else s.closeBlock p false
  let mv (i : LehrIn) : LehrIn :=
    { i with instant := ((i.instant : Int) + jump).toNat
             marks := { i.marks with unset := i.marks.unset && kind == 2 } }
  let new := ((oldNow : Int) + jump).toNat
  let life (x : Path) : Path := { x with
    inputs := x.inputs.map mv, event := kind
    gaps := if 0 < jump then (oldNow, new) :: x.gaps.filter (x.nextGrid < ·.2) else x.gaps.map fun g => (g.1, min g.2 new)
    notBefore := if jump < 0 && x.produced then max x.notBefore x.nextGrid else x.notBefore }
  let s := if s.lives p == [] then s else s.setLives p ((s.lives p).map life)
  s.setPath p (life (s.path p))

/-- The newest life of a path changed: the last that waits, or the present one. -/
def setNewest (s : State) (p : Nat) (x : Path) : State :=
  if s.lives p == [] then s.setPath p x else s.setLives p ((s.lives p).dropLast ++ [x])

/-- A fading change takes effect at once, or from the first output at or after an instant (R164). -/
def beginFade (s : State) (p : Nat) (at_ : Option Nat) : State :=
  let x := s.newestLife p
  let first := match at_ with | some t => gridAt x.fr.period t | none => x.nextGrid
  let late := x.produced && first < x.nextGrid
  let start := max first x.nextGrid
  let s := s.setNewest p { x with
    fade := some (s.pathCfg p), fadeFrom := start, fadeLen := max 1 (s.rd (R.pa_XFADE_LEN p)), fadeJ := 0 }
  let s := if late && at_.isSome then s.count (R.pa_XFADE_LATE p) 1 else s
  s.wr (R.pa_FADE_AT p) (t64OfTicks start)

/-- A lane is lost: a spare takes its place, or capacity falls (R172, R173). -/
def loseLane (s : State) : State :=
  let k := s.rd R.le_LANE_SPARES
  if 0 < k then s.wr R.le_LANE_SPARES (k - 1)
  else (s.wr R.le_LANES_WORKING (s.rd R.le_LANES_WORKING - 1)).wr R.le_CAPACITY (s.rd R.le_CAPACITY - 1638400000)

/-- A residue mismatch on a lane: the output is computed again and counted; the third in 1 s takes the lane out of
service (R172). -/
def residueMismatch (s : State) (lane : Nat) : State :=
  let s := s.count R.le_RESIDUE_RETRIES 1
  let recent := (tabGet [] s.lehr.mismatches lane).filter fun t => s.time.edge < t + edgesPerSec
  let l := recent ++ [s.time.edge]
  let put (v : List Nat) : State := s.putLehr { s.lehr with mismatches := tabPut [] lane v s.lehr.mismatches }
  if 3 ≤ l.length then
    let spare := 0 < s.rd R.le_LANE_SPARES
    let s := ((put []).logEvent 8 lane (if spare then 3 else 7)).loseLane
    s.logEvent 8 lane (if spare then 4 else 6)
  else put l

end State

/-- One round of the Lehr, R150: the paths whose work the last round left, then every path in rising number, within the MACs of
the round. The second part tells that a lane was lost and the admitted cost exceeds what is left (R173). -/
def lehrRoundStep (mismatchLane : Option Nat) (s0 : State) : State × Bool :=
  let s := match mismatchLane with | some l => s0.residueMismatch l | none => s0
  let s := s.each ((List.range s.part.fronts).map (· + 1)) State.readEbuf
  let ps := s.lehr.carry.filter (fun p => (s.path p).live) ++ s.livePathList
  let r := ps.foldl State.takeTurn (s, ⟨s.rd R.le_LANES_WORKING * 16384, []⟩)
  let s := r.1.putLehr { r.1.lehr with carry := r.2.carry.eraseDups }
  (s, s.rd R.le_LANES_WORKING < s0.rd R.le_LANES_WORKING && s.rd R.le_CAPACITY < s.lehrLoad)

/-- LEHR_BLOCK_MAXAGE: the open block closes (R170). -/
def lehrBlockMaxage (p : Nat) (s : State) : State := if (s.path p).words == [] then s else s.closeBlock p false

/-- PATH_SOURCE_START: the source stream's START flit starts the path again (R159). -/
def pathSourceStart (p : Nat) (s : State) : State :=
  if !(s.path p).live then s
  else
    let n := (s.path p).fr.source
    let waiting := (s.link (dieOf n)).ebuf.any fun e => e.typ == 2 && e.stream == gobStream n && e.start
    let s := s.readEbuf (dieOf n)
    if waiting then s else s.sourceStart p

/-- PATH_SOURCE_END: the source stream's END flit ends what the path can cover (R159). -/
def pathSourceEnd (p : Nat) (s : State) : State :=
  if !(s.path p).live then s else (s.readEbuf (dieOf (s.path p).fr.source)).sourceEnd p

end Sys2Proof.Machine
end

