-- ==== Sys2Proof/Machine/Frit.lean ====
section
/-! DEFINITION. Frit (chapter 9): prediction, Rice coding, match search, the coded block, streams and jobs. -/

namespace Sys2Proof.Machine

/-- A number reduced modulo 2^b to a two's complement value (R232). -/
def wrapB (b : Nat) (x : Int) : Int := toSigned b (ofSigned b x)

/-- The samples of raw words (three each) or value words (R237). -/
def fritSamples (fmt : Nat) (ws : List Nat) : List Int :=
  if fmt = 0 then ws.flatMap fun w => [toSigned 10 w, toSigned 10 (w / 2 ^ 10), toSigned 10 (w / 2 ^ 20)]
  else ws.map (toSigned 24)

/-- The flags of raw words, two bits each, or of value words, eight bits each (R237). -/
def fritFlags (fmt : Nat) (ws : List Nat) : List Nat :=
  if fmt = 0 then ws.map fun w => w / 2 ^ 30 % 4 else ws.map fun w => w / 2 ^ 24 % 256

/-- The predictor of Table 9-1 for a sample, from the samples before it, newest first. -/
def predict (pred : Nat) (before : List Int) (y y1 : Int) : Int :=
  match pred, before with
  | 0, _ => 0
  | _, [] => 0
  | 1, a :: _ => a
  | 4, a :: _ => a + y - y1
  | _, [a] => a
  | 2, a :: b :: _ => 2 * a - b
  | _, [a, b] => 2 * a - b
  | _, a :: b :: c :: _ => 3 * a - 3 * b + c

/-- The residue mapped to a natural number (R233). -/
def riceMap (r : Int) : Nat := if 0 ≤ r then (2 * r).toNat else (-2 * r - 1).toNat

/-- The low n bits of a number, most significant first. -/
def lowBits : Nat → Nat → List Bool
  | 0, _ => []
  | n + 1, v => bitAt v n :: lowBits n v

/-- The code of a residue (R233). -/
def riceCode (b k : Nat) (r : Int) : List Bool :=
  let u := riceMap r
  let q := u / 2 ^ k
  if 32 ≤ q then List.replicate 32 true ++ lowBits b u else List.replicate q true ++ false :: lowBits k u

/-- The length of a residue's code (R233). -/
def riceLen (b k : Nat) (r : Int) : Nat :=
  let q := riceMap r / 2 ^ k
  if 32 ≤ q then 32 + b else q + 1 + k

/-- Candidates per tile at a match level (Table 9-2). -/
def matchCandidateCount (level : Nat) : Nat :=
  match level with
  | 0 => 0 | 1 => 16 | 2 => 64 | 3 => 256 | 4 => 512 | 5 => 1024 | 6 => 2048 | _ => 4096

/-- The residues of a block under PRED, with the reference block (R232); that of sample 0 is not written. -/
def predResidues (b pred : Nat) (ref : List Int) : List Int → List Int → Nat → List Int
  | _, [], _ => []
  | before, x :: t, i =>
    let y := ref.getD i 0
    let y1 := if i = 0 then 0 else ref.getD (i - 1) 0
    wrapB b (x - predict pred before y y1) :: predResidues b pred ref (x :: before) t (i + 1)

/-- The residues of a tile matched at distance D; `back` is what lies before its first sample, newest first. -/
def matchResidues (b d : Nat) : List Int → List Int → List Int
  | _, [] => []
  | back, x :: t => wrapB b (x - back.getD (d - 1) 0) :: matchResidues b d (x :: back) t

/-- The best of some candidate distances for a tile: the distance and the bits (R235). -/
def bestMatch (b k : Nat) (back tile : List Int) (cands : List Nat) : Option (Nat × Nat) :=
  cands.foldl (fun best d =>
    if d = 0 ∨ 65535 < d ∨ back.length < d then best
    else
      let bits := 16 + ((matchResidues b d back tile).map (riceLen b k)).foldl (· + ·) 0
      match best with
      | none => some (d, bits)
      | some p => if bits < p.2 then some (d, bits) else best) none

/-- A tile of a block: its distance if matched, and the residues that are written. -/
structure Tile where
  dist : Option Nat
  residues : List Int
  verbatim : List Int
  deriving DecidableEq, Repr

/-- The tiles of a block: each keeps PRED or takes a match with fewer bits (R235). -/
def tiles (b k : Nat) (cands : Nat → List Nat) : Nat → List Int → Nat → List Int → List Int → List Tile
  | 0, _, _, _, _ => []
  | _, _, _, [], _ => []
  | n + 1, back, i, xs, rs =>
    let tile := xs.take 64
    let pr := rs.take 64
    let first := i = 0
    let pbits := (if first then b else 0) + (((if first then pr.drop 1 else pr).map (riceLen b k)).foldl (· + ·) 0)
    let t : Tile := match bestMatch b k back tile (cands i) with
      | some (d, bits) =>
        if bits < pbits then ⟨some d, matchResidues b d back tile, []⟩
        else ⟨none, if first then pr.drop 1 else pr, if first then tile.take 1 else []⟩
      | none => ⟨none, if first then pr.drop 1 else pr, if first then tile.take 1 else []⟩
    t :: tiles b k cands n (tile.reverse ++ back) (i + 1) (xs.drop 64) (rs.drop 64)

/-- The K from 0 to 24 that gives the fewest bits, the smaller on a tie (R234). -/
def bestK (b : Nat) (rs : List Int) : Nat :=
  ((List.range 25).foldl (fun (best : Nat × Nat) k =>
    let n := (rs.map (riceLen b k)).foldl (· + ·) 0
    if k = 0 ∨ n < best.2 then (k, n) else best) (0, 0)).1

/-- Bits packed into words from bit 31 down, the last padded with zeros (R237). -/
def packBits (n : Nat) (bits : List Bool) : List Nat :=
  match n with
  | 0 => []
  | k + 1 =>
    if bits = [] then []
    else
      let c := bits.take 32
      ((c.zip (List.range 32)).foldl (fun a p => a + ofBool p.1 * 2 ^ (31 - p.2)) 0) :: packBits k (bits.drop 32)

/-- The bits of a block's tiles coded with K: tile map, verbatim sample and codes (R237). -/
def tilesBits (b k : Nat) (ts : List Tile) : Nat :=
  let matched := (ts.filter (·.dist.isSome)).length
  ts.foldl (fun a t => a + (t.residues.map (riceLen b k)).foldl (· + ·) (b * t.verbatim.length))
    (if matched = 0 then 0 else ts.length + 16 * matched)

/-- The K from 0 to 24 whose tiles give the fewest coded bits, the smaller on a tie (R234, R235). -/
def bestTilesK (b : Nat) (ts : Nat → List Tile) : Nat :=
  ((List.range 25).foldl (fun (best : Nat × Nat) k =>
    let n := tilesBits b k (ts k)
    if k = 0 ∨ n < best.2 then (k, n) else best) (0, 0)).1

/-- Earlier blocks that a reach of some samples touches (R236). -/
def reachBlocks : Nat → List Nat → Nat
  | 0, _ => 0
  | _, [] => 0
  | n + 1, l :: t => 1 + reachBlocks (n + 1 - l) t

/-- What a block is coded from: format, PRED wanted, the mode of K, the original words in three parts. -/
structure BlockIn where
  fmt : Nat
  oftype : Nat
  pre : List Nat
  data : List Nat
  suf : List Nat
  key : List Nat
  pos : Nat
  deriving DecidableEq, Repr

/-- A coded block: its words, whether it is verbatim, how many tiles matched, its samples. -/
structure BlockOut where
  words : List Nat
  verb : Bool
  matched : Nat
  samples : List Int
  deriving DecidableEq, Repr

namespace State

/-- The reference block of PRED 4, if there is one: the latest of REF_CTX that meets R238. -/
def fritRef (s : State) (c : Nat) (i : BlockIn) (n : Nat) : Option (List Int) :=
  let r := s.rd (R.fc_REF_CTX c)
  if r == 0xFFFF || i.key == [] then none
  else ((s.ctx r).coded.find? fun l =>
    l.samples.length == n && l.oftype == i.oftype && l.pos == i.pos && l.key == i.key).map (·.samples)

/-- A block of a context is coded (R232 to R238), its header with K whatever its FMT (R234). The candidates are a free value (log
entries 6 and 57). -/
def codeBlock (s : State) (c : Nat) (i : BlockIn) : BlockOut :=
  let x := s.ctx c
  let b := if i.fmt == 0 then 10 else 24
  let xs := fritSamples i.fmt i.data
  let n := xs.length
  let want := s.rd (R.fc_PRED c)
  let ref := if want == 4 then s.fritRef c i n else none
  let pred := if want == 4 && ref.isNone then 2 else want
  let rs := predResidues b pred (ref.getD []) [] xs 0
  let stat := s.rd (R.fc_CODE c) == 0
  let level := s.rd (R.fc_MATCH_LEVEL c)
  let hist := if x.resetNext then [] else x.history
  let lens := if x.resetNext then [] else x.blockLens
  let far := (lens.take 255).foldl (· + ·) 0
  let cands (t : Nat) : List Nat :=
    if level == 0 then []
    else ((Config.matchCandidates level (s.freeCount + t)).take (matchCandidateCount level)).filter fun d => d ≤ far + 64 * t
  let tilesAt (k : Nat) : List Tile := tiles b k cands (n / 64 + 1) hist 0 xs rs
  let k := if stat then s.rd (R.fc_RICE_K c) else if level == 0 then bestK b (rs.drop 1) else bestTilesK b tilesAt
  let ts := tilesAt k
  let written := ts.flatMap (·.residues)
  let matched := (ts.filter (·.dist.isSome)).length
  let flags := fritFlags i.fmt i.data
  let f0 := flags.headD 0
  let same := flags.all (· == f0)
  let fbits := if i.fmt == 0 then 2 else 8
  let map := if matched == 0 then [] else ts.flatMap fun t =>
    match t.dist with | some d => true :: lowBits 16 d | none => [false]
  let first := (ts.flatMap (·.verbatim)).flatMap fun v => lowBits b (ofSigned b v)
  let bits := (if same then [] else flags.flatMap (lowBits fbits)) ++ map ++ first ++ written.flatMap (riceCode b k)
  let verb := n == 0 || 32 * i.data.length < bits.length
  let depth := (ts.zip (List.range ts.length)).foldl (fun a p =>
    match p.1.dist with | some d => max a (d - 64 * p.2) | none => a) 0
  let reach := if verb then 0 else reachBlocks depth lens
  let w0 := 5 * 2 ^ 28 + c % 4096 * 65536 + x.cbseq % 65536
  let w1 := k * 2 ^ 21 + (if verb then 2 * 2 ^ 29 else i.fmt * 2 ^ 29 + pred * 2 ^ 26 + ofBool (matched != 0) * 2 ^ 20
    + ofBool same * 2 ^ 19) + ofBool x.resetNext * 2 ^ 18 + i.oftype * 2 ^ 14 + n
  let w2 := (if verb || !same then 0 else f0 * 2 ^ 24) + reach * 65536 + i.pre.length * 256 + i.suf.length
  let body := if verb then i.data else packBits (bits.length / 32 + 1) bits
  let nbits := if verb then 32 * i.data.length else bits.length
  let icrc := crc32c (octetsOfWords (i.pre ++ i.data ++ i.suf))
  ⟨[w0, w1, w2, nbits, icrc] ++ i.pre ++ body ++ i.suf, verb, if verb then 0 else matched, xs⟩

/-- The context after a block: history, counts and statistics (R235, Tables 9-5 and 9-6). -/
def blockCoded (s : State) (c : Nat) (i : BlockIn) (o : BlockOut) : State :=
  let x := s.ctx c
  let hist := if x.resetNext then [] else x.history
  let lens := if x.resetNext then [] else x.blockLens
  let s := s.setCtx c { x with
    history := (o.samples.reverse ++ hist).take 65535, blockLens := (o.samples.length :: lens).take 255
    cbseq := (x.cbseq + 1) % 65536, resetNext := false
    coded := if i.key == [] then x.coded else ⟨i.oftype, i.key, i.pos, o.samples⟩ :: x.coded }
  let s := (s.count (R.fc_OUT_OCTETS c) (4 * o.words.length)).count (R.fc_MATCH_TILES c) o.matched
  let s := s.count R.fe_BLOCKS 1
  (if o.verb then s.count R.fe_VERBATIM 1 else s).bump

/-- History is cleared; the next block carries RESET (R235). -/
def clearHistory (s : State) (c : Nat) : State :=
  s.setCtx c { s.ctx c with history := [], blockLens := [], resetNext := true }

/-- The queue that names a context. -/
def queueOfCtx (s : State) (c : Nat) : Option Nat :=
  (s.insts .queue 0x0C).find? fun q => s.rd (R.qu_FRIT_CTX q) == c

end State

/-- The next block of one whole Lehr block, from output `pos` on (R238). -/
def lehrPart (blockN pos : Nat) (ws : List Nat) : BlockIn × Bool :=
  let count := ws.getD 1 0 / 2 ^ 21
  let sealed := bitAt (ws.getD 1 0) 18
  let outs := (ws.drop 6).take count
  let n := min blockN (count - pos)
  let last := decide (count ≤ pos + n)
  (⟨1, 1, if pos = 0 then ws.take 6 else [], (outs.drop pos).take n, if last && sealed then ws.drop (6 + count) else [],
    (ws.drop 2).take 3, pos⟩, last)

/-- The words of raw frames gathered into one block: the data, whether the block is complete, and the frames and
position left (R237, R238). At most n frames. -/
def gatherRaw (room : Nat) : Nat → Nat → List FritFrame → List Nat × Bool × Nat × List FritFrame
  | 0, pos, fs => ([], false, pos, fs)
  | _, pos, [] => ([], false, pos, [])
  | n + 1, pos, f :: t =>
    let ws := f.words.drop pos
    if room < ws.length then (ws.take room, true, pos + room, f :: t)
    else if room = ws.length ∨ f.stop then (ws, true, 0, t)
    else match t with
      | [] => (ws, false, 0, [])
      | g :: _ =>
        if g.start ∨ g.ftype ≠ f.ftype then (ws, true, 0, t)
        else
          let r := gatherRaw (room - ws.length) n 0 t
          (ws ++ r.1, r.2)

namespace State

/-- Words of a block of BLOCK_N samples: one value word each, three samples to a raw word (R237; log entry 30). -/
def blockWords (s : State) (c fmt : Nat) : Nat :=
  if fmt == 0 then s.rd (R.fc_BLOCK_N c) / 3 else s.rd (R.fc_BLOCK_N c)

/-- The next block of a context's frames that is complete, or that `force` ends: the block, and the frames and the
position after it (R237 to R239). -/
def nextBlock (s : State) (c : Nat) (force : Bool) : Option (BlockIn × List FritFrame × Nat) :=
  let x := s.ctx c
  match x.pend with
  | [] => none
  | f :: t =>
    if f.ftype == 1 then
      let r := lehrPart (s.rd (R.fc_BLOCK_N c)) x.pos f.words
      some (r.1, if r.2 then (t, 0) else (f :: t, x.pos + r.1.data.length))
    else
      let fmt := if f.ftype == 3 then 1 else 0
      let r := gatherRaw (s.blockWords c fmt) x.pend.length x.pos x.pend
      if r.1 == [] || !(r.2.1 || force) then none else some (⟨fmt, f.ftype, [], r.1, [], [], 0⟩, r.2.2.2, r.2.2.1)

/-- A block that begins a frame with START, or one after a loss, begins a new history (R218, R235). -/
def beginFrame (s : State) (c : Nat) : State :=
  match (s.ctx c).pend with
  | f :: _ => if f.start && (s.ctx c).pos == 0 then s.clearHistory c else s
  | [] => s

/-- A stream context ends a block and gives it to a queue as one frame of FTYPE 0x5 (R239). -/
def streamBlockTo (s : State) (q c : Nat) (force : Bool) : State :=
  match s.nextBlock c force with
  | some (i, rest, pos) =>
    let x := s.ctx c
    let f := x.pend.headD ⟨0, false, false, false, [], none⟩
    let held := x.pend.take (x.pend.length - rest.length)
    let s := s.beginFrame c
    let o := s.codeBlock c i
    let s := s.blockCoded c i o
    let s := s.setCtx c { s.ctx c with pend := rest, pos := pos }
    let g := s.hubFrame q 5 c (octetsOfWords o.words) f.ref
    s.enqueueNow q { g with stop := held.any (·.stop), late := f.late || held.any (·.late) }
  | none => s

/-- A stream context ends a block and queues it (R239). -/
def streamBlock (s : State) (c : Nat) (force : Bool) : State :=
  match s.queueOfCtx c with
  | some q => s.streamBlockTo q c force
  | none => s

/-- The open block of a stream context is ended, and all that waits is coded: at most n blocks. -/
def flushTo (s : State) (q c : Nat) : Nat → State
  | 0 => s
  | n + 1 => if (s.ctx c).pend == [] then s else (s.streamBlockTo q c true).flushTo q c n

/-- A bound on the blocks that wait in a context. -/
def ctxWords (s : State) (c : Nat) : Nat := (s.ctx c).pend.foldl (fun a f => a + f.words.length + 1) 0

/-- All that waits in a stream context is coded and queued. -/
def flushStream (s : State) (c : Nat) : State :=
  match s.queueOfCtx c with
  | some q => s.flushTo q c (s.ctxWords c)
  | none => s

/-- Shedding step 3 begins on a stream that feeds a context: what the context holds goes first (R28, R240). -/
def setBypass (s : State) (c : Nat) : State := (s.flushStream c).clearHistory c

/-- Is a Frit job slot at work: from SUBMIT to the end of its job. -/
def jobRuns (s : State) (j : Nat) : Bool := let st := s.rd (R.fj_JOB_STATE j); st == 1 || st == 2 || st == 4 || st == 8

/-- Do a job's regions lie in its tenant's allocation (R241). -/
def jobRegionsOk (s : State) (j t : Nat) : Bool :=
  (s.rd (R.fj_FORMAT j) == 3 || s.inAllocation t (s.rd (R.fj_IN_ADDR j)) (s.rd (R.fj_IN_LEN j)))
    && s.inAllocation t (s.rd (R.fj_OUT_ADDR j)) (s.rd (R.fj_OUT_LEN j))

/-- Are the regions that hold a job's input and output intact (R243, R268). -/
def jobIntact (s : State) (j : Nat) : Bool :=
  s.dram.regions.all fun r =>
    let touches (a n : Nat) := a < r.base + r.size && r.base < a + n
    r.intact || !((s.rd (R.fj_FORMAT j) != 3 && touches (s.rd (R.fj_IN_ADDR j)) (s.rd (R.fj_IN_LEN j)))
      || touches (s.rd (R.fj_OUT_ADDR j)) (s.rd (R.fj_OUT_LEN j)))

/-- Can a context serve a slot's job for a tenant: held by it, in MODE 1, its input a queue of the tenant's own (R212, R229, R241)
and its regions in the tenant's allocation. -/
def jobCtxCode (s : State) (j t c : Nat) : Nat :=
  if 64 ≤ c || s.rd (R.fc_TENANT c) != t then 0x1091 else if s.rd (R.fc_MODE c) != 1 then 0x2091
  else if s.rd (R.fj_FORMAT j) == 3 && s.rd (R.fj_IN_ADDR j) % 8192 / 8 != t then 0x1081
  else if s.rd (R.fj_FORMAT j) == 3 && s.rd (R.qu_CONSUMER (s.rd (R.fj_IN_ADDR j) % 8192)) != 3 then 0x2091
  else if !s.jobRegionsOk j t then 0x1092 else 0

/-- A job ends before it has started, with a code (R244, Table 9-7). -/
def cancelJob (s : State) (j st code : Nat) : State :=
  ((s.wr (R.fj_JOB_STATE j) st).wr (R.fj_JOB_STATUS j) code).wr (R.fj_DONE_AT j) s.now96

/-- A context is free of its job (Table 9-6). -/
def freeCtx (s : State) (c : Nat) : State :=
  (s.setCtx c { s.ctx c with pend := [], pos := 0 }).wr (R.fc_CTX_STATE c) (if s.rd (R.fc_TENANT c) == 0xFFFF then 0 else 1)

/-- A write of SUBMIT by a tenant (R241, R244): it clears the history of the context (R235), and a job that had stopped in the slot
gives its context up. -/
def submitAct (s : State) (j t : Nat) (on : Bool) : Ans :=
  let st := s.rd (R.fj_JOB_STATE j)
  let c := s.rd (R.fj_CTX j)
  if !on then ok s
  else if st == 1 || st == 2 then (0x3091, s)
  else if (st == 4 || st == 8) && (s.job j).tenant != t then (0x1091, s)
  else if s.jobCtxCode j t c != 0 then (s.jobCtxCode j t c, s)
  else
    let s := s.count (R.fj_SUBMITS j) 1
    let x := s.job j
    let s := if st == 4 || st == 8 then s.freeCtx x.ctx else s
    let s := s.clearHistory c
    if x.abortEdge == some s.time.edge then ok (s.cancelJob j 7 0)
    else
      let order := (s.jobs.map fun e => e.2.order).foldl max 0 + 1
      let s := s.setJob j { FritJob.init with order := order, tenant := t, submitEdge := some s.time.edge, ctx := c }
      let s := (s.wr (R.fj_IN_USED j) 0).wr (R.fj_OUT_USED j) 0
      ok (s.wr (R.fj_JOB_STATE j) 1)

/-- A job ends in a state with a code (Table 9-7). -/
def endJob (s : State) (j st code : Nat) : State :=
  (s.cancelJob j st code).freeCtx (s.job j).ctx

/-- ABORT of a job slot: counted whatever the slot does (Table 9-7), and it meets a SUBMIT of the same cycle (R244). -/
def abortJob (s : State) (j : Nat) : State :=
  let s := s.count (R.fj_ABORTS j) 1
  let s := s.setJob j { s.job j with abortEdge := some s.time.edge }
  let st := s.rd (R.fj_JOB_STATE j)
  if st == 1 then
    let same := (s.job j).submitEdge == some s.time.edge
    s.cancelJob j (if same then 7 else 6) 0
  else if st == 2 || st == 4 || st == 8 then s.endJob j 6 0 else s

/-- A write of CONTINUE by a tenant (R242, R243): the job goes on with the context it was submitted on. -/
def continueAct (s : State) (j t : Nat) (on : Bool) : Ans :=
  let st := s.rd (R.fj_JOB_STATE j)
  let x := s.job j
  if !on then ok s
  else if st != 4 && st != 8 then (0x3092, s)
  else if x.tenant != t then (0x1091, s)
  else if s.jobCtxCode j t x.ctx != 0 then (s.jobCtxCode j t x.ctx, s)
  else if st == 4 then ok ((s.wr (R.fj_OUT_USED j) 0).wr (R.fj_JOB_STATE j) 2)
  else if s.jobIntact j then ok (s.wr (R.fj_JOB_STATE j) 2) else ok (s.endJob j 5 0x7091)

/-- The jobs in a state. -/
def jobsIn (s : State) (st : Nat) : List Nat := (List.range 32).filter fun j => s.rd (R.fj_JOB_STATE j) == st

/-- Words of DRAM. -/
def dramWords (s : State) (a n : Nat) : List Nat := wordsOfOctets (s.dramGet a (4 * n))

/-- The next block of a job that reads DRAM: the block, and the octets and segment position after it; an error code;
or nothing left (R241, R242). -/
def memBlock (s : State) (j : Nat) : Option (Except Nat (BlockIn × Nat × FritJob)) :=
  let x := s.job j
  let fmt := s.rd (R.fj_FORMAT j)
  let c := x.ctx
  let used := s.rd (R.fj_IN_USED j)
  let len := s.rd (R.fj_IN_LEN j)
  let a := s.rd (R.fj_IN_ADDR j) + used
  if len % 4 != 0 then some (.error 0x2092)
  else if len ≤ used then none
  else if fmt != 2 then
    let n := min (s.blockWords c fmt) ((len - used) / 4)
    some (.ok (⟨fmt, 0, [], s.dramWords a n, [], [], 0⟩, 4 * n, x))
  else if x.segLeft == 0 then
    let h := s.dramWords a 16
    let tap := field (h.getD 0 0) 17 15
    let total := tapWords tap (h.getD 8 0)
    if len - used < 64 || h.getD 0 0 / 2 ^ 28 != 7 || len - used < 64 + 4 * total then some (.error 0x2092)
    else
      let f := if tap == 0 then 0 else 1
      let n := min (s.blockWords c f) total
      let key := field (h.getD 0 0) 12 8 :: (h.drop 2).take 3
      some (.ok (⟨f, 8, h, s.dramWords (a + 64) n, [], key, 0⟩, 64 + 4 * n,
        { x with segLeft := total - n, segTap := tap, segKey := key, segPos := n }))
  else
    let f := if x.segTap == 0 then 0 else 1
    let n := min (s.blockWords c f) x.segLeft
    some (.ok (⟨f, 8, [], s.dramWords a n, [], x.segKey, x.segPos⟩, 4 * n,
      { x with segLeft := x.segLeft - n, segPos := x.segPos + n }))

/-- Is the frame a kind that Frit codes: Lehr block, Gob words or raw words (R238). -/
def fritType (ftype : Nat) : Bool := ftype == 1 || ftype == 3 || ftype == 4

/-- Can no further frame come to a job on a queue: it has its count of frames, or the queue is disabled (R241). -/
def queueInputEnds (s : State) (j : Nat) : Bool :=
  let len := s.rd (R.fj_IN_LEN j)
  s.rd (R.qu_QSTATE (s.rd (R.fj_IN_ADDR j) % 8192)) == 0
    || (len != 0 && len ≤ s.rd (R.fj_IN_USED j) + (s.ctx (s.job j).ctx).pend.length)

/-- The head frame of the job's queue is taken into its context; one with START, or with LOSS, begins a new history (R218,
R235, R241 FORMAT 3). -/
def takeQueueFrame (s : State) (j : Nat) : State :=
  let c := (s.job j).ctx
  let q := s.rd (R.fj_IN_ADDR j) % 8192
  match s.available q with
  | f :: _ =>
    let g : FritFrame := ⟨f.ftype, f.start || f.loss, f.stop, f.late, wordsOfOctets f.payload, none⟩
    ((s.setCtx c { s.ctx c with pend := (s.ctx c).pend ++ [g] }).popHead q).count (R.fc_IN_OCTETS c) f.payload.length
  | [] => s

/-- Frames are taken until a block is complete, at most n of them (R238, R241). -/
def takeQueueFrames (s : State) (j : Nat) : Nat → State
  | 0 => s
  | n + 1 =>
    let c := (s.job j).ctx
    if (s.nextBlock c false).isSome || (s.ctx c).pend.any (fun f => !fritType f.ftype) || s.queueInputEnds j then s
    else (s.takeQueueFrame j).takeQueueFrames j n

/-- The content of an output buffer becomes undefined (R242). -/
def spoil (s : State) (b : Nat × Nat) : State :=
  let junk := (List.range b.2).map fun k => Config.undefinedOctet (b.1 + k) s.freeCount
  s.dramPut b.1 junk

/-- A job's access of n octets: channels in self-refresh leave it, and the job's tenant is charged (R258, R260). -/
def jobAccess (s : State) (j a n : Nat) : State := (s.wakeFor a n).chargeBursts (s.job j).tenant (burstsIn a n)

/-- A job's access meets a double-bit error: the controllers freeze, and the job stops (R243, R265). -/
def jobFreeze (s : State) (j b cmd : Nat) : State := (s.freezeBurst b cmd 13 (s.job j).tenant).wr (R.fj_JOB_STATE j) 8

/-- A coded block of a job is written, if it fits (R242). Where the job fails as a whole, every buffer it has had since SUBMIT is
undefined. -/
def writeBlock (s : State) (j : Nat) (i : BlockIn) (consumed : Nat) (x : FritJob) (pend : List FritFrame) (pos : Nat) :
    State :=
  let c := (s.job j).ctx
  let o := s.codeBlock c i
  let used := s.rd (R.fj_OUT_USED j)
  let a := s.rd (R.fj_OUT_ADDR j)
  let size := 4 * o.words.length
  if s.rd (R.fj_OUT_LEN j) < used + size then
    let b := s.mode.base
    if b == .boot || b == .calibrate || b == .test || b == .safe then
      (((s.each ((a, s.rd (R.fj_OUT_LEN j)) :: (s.job j).outs) spoil).wr (R.fj_OUT_USED j) 0).endJob j 5 0x4093).bump
    else
      (s.setJob j { s.job j with outs := (a, s.rd (R.fj_OUT_LEN j)) :: (s.job j).outs }).wr (R.fj_JOB_STATE j) 4
  else match s.badWrite (a + used) size with
  | some b => s.jobFreeze j b 3
  | none =>
    let s := (s.jobAccess j (a + used) size).dramPut (a + used) (octetsOfWords o.words)
    let s := (s.blockCoded c i o).setJob j x
    let s := if s.rd (R.fj_FORMAT j) == 3 then s else s.count (R.fc_IN_OCTETS c) consumed
    let s := s.setCtx c { s.ctx c with pend := pend, pos := pos }
    (s.count (R.fj_IN_USED j) consumed).count (R.fj_OUT_USED j) size

/-- The next block of a job on a queue is written, the open block too if `force` ends it; the job is done when no frame can come
(R237, R241, R242). -/
def queueJobBlock (s : State) (j : Nat) (force : Bool) : State :=
  let c := (s.job j).ctx
  let q := s.rd (R.fj_IN_ADDR j) % 8192
  let s := s.takeQueueFrames j (s.queue q).frames.length
  let pend := (s.ctx c).pend
  match pend with
  | [] => if s.queueInputEnds j then s.endJob j 3 0 else s
  | f :: t =>
    if !fritType f.ftype then s.endJob j 5 0x2092
    else match s.nextBlock c (force || s.queueInputEnds j) with
      | some (i, rest, pos) => (s.beginFrame c).writeBlock j i (pend.length - rest.length) (s.job j) rest pos
      | none => if f.words == [] then (s.setCtx c { s.ctx c with pend := t, pos := 0 }).count (R.fj_IN_USED j) 1 else s

/-- The running job on a queue that a context serves (R241 FORMAT 3). -/
def queueJobOf (s : State) (c : Nat) : Option Nat :=
  (s.jobsIn 2).find? fun j => (s.job j).ctx == c && s.rd (R.fj_FORMAT j) == 3

/-- What a job on a queue has taken is coded, at most n blocks (R237). -/
def flushJob (s : State) (j : Nat) : Nat → State
  | 0 => s
  | n + 1 =>
    if (s.ctx (s.job j).ctx).pend == [] || s.rd (R.fj_JOB_STATE j) != 2 then s
    else (s.queueJobBlock j true).flushJob j n

/-- The open block of a context is ended, a stream's or that of a job on a queue (R237). -/
def flushCtx (s : State) (c : Nat) : State :=
  match s.queueJobOf c with
  | some j => if s.frozen then s else s.flushJob j (s.ctxWords c)
  | none => s.flushStream c

/-- A write of FLUSH ends the context's open block (R237). -/
def flushAct (s : State) (c : Nat) (on : Bool) : Ans := ok (if on then s.flushCtx c else s)

end State

/-- FRIT_BLOCK_DONE: a stream context's block ends after BLOCK_N samples or at a boundary (R237, R239). -/
def fritBlockDone (c : Nat) (s : State) : State := s.streamBlock c false

/-- FRIT_BLOCK_MAXAGE: the open block's age has reached BLOCK_MAXAGE; it is ended, and coded behind those that wait before it
(R237). -/
def fritBlockMaxage (c : Nat) (s : State) : State := s.flushCtx c

/-- FRIT_JOB_START: a queued job starts when its context is free and an engine is: in order of submission (R241). One whose context,
queue or regions are its tenant's no longer ends with the code of that (R229). -/
def fritJobStart (j : Nat) (s : State) : State :=
  let busy (i : Nat) : Bool := (s.jobsIn 2 ++ s.jobsIn 4 ++ s.jobsIn 8).any fun k =>
    k != i && (s.job k).ctx == (s.job i).ctx
  let first := (s.jobsIn 1).all fun i => i == j || busy i || (s.job j).order < (s.job i).order
  if s.rd (R.fj_JOB_STATE j) == 1 && first && !busy j && (s.jobsIn 2).length < s.rd R.fe_ENGINES then
    let c := (s.job j).ctx
    let code := s.jobCtxCode j (s.job j).tenant c
    if code != 0 then s.cancelJob j 5 code
    else ((s.setCtx c { s.ctx c with pend := [], pos := 0 }).wr (R.fj_JOB_STATE j) 2).wr (R.fc_CTX_STATE c) 3
  else s

/-- FRIT_JOB_BLOCK: a running job writes one coded block, stops, fails or is done (R242, R243). -/
def fritJobBlock (j : Nat) (s : State) : State :=
  if s.rd (R.fj_JOB_STATE j) != 2 then s
  else if s.frozen then s.wr (R.fj_JOB_STATE j) 8
  else if s.rd (R.fj_FORMAT j) == 3 then s.queueJobBlock j false
  else match s.memBlock j with
    | none => s.endJob j 3 0
    | some (.error e) => s.endJob j 5 e
    | some (.ok (i, n, x)) =>
      let a := s.rd (R.fj_IN_ADDR j) + s.rd (R.fj_IN_USED j)
      match s.badRead a n with
      | some b => s.jobFreeze j b 1
      | none => (s.jobAccess j a n).writeBlock j i n x [] 0

end Sys2Proof.Machine
end

