-- ==== Sys2Proof/Machine/Lanes.lean ====
section
/-! DEFINITION. Serial lanes and Breimlink (chapter 11): lock, training, control blocks, frames, retry, relay, turning,
delivery in order, Ethernet and injection. -/

namespace Sys2Proof.Machine

/-- The sum of the 16-bit words of octets, the first of each the higher (RFC 768; log entry 128). -/
def sum16 : List Byte → Nat
  | [] => 0
  | [a] => 256 * a.toNat
  | a :: b :: t => 256 * a.toNat + b.toNat + sum16 t

/-- The checksum of UDP over IPv4 or IPv6: the complement of the ones' complement sum of the addresses, protocol 17, length,
ports and octets, 0xFFFF for 0 (R290; log entry 128). -/
def udpChecksum (src dst : List Byte) (port : Nat) (octets : List Byte) : Nat :=
  let n := 8 + octets.length
  let total := sum16 (src ++ dst) + 17 + n + 2 * port + n + sum16 octets
  let sum := 65535 - ((total - 1) % 65535 + 1)
  if sum == 0 then 65535 else sum

/-- Is a sequence number at or before another, modulo 65,536. -/
def seqLe (a b : Nat) : Bool := (b + 65536 - a) % 65536 < 32768

/-- Capacity of one lane of a mode in bit/s, times 36·256·15 over 37·260·16 (R280). -/
def laneCapacity (mode k : Nat) : Nat :=
  let rate := if mode = 1 then 26214400000 else if mode = 2 then 13107200000 else 0
  k * rate * (36 * 256 * 15) / (37 * 260 * 16)

/-- The octets of a DRAM or lane byte count as MAC address, IP and so on are kept as numbers. -/
def portMac (port : Nat) : Nat := port - 4

namespace State

/-- Shares of the routes on a bundle with RELAY_RESERVE (R280). -/
def bundleShares (s : State) (b : Nat) : Nat :=
  (List.range 64).foldl (fun a r =>
    if s.rd (R.ro_QUEUE r) != 0xFFFF && (s.rd (R.ro_PORT r) == b || (s.rdB (R.ro_DUAL r) && s.rd (R.ro_PORT r) < 2)) then
      a + s.rd (R.ro_SHARE r) else a) (s.rd (R.bu_RELAY_RESERVE b))

/-- CAPACITY of a bundle: its working lanes (R280). -/
def bundleCapacity (s : State) (b : Nat) : Nat :=
  laneCapacity (s.rd (R.ln_MODE ((s.lanesOf b).headD 0))) (s.workingLanes b)

/-- BFLAGS bit 1: the bundle carries less than what is admitted on it, nothing at all while it is out of service (R288). -/
def bundleFlags (s : State) (b : Nat) : State :=
  let st := s.rd (R.bu_BUNDLE_STATE b)
  s.wrBit (R.bu_BFLAGS b) 1 (2 ≤ st && decide ((if st = 2 then s.bundleCapacity b else 0) < s.bundleShares b))

/-- Can a direction be selected (R38, R48). -/
def dirValid (s : State) (d : Nat) : Bool :=
  let x := s.linkTime d
  x.timeValid && decide (x.hops < 128)

/-- The direction with the lower HOPS, on equal HOPS PRIMARY_DIR; 0xFF none (R48). -/
def bestDir (s : State) : Nat :=
  let p := s.rd R.bl_PRIMARY_DIR
  match s.dirValid 0, s.dirValid 1 with
  | false, false => 255
  | true, false => 0
  | false, true => 1
  | true, true =>
    if (s.linkTime 0).hops < (s.linkTime 1).hops then 0 else if (s.linkTime 1).hops < (s.linkTime 0).hops then 1 else p

/-- SEL_DIR, HOPS and GM_ADDR follow the selection (R48, Table 2-7): the grandmaster has HOPS 0, an UNSET hub and one
that waits for a direction of its selected Breimlink 0xFF (log entry 68). -/
def settleDir (s : State) : State :=
  let bl := s.rd R.tm_SRC_SELECTED == 1
  let d := if bl then s.bestDir else 255
  let s := s.wr R.bl_SEL_DIR d
  if d < 2 then (s.wr R.bl_HOPS ((s.linkTime d).hops + 1)).wr R.bl_GM_ADDR (s.linkTime d).gm
  else if bl || s.rd R.tm_TIME_STATE == 0 then s.wr R.bl_HOPS 255
  else (s.wr R.bl_HOPS 0).wr R.bl_GM_ADDR (s.rd R.lx_CHAIN_ADDR)

/-- The direction of a bundle that leaves service is lost to Breimlink time until a beacon comes again (R48). -/
def loseDir (s : State) (b : Nat) : State :=
  (s.setLinkTime b { s.linkTime b with timeValid := false }).settleDir

/-- The junction temperature of the hub die, where one is known, in 0.1 °C. -/
def hubTj (s : State) : Option Int := (s.mode.tj.find? fun e => e.1 == 0).map (·.2)

/-- A lane goes into electrical idle; its receiver holds its state (R277). -/
def idleLane (s : State) (l : Nat) : State :=
  s.setLane l { s.lane l with idle := true, idleSince := s.time.edge, idleTj := s.hubTj }

/-- Does an exit from idle need full training: after more than 60 s, or a change of more than 10 K (R277). -/
def idleStale (s : State) (l : Nat) : Bool :=
  let x := s.lane l
  decide (60 * edgesPerSec < s.time.edge - x.idleSince)
    || match x.idleTj, s.hubTj with
       | some a, some b => decide (100 < (a - b).natAbs)
       | _, _ => false

/-- The bundle retrains: counted, out of service, and down after the third time in 10 s (R283). -/
def retrainBundle (s : State) (b : Nat) : State :=
  let y := s.bundle b
  let x : Bundle := { y with replay := y.replay.map fun f => { f with sends := 0 } }
  let times := (x.retrains.filter fun t => s.time.edge < t + 10 * edgesPerSec) ++ [s.time.edge]
  let s := s.setBundle b { x with retrains := times, leftServiceAt := some s.time.edge, cut := none, cur := none }
  let s := (s.count (R.bu_RETRAINS b) 1).wr (R.bu_BUNDLE_STATE b) (if 3 ≤ times.length then 4 else 3)
  let s := s.each (((s.lanesOf b).map s.servingLane).filter s.laneLive) startTraining
  (s.bundleFlags b).loseDir b

/-- Replay octets in use. -/
def replayOctets (s : State) (b : Nat) : Nat :=
  (s.bundle b).replay.foldl (fun a f => a + 32 * dataBlocks f.octets.length) 0

/-- REPLAY_USED follows. -/
def replaySettle (s : State) (b : Nat) : State := s.wr (R.bu_REPLAY_USED b) (s.replayOctets b)

/-- Credit left on a bundle, in blocks. -/
def creditLeft (s : State) (b : Nat) : Nat :=
  let x := s.bundle b
  (x.credit + 2 ^ 24 - x.used % 2 ^ 24) % 2 ^ 24

/-- Can a bundle start a frame of n octets: in service with no frame in progress, room to replay it, credit (R283). -/
def canSend (s : State) (b n : Nat) : Bool :=
  s.rd (R.bu_BUNDLE_STATE b) == 2 && (s.bundle b).cut.isNone && s.replayOctets b + 32 * dataBlocks n ≤ 4194304 && dataBlocks n + 2 ≤ s.creditLeft b

/-- The holder of a share of a bundle that a frame is charged to: its route, or 64 for what is relayed, turned or of CLASS 1 (R287;
log entry 145). -/
def holderOf (s : State) (f : TxFrame) : Nat :=
  if f.origin == s.rd R.lx_CHAIN_ADDR && f.cls == 0 && !f.turned then f.route else 64

/-- The weight of a holder: RELAY_RESERVE, or the SHARE of a route (R287). -/
def weightOf (s : State) (b h : Nat) : Nat := if h < 64 then s.rd (R.ro_SHARE h) else s.rd (R.bu_RELAY_RESERVE b)

/-- Where a holder's next frame starts in the bundle's fair share: after its last, or with the frame sent last (R287). -/
def shareStart (s : State) (b h : Nat) : Nat := max (tabGet 0 (s.bundle b).tags h) (s.bundle b).vtime

/-- A holder's share is charged with a frame's cost over its weight (R280, R287). -/
def chargeShare (s : State) (b : Nat) (f : TxFrame) : State :=
  let h := s.holderOf f
  let at_ := s.shareStart b h
  let cost := (dataBlocks f.octets.length + 2) * 256 * 2 ^ 64 / max 1 (s.weightOf b h)
  s.setBundle b { s.bundle b with vtime := at_, tags := tabPut 0 h (at_ + cost) (s.bundle b).tags }

/-- The head frame of a route's queue, if the lane complex may start on it (R222, R284). -/
def routeHead (s : State) (r : Nat) : Option Frame :=
  let q := s.rd (R.ro_QUEUE r)
  if q < 8192 && s.rd (R.qu_CONSUMER q) == 1 then (s.available q).head? else none

/-- Does a holder wait for a bundle: a frame in the relay buffer, or the head of a route's queue that is not held for its launch
(R56, R287). -/
def holderWaits (s : State) (b h : Nat) : Bool :=
  if h == 64 then (s.bundle b).relay != []
  else (s.rd (R.ro_PORT h) == b || (s.rdB (R.ro_DUAL h) && s.rd (R.ro_PORT h) < 2))
    && match s.routeHead h with
       | some f => !launchEn f.launch || t64Past (launchTime f.launch) s.now
       | none => false

/-- Is it a holder's turn on a bundle: no other that waits would start before it (R287). -/
def shareTurn (s : State) (b h : Nat) : Bool :=
  (List.range 65).all fun k => k == h || !s.holderWaits b k || s.shareStart b h ≤ s.shareStart b k

/-- A frame leaves on a bundle under the next LSEQ and stays in the replay buffer (R283). -/
def sendOn (s : State) (b : Nat) (f : TxFrame) : State :=
  let s := s.chargeShare b f
  let x := s.bundle b
  let f := { f with lseq := x.txLseq, sends := 1 }
  let s := s.setBundle b { x with
    txLseq := (x.txLseq + 1) % 65536, used := x.used + dataBlocks f.octets.length + 2, replay := x.replay ++ [f]
    lastAckAdvance := if x.replay == [] then s.time.edge else x.lastAckAdvance }
  (s.replaySettle b).emitUnit b (.frame b f)

/-- Does every route of this hub on a bundle have DUAL set, and every frame relayed on it in the last 10 s (R294). -/
def duplicated (s : State) (b : Nat) : Bool :=
  let routes := (List.range 64).filter fun r => s.rd (R.ro_QUEUE r) != 0xFFFF
    && (s.rd (R.ro_PORT r) == b || (s.rdB (R.ro_DUAL r) && s.rd (R.ro_PORT r) < 2))
  s.rd (R.bu_BUNDLE_STATE b) == 2 && routes.all (fun r => s.rdB (R.ro_DUAL r))
    && match (s.bundle b).singleRelayAt with
       | some t => decide (t + 10 * edgesPerSec ≤ s.time.edge)
       | none => true

/-- An active rule stops, and INJ_STATE shows why (R294). -/
def stopRule (s : State) (i why : Nat) : State := (s.wr (R.ir_ENABLE i) 0).wr (R.ir_INJ_STATE i) why

/-- The rules in force. -/
def activeRules (s : State) : List Nat :=
  (s.insts .injRule 0x01).filter fun i => s.rdB (R.ir_ENABLE i) && s.rd (R.ir_INJ_STATE i) == 1

/-- In Acquire a rule on a bundle stops when its bundle is no longer duplicated (R294). -/
def checkRules (s : State) : State :=
  if s.mode.base != .acquire then s
  else s.each s.activeRules fun s i => if s.duplicated (s.rd (R.ir_TARGET i)) then s else s.stopRule i 4

/-- Rules stop when the hub leaves Test or Acquire (R294). -/
def stopRules (s : State) : State := s.each s.activeRules fun s i => s.stopRule i 2

/-- Relayed frames wait in the relay buffer and leave in their turn, as room and credit allow, at most n (R285, R287). -/
def pumpRelay (s : State) (b : Nat) : Nat → State
  | 0 => s
  | n + 1 =>
    let x := s.bundle b
    match x.relay with
    | [] => s
    | f :: t =>
      if s.canSend b f.octets.length && s.shareTurn b 64 then ((s.setBundle b { x with relay := t }).sendOn b f).pumpRelay b n else s

/-- Octets in the relay buffer of a direction (R285). -/
def relayOctets (s : State) (b : Nat) : Nat := (s.bundle b).relay.foldl (fun a f => a + 32 * dataBlocks f.octets.length) 0

/-- Credit is granted to a bundle's peer as far as the relay buffer of the other direction has room (R282, R288). -/
def grantCredit (s : State) (b : Nat) : State :=
  let x := s.bundle b
  if s.relayOctets (1 - b) < 2097152 then
    s.setBundle b { x with grant := (x.grant + x.owed) % 2 ^ 24, owed := 0 }
  else s

/-- Frames that wait in a bundle's relay buffer leave as they can, and the other direction's credit follows. -/
def pumpBundle (s : State) (b : Nat) : State :=
  let n := (s.bundle b).relay.length
  let s := (s.pumpRelay b n).grantCredit (1 - b)
  s.wrBit (R.bu_BFLAGS b) 2 (match (s.bundle b).relay with
    | f :: _ => decide (s.creditLeft b < dataBlocks f.octets.length + 2)
    | [] => false)

/-- A frame is relayed out of a bundle: marked if it is not duplicated (R294), and sent or held (R285). -/
def relayOut (s : State) (o : Nat) (f : TxFrame) : State :=
  let x := s.bundle o
  let s := s.setBundle o { x with
    relay := x.relay ++ [f], singleRelayAt := if f.dual then x.singleRelayAt else some s.time.edge }
  (s.pumpBundle o).checkRules

/-- A frame meant for a dead bundle is turned out of the other, or dropped if it was turned before or the other is down too
(R285). -/
def turnFrame (b : Nat) (s : State) (f : TxFrame) : State :=
  if f.turned then s.count (R.bu_TURN_DROPS b) 1
  else if s.rd (R.bu_BUNDLE_STATE (1 - b)) == 4 then s.count (R.bu_TURN_DROPS (1 - b)) 1
  else (s.count (R.bu_TURNED (1 - b)) 1).relayOut (1 - b) { f with turned := true }

/-- A bundle is declared down, and its traffic is turned (R283, R285). -/
def downBundle (s : State) (b : Nat) : State :=
  let x := s.bundle b
  let s := s.setBundle b { x with replay := [], relay := [], cut := none, cur := none }
  let s := ((s.wr (R.bu_BUNDLE_STATE b) 4).replaySettle b).bundleFlags b
  (x.replay ++ x.relay).foldl (turnFrame b) (s.loseDir b)

/-- The bundle retrains, or is declared down where that is the third time in 10 s (R283). -/
def retrainOrDown (s : State) (b : Nat) : State :=
  let s := s.retrainBundle b
  if s.rd (R.bu_BUNDLE_STATE b) == 4 then s.downBundle b else s

/-- The copy of a frame that a bundle sends by cut-through ends with STOMP (R283, R285). -/
def stompOut (s : State) (b : Nat) : State :=
  match (s.bundle b).cut, (s.bundle (1 - b)).cur with
  | some f, some g =>
    let l := stompedBlocks f g.nblk g.octets
    (((s.setBundle b { s.bundle b with cut := none })).emit (.ctl b (eofBlock f.lseq 1 true 0))).sendStriped b l
  | _, _ => s.setBundle b { s.bundle b with cut := none }

/-- Every frame of the replay buffer from an LSEQ on is sent again, in order; one sent 16 times makes the bundle
retrain (R283). -/
def resendFrom (s : State) (b lseq : Nat) : State :=
  let x := s.bundle b
  let (old, again) := (x.replay.filter fun f => !seqLe lseq f.lseq, x.replay.filter fun f => seqLe lseq f.lseq)
  let again := again.map fun f => { f with sends := f.sends + 1 }
  let s := s.stompOut b
  let s := s.setBundle b { s.bundle b with replay := old ++ again, lastAckAdvance := s.time.edge, cut := none }
  let s := s.count (R.bu_RESENT b) again.length
  let s := s.each again fun s f => s.emitUnit b (.frame b f)
  if again.any fun f => 16 ≤ f.sends then s.retrainOrDown b else s

/-- WORKING and the shortfall flag follow the lanes; too few of them take the bundle out of service (R279, R288). -/
def settleBundle (s : State) (b : Nat) : State :=
  let k := s.workingLanes b
  let s := (s.wr (R.bu_WORKING b) k).bundleFlags b
  if s.rd (R.bu_BUNDLE_STATE b) == 2 && k < s.rd (R.bu_MIN_LANES b) then s.retrainOrDown b else s

/-- After a change of a lane, its bundle follows. -/
def laneChanged (s : State) (l : Nat) : State := if s.bundleOf l < 2 then s.settleBundle (s.bundleOf l) else s

/-- An ACK leaves for a bundle's peer (R282). -/
def sendAck (s : State) (b : Nat) : State :=
  let x := s.bundle b
  s.sendCtl b (ctlBlock 0x03 ((x.rxLseq + 65535) % 65536 * 2 ^ 232 + x.grant % 2 ^ 24 * 2 ^ 208 + s.rxLanes b * 2 ^ 204))

/-- A NAK leaves for the LSEQ expected, not twice within 2 µs (R282). -/
def sendNak (s : State) (b : Nat) : State :=
  let x := s.bundle b
  let again := match x.lastNak with | some (l, e) => l == x.rxLseq && decide (s.time.edge < e + 3277) | none => false
  if again then s
  else
    (s.setBundle b { x with lastNak := some (x.rxLseq, s.time.edge) }).sendCtl b (ctlBlock 0x04 (x.rxLseq * 2 ^ 232))

/-- SRC_MAC of a MAC, from the hub's address block (Table 11-8; log entry 9). -/
def srcMac (m : Nat) : Nat := Config.identityNum (0xA840 + m) 5 % 2 ^ 48

/-- What a route's stream frame carries before it on a MAC: ETYPE with ENCAP 0, else UDP over IPv4 or IPv6 with its checksum
(R290, Table 11-9; log entry 128). -/
def ethHead (s : State) (r m : Nat) (octets : List Byte) : EthHead :=
  let port := s.rd (R.ro_UDP_PORT r)
  let dst := natLE 16 (s.rd (R.ro_DST_IP r))
  let udp (etype : Nat) (src dst : List Byte) : EthHead :=
    ⟨s.rd (R.ro_DST_MAC r), srcMac m, etype, src, dst, port, udpChecksum src dst port octets⟩
  match s.rd (R.ro_ENCAP r) with
  | 0 => ⟨s.rd (R.ro_DST_MAC r), srcMac m, s.rd (R.ro_ETYPE r), [], [], 0, 0⟩
  | 1 => udp 0x0800 (natLE 4 (s.rd (R.ma_IPV4 m))).reverse (dst.drop 12)
  | _ => udp 0x86DD (natLE 16 (s.rd (R.ma_IPV6 m))) dst

/-- A frame of this hub goes on a bundle, if it can start there, else behind the frames that wait; what waits follows in its turn
(R283, R284, R287). -/
def sendBundle (s : State) (b : Nat) (f : TxFrame) : State :=
  if s.rd (R.bu_BUNDLE_STATE b) == 4 then turnFrame b s f
  else if s.canSend b f.octets.length then (s.sendOn b f).pumpBundle b
  else s.relayOut b f

/-- An ADP message goes to another hub in a frame of CLASS 1: behind the relay prefix, TENANT, GW_SESSION and four zero octets
(R281, R303). -/
def sendRelay (s : State) (b dest tenant gwSession : Nat) (m : List Byte) : State :=
  s.sendBundle b ⟨dest, s.rd R.lx_CHAIN_ADDR, 0, 0, 1, 0, false, false, false,
    natLE 2 tenant ++ natLE 2 gwSession ++ natLE 4 0 ++ m, 0, 0⟩

/-- The lane that serves a MAC, if one does (R271). -/
def macLane (s : State) (m : Nat) : Option Nat :=
  (List.range 16).find? fun l => s.rd (R.ln_MAC l) == m && 3 ≤ s.rd (R.ln_MODE l)

/-- A frame of a MAC leaves on its lane, which is a target of injection (R293). -/
def emitMac (s : State) (m : Nat) (o : Out) : State :=
  match s.macLane m with
  | some l => s.emitUnit (0x10 + l) o
  | none => s.emit o

/-- May a MAC send: its link is up, and no PAUSE holds it (R290). -/
def macRoom (s : State) (m : Nat) : Bool :=
  s.rd (R.ma_LINK m) == 1 && decide (tabGet 0 s.lanes.paused m ≤ s.time.edge)

/-- A stream frame leaves through a route's port as Ethernet, or on a bundle (R284, R290). -/
def sendPort (s : State) (r port : Nat) (f : TxFrame) : State :=
  if port < 2 then s.sendBundle port f
  else
    let m := portMac port
    (s.count (R.ma_TX_FRAMES m) 1).emitMac m (.eth m r f.late (s.ethHead r m f.octets) f.octets)

/-- The gateway route, if one is set (R284). -/
def gatewayRoute (s : State) : Option Nat := (List.range 64).find? fun r => s.rd (R.ro_QUEUE r) == 0xFFFE

/-- The frames that wait for the gateway route leave on its port while it has room, at most n (R284, R290). -/
def pumpGateway (s : State) : Nat → State
  | 0 => s
  | n + 1 =>
    match s.gatewayRoute, s.lanes.gateway with
    | some r, h :: t =>
      let port := s.rd (R.ro_PORT r)
      if port < 2 || s.macRoom (portMac port) then
        ((s.putLanes { s.lanes with gateway := t }).sendPort r port ⟨s.rd (R.ro_DEST r), h.origin, 0, h.route, 0, h.rseq, h.late, false,
          false, h.octets, 0, 0⟩).pumpGateway n
      else s
    | _, _ => s

/-- A stream frame for this hub is delivered: the gateway route takes it, behind those that wait for its port (R284, R290). -/
def deliverStream (s : State) (h : HeldFrame) : State :=
  if s.gatewayRoute.isNone then s
  else
    let l := s.lanes.gateway ++ [h]
    (s.putLanes { s.lanes with gateway := l }).pumpGateway l.length

/-- The RSEQ that an origin's route is expected to bring next, if one has come (R286). -/
def expectedRseq (s : State) (origin route : Nat) : Option Nat :=
  (s.lanes.expected.find? fun e => e.1 == origin && e.2.1 == route).map (·.2.2)

/-- The RSEQ expected next is set. -/
def setExpected (s : State) (origin route rseq : Nat) : State :=
  let rest := s.lanes.expected.filter fun e => !(e.1 == origin && e.2.1 == route)
  (s.putLanes { s.lanes with expected := rest ++ [(origin, route, rseq % 65536)] })

/-- Frames held behind a gap that are now due are delivered, at most n (R286). -/
def releaseHeldFrames (s : State) (origin route : Nat) : Nat → State
  | 0 => s
  | n + 1 =>
    match s.expectedRseq origin route with
    | none => s
    | some e =>
      match s.lanes.holding.find? fun h => h.origin == origin && h.route == route && h.rseq == e with
      | none => s
      | some h =>
        let s := s.putLanes { s.lanes with holding := dropFirst (fun x => x == h) s.lanes.holding }
        ((s.setExpected origin route (e + 1)).deliverStream h).releaseHeldFrames origin route n

/-- A stream frame for this hub: delivered once and in RSEQ order, held for a gap, or a second copy (R286). -/
def streamArrived (s : State) (h : HeldFrame) : State :=
  let e := (s.expectedRseq h.origin h.route).getD h.rseq
  if h.rseq == e then
    ((s.setExpected h.origin h.route (e + 1)).deliverStream h).releaseHeldFrames h.origin h.route s.lanes.holding.length
  else if seqLe h.rseq e || s.lanes.holding.any fun x => x.origin == h.origin && x.route == h.route && x.rseq == h.rseq then s.count R.lx_DUP_DISCARDS 1
  else s.putLanes { s.lanes with holding := s.lanes.holding ++ [h] }

/-- An accepted frame goes to its place: here, in CLASS 1 to the management cores, or out of the other bundle; one that has left there
by cut-through stays sent, unless that bundle has ended it since (R285, R286). -/
def frameArrived (s : State) (b : Nat) (f : RxFrame) : State :=
  let own := s.rd R.lx_CHAIN_ADDR
  let o := 1 - b
  let t : TxFrame := ⟨f.dest, f.origin, f.hops + 1, f.route, f.cls, f.rseq, f.late, f.dual, f.turned, f.octets, 0, 0⟩
  if f.dest == own then
    if f.cls == 0 then s.streamArrived ⟨f.origin, f.route, f.rseq, f.late, f.octets, s.time.edge⟩
    else s.emit (.cores b f.origin f.octets)
  else if f.origin == own || 255 ≤ f.hops then s.count R.lx_UNDELIVERABLE 1
  else if f.cutThrough && (s.bundle o).cut.isSome && s.rd (R.bu_BUNDLE_STATE o) == 2 then
    let x := s.bundle o
    let s := s.setBundle o { x with cut := none }
    ((if f.dual then s else s.setBundle o { s.bundle o with singleRelayAt := some s.time.edge }).sendOn o t).checkRules
  else if s.rd (R.bu_BUNDLE_STATE o) == 4 then turnFrame o s t
  else s.relayOut o t

/-- The frame in progress fails: discarded, a cut-through copy stomped, NAK sent (R282, R285). -/
def frameFails (s : State) (b : Nat) (nak : Bool) : State :=
  let s := match (s.bundle b).cur with
    | some f => if f.cutThrough && (s.bundle (1 - b)).cut.isSome then s.stompOut (1 - b) else s
    | none => s
  let s := s.setBundle b { s.bundle b with cur := none }
  if nak then s.sendNak b else s

/-- A header arrives on a locked lane: an invalid one is counted, and 24 of 128 lose the lock (R274). -/
def laneHeader (s : State) (l : Nat) (valid : Bool) : State :=
  let x := s.lane l
  let recent := lastN 128 (x.recent ++ [!valid])
  let s := s.setLane l { x with recent := recent }
  let s := if valid then s else s.count (R.ln_HDR_ERR l) 1
  if 24 ≤ (recent.filter id).length then
    let s := s.setLane l { s.lane l with recent := [], good := 0 }
    ((s.wr (R.ln_LANE_STATE l) 3).count (R.ln_LOCK_LOSSES l) 1).laneChanged l
  else s

/-- A control block has come on a lane: its bits go through the receiver's descrambler and run, and its header is one of the 128
consecutive ones (R272 to R274). -/
def heard (s : State) (l : Nat) (p : Block) : State :=
  if !s.laneLocked l then s
  else
    let x := s.lane l
    (s.setLane l { x with rx := (codeLine x.rx 9 p).2 }).laneHeader l true

/-- A lane's full training starts (R276). -/
def trainLane (s : State) (l : Nat) : State := (s.startTraining l).laneChanged l

/-- A lane's transmitter goes into electrical idle behind an IDLE_ENTER block, and its receiver holds its state (R277). -/
def goIdle (s : State) (l : Nat) : State :=
  let s := (s.sendBlock l 9 (ctlBlock 0x01 0)).idleLane l
  (s.setLane l { s.lane l with txIdle := true }).emit (.laneIdle l)

/-- A spare that may stand in for a lane: in mode 1 or 2, mapped to it, in service, standing in for none (R292). -/
def freeSpare (s : State) (l : Nat) : Option Nat :=
  [16, 17].find? fun k => s.part.laneFitted k && s.rd (R.ln_LANE_STATE k) != 6 && bitAt (s.rd (R.ln_SPARE_MAP k)) l && (s.lane k).standIn.isNone
    && (s.rd (R.ln_MODE k) == 1 || s.rd (R.ln_MODE k) == 2)

/-- A write of LANE_RESTORE: the repaired lane trains and its spare goes to standby (R349, R353). Value 0 names L0 (log
entry 121). -/
def laneRestoreAct (s : State) (l : Nat) : Ans :=
  if 16 ≤ l then (0x2141, s)
  else
    let k := s.servingLane l
    if k == l then
      if s.rd (R.ln_LANE_STATE l) == 6 then ok (s.trainLane l) else (0x4141, s)
    else
      let s := (s.setLane k { s.lane k with standIn := none }).goIdle k
      ok ((s.wr (R.ln_LANE_STATE k) 7).trainLane l)

/-- A spare stands in for a lane's place: logged, counted, and trained (R349). -/
def standIn (s : State) (k place : Nat) : State :=
  let s := s.setLane k { s.lane k with standIn := some place }
  ((s.logEvent 6 k 3).count R.cu_SUBSTITUTIONS 1).trainLane k

/-- Does a bundle carry no frames and no triggers, for a wiring fault or an address conflict (R276; log entry 157). -/
def carriesNone (s : State) (b : Nat) : Bool := s.rd (R.bu_BUNDLE_STATE b) == 5 || s.rd (R.bu_BUNDLE_STATE b) == 6

/-- The bit rate of a port: the bundle's working lanes, or the MAC's line (Table 11-1). -/
def portRate (s : State) (port : Nat) : Nat :=
  if port < 2 then s.bundleCapacity port
  else match (s.macLane (portMac port)).map fun l => s.rd (R.ln_MODE l) with
    | some 3 => 25000000000 | some 4 => 10000000000 | some 5 => 1000000000 | _ => 0

end State

/-- REMOTE_TRIGGER: a block is checked, deduplicated, delivered and relayed (R187); a bundle in wiring fault or address conflict
carries none (R276). -/
def remoteTrigger (dir lane : Nat) (payload : Block) (s : State) : State :=
  let s := s.heard lane payload
  let v := payload.toNat
  let origin := field v 247 240
  let hops := field v 239 232
  let seq := field v 223 208
  let t96 := field v 207 112
  let good := field v 31 0 == blockCrc payload && field v 255 248 == 0x0C && hops ≤ 127 && field v 226 224 == 0
    && field v 111 33 == 0 && t96Valid t96
  if !good then
    let s := s.count R.mx_RT_ERR 1
    if ctlOk 0x0C namedRemote payload then s else s.ctlErr
  else if s.carriesNone dir then s
  else
    let seen := s.matrix.seen.filter fun e => s.time.edge < e.2.2 + 1638400
    if seen.any fun e => e.1 == origin && e.2.1 == seq then s.count R.mx_RT_DUP 1
    else
      let s := s.putMatrix { s.matrix with seen := seen ++ [(origin, seq, s.time.edge)] }
      let s := (s.count R.mx_RT_RX 1).emit (.event (.remote (field v 231 227)) (ticksOfT96 t96) (bitAt v 32))
      if hops + 1 ≤ s.rd R.mx_RT_HOPS_MAX && origin != s.rd R.lx_CHAIN_ADDR then
        s.sendRemote (1 - dir) (remoteBlock origin (hops + 1) (field v 231 227) seq t96 (bitAt v 32))
      else s

/-- A lane that trains is in lock: it says in a TRAIN block that it is ready, once its EYE is above EYE_ALARM (Table 11-3 step 2). -/
def sayReady (l : Nat) (s : State) : State :=
  if s.bundleOf l < 2 && s.rd (R.ln_EYE_ALARM l) < s.eyeOf l then s.sendBlock l 9 (s.trainBlock l 2) else s

/-- Removed bits that were not the complement are counted (R273). -/
def runErrors (l n : Nat) (s : State) : State := if n == 0 then s else s.count (R.ln_RUN_ERR l) n

/-- HUNT_WINDOW: an unlocked receiver tests the header of the next window of 260 bits (R273, R274). -/
def huntWindow (lane : Nat) (line : List Bool) (s : State) : State :=
  let st := s.rd (R.ln_LANE_STATE lane)
  if !(st == 2 || st == 3) then s
  else match readLine (s.lane lane).rx line with
    | none => s
    | some (e, header, _, wrong) =>
      let s := runErrors lane wrong s
      let x : Lane := { s.lane lane with rx := e }
      if wrong == 0 && (header == 6 || header == 9) then
        if 127 ≤ x.good then
          let s := (s.setLane lane { x with good := 0, recent := [] }).wr (R.ln_LANE_STATE lane) 4
          (if st == 2 then sayReady lane s else s).laneChanged lane
        else s.setLane lane { x with good := x.good + 1 }
      else s.setLane lane { x with good := 0, slip := (x.slip + 1) % 260 }

/-- DATA_BLOCK: the line bits of a block arrive on a locked lane: a data block, or one whose header is invalid or counts as such, is
part of its bundle's frame (R272 to R274, R281). -/
def dataBlock (lane : Nat) (line : List Bool) (s : State) : State :=
  if !s.laneLocked lane then s
  else match readLine (s.lane lane).rx line with
  | none => s
  | some (e, header, payload, wrong) =>
    let valid := wrong == 0 && (header == 6 || header == 9)
    let s := runErrors lane wrong s
    let s := s.setLane lane { s.lane lane with rx := e }
    let b := s.bundleOf lane
    let s :=
      if 2 ≤ b || (valid && header == 9) then s
      else match (s.bundle b).cur with
        | none => s
        | some f => s.setBundle b { s.bundle b with cur := some { f with
            octets := f.octets ++ blockOctets payload, blocks := f.blocks + 1, badHeader := f.badHeader || !valid } }
    s.laneHeader lane valid

/-- IDLE_ENTER: the lane goes into electrical idle (R277). -/
def idleEnter (lane : Nat) (payload : Block) (s : State) : State :=
  let s := s.heard lane payload
  if !ctlOk 0x01 0 payload then s.ctlErr
  else
    let s := s.idleLane lane
    (s.wr (R.ln_LANE_STATE lane) (if 16 ≤ lane && (s.lane lane).standIn.isNone then 7 else 1)).laneChanged lane

/-- TRAIN: the peer's address, direction, mode and state (R276). On a spare that stands in for none it tells that the peer's spare
takes a place of its bundle: this one does the same in the bundle opposite, if its SPARE_MAP names the lane there (R292, R349). -/
def train (lane : Nat) (payload : Block) (s : State) : State :=
  let s := s.heard lane payload
  if !ctlOk 0x02 namedTrain payload then s.ctlErr
  else
    let v := payload.toNat
    let s := s.setLane lane { s.lane lane with
      peerAddr := field v 247 240, peerDir := field v 239 238, peerMode := field v 231 224, trainState := field v 223 216 }
    match (s.lanesOf (1 - field v 239 238))[field v 237 236]? with
    | some place =>
      if lane < 16 || 1 < field v 239 238 || s.freeSpare place != some lane || s.servingLane place != place then s
      else s.standIn lane place
    | none => s

/-- Has a lane been trained (Table 11-3): locked, its EYE above EYE_ALARM, and the peer ready in the lane's own mode (R279). -/
def trained (s : State) (l eye : Nat) : Bool :=
  s.laneLocked l && s.rd (R.ln_EYE_ALARM l) < eye && (s.lane l).trainState == 2 && (s.lane l).peerMode == s.rd (R.ln_MODE l)

/-- FULL_TRAINING_DONE: the live lanes of a bundle, MIN_LANES of them at least, have been trained and deskewed, at the EYE given of
each; the bundle goes into service, or into wiring fault or address conflict (R276); its replay buffer is sent again (R283). -/
def fullTrainingDone (b : Nat) (eyes : List Nat) (s : State) : State :=
  let st := s.rd (R.bu_BUNDLE_STATE b)
  let ls := ((s.lanesOf b).map s.servingLane).filter s.laneLive
  if b ≥ 2 || ls == [] || ls.length < s.rd (R.bu_MIN_LANES b) || !(st == 1 || st == 3 || st == 4)
    || !((ls.zip (List.range ls.length)).all fun e => trained s e.1 (eyes.getD e.2 0)) then s
  else
    let l0 := s.lane (ls.headD 0)
    let s := (s.wr (R.bu_PEER_ADDR b) l0.peerAddr).setBundle b { s.bundle b with peerLanes := 15 }
    if ls.any fun l => (s.lane l).peerAddr == s.rd R.lx_CHAIN_ADDR then (s.wr (R.bu_BUNDLE_STATE b) 6).raise 0x7112 b
    else if ls.any fun l => (s.lane l).peerDir == b then (s.wr (R.bu_BUNDLE_STATE b) 5).raise 0x7112 b
    else
      let x := s.bundle b
      let s := s.setBundle b { x with
        leftServiceAt := none, grant := if st == 1 then 65536 else x.grant }
      let s := (s.wr (R.bu_BUNDLE_STATE b) 2).settleBundle b
      let s := match (s.bundle b).replay with
        | [] => s
        | f :: _ => s.resendFrom b f.lseq
      s.pumpBundle b

/-- ACK: covered frames leave the replay buffer; credit and the peer's lanes follow (R283, R279). -/
def ack (b lane : Nat) (payload : Block) (s : State) : State :=
  let s := s.heard lane payload
  if !ctlOk 0x03 namedAck payload then s.ctlErr
  else
    let v := payload.toNat
    let x := s.bundle b
    let keep := x.replay.filter fun f => !seqLe f.lseq (field v 247 232)
    let s := s.setBundle b { x with
      replay := keep, credit := field v 231 208, peerLanes := field v 207 204
      lastAckAdvance := if keep.length < x.replay.length then s.time.edge else x.lastAckAdvance }
    ((s.replaySettle b).settleBundle b).pumpBundle b

/-- NAK: every frame from NAK_LSEQ on is sent again (R283). -/
def nak (b lane : Nat) (payload : Block) (s : State) : State :=
  let s := s.heard lane payload
  if !ctlOk 0x04 namedNak payload then s.ctlErr else s.resendFrom b (field payload.toNat 247 232)

/-- FILL: nothing else was due (R275). -/
def fill (lane : Nat) (payload : Block) (s : State) : State :=
  let s := s.heard lane payload
  if !ctlOk 0x05 0 payload then s.ctlErr else s

/-- SOF: a frame starts; one for another hub leaves by cut-through where the other bundle is idle with credit (R281,
R285). -/
def sof (b lane : Nat) (payload : Block) (s : State) : State :=
  let s := s.heard lane payload
  let v := payload.toNat
  let nblk := field v 183 172
  if !ctlOk 0x10 namedSof payload then s.ctlErr
  else if s.carriesNone b then s
  else if 1 < field v 217 216 || nblk == 0 || 2048 < nblk then s.frameFails b true
  else
    let s := if (s.bundle b).cur.isSome then s.frameFails b true else s
    let o := 1 - b
    let dest := field v 247 240
    let own := s.rd R.lx_CHAIN_ADDR
    let cut := dest != own && field v 239 232 != own && field v 231 224 < 255 && field v 199 184 == (s.bundle b).rxLseq
      && (s.bundle o).relay == [] && (s.bundle o).cut.isNone && s.canSend o (32 * nblk)
    let f : RxFrame := ⟨dest, field v 239 232, field v 231 224, field v 223 218, field v 217 216, field v 215 200,
      field v 199 184, nblk, bitAt v 171, bitAt v 170, bitAt v 169, [], 0, false, cut⟩
    let s := s.setBundle b { s.bundle b with cur := some f }
    if cut then
      s.setBundle o { s.bundle o with cut := some ⟨dest, f.origin, f.hops + 1, f.route, f.cls, f.rseq, f.late, f.dual, f.turned,
        [], (s.bundle o).txLseq, 1⟩ }
    else s

/-- EOF: the frame is accepted with ACK, discarded with NAK, or discarded for STOMP (R282). -/
def eof (b lane : Nat) (payload : Block) (s : State) : State :=
  let s := s.heard lane payload
  let v := payload.toNat
  let last := field v 231 226
  if !ctlOk 0x11 namedEof payload then
    let s := s.ctlErr
    if (s.bundle b).cur.isSome then s.frameFails b true else s
  else if s.carriesNone b then s
  else if last == 0 || 32 < last then s.frameFails b true
  else match (s.bundle b).cur with
    | none => s.sendNak b
    | some f =>
      if bitAt v 225 then s.frameFails b false
      else if f.badHeader || f.blocks != f.nblk || crc32c f.octets != field v 63 32 || f.lseq != (s.bundle b).rxLseq
          || field v 247 232 != f.lseq then s.frameFails b true
      else
        let x := s.bundle b
        let s := s.setBundle b { x with cur := none, rxLseq := (x.rxLseq + 1) % 65536, owed := x.owed + f.nblk + 2 }
        let f := { f with octets := f.octets.take (32 * (f.nblk - 1) + last) }
        ((s.frameArrived b f).grantCredit b).sendAck b

/-- TRAINING_BURST on a lane: its idle ends and the receiver is aligned; a long idle needs full training (R277). -/
def trainingBurstStep (lane : Nat) (s : State) : State :=
  let x := s.lane lane
  if !x.idle then s
  else if s.idleStale lane then s.trainLane lane
  else (s.setLane lane { x with idle := false, good := 127, recent := [] }).wr (R.ln_LANE_STATE lane) 3

/-- IDLE_EXIT_LOCK_TIMEOUT: a receiver not in lock after a burst trains in full (R277). -/
def idleExitLockTimeout (lane : Nat) (s : State) : State :=
  if s.rd (R.ln_LANE_STATE lane) == 3 then s.trainLane lane else s

/-- EYE_ALARM_TIMEOUT: the lane goes out of service, and a spare stands in if free (R278, R349). -/
def eyeAlarmTimeout (lane : Nat) (s : State) : State :=
  let st := s.rd (R.ln_LANE_STATE lane)
  if !(st == 2 || st == 4 || st == 5) then s
  else
    let place := ((s.lane lane).standIn).getD lane
    let s := s.setLane lane { s.lane lane with standIn := none }
    let s := (s.wr (R.ln_LANE_STATE lane) 6).logEvent 6 lane 7
    let breimlink := s.rd (R.ln_MODE place) == 1 || s.rd (R.ln_MODE place) == 2
    let s := match (if 16 ≤ place || !breimlink then none else s.freeSpare place) with
      | some k => s.standIn k place
      | none => s.logEvent 6 lane 6
    if s.rd (R.ln_BUNDLE place) < 2 then s.settleBundle (s.rd (R.ln_BUNDLE place)) else s

/-- ACK_INTERVAL: a receiver sends ACK at least every 10 µs (R282). -/
def ackInterval (b : Nat) (s : State) : State :=
  if s.rd (R.bu_BUNDLE_STATE b) == 2 then s.sendAck b else s

/-- RESEND_TIMEOUT: no ACK has advanced for 100 µs with frames outstanding (R283). -/
def resendTimeout (b : Nat) (s : State) : State :=
  match (s.bundle b).replay with
  | [] => s
  | f :: _ =>
    if s.rd (R.bu_BUNDLE_STATE b) == 2 && (s.bundle b).lastAckAdvance + 163840 ≤ s.time.edge then s.resendFrom b f.lseq else s

/-- BUNDLE_DOWN_TIMEOUT: a bundle not back in service 10 ms after leaving it is declared down (R283). -/
def bundleDownTimeout (b : Nat) (s : State) : State :=
  let long := match (s.bundle b).leftServiceAt with
    | some t => decide (t + 16384000 ≤ s.time.edge)
    | none => false
  if s.rd (R.bu_BUNDLE_STATE b) == 3 && long then s.downBundle b else s

/-- REORDER_HOLD_EXPIRY: a frame has been held for REORDER_HOLD, and the gap before the first is accepted and counted (R286). -/
def reorderHoldExpiry (origin route : Nat) (s : State) : State :=
  let mine := s.lanes.holding.filter fun h => h.origin == origin && h.route == route
  let e := (s.expectedRseq origin route).getD 0
  let dist (h : HeldFrame) : Nat := (h.rseq + 65536 - e) % 65536
  match mine with
  | [] => s
  | h :: t =>
    let m := (t.map dist).foldl min (dist h)
    if mine.all fun h => 10 * (s.time.edge - h.arrived) < s.rd R.lx_REORDER_HOLD * 16384 then s
    else ((s.count R.lx_RSEQ_GAPS m).setExpected origin route (e + m)).releaseHeldFrames origin route mine.length

/-- RELAY_LOAD_MEASURE: the relay load over 1 s (R287). -/
def relayLoadMeasure (b load : Nat) (s : State) : State :=
  (s.wr (R.bu_RELAY_LOAD b) (load % 2 ^ 64)).wrBit (R.bu_BFLAGS b) 0 (decide (s.rd (R.bu_RELAY_RESERVE b) < load % 2 ^ 64))

/-- ETHERNET_FRAME_RX: taken for PTP, ADP, ARP or neighbour solicitation, or discarded and counted (R291). -/
def ethernetFrameRx (mac : Nat) (fcsOk : Bool) (kind : EthKind) (s : State) : State :=
  let discard := s.count (R.ma_RX_DISCARDS mac) 1
  if !fcsOk then s.count (R.ma_FCS_ERR mac) 1
  else match kind with
    | .ptp => if s.rdB (R.pt_ENABLE mac) then s else discard
    | .adpDtls => s
    | .arp ip =>
      if ip != 0 && s.rd (R.ma_IPV4 mac) == ip then s.emitMac mac (.answerIp mac ip) else discard
    | .neighbour ip => if ip != 0 && s.rd (R.ma_IPV6 mac) == ip then s.emitMac mac (.answerIp mac ip) else discard
    | .pause quanta =>
      if s.rdB (R.ma_PAUSE_EN mac) then
        let rate := max 1 (s.portRate (4 + mac))
        s.putLanes { s.lanes with paused := tabPut 0 mac (s.time.edge + ceilDiv (quanta * 512 * edgesPerSec) rate) s.lanes.paused }
      else discard
    | .other => discard

/-- INJECTION_PERMIT_EXPIRY: PERMIT_UNTIL has passed, and active rules in Acquire stop (R294). -/
def injectionPermitExpiry (s : State) : State :=
  if s.mode.base == .acquire && t64Past (s.rd R.ij_PERMIT_UNTIL) s.now then
    s.each s.activeRules fun s i => s.stopRule i 3
  else s

/-- MAC_LINK_CHANGE: LINK follows, and frames that wait for the gateway route go on (R290). -/
def macLinkChange (mac : Nat) (up : Bool) (s : State) : State :=
  (s.wr (R.ma_LINK mac) (ofBool up)).pumpGateway s.lanes.gateway.length

end Sys2Proof.Machine
end

