-- ==== Sys2Proof/Machine/Hub.lean ====
section
/-! DEFINITION. The hub (chapter 1): die links with replay and retraining, the sideband, fabric parity, elastic buffers,
shedding, and wire substitution (R348). -/

namespace Sys2Proof.Machine

/-- The number of a flit's type (Table 1-2). -/
def flitType (f : Flit) : Nat := field f.toNat 1023 1020
/-- STREAM of a flit. -/
def flitStream (f : Flit) : Nat := field f.toNat 1019 1008
/-- COUNT of a flit. -/
def flitCount (f : Flit) : Nat := field f.toNat 1007 1003
/-- START of a flit. -/
def flitStart (f : Flit) : Bool := bitAt f.toNat 1002
/-- END of a flit. -/
def flitEnd (f : Flit) : Bool := bitAt f.toNat 1001
/-- The valid words of a flit, word 0 in [991:960]. -/
def flitData (f : Flit) : List Nat :=
  (List.range (flitCount f)).map fun i => field f.toNat (991 - 32 * i) (960 - 32 * i)

/-- Does a flit pass its check under a sequence number: CRC, TYPE, COUNT, and the bits sent as zero (R13, R14). -/
def flitOk (f : Flit) (seq : Nat) : Bool :=
  let t := flitType f
  let n := flitCount f
  field f.toNat 31 0 == flitCrc f seq && 1 ≤ t && t ≤ 5 && field f.toNat 1000 992 == 0 && n ≤ 30
    && (1 ≤ n || t == 4 || flitEnd f)

/-- A flit with the CRC of another sequence number (R14). -/
def reseal (f : Flit) (seq : Nat) : Flit :=
  let body := f.toNat / 2 ^ 32 * 2 ^ 32
  BitVec.ofNat 1024 (body + flitCrc (BitVec.ofNat 1024 body) seq)

/-- A value word that is missing is passed on as a GAP of one; markers stay (R337, R158). -/
def poisonWords : List Nat → List Nat
  | [] => []
  | w :: t =>
    if w < 2 ^ 31 then gapMarker 1 :: poisonWords t
    else if field w 30 28 == 1 then
      match t with
      | [] => [w]
      | v :: t => w :: v :: poisonWords t
    else w :: poisonWords t

/-- A direction whose link retrains: its receiver waits for nothing (R16). -/
def LinkDir.quiet (x : LinkDir) : LinkDir := { x with rxWait := false, replaying := false, behind := 0, fails := 0 }

namespace State

/-- LINK_STATE of a working link: 3 with spare wires in use, else 2 (Table 1-7). -/
def linkUpState (s : State) (d : Nat) : Nat :=
  if s.rd (R.di_SPARES_IN (d - 1)) == 0 && s.rd (R.di_SPARES_OUT (d - 1)) == 0 then 2 else 3

/-- The link retrains, and both ends hold their traffic; a link whose bad wires have no spare goes out of service the third
time in 1 s (R16, R348). -/
def retrainLink (s : State) (d : Nat) : State :=
  let x := s.link d
  let times := (x.retrains.filter fun t => s.time.edge < t + edgesPerSec) ++ [s.time.edge]
  let s := (s.setLink d { x with up := x.up.quiet, down := x.down.quiet, retrains := times, downSince := some s.time.edge }).count
    (R.di_RETRAINS (d - 1)) 1
  if x.wireStuck && 3 ≤ times.length then
    ((s.wr (R.di_LINK_STATE (d - 1)) 5).logEvent 1 d 7).raise 0x7011 d
  else s.wr (R.di_LINK_STATE (d - 1)) 4

/-- The fields of a flit (Table 1-2). -/
def flitRec (f : Flit) : FlitRec := ⟨flitType f, flitStream f, flitStart f, flitEnd f, flitData f⟩

/-- Has the hub die room for a flit: the elastic buffer of 1 MiB never overflows (R27). -/
def ebufRoom (s : State) (d : Nat) (toHub : Bool) (f : Flit) : Bool :=
  !toHub || 3 < flitType f || s.ebufOctets d + 4 * flitCount f ≤ 1048576

/-- A flit passes; at the hub die its words enter the elastic buffer of its die (R15, R27). -/
def acceptFlit (s : State) (d : Nat) (toHub : Bool) (f : Flit) : State :=
  let x := s.linkDir d toHub
  let s := s.setLinkDir d toHub { x.quiet with rxSeq := (x.rxSeq + 1) % 4096 }
  let s := if toHub && flitType f ≤ 3 then
      (s.setLink d { s.link d with ebuf := (s.link d).ebuf ++ [flitRec f] }).ebufSettle d
    else s
  if toHub then s.settleLink d else s

/-- A receiver discards a flit and all that follow, and asks for it again; after 16 replays that failed the link retrains
(R15, R16). -/
def refuseFlit (s : State) (d : Nat) (toHub : Bool) : State :=
  let x := s.linkDir d toHub
  if x.replaying && 16 ≤ x.fails + 1 then s.retrainLink d
  else
    let n := if x.replaying then x.fails + 1 else 0
    (s.setLinkDir d toHub { x with rxWait := true, replaying := false, behind := 0, fails := n }).emit (.replayRequest d toHub x.rxSeq)

/-- One wire is steered out by the spare of its group, or stays for want of one (R348). -/
def steerWire (s : State) (d g : Nat) : State :=
  let x := s.link d
  if x.wireGroups.contains g then (s.setLink d { x with wireStuck := true }).logEvent 1 d 6
  else
    let r := if g < 32 then R.di_SPARES_OUT (d - 1) else R.di_SPARES_IN (d - 1)
    let s := (s.setLink d { x with wireGroups := x.wireGroups ++ [g] }).count r 1
    let s := (s.wr R.cu_WIRE_SPARES (s.rd R.cu_WIRE_SPARES - 1)).count R.cu_SUBSTITUTIONS 1
    let s := (s.logEvent 1 d 3).logEvent 1 d 4
    if s.linkUp d then s.wr (R.di_LINK_STATE (d - 1)) (s.linkUpState d) else s

/-- A wire check of a link: a wire with WIRE_LIMIT errors is replaced (R16, R348; log entry 32). -/
def wireCheck (s : State) (d : Nat) : State :=
  let g := Config.wireGroup d s.freeCount % 64
  let n := Config.wireErrors d s.freeCount
  let s := s.bump
  if s.rd R.cu_WIRE_LIMIT ≤ n then s.steerWire d g else s

/-- The channels of a die that forward raw (R28). -/
def rawChannels (s : State) (d : Nat) : List Nat := (chansOfDie d).filter fun n => s.rdB (R.ch_RAW_FWD n)

/-- The Frit contexts that streams of a die feed (R28, R240). -/
def fritOfDie (s : State) (d : Nat) : List Nat :=
  let paths := (s.insts .path 0x01).filter fun p =>
    s.rdB (R.pa_ENABLE p) && s.rd (R.pa_SOURCE p) < s.part.channels && dieOf (s.rd (R.pa_SOURCE p)) == d
  ((paths.map fun p => s.rd (R.qu_FRIT_CTX (s.rd (R.pa_QUEUE p)))).filter fun c => c < 64).eraseDups

/-- The step of R28 that a die takes: raw forwarding ends; captures of lower priority close with OVERFLOW; frames of the die's
streams pass their contexts by, behind what those hold (R240). -/
def shedStep (s : State) (d k : Nat) : State :=
  let s := s.wr (R.di_SHED_LEVEL (d - 1)) k
  if k == 1 then s.each (s.rawChannels d) endRawStream
  else if k == 2 then s.each ((s.capOfDie d).filter s.shedCapture) fun s n => s.closeCapture n 3
  else s.each (s.fritOfDie d) setBypass

/-- The step of R28 that a die takes back (R29): raw forwarding starts again after a change of its stream (R137); captures
stopped by step 2 arm again, those that still close once they have. -/
def unshedStep (s : State) (d k : Nat) : State :=
  let s := s.wr (R.di_SHED_LEVEL (d - 1)) (k - 1)
  if k == 1 then
    s.each ((s.rawChannels d).filter s.converting) fun s n => s.quickChange n false
  else if k == 2 then
    s.each ((s.capOfDie d).filter fun n => (s.cap n).shedStop) fun s n =>
      if s.rd (R.pu_ARM_STATE n) == 5 then s.armOrStop n else s
  else s

/-- LAG shows a die's lag, saturated (Table 1-7). -/
def showLag (s : State) (d lagNs : Nat) : State := s.wr (R.di_LAG (d - 1)) (min lagNs 0xFFFFFFFF)

/-- Is a sideband message a write to an entry behind the fence: one whose transfer has not started has no effect (R115). -/
def sbFenced (s : State) (m : SbMsg) : Bool :=
  match entryAt s.part (m.target / 256) (m.target % 256) with
  | some (r, _) => s.fenced r
  | none => false

/-- A write that a sideband transfer brings to an entry of its front die (R19; log entry 33): the target is
INDEX × 256 + SUB. -/
def sidebandApply (s : State) (d target : Nat) (data : List Byte) : State :=
  match entryAt s.part (target / 256) (target % 256) with
  | none => s
  | some (r, w) =>
    let mine := match r.grp with
      | .die => r.inst + 1 == d
      | .channel | .punty => dieOf r.inst == d
      | .quad | .sliceSpare => r.inst / 32 + 1 == d
      | .bank => r.inst / 4 + 1 == d
      | .ageing => r.inst == d
      | _ => false
    if mine && data.length == w.ty.octets then s.wr r (leNat data) else s

end State

/-- FLIT_RX: a receiver, at the hub die or at the front die, checks a flit, and accepts it or discards it and asks for a
replay; while it waits for a failed flit to arrive again every other is discarded, in silence, and of those the replay sends a
bad one is that flit failing again (R13 to R16, R27; log entry 134). -/
def flitRx (d : Nat) (toHub : Bool) (f : Flit) (s : State) : State :=
  if !s.linkUp d then s
  else
    let x := s.linkDir d toHub
    let s := s.setLink d { s.link d with windowFlits := (s.link d).windowFlits + 1 }
    if x.rxWait && !x.replaying then s.setLinkDir d toHub { x with behind := x.behind + 1 }
    else if x.rxWait && 0 < x.behind && !flitOk f x.rxSeq then s.setLinkDir d toHub { x with behind := x.behind - 1 }
    else if !flitOk f x.rxSeq then
      (s.count (if toHub then R.di_CRC_ERR_IN (d - 1) else R.di_CRC_ERR_OUT (d - 1)) 1).refuseFlit d toHub
    else if s.ebufRoom d toHub f then s.acceptFlit d toHub f
    else s.refuseFlit d toHub

/-- LINK_REPLAY_REQUEST: the transmitter of a direction sends the failed flit and every later one again, in order (R15). -/
def linkReplayRequest (d : Nat) (toHub : Bool) (seq : Nat) (s : State) : State :=
  let x := s.linkDir d toHub
  let n := (x.txSeq + 4096 - seq % 4096) % 4096
  if !s.linkUp d || n == 0 || x.history.length < n then s
  else
    let s := s.setLink d { s.link d with windowReplays := (s.link d).windowReplays + n }
    let s := s.setLinkDir d toHub { x with replaying := x.rxWait, behind := n - 1 - x.behind }
    (s.count (R.di_REPLAYS (d - 1)) n).each (lastN n x.history) fun s f => s.wireFlit d toHub f

/-- A direction counts from 0 again; the flits not yet accepted are sent under their new numbers, and what was held follows
(R14, R16, R22). -/
def State.restartDir (s : State) (d : Nat) (toHub : Bool) : State :=
  let x := s.linkDir d toHub
  let left := lastN ((x.txSeq + 4096 - x.rxSeq) % 4096) x.history
  let again := (left.zip (List.range left.length)).map fun p => reseal p.1 p.2
  let s := s.setLinkDir d toHub { x.quiet with rxSeq := 0, txSeq := again.length % 4096, history := again }
  (s.each again fun s f => s.wireFlit d toHub f).releaseFlits d toHub

/-- LINK_RETRAIN_DONE: the link of a fitted die has trained, and both directions start again (R14, R16, R22, R117). -/
def linkRetrainDone (d : Nat) (s : State) : State :=
  let st := s.rd (R.di_LINK_STATE (d - 1))
  if s.part.fronts < d || !(st == 1 || st == 4) then s
  else
    let s := s.wr (R.di_LINK_STATE (d - 1)) (s.linkUpState d)
    let s := s.setLink d { s.link d with downSince := none }
    let s := ((s.restartDir d true).restartDir d false).settleLink d
    if s.rd (R.di_DIE_STATE (d - 1)) != 3 then s
    else (s.wr (R.di_DIE_STATE (d - 1)) 1).each ((List.range 4).map (4 * (d - 1) + ·)) State.commandBank

/-- LINK_REPLAY_WINDOW: more than one flit in 64 replayed in the window means a degraded link and a wire check
(R16). -/
def linkReplayWindow (d : Nat) (s : State) : State :=
  let x := s.link d
  let bad := decide (x.windowFlits < 64 * x.windowReplays)
  let s := s.setLink d { x with windowFlits := 0, windowReplays := 0, degraded := bad }
  if bad then (s.logEvent 1 d 2).wireCheck d else s

/-- The sideband bus of an idle link goes to the side that asks for it; where both ask, the front die withdraws (R19). What the hub
die has not started to write behind a fence is dropped (R115). -/
def State.arbitrate (s : State) (d : Nat) : State :=
  let x := s.link d
  let x := { x with sbHub := x.sbHub.filter fun m => !s.sbFenced m }
  if x.sbPhase != .idle then s
  else match x.sbHub, x.sbFront with
    | [], [] => s.setLink d x
    | _ :: _, [] => s.setLink d { x with sbPhase := .hub }
    | [], _ :: _ => s.setLink d { x with sbPhase := .front }
    | _ :: _, _ :: _ => (s.setLink d { x with sbPhase := .hub, sbWithdrawn := true }).count (R.di_SB_COLLISIONS (d - 1)) 1

/-- SIDEBAND_REQUEST: in one sideband cycle the hub die, the front die or both ask for the bus, each for a message of its own;
`early` tells that the front die, whose transfer has begun, has not sent its first data cycle. At a collision the hub die
proceeds and the front die withdraws; during its backoff the hub die waits, and the retry meets no collision (R19). -/
def sidebandRequest (d : Nat) (hub front : Option SbMsg) (early : Bool) (s : State) : State :=
  let x := s.link d
  let hub := hub.filter fun m => !s.sbFenced m
  let x := { x with sbHub := x.sbHub ++ hub.toList, sbFront := x.sbFront ++ front.toList }
  if x.sbPhase == .front && hub.isSome && early then
    (s.setLink d { x with sbPhase := .hub, sbWithdrawn := true }).count (R.di_SB_COLLISIONS (d - 1)) 1
  else (s.setLink d x).arbitrate d

/-- SIDEBAND_BACKOFF_EXPIRY: 64 sideband cycles after the hub die's transfer the front die asks again, and its retry succeeds (R19). -/
def sidebandBackoffExpiry (d : Nat) (s : State) : State :=
  let x := s.link d
  if x.sbPhase == .backoff then s.setLink d { x with sbPhase := .retry } else s

/-- SIDEBAND_TRANSFER_END: what a good transfer carries is applied, and the bus is free, or the front die that withdrew backs
off; a failed transfer is repeated (R19). -/
def sidebandTransferEnd (d : Nat) (crcOk : Bool) (s : State) : State :=
  let x := s.link d
  let msgs := match x.sbPhase with | .hub => x.sbHub | .front | .retry => x.sbFront | _ => []
  match msgs with
  | [] => s
  | m :: t =>
    let s := s.emit (.sideband d m.target m.data)
    if !crcOk then s
    else
      let y := if x.sbPhase == .hub then
          { x with sbHub := t, sbPhase := if x.sbWithdrawn then .backoff else .idle, sbWithdrawn := false }
        else { x with sbFront := t, sbPhase := .idle }
      ((s.setLink d y).arbitrate d).sidebandApply d m.target m.data

/-- FABRIC_PARITY_ERROR: a word fails parity at an output port and is sent again; one that fails again reaches it poisoned
(R21, R337). A poisoned input of the Lehr is missing, a poisoned frame is completed as ABORTED, a DRAM controller writes the word with check bits
of a double-bit error, and any other unit discards it. -/
def fabricParityError (port dest : Nat) (again : Bool) (s : State) : State :=
  let s := s.count R.ig_FABRIC_PARITY 1
  if !again then s
  else
    let s := ((s.count R.ig_FABRIC_POISON 1).logEvent 3 dest 1).raise 0x7141 dest
    if dest == 12 && port < 7 then
      let x := s.link (port + 1)
      match x.ebuf with
      | [] => s
      | e :: t => (s.setLink (port + 1) { x with ebuf := { e with words := poisonWords e.words } :: t }).ebufSettle (port + 1)
    else if dest == 14 then s.putPoisoned true
    else if 7 ≤ dest && dest ≤ 10 then s.setDramCh (dest - 7) { s.dramCh (dest - 7) with poisoned := true }
    else s

/-- SLIP_LIMIT_SHED: a die whose lag exceeds its slip limit sheds its next step; after step 3 it takes no further one
(R28). -/
def slipLimitShed (d lagNs : Nat) (s : State) : State :=
  let s := s.showLag d lagNs
  let k := s.rd (R.di_SHED_LEVEL (d - 1))
  if lagNs ≤ s.rd (R.di_SLIP_LIMIT (d - 1)) || 3 ≤ k then s
  else (s.shedStep d (k + 1)).count (R.di_SHED_EVENTS (d - 1)) 1

/-- SHED_RESTORE: a die whose lag has stayed below half the slip limit restores its last shed step (R29). -/
def shedRestore (d lagNs : Nat) (s : State) : State :=
  let s := s.showLag d lagNs
  let k := s.rd (R.di_SHED_LEVEL (d - 1))
  if s.rd (R.di_SLIP_LIMIT (d - 1)) ≤ 2 * lagNs || k == 0 then s else s.unshedStep d k

/-- A write of EBUF_PEAK_CLR clears EBUF_PEAK (Table 1-7). -/
def State.ebufPeakClrAct (s : State) (d : Nat) (on : Bool) : Ans :=
  ok (if on then s.wr (R.di_EBUF_PEAK (d - 1)) 0 else s)

end Sys2Proof.Machine
end

