-- ==== Sys2Proof/Machine/Time.lean ====
section
/-! DEFINITION. Hub time and chain time (chapter 2): the counter, the loop, the states, steps, Breimlink time, PTP, time
triggers, PPS and launch. -/

namespace Sys2Proof.Machine

/-- INCR of an unsteered counter: 40,000 ticks (R31). -/
def incrNominal : Nat := 40000 * 2 ^ 32

/-- The source codes of a priority list, first choice first, up to the first 0x0 (R38). -/
def priorityList (v : Nat) : List Nat := ((List.range 8).map fun i => v / 16 ^ i % 16).takeWhile (· != 0)

/-- Does a priority list keep R38: no code twice, none above 0x7, nothing after its end. -/
def priorityOk (v : Nat) : Bool :=
  let l := priorityList v
  l.all (· ≤ 7) && l.eraseDups.length == l.length && v < 16 ^ l.length

/-- A beacon's payload, Table 2-2. -/
def beaconBlock (gm hops : Nat) (valid holdover tai : Bool) (seq t96 peerT64 peerSeq : Nat) : Block :=
  let body := 0x0B * 2 ^ 248 + gm % 256 * 2 ^ 240 + hops % 256 * 2 ^ 232 + ofBool valid * 2 ^ 231 + ofBool holdover * 2 ^ 230
    + ofBool tai * 2 ^ 229 + seq % 65536 * 2 ^ 208 + t96 % 2 ^ 96 * 2 ^ 112 + peerT64 % 2 ^ 64 * 2 ^ 48 + peerSeq % 65536 * 2 ^ 32
  BitVec.ofNat 256 (body + blockCrc (BitVec.ofNat 256 body))

/-- Does a beacon keep Table 2-2 (R46). -/
def beaconOk (p : Block) : Bool :=
  let v := p.toNat
  let h := field v 239 232
  field v 255 248 == 0x0B && field v 31 0 == blockCrc p && field v 228 224 == 0 && (h ≤ 128 || h == 255)
    && t96Valid (field v 207 112)

/-- exp(-x) for x in 2^-64, in 2^-64: the third-order series of x/65536, to the power 65536. -/
def expNeg (x : Nat) : Nat :=
  if 64 * 2 ^ 64 ≤ x then 0
  else
    let y := x / 2 ^ 16
    let one := 2 ^ 64
    let t := one - y + y * y / one / 2 - y * y * y / one / one / 6
    (List.range 16).foldl (fun v _ => v * v / one) t

/-- The weight, in 2^-32, of a measurement in a first-order low-pass with its corner at ten times a bandwidth in mHz, a number
of main-clock edges after the last: 1 - exp(-20 π BW t) (R396; log entry 4). -/
def filterWeight (bw edges : Nat) : Nat :=
  2 ^ 32 - expNeg (bw * edges * 62831853 * 2 ^ 64 / (1000000000 * edgesPerSec)) / 2 ^ 32

/-- The step of the integral path, in 10^-12, for an offset in ticks over a number of main-clock edges: ω² times offset times
time, with ω = 2.5311 BW for a damping factor of 1 (R396; log entry 4). -/
def loopIntegral (bw : Nat) (off : Int) (edges : Nat) : Int :=
  off * (1000 * 25311 ^ 2 * bw ^ 2 * edges : Nat) / ((65536 * 10 ^ 14 * edgesPerSec : Nat) : Int)

/-- The slew of the proportional path, in 10^-12, for an offset in ticks: 2 ω times the offset (R34, R396; log entry 4). -/
def loopSlew (bw : Nat) (off : Int) : Int := off * (2 * 25311 * bw : Nat) / (65536 * 10000)

namespace State

/-- The segments of oscillator words of LOCKED, newest first, up to the edges of a time (R43). -/
def wordsWithin : Nat → List (Nat × Int) → List (Nat × Int)
  | _, [] => []
  | e, p :: t => if e ≤ p.1 then [(e, p.2)] else p :: wordsWithin (e - p.1) t

/-- The word in force until now joins the history while the hub is LOCKED (R43). -/
def closeWord (s : State) : State :=
  if s.rd R.tm_TIME_STATE != 2 then s
  else
    let d := s.time.edge - s.time.wordEdge
    let h := wordsWithin (3600 * edgesPerSec) ((d, s.time.integ) :: s.time.wordHist)
    (s.putTime { s.time with wordHist := h, wordEdge := s.time.edge })

/-- FREQ_ADJ and INCR follow the frequency correction and the slew (R31, R33, R34): under PLL steering the correction is the
oscillator word, under counter steering part of INCR, whose integer part is kept in 39,996 to 40,004. STATE_FLAGS bit 4
shows a slew. -/
def steer (s : State) : State :=
  let base : Int := incrNominal
  let counter := s.rd R.tm_STEER_MODE == 1
  let f := if counter then s.time.integ * base / 1000000000000 else 0
  let v := clampInt (39996 * 2 ^ 32) (40005 * 2 ^ 32 - 1) (base + f + s.time.slew * base / 1000000000000)
  ((s.wrI R.tm_FREQ_ADJ 32 (if counter then 0 else s.time.integ)).wr R.tm_INCR v.toNat).wrBit R.tm_STATE_FLAGS 4 (s.time.slew != 0)

/-- The loop's frequency correction and slew, both in 10^-12, take effect (R33, R34, R396). -/
def setWord (s : State) (w slew : Int) : State :=
  let s := s.closeWord
  (s.putTime { s.time with integ := w, slew := slew }).steer

/-- The condition of PPS_OUT_QUALIFY with PPS_OUT_EN (R59). -/
def ppsQualified (s : State) : Bool :=
  let st := s.rd R.tm_TIME_STATE
  s.rdB R.la_PPS_OUT_EN && (match s.rd R.la_PPS_OUT_QUALIFY with
    | 0 => true
    | 1 => st == 2
    | _ => st == 2 || st == 3)

/-- PPS_OUT goes to a level; the ball has number 1. -/
def setPps (s : State) (on : Bool) : State :=
  if s.time.ppsHigh == on then s else (s.putTime { s.time with ppsHigh := on }).emit (.pin 1 on)

/-- While its condition is false, PPS_OUT is low (R59). -/
def settlePps (s : State) : State := if s.ppsQualified then s else s.setPps false

/-- Hub time enters a state of Table 2-1. -/
def setTimeState (s : State) (v : Nat) : State := (s.wr R.tm_TIME_STATE v).settlePps

/-- The word that HOLDOVER holds: its mean over the last HOLD_AVG seconds of LOCKED, or its present value (R43; log entry 67). -/
def holdWord (s : State) : Int :=
  let h := wordsWithin (s.rd R.tm_HOLD_AVG * edgesPerSec) s.time.wordHist
  let n := h.foldl (fun a p => a + p.1) 0
  if !s.time.lockedSinceUnset || n == 0 then s.time.integ else roundEven (h.foldl (fun a p => a + p.2 * p.1) 0) n

/-- The hub enters HOLDOVER (R36, R43). -/
def enterHoldover (s : State) : State :=
  if s.rd R.tm_TIME_STATE == 3 then s
  else
    let s := s.closeWord
    let s := (s.setTimeState 3).wr R.tm_HOLDOVER_SINCE s.now96
    s.setWord s.holdWord 0

/-- Has REFCLK been lost (STATE_FLAGS bit 2). -/
def refclkLostNow (s : State) : Bool := bitAt (s.rd R.tm_STATE_FLAGS) 2

/-- Is a step pending (STATE_FLAGS bit 0). -/
def stepPending (s : State) : Bool := bitAt (s.rd R.tm_STATE_FLAGS) 0

/-- The step threshold in ticks. -/
def stepThreshold (s : State) : Nat := s.rd R.tm_STEP_THRESHOLD * ticksPerNs

/-- An offset within the step threshold. -/
def withinStep (s : State) (off : Int) : Bool := off.natAbs ≤ s.stepThreshold

/-- A time trigger fires (R58): its time, whether late, and the periods that are skipped. -/
def fireTrigger (s : State) (k : Nat) (late : Bool) : State :=
  let behind := (-t64Diff (s.rd (R.tr_TARGET k)) s.now).toNat
  let t := if late then s.now else s.now - behind
  let s := (s.count (R.tr_FIRED k) 1).emit (.event (.timer k) t late)
  let s := if late then s.count (R.tr_LATE k) 1 else s
  let p := s.rd (R.tr_PERIOD k)
  if p == 0 then s.wr (R.tr_ENABLE k) 0
  else
    let skipped := behind / p
    let s := if skipped == 0 then s else s.count (R.tr_LATE k) skipped
    s.wr (R.tr_TARGET k) ((s.rd (R.tr_TARGET k) + (skipped + 1) * p) % 2 ^ 64)

/-- Hub time jumps by an accepted step (kind 2) or a set (kind 3) (R42): targets passed over fire late, the Lehr and
Punty mark what follows, and the sources' offsets are counted from the new time. The fraction below the tick stays (log
entry 117). -/
def jumpTime (s : State) (delta : Int) (kind : Nat) : State :=
  let old := s.now
  let new := ((old : Int) + delta).toNat
  let srcs := s.time.sources.map fun e => (e.1, { e.2 with offset := e.2.offset - delta })
  let jumps := (⟨s.time.edge, delta, kind == 3⟩ : TimeJump) :: s.time.jumps.filter fun j => s.time.edge < j.edge + 2 ^ 47
  let s := s.putTime { s.time with ticks := new, sources := srcs, jumps := jumps }
  let due := (List.range 16).filter fun k =>
    s.rdB (R.tr_ENABLE k) && t64Past (s.rd (R.tr_TARGET k)) new && !t64Past (s.rd (R.tr_TARGET k)) old
  let s := s.each due fun s k => s.fireTrigger k true
  let s := s.each ((s.paths.filter fun e => e.2.live).map (·.1)) (jumpPath delta kind old)
  s.each s.capChannels fun s n => s.closeCapture n 4

/-- The bandwidth of the loop for a source, in mHz (R396). -/
def loopBw (s : State) (src : Nat) : Nat := if src == 1 then s.rd R.tm_LOOP_BW_BL else s.rd R.tm_LOOP_BW_PTP

/-- The offset that the loop filter gives for a measurement (R396; log entry 4). -/
def loopFiltered (s : State) (off : Int) : Int :=
  let src := s.rd R.tm_SRC_SELECTED
  let f0 := s.rdI R.tm_OFFSET 64
  f0 + (off - f0) * filterWeight (s.loopBw src) (s.time.edge - (s.source src).last) / 2 ^ 32

/-- The frequency correction that the integral path asks for, in 10^-12 (R396). -/
def loopWant (s : State) (off : Int) : Int :=
  let src := s.rd R.tm_SRC_SELECTED
  s.time.integ + loopIntegral (s.loopBw src) (s.loopFiltered off) (s.time.edge - (s.source src).last)

/-- The source's measurement enters the loop (R396; log entry 4): the filter gives OFFSET, the integral path the frequency
correction, the proportional path a slew of no more than SLEW_MAX (R34). A source that needs more than ±100 ppm holds the
word at the limit (R35). Source 7 leaves the loop at rest. -/
def loopIn (s : State) (off : Int) : State :=
  let src := s.rd R.tm_SRC_SELECTED
  if src == 7 then (s.wrI R.tm_OFFSET 64 0).setWord s.time.integ 0
  else
    let f := s.loopFiltered off
    let want := s.loopWant off
    let word := clampInt (-100000000) 100000000 want
    let m : Int := s.rd R.tm_SLEW_MAX * 1000
    let s := (s.wrI R.tm_OFFSET 64 f).setWord word (clampInt (-m) m (loopSlew (s.loopBw src) f))
    if word == want then s else (s.putTime { s.time with breach := true }).wrBit R.tm_STATE_FLAGS 3 true

/-- The hub sets its time from UNSET (R37): through ACQUIRING, to HOLDOVER at once without a qualified source. -/
def setHubTime (s : State) (delta : Int) (tenant : Nat) : State :=
  let s := s.jumpTime delta 3
  let s := (s.setTimeState 1).legalNotice (.timeSet tenant s.now)
  if s.rd R.tm_SRC_SELECTED == 0 || s.refclkLostNow then s.enterHoldover else s

/-- A run of measurements above the threshold is discarded and counted (R39). -/
def dropRun (s : State) : State :=
  if s.time.run == 0 then s
  else (s.count R.tm_OUTLIERS s.time.run).putTime { s.time with run := 0 }

/-- A measurement of the selected source is judged (R37, R39, R44, R396). -/
def judge (s : State) (off : Int) : State :=
  if s.refclkLostNow then s.wrI R.tm_OFFSET 64 off
  else if s.rd R.tm_TIME_STATE == 0 then s.setHubTime off 0xFFFF
  else if s.stepPending then s.wrI R.tm_PENDING_STEP 64 off
  else if !s.withinStep off then
    let n := s.time.run + 1
    if n < s.rd R.tm_STEP_PERSIST then s.putTime { s.time with run := n }
    else
      let s := s.putTime { s.time with run := 0 }
      let s := (s.wrI R.tm_PENDING_STEP 64 off).wrBit R.tm_STATE_FLAGS 0 true
      (s.count R.tm_STEP_REFUSED 1).enterHoldover
  else
    let s := s.dropRun
    let s := if s.rd R.tm_TIME_STATE == 3 then s.setTimeState 1 else s
    s.loopIn off

/-- No breach of R35 stands yet in what is now judged. -/
def noBreach (s : State) : State := s.putTime { s.time with breach := false }

/-- The first qualified source of the list is selected; a change withdraws a pending step and ends a run, and is handled
like a measurement (R38, R39). STATE_FLAGS bit 1 shows that none is qualified. -/
def selectFirst (s : State) : State :=
  let best := ((priorityList (s.rd R.tm_SRC_PRIORITY)).find? fun c => (s.source c).qualified).getD 0
  let s := s.wrBit R.tm_STATE_FLAGS 1 (best == 0)
  if best == s.rd R.tm_SRC_SELECTED then s
  else
    let s := (s.dropRun.wrBit R.tm_STATE_FLAGS 0 false).wr R.tm_SRC_SELECTED best
    if best != 0 then s.judge (s.source best).offset
    else if s.rd R.tm_TIME_STATE == 1 || s.rd R.tm_TIME_STATE == 2 then s.enterHoldover else s

/-- A selected source that breaches R35 is disqualified, and the next is selected, until one does not (R35, R38). -/
def settleBreach : Nat → State → State
  | 0, s => s
  | k + 1, s =>
    if !s.time.breach then s
    else
      let src := s.rd R.tm_SRC_SELECTED
      let s := s.putTime { s.time with breach := false }
      settleBreach k (s.setSource src { s.source src with seen := false, qualified := false }).selectFirst

/-- The selected source follows the list, the qualifications and the breaches, and Breimlink's direction follows it (R35, R38,
R48). -/
def reselect (s : State) : State := (settleBreach 8 s.noBreach.selectFirst).settleDir

/-- A source is disqualified (R38). A step pending from it is withdrawn. -/
def disqualify (s : State) (src : Nat) : State :=
  (s.setSource src { s.source src with seen := false, qualified := false }).reselect

/-- A measurement of a source arrives (R38, R39). One that breaches R35 disqualifies its source. -/
def measure (s : State) (src : Nat) (off : Int) : State :=
  if src == 0 || 7 < src || (src == 7 && !s.mode.refclk) then s
  else
    let off := if src == 7 then 0 else off
    let s := s.setSource src { s.source src with seen := true, offset := off }
    if s.rd R.tm_SRC_SELECTED == src then
      let s := s.noBreach.judge off
      (settleBreach 8 (s.setSource src { s.source src with last := s.time.edge })).settleDir
    else (s.setSource src { s.source src with last := s.time.edge }).settleDir

/-- May a source qualify (R38): valid beacons, a PTP port in SLAVE, four PPS edges 1 s ± 1 µs apart. -/
def mayQualify (s : State) (src : Nat) : Bool :=
  (s.source src).seen && (match src with
    | 1 => s.bestDir != 255
    | 6 =>
      let l := s.time.lastPps
      l.length == 4 && (l.zip (l.drop 1)).all fun p =>
        decide (ticksPerSec ≤ p.2 - p.1 + 65536000) && decide (p.2 - p.1 ≤ ticksPerSec + 65536000)
    | 7 => s.mode.refclk
    | _ => if 2 ≤ src && src ≤ 5 then s.rd (R.pt_PORT_STATE (src - 2)) == 9 else false)

/-- A write of SET_TIME by a tenant (R37). -/
def setTimeAct (s : State) (tenant v : Nat) : Ans :=
  if !t96Valid v then (0x2021, s)
  else if s.rd R.tm_TIME_STATE != 0 then (0x3023, s)
  else ok ((s.setHubTime ((ticksOfT96 v : Int) - s.now) tenant).settleDir)

/-- A write of ACCEPT_STEP by a tenant (R40). -/
def acceptStepAct (s : State) (tenant : Nat) (v : Int) : Ans :=
  if !s.stepPending then (0x3021, s)
  else
    let p := s.rdI R.tm_PENDING_STEP 64
    if 6553600 < (v - p).natAbs then (0x3022, s)
    else
      let accepted (u : State) : State :=
        let u := (u.count R.tm_STEPS_ACCEPTED 1).legalNotice (.stepAccepted tenant s.now v p)
        if u.refclkLostNow then u else u.setTimeState 1
      let s := s.wrBit R.tm_STATE_FLAGS 0 false
      ok (if s.withinStep p then settleBreach 8 (accepted (s.noBreach.loopIn p)) else accepted (s.jumpTime p 2)).settleDir

/-- A transmit timestamp entry joins a MAC's queue, or is dropped when it holds 16 (R53, R54). -/
def pushStamp (s : State) (m : Nat) (e : TxStamp) : State :=
  let x := s.ptp m
  if 16 ≤ x.stamps.length then (s.count (R.pt_TXTS_OVERFLOW m) 1).wr (R.pt_TXTS_STICKY m) 1
  else s.setPtp m { x with stamps := x.stamps ++ [e] }

/-- A write of TXTS_POP (R53). -/
def txtsPopAct (s : State) (m : Nat) (on : Bool) : Ans :=
  ok (if on then s.setPtp m { s.ptp m with stamps := (s.ptp m).stamps.drop 1 } else s)

/-- A write of TXTS_STICKY_CLR (R54). -/
def txtsStickyClrAct (s : State) (m : Nat) (on : Bool) : Ans := ok (if on then s.wr (R.pt_TXTS_STICKY m) 0 else s)

/-- The bits that a frame of n octets takes on a port's line: on Breimlink its SOF, blocks and EOF of 260 bits (R281), on
Ethernet with header, check sequence, padding to 64 octets, preamble and gap (PRESUMED, log entry 118). -/
def lineBits (port n : Nat) : Nat := if port < 2 then (dataBlocks n + 2) * 260 else 8 * (8 + max 64 (14 + n + 4) + 12)

/-- The ticks that a frame of n octets takes on a port. -/
def portTicks (s : State) (port n : Nat) : Nat :=
  let r := s.portRate port
  if r == 0 then 0 else ceilDiv (lineBits port n * ticksPerSec) r

/-- TX_LAT of a port's MAC; none on a bundle (R52). -/
def txLat (s : State) (port : Nat) : Nat := if port < 2 then 0 else s.rd (R.pt_TX_LAT (portMac port))

/-- Has a port room for a frame: on a bundle in service replay room and credit, on a bundle that is down the turn, on a
MAC its link, and no received PAUSE (R57, R283, R285, R290). -/
def portRoom (s : State) (port n : Nat) : Bool :=
  if port < 2 then s.canSend port n || s.rd (R.bu_BUNDLE_STATE port) == 4 else s.macRoom (portMac port)

/-- The head frame of a route leaves on its port under the next RSEQ, on both bundles with DUAL (R284, R53). -/
def sendRoute (s : State) (r port : Nat) (f : Frame) (late : Bool) : State :=
  let q := s.rd (R.ro_QUEUE r)
  let f := { f with late := late }
  let hub := s.rd R.lx_CHAIN_ADDR
  let dual := s.rdB (R.ro_DUAL r) && port < 2
  let tx : TxFrame := ⟨s.rd (R.ro_DEST r), hub, 0, r, 0, s.rd (R.ro_RSEQ r), late, dual, false, streamFrame hub q f, 0, 0⟩
  let s := s.wr (R.ro_RSEQ r) ((s.rd (R.ro_RSEQ r) + 1) % 65536)
  let s := if dual then (s.sendPort r 0 tx).sendPort r 1 tx else s.sendPort r port tx
  let m := portMac port
  let s := if 2 ≤ port && launchTs f.launch then
      s.pushStamp m ⟨launchId f.launch, true, late, false, s.now + s.txLat port⟩ else s
  s.popHead q

/-- A late frame by LATE_POLICY: sent late, or dropped and counted (R57, R223). -/
def lateFrame (s : State) (r port : Nat) (f : Frame) : State :=
  let q := s.rd (R.ro_QUEUE r)
  if s.rd (R.qu_LATE_POLICY q) == 1 then (s.count R.la_LAUNCH_LATE 1).sendRoute r port f true
  else
    let s := s.count R.la_LAUNCH_DROPPED 1
    let s := if 2 ≤ port && launchTs f.launch then s.pushStamp (portMac port) ⟨launchId f.launch, false, false, true, 0⟩ else s
    s.popHead q

/-- Would a frame of n octets still be in transmission when a frame held at the port has to start (R56). -/
def heldInWay (s : State) (port n : Nat) : Bool :=
  s.lanes.portHeld.any fun e => e.1 == port && t64Past (launchTime e.2.2.launch) (s.now + s.txLat port + s.portTicks port n)

/-- A route feeds a port: it names it, or is DUAL and the port is a bundle (R284). -/
def routeFeeds (s : State) (r port : Nat) : Bool := r < 64 && s.rd (R.ro_QUEUE r) != 0xFFFF && s.rd (R.ro_PORT r) == port

/-- What the counter was is kept as far back as edge positions reach (R128). -/
def keepHist (edge : Nat) (l : List TimeRec) : List TimeRec :=
  let p (r : TimeRec) : Bool := edge < r.edge + 2 ^ 47
  l.takeWhile p ++ (l.dropWhile p).take 1

/-- Does a record tell how the counter now goes on. -/
def foretells (r x : TimeRec) : Bool :=
  r.edge ≤ x.edge && r.incr == x.incr && r.unset == x.unset
    && r.ticks * 2 ^ 32 + r.frac + (x.edge - r.edge) * r.incr == x.ticks * 2 ^ 32 + x.frac

/-- How the counter goes on is recorded where it is not as before (R23, R32). -/
def recordTime (s : State) : State :=
  let x := s.recNow
  if (s.time.hist.head?.map fun r => foretells r x) == some true then s
  else s.putTime { s.time with hist := keepHist x.edge (x :: s.time.hist) }

/-- One main-clock edge: the counter takes INCR (R31). -/
def tick (s : State) : State :=
  if !s.time.running then s
  else
    let s := s.recordTime
    let v := s.counter + s.rd R.tm_INCR
    (s.putTime { s.time with ticks := v / 2 ^ 32, frac := v % 2 ^ 32, edge := s.time.edge + 1 }).leaveDelayed

end State

/-- TIME_MEASUREMENT: a measurement of a source arrives (R38, R39, R396). -/
def timeMeasurement (source : Nat) (offset : Int) (s : State) : State := s.measure source offset

/-- SOURCE_QUALIFIED: a source that has delivered without interruption for 10 s qualifies (R38). -/
def sourceQualified (source : Nat) (s : State) : State :=
  if source == 0 || 7 < source || !s.mayQualify source then s
  else (s.setSource source { s.source source with qualified := true }).reselect

/-- SOURCE_DISQUALIFIED: a source that misses three intervals is disqualified (R38); Breimlink, once it has lost both
directions (R48). -/
def sourceDisqualified (source : Nat) (s : State) : State :=
  if source == 0 || 7 < source then s
  else if source == 1 && s.bestDir < 2 then
    let s := s.loseDir s.bestDir
    if s.bestDir < 2 then s else s.disqualify 1
  else s.disqualify source

/-- LOCK_WINDOW_ELAPSED: |OFFSET| has stayed below LOCK_WINDOW for 1 s (R36). -/
def lockWindowElapsed (s : State) : State :=
  if s.rd R.tm_TIME_STATE == 1 && (s.rdI R.tm_OFFSET 64).natAbs < s.rd R.tm_LOCK_WINDOW * ticksPerNs then
    let s := s.setTimeState 2
    (s.putTime { s.time with lockedSinceUnset := true, wordEdge := s.time.edge })
  else s

/-- FREQ_LIMIT_CLEAR: 10 s with a selected source and a correction inside ±100 ppm (R35). -/
def freqLimitClear (s : State) : State :=
  if s.rd R.tm_SRC_SELECTED != 0 && s.time.integ.natAbs < 100000000 then s.wrBit R.tm_STATE_FLAGS 3 false else s

/-- REFCLK_LOST: the PLL holds its word; ACQUIRING and LOCKED go to HOLDOVER (R44). -/
def refclkLost (s : State) : State :=
  let s := s.putMode { s.mode with refclk := false }
  let s := (s.wr R.cb_REFCLK_OK 0).wrBit R.tm_STATE_FLAGS 2 true
  if s.rd R.tm_TIME_STATE == 1 || s.rd R.tm_TIME_STATE == 2 then s.enterHoldover else s

/-- REFCLK_RELOCK: bit 2 clears and the exit rules of Table 2-1 apply (R44). -/
def refclkRelock (s : State) : State :=
  let s := s.putMode { s.mode with refclk := true }
  let s := (s.wr R.cb_REFCLK_OK 1).wrBit R.tm_STATE_FLAGS 2 false
  let src := s.rd R.tm_SRC_SELECTED
  if s.rd R.tm_TIME_STATE == 3 && src != 0 && !s.stepPending && s.withinStep (s.source src).offset then
    s.setTimeState 1
  else s

/-- BEACON: checked and used for the delay, the offset and, in the selected direction, a measurement (R45 to R48). -/
def beacon (dir lane : Nat) (p : Block) (rx : Nat) (s : State) : State :=
  if 2 ≤ dir then s
  else if !beaconOk p then
    let s := (s.heard lane p).count R.bl_BEACON_ERR 1
    if ctlOk 0x0B namedBeacon p then s else s.ctlErr
  else
    let s := s.heard lane p
    let s := s.count R.bl_BEACONS_RX 1
    if ((s.lanesOf dir).map s.servingLane).find? s.laneLocked != some lane then s
    else
      let v := p.toNat
      let t1 := ticksOfT96 (field v 207 112)
      let x := s.linkTime dir
      let s := s.setLinkTime dir { x with
        hops := field v 239 232, gm := field v 247 240, tai := bitAt v 229, timeValid := bitAt v 231
        rxSeq := field v 223 208, rxTime := rx }
      match x.txTimes.find? fun e => e.1 == field v 47 32 with
      | none => s.settleDir
      | some e =>
        let d := ((rx : Int) - t1 + t64Diff (field v 111 48) e.2) / 2
        let asym := if dir == 0 then s.rdI R.bl_ASYM_W 32 else s.rdI R.bl_ASYM_E 32
        let theta := (t1 : Int) + d + asym - rx
        let s := if dir == 0 then (s.wr R.bl_DELAY_W d.toNat).wrI R.bl_OFFSET_W 64 theta
          else (s.wr R.bl_DELAY_E d.toNat).wrI R.bl_OFFSET_E 64 theta
        if s.bestDir == dir then s.measure 1 theta else s.settleDir

/-- BEACON_TX: a beacon goes out on every working lane of both directions (R45, R46, R48). -/
def beaconTx (s : State) : State :=
  let st := s.rd R.tm_TIME_STATE
  let src := s.rd R.tm_SRC_SELECTED
  let sel := s.rd R.bl_SEL_DIR
  let tai := if src == 1 then (s.linkTime sel).tai else decide (2 ≤ src) && decide (src ≤ 6)
  let s := s.settleDir
  s.each [0, 1] fun s d =>
    let x := s.linkTime d
    if s.workingLanes d == 0 then s
    else
      let b := beaconBlock (s.rd R.bl_GM_ADDR) (s.rd R.bl_HOPS) (st == 1 || st == 2) (st == 3) tai x.txSeq s.now96
        (t64OfTicks x.rxTime) x.rxSeq
      let s := (s.emit (.beacon d b)).sendOnLanes (s.workLanes d) b
      s.setLinkTime d { x with txSeq := (x.txSeq + 1) % 65536, txTimes := lastN 16 (x.txTimes ++ [(x.txSeq, s.now)]) }

/-- A slave's offset and delay give a measurement of its port's source (R38, R50). -/
def State.ptpOffset (s : State) (m : Nat) : State :=
  let x := s.ptp m
  let off := x.t2 - x.t1 - (s.rd (R.pt_MEAN_DELAY m) : Int) - s.rdI (R.pt_ASYM m) 32
  let s := s.wrI (R.pt_OFFSET m) 64 off
  if s.rd (R.pt_PORT_STATE m) == 9 then s.measure (2 + m) (-off) else s

/-- Does one list of numbers come before another of its length. -/
def lexLt : List Nat → List Nat → Bool
  | a :: s, b :: t => a < b || (a == b && lexLt s t)
  | _, _ => false

/-- What the best master clock algorithm compares, first to last (PRESUMED, log entry 11). -/
def announceKey (a : Announced) : List Nat :=
  [a.priority1, a.clockClass, a.accuracy, a.variance, a.priority2, a.grandmaster, a.steps, a.sender]

namespace State

/-- CLOCK_ID: the PTP clockIdentity is the hub's EUI-64 (Table 2-5, log entry 9). -/
def clockId : Nat := Config.identityNum 0x1000 0x04 % 2 ^ 64

/-- What the hub announces of itself as a grandmaster: PRIORITY1 and PRIORITY2 of the port, the defaults of IEEE 1588-2019 for
the rest (PRESUMED, log entry 11). -/
def ownClock (s : State) (m : Nat) : Announced :=
  ⟨s.rd (R.pt_PRIORITY1 m), 248, 0xFE, 0xFFFF, s.rd (R.pt_PRIORITY2 m), clockId, 0, clockId * 65536 + m + 1⟩

/-- The best Announce that the enabled ports hold, with its port. -/
def bestAnnounce (s : State) : Option (Nat × Announced) :=
  ((List.range 4).filter fun p => s.rdB (R.pt_ENABLE p)).foldl (fun b p =>
    match (s.ptp p).best, b with
    | some a, some (p0, a0) => if lexLt (announceKey a) (announceKey a0) then some (p, a) else some (p0, a0)
    | some a, none => some (p, a)
    | none, b => b) none

/-- The number of a port of this hub in PTP (portIdentity): CLOCK_ID and the port number from 1 (log entry 11). -/
def portId (m : Nat) : Nat := clockId * 65536 + m + 1

/-- Does a port that hears the grandmaster of the hub's best clock leave the segment to another: that clock is better by topology
only, at as many steps, or at one fewer through a sender before this port (R50; PRESUMED, log entry 11). -/
def byTopology (m : Nat) (best mine : Announced) : Bool :=
  best.grandmaster == mine.grandmaster
    && (mine.steps == best.steps || (mine.steps == best.steps + 1 && decide (mine.sender < portId m)))

/-- The state that the best master clock algorithm gives a port by its ROLE (R50; PRESUMED, log entry 11): 6 MASTER, 7
PASSIVE, 9 SLAVE, 4 LISTENING. -/
def ptpDecide (s : State) (m : Nat) : Nat :=
  match s.rd (R.pt_ROLE m) with
  | 3 => 6
  | 2 => if (s.ptp m).best.isSome then 9 else 4
  | _ =>
    match s.bestAnnounce with
    | none => 6
    | some (p, a) =>
      if lexLt (announceKey (s.ownClock m)) (announceKey a) then 6
      else if p == m then 9
      else if (s.ptp m).best.any (byTopology m a) then 7 else 6

/-- The states of the ports that have left LISTENING, and of one that now leaves it (R50). -/
def ptpSettle (s : State) (m : Nat) : State :=
  let ports := (List.range 4).filter fun p => s.rdB (R.pt_ENABLE p) && (p == m || s.rd (R.pt_PORT_STATE p) != 4)
  s.each ports fun s p =>
    let st := s.ptpDecide p
    let s := s.wr (R.pt_PORT_STATE p) st
    match (s.ptp p).best with
    | some a => if st == 9 then s.wr (R.pt_PARENT_ID p) (a.sender % 2 ^ 80) else s
    | none => s

/-- What a port announces (R50; PRESUMED, log entry 11): the clock the hub follows, one step further on, or the hub itself. -/
def announced (s : State) (m : Nat) : Announced :=
  let followed := ((List.range 4).filter fun p => s.rdB (R.pt_ENABLE p) && s.rd (R.pt_PORT_STATE p) == 9).filterMap fun p =>
    (s.ptp p).best
  match followed with
  | a :: _ => { a with steps := a.steps + 1, sender := portId m }
  | [] => s.ownClock m

/-- The sum of some 16-bit words as the Internet checksum adds them, the carry brought back. -/
def onesSum (l : List Nat) : Nat :=
  let v := l.foldl (· + ·) 0
  if v == 0 then 0 else (v - 1) % 65535 + 1

/-- What the two octets after a message are adjusted to, so that the UDP checksum stays valid over what the MAC writes as the
frame passes: originTimestamp, 6 octets of seconds and 4 of nanoseconds, and correctionField, 8 octets in 2^-16 ns (R51;
PRESUMED, log entry 11). -/
def udpPad (origin correction : Int) : Nat :=
  let t := origin.toNat
  let words (n v : Nat) : List Nat := (List.range n).map fun i => v / 65536 ^ i % 65536
  65535 - onesSum (words 3 (t / ticksPerSec) ++ words 2 (t % ticksPerSec / ticksPerNs)
    ++ words 4 (ofSigned 64 (correction + (t % ticksPerNs : Nat))))

/-- How a port's message keeps its UDP checksum (R51). -/
def ptpUdp (s : State) (m : Nat) (origin correction : Int) : UdpSum :=
  match s.rd (R.pt_TRANSPORT m) with | 1 => .zero | 2 => .adjusted (udpPad origin correction) | _ => .none

/-- A port sends a message: its number, its time field, and correctionField (R51); an Announce with the clock it names (R50). -/
def ptpSend (s : State) (m : Nat) (kind : PtpTx) (seq : Nat) (origin correction : Int) : State :=
  s.emitMac m (.ptp m kind (seq % 65536) origin correction (s.ptpUdp m origin correction)
    (if kind == .announce then some (s.announced m) else none))

/-- MEAN_DELAY from twice the delay (R50). -/
def setMeanDelay (s : State) (m : Nat) (twice : Int) : State := s.wr (R.pt_MEAN_DELAY m) (twice / 2).toNat

/-- No Announce has come for three Announce intervals (R50; PRESUMED, log entry 11). -/
def announceTimeout (s : State) (m : Nat) : Bool :=
  let l := s.rdI (R.pt_LOG_ANNOUNCE m) 8
  3 * edgesPerSec * 2 ^ (l + 8).toNat < (s.time.edge - (s.ptp m).lastAnnounce) * 2 ^ 8

end State

/-- PTP_MESSAGE_RX: a message of the port's domain on an enabled port is timestamped at the medium boundary and processed
(R50 to R52). -/
def ptpMessageRx (m domain : Nat) (msg : PtpMsg) (rx : Int) (s : State) : State :=
  if !s.rdB (R.pt_ENABLE m) || domain != s.rd (R.pt_DOMAIN m) then s
  else
    let t := rx - s.rd (R.pt_RX_LAT m)
    let x := s.ptp m
    let st := s.rd (R.pt_PORT_STATE m)
    let peer := s.rd (R.pt_DELAY_MECH m) == 1
    match msg with
    | .sync seq origin corr twoStep =>
      if st != 9 then s
      else if twoStep then s.setPtp m { x with seq := seq, t1 := corr, t2 := t, waitFollowUp := true }
      else (s.setPtp m { x with seq := seq, t1 := origin + corr, t2 := t, waitFollowUp := false }).ptpOffset m
    | .followUp seq origin corr =>
      if st == 9 && x.waitFollowUp && x.seq == seq then
        (s.setPtp m { x with t1 := x.t1 + origin + corr, waitFollowUp := false }).ptpOffset m
      else s
    | .delayReq seq corr => if st == 6 && !peer then s.ptpSend m .delayResp seq t corr else s
    | .delayResp seq receive corr =>
      if st != 9 || peer || seq != x.txReq then s
      else
        let t4 := receive - corr
        (s.setPtp m { x with t4 := t4 }).setMeanDelay m (x.t2 - x.t1 + (t4 - x.t3))
    | .pdelayReq seq corr => if peer then s.setPtp m { x with reqIn := some (seq, t, corr) } else s
    | .pdelayResp seq receive corr twoStep =>
      if !peer || seq != x.txReq then s
      else if twoStep then s.setPtp m { x with t4 := t, peerRx := t - x.t3 + receive - corr, peerWait := true }
      else (s.setPtp m { x with t4 := t, peerWait := false }).setMeanDelay m (t - x.t3 - corr)
    | .pdelayRespFollowUp seq origin corr =>
      if !peer || seq != x.txReq || !x.peerWait then s
      else (s.setPtp m { x with peerWait := false }).setMeanDelay m (x.peerRx - origin - corr)
    | .announce a =>
      let keep := match x.best with
        | some b => b.sender != a.sender && lexLt (announceKey b) (announceKey a) && !s.announceTimeout m
        | none => false
      (if keep then s else s.setPtp m { x with best := some a, lastAnnounce := s.time.edge }).ptpSettle m

/-- PTP_MESSAGE_TX: an enabled port sends what its state sends, with one-step fields as the frame passes: the origin of a
Sync, the residence of a peer request (R51, R52). At its Announce intervals it sees that no Announce comes any longer. -/
def ptpMessageTx (m : Nat) (kind : PtpTx) (tx : Int) (s : State) : State :=
  let st := s.rd (R.pt_PORT_STATE m)
  let t := tx + s.rd (R.pt_TX_LAT m)
  let x := s.ptp m
  let oneStep := s.rd (R.pt_STEP_MODE m) == 1
  let peer := s.rd (R.pt_DELAY_MECH m) == 1
  if !s.rdB (R.pt_ENABLE m) then s
  else match kind with
    | .sync =>
      if st != 6 then s
      else
        let s := s.setPtp m { x with txSync := (x.txSync + 1) % 65536 }
        if oneStep then s.ptpSend m .sync x.txSync t 0 else (s.ptpSend m .sync x.txSync 0 0).ptpSend m .followUp x.txSync t 0
    | .announce =>
      let s := if s.announceTimeout m then (s.setPtp m { x with best := none }).ptpSettle m else s
      if s.rd (R.pt_PORT_STATE m) != 6 then s
      else (s.setPtp m { s.ptp m with txAnnounce := (x.txAnnounce + 1) % 65536 }).ptpSend m .announce x.txAnnounce t 0
    | .delayReq =>
      if st != 9 || peer then s
      else
        let n := (x.txReq + 1) % 65536
        (s.setPtp m { x with t3 := t, txReq := n }).ptpSend m .delayReq n t 0
    | .pdelayReq =>
      if !peer then s
      else
        let n := (x.txReq + 1) % 65536
        (s.setPtp m { x with t3 := t, txReq := n, peerWait := false }).ptpSend m .pdelayReq n t 0
    | .pdelayResp =>
      match x.reqIn with
      | none => s
      | some (seq, came, corr) =>
        let s := s.setPtp m { x with reqIn := none }
        if oneStep then s.ptpSend m .pdelayResp seq 0 (corr + (t - came))
        else (s.ptpSend m .pdelayResp seq came 0).ptpSend m .pdelayRespFollowUp seq t corr
    | .followUp | .delayResp | .pdelayRespFollowUp => s

/-- TIME_TRIGGER_FIRE: the first edge at or after TARGET (R58). One that is past by an edge or more fires late. -/
def timeTriggerFire (k : Nat) (s : State) : State :=
  let t := s.rd (R.tr_TARGET k)
  let d := t64Diff t s.now
  if s.rdB (R.tr_ENABLE k) && t64Past t s.now then
    s.fireTrigger k (decide ((s.rd R.tm_INCR : Int) / 2 ^ 32 < -d))
  else s

/-- PPS_OUT_EDGE: on the first edge at or after a whole hub second plus PPS_OUT_OFFSET, PPS_OUT rises for PPS_OUT_WIDTH if its
condition holds (R59). -/
def ppsOutEdge (s : State) : State :=
  let since := ((s.now : Int) - s.rdI R.la_PPS_OUT_OFFSET 32) % (ticksPerSec : Nat)
  if s.rd R.tm_INCR / 2 ^ 32 < since || !s.ppsQualified then s
  else (s.putTime { s.time with ppsFall := s.now + s.rd R.la_PPS_OUT_WIDTH * ticksPerNs }).setPps true

/-- PPS_OUT_WIDTH_END: PPS_OUT falls PPS_OUT_WIDTH after it rose (R59). -/
def ppsOutWidthEnd (s : State) : State := if s.time.ppsFall ≤ s.now then s.setPps false else s

/-- PPS_IN_EDGE: the edge is timestamped and marks the nearest whole hub second (R60; log entry 149). -/
def ppsInEdge (at_ : Nat) (s : State) : State :=
  if !s.rdB R.la_PPS_IN_EN then s
  else
    let s := (s.wr R.la_PPS_IN_LAST (t96OfTicks at_)).count R.la_PPS_IN_COUNT 1
    let s := s.putTime { s.time with lastPps := lastN 4 (s.time.lastPps ++ [at_]) }
    let t := (at_ : Int) - s.rdI R.la_PPS_IN_OFFSET 32
    s.measure 6 ((2 * t + ticksPerSec) / (2 * ticksPerSec) * ticksPerSec - t)

/-- PORT_FRAME_TX: a port starts the head frame of a queue, on a bundle in its turn (R287): one with LAUNCH_EN is held until its time, or is late
(R55 to R57). -/
def portFrameTx (port r : Nat) (s : State) : State :=
  if s.rd (R.ro_QUEUE r) == 0xFFFE then s.pumpGateway s.lanes.gateway.length
  else match s.routeHead r with
  | none => s
  | some f =>
    let held := s.lanes.portHeld.any fun e => e.2.1 == r
    let n := 20 + f.payload.length
    if !s.routeFeeds r port || held || (port < 2 && !s.shareTurn port r) then s
    else if launchEn f.launch then
      let d := t64Diff (launchTime f.launch) s.now
      if 0 < d then s.putLanes { s.lanes with portHeld := s.lanes.portHeld ++ [(port, r, f)] }
      else if !s.portRoom port n || s.heldInWay port n then s
      else if (s.rd R.la_LATE_TOL * ticksPerNs : Nat) < -d then s.lateFrame r port f
      else s.sendRoute r port f false
    else if s.portRoom port n && !s.heldInWay port n then s.sendRoute r port f false
    else s

/-- LAUNCH_TIME_REACHED: a held frame starts so that it reaches the medium boundary, TX_LAT later, at LAUNCH_T64 (R52, R56). -/
def launchTimeReached (port r : Nat) (s : State) : State :=
  match s.lanes.portHeld.find? fun e => e.1 == port && e.2.1 == r with
  | none => s
  | some e =>
    let f := e.2.2
    if !t64Past (launchTime f.launch) (s.now + s.txLat port) || !s.portRoom port (20 + f.payload.length) then s
    else
      let s := s.putLanes { s.lanes with portHeld := s.lanes.portHeld.filter fun x => !(x.1 == port && x.2.1 == r) }
      match s.routeHead r with
      | some g => if g.fseq == f.fseq && s.routeFeeds r port then s.sendRoute r port f false else s
      | none => s

end Sys2Proof.Machine
end

