-- ==== Sys2Proof/Machine/Endurance.lean ====
section
/-! DEFINITION. Endurance (chapter 14): background tracking, substitution of slices, management cores, SRAM rows and
ageing. -/

namespace Sys2Proof.Machine

namespace State

/-- The quad holds a sealed legal channel. -/
def quadLegal (s : State) (q : Nat) : Bool := (chansOfQuad q).any s.isLegal

/-- A correction moves towards its target by no more than a step (R110). -/
def stepTowards (x target : Int) (step : Nat) : Int := clampInt (x - step) (x + step) target

/-- CONV_STATUS bit 4 of a quad's continuous channels: tracking is suspended while the spare serves (R110). -/
def markTracking (s : State) (q : Nat) : State :=
  let on := s.spareServes q
  s.each (chansOfQuad q) fun s n => s.wrBit (R.ch_CONV_STATUS n) 4 (on && !s.isBurst n)

/-- The spare slice serves a channel: Table 14-5 step 5. -/
def spareTakes (s : State) (q c : Nat) : State :=
  let n := 4 * q + c
  let s := s.setSpare q { s.spare q with moving := c, restoring := false, phase := 0 }
  let s := ((s.wr (R.ss_SUBST_STATE q) 4).wr (R.ss_SPARE_FOR q) c).wr (R.ss_SUBST_TIME q) s.now96
  let s := ((s.wr (R.ch_SLICE n) 4).wrBit (R.ch_CONV_STATUS n) 5 true).count R.cu_SUBSTITUTIONS 1
  ((s.wr R.cu_SLICE_SPARES (s.rd R.cu_SLICE_SPARES - 1)).logEvent 11 n 4).markTracking q

/-- The channel's own slice serves it again (R347). -/
def spareReturns (s : State) (q c : Nat) : State :=
  let n := 4 * q + c
  let s := s.setSpare q { s.spare q with restoring := false, phase := 0 }
  let s := ((s.spareIdle q false).wr (R.ss_SPARE_FOR q) 0xFF).wr (R.ss_SUBST_TIME q) s.now96
  let s := ((s.wr (R.ch_SLICE n) c).wrBit (R.ch_CONV_STATUS n) 5 false).count R.cu_SUBSTITUTIONS 1
  (s.logEvent 11 n 4).markTracking q

/-- A restore starts: the same steps with the roles exchanged (R347). -/
def startRestore (s : State) (q : Nat) : State :=
  let x := s.spare q
  ((s.setSpare q { x with restoring := true, phase := 1, done := 0 }).wr (R.ss_SUBST_STATE q) 5).logEvent 11 (4 * q + x.moving) 3

/-- In a run of CAL_NOW a slice that is out is calibrated as at power-up: its words are those it is restored with (R112). -/
def calibrateOut (s : State) (q c : Nat) : State :=
  let k := s.freeCount
  let s := s.bump.setSpare q { s.spare q with
    newOffset := Config.foundCal 0 q c k, newGain := Config.factoryGain q c, newSkew := Config.foundCal 1 q c k }
  (s.wr (R.ch_CAL_TIME (4 * q + c)) s.now96).wr (R.ch_CAL_DRIFT (4 * q + c)) 0

/-- A fade is complete: the new slice serves, corrected as it was matched (Table 14-5 step 5, R347). In a run of CAL_NOW the
slice is calibrated while out and restored, and the next follows (R112). -/
def fadeDone (s : State) (q : Nat) : State :=
  let x := s.spare q
  let n := 4 * q + x.moving
  let run := s.rd (R.ss_SUBST_CAUSE q) == 4
  let s := s.setCal n x.newOffset x.newGain x.newSkew
  if x.restoring then
    let s := s.spareReturns q x.moving
    if !run then s
    else
      let s := s.setChan n { s.chan n with calBase := s.rdI (R.ch_CAL_OFFSET n) 32 }
      if x.moving < 3 then s.startSubst q (x.moving + 1) 4 else s
  else
    let s := s.spareTakes q x.moving
    let s := if s.isLegal n then s.legalNotice (.substitution n (s.rd (R.ss_SUBST_CAUSE q))) else s
    if run then (s.calibrateOut q x.moving).startRestore q else s

/-- A substitution in progress meets a configuration change of its channel (R346): the shadow starts again, or the fade
is complete. -/
def substMeetsChange (s : State) (n : Nat) : State :=
  let q := quadOf n
  let x := s.spare q
  if x.moving != n % 4 || x.phase == 0 then s
  else if x.phase == 3 then s.fadeDone q
  else (s.setSpare q { x with phase := 1, done := 0 }).wr (R.ss_SUBST_STATE q) (if x.restoring then 5 else 1)

/-- A slice judged failing (R341): flagged, logged, and replaced where SPARE_POLICY, the seal and the spare allow
(R344, R346, R347). -/
def judgeSlice (s : State) (q c : Nat) (failing : Bool) : State :=
  let h := s.rd (R.ss_SLICE_HEALTH q)
  let s := s.wrBit (R.ss_SLICE_HEALTH q) c failing
  let st := s.rd (R.ss_SUBST_STATE q)
  let s := if c == 4 && (s.spare q).lost == [] && (st == 0 || st == 6) then s.spareIdle q (st == 0) else s
  if !failing || bitAt h c then s
  else
    let s := s.logEvent 10 (4 * q + c % 4) 2
    if c == 4 || s.rd R.cu_SPARE_POLICY != 1 || s.quadLegal q then s
    else if s.rd (R.ss_SUBST_STATE q) != 0 then s.logEvent 11 (4 * q + c) 6
    else s.startSubst q c 2

/-- A channel loses its last working slice: its streams end, its capture closes with a stop marker (R345, R347); it converts
no more. -/
def loseChannel (s : State) (n : Nat) : State :=
  let x := s.spare (quadOf n)
  let s := s.setSpare (quadOf n) { x with lost := (n % 4 :: x.lost).eraseDups }
  let s := ((s.gobWithhold n .run).closeCapture n 2).stopConverting n
  ((s.count R.cu_SLICES_OUT 1).logEvent 11 n 7).raise 0x7142 n

/-- The conditions under which SUBST_REQ is turned away (R346, R347, R353), 0 none. -/
def substRefusal (s : State) (q : Nat) : Nat :=
  let b := q / 8
  if s.quadLegal q then 0x6141
  else if (s.spare q).phase != 0 || s.rd (R.bk_CAL_STATE b) == 1 || !s.bankOn b then 0x3141
  else 0

/-- A write of SUBST_REQ (R344, R346, R347, R353). -/
def substReqAct (s : State) (q v : Nat) : Ans :=
  let st := s.rd (R.ss_SUBST_STATE q)
  let r := s.substRefusal q
  if !(v ≤ 3 || v == 0x0F) then (0x2141, s)
  else if r != 0 then (r, s)
  else if st == 6 || bitAt (s.rd (R.ss_SLICE_HEALTH q)) 4 && v != 0x0F then (0x4141, s)
  else if v == 0x0F then
    if st != 4 then ok s
    else if bitAt (s.rd (R.ss_SLICE_HEALTH q)) (s.rd (R.ss_SPARE_FOR q)) then (0x3143, s)
    else ok (s.startRestore q)
  else if st == 4 then (0x3141, s)
  else ok (s.startSubst q v 1)

end State

/-- BACKGROUND_TRACKING_CYCLE: one step of the cycle, or the calibration in a burst gap, tracks the offset (2^-16 LSB), gain (ppb)
and skew of the slice that serves a channel, or the idle spare calibrates itself; then the slice is judged (R110, R341). Of a slice
that is out, only its own convergence and drift are judged. -/
def backgroundTrackingCycle (q slice : Nat) (offset gain skew drift : Int) (converged : Bool) (s : State) : State :=
  let x := s.spare q
  if !s.bankOn (q / 8) || 4 < slice then s
  else
    let fails := if converged then 0 else tabGet 0 x.failsInRow slice + 1
    let s := s.setSpare q { x with failsInRow := tabPut 0 slice fails x.failsInRow }
    let serving := s.spareServes q
    let n := 4 * q + (if slice == 4 then x.moving else slice)
    if slice == 4 && !serving then
      let s := if converged && x.phase == 0 then s.setSpare q { s.spare q with calOffset := offset, calGain := gain, calSkew := skew } else s
      s.judgeSlice q 4 (decide (2 ≤ fails))
    else if s.rd (R.ch_SLICE n) != slice then
      s.judgeSlice q slice (decide (s.rd R.cu_DRIFT_LIMIT < drift.natAbs) || decide (2 ≤ fails))
    else
      let held := x.phase != 0 || (serving && !(s.isBurst n && s.longGap q))
      let s :=
        if held || !converged then s
        else (s.setCal n (State.stepTowards (s.rdI (R.ch_CAL_OFFSET n) 32) offset 4096)
            (State.stepTowards (s.rdI (R.ch_CAL_GAIN n) 32) gain 1000) skew).wr (R.ch_CAL_DRIFT n) (min drift.natAbs 0xFFFFFFFF)
      let moved := (s.rdI (R.ch_CAL_OFFSET n) 32 - (s.chan n).calBase).natAbs
      s.judgeSlice q slice (decide (s.rd R.cu_DRIFT_LIMIT < s.rd (R.ch_CAL_DRIFT n))
        || decide (s.rd R.cu_OFFSET_LIMIT * 65536 < moved) || decide (2 ≤ fails))

/-- SLICE_HARD_FAULT: samples are withheld until the spare's first one, and the spare takes over at once with the calibration
of its last background cycle; a channel for which no slice is left is lost (R341, R345, R347; log entry 116). -/
def sliceHardFault (n : Nat) (s : State) : State :=
  let q := quadOf n
  let c := n % 4
  if (s.spare q).lost.contains c then s
  else if s.rd (R.ch_SLICE n) == 4 then
    let s := s.setSpare q { s.spare q with phase := 0, restoring := false }
    ((s.wrBit (R.ss_SLICE_HEALTH q) 4 true).loseChannel n).wr (R.ss_SUBST_STATE q) 6
  else
    let s := (s.wrBit (R.ss_SLICE_HEALTH q) c true).logEvent 10 n 1
    if s.spareServes q then s.loseChannel n
    else if bitAt (s.rd (R.ss_SLICE_HEALTH q)) 4 then (s.abandonSubst q).loseChannel n
    else
      let s := s.abandonSubst q
      let s := (s.gobWithhold n .run).closeCapture n 5
      let s := s.setChan n { s.chan n with faultEnd := some (s.time.edge + 8192) }
      let x := s.spare q
      let s := (s.wr (R.ss_SUBST_CAUSE q) 3).logEvent 11 n 3
      let s := (s.setCal n x.calOffset x.calGain x.calSkew).spareTakes q c
      if s.isLegal n then s.legalNotice (.substitution n 3) else s

namespace State

/-- Have both slices taken what a step of a substitution asks for: samples in continuous conversion, bursts in burst mode;
a channel that does not convert has none to wait for (Table 14-5). -/
def substEnough (s : State) (q samples bursts : Nat) : Bool :=
  let x := s.spare q
  let n := 4 * q + x.moving
  !s.converting n || (if s.isBurst n then bursts else samples) ≤ x.done

end State

/-- SUBST_SHADOW_END: the shadow is complete, and the slices are matched (Table 14-5 step 3). -/
def substShadowEnd (q : Nat) (s : State) : State :=
  let x := s.spare q
  if x.phase != 1 || !s.substEnough q (s.rd R.cu_SHADOW_LEN) (s.rd R.cu_SHADOW_BURSTS) then s
  else (s.setSpare q { x with phase := 2 }).wr (R.ss_SUBST_STATE q) (if x.restoring then 5 else 2)

/-- SUBST_MATCH_DONE: the new slice's corrections match the old one's (log entry 34), those of a slice that CAL_NOW has calibrated
while out stay as found, and the Gob fades from the old to the new (R112, Table 14-5 steps 3 and 4). -/
def substMatchDone (q : Nat) (s : State) : State :=
  let x := s.spare q
  if x.phase != 2 then s
  else
    let k := s.freeCount
    let found := x.restoring && s.rd (R.ss_SUBST_CAUSE q) == 4
    (s.bump.setSpare q { x with
      phase := 3, done := 0
      newOffset := if found then x.newOffset else Config.matchedCal 0 k
      newGain := if found then x.newGain else Config.matchedCal 1 k
      newSkew := if found then x.newSkew else Config.matchedCal 2 k }).wr
      (R.ss_SUBST_STATE q) (if x.restoring then 5 else 3)

/-- SUBST_FADE_END: FADE_LEN samples or FADE_BURSTS burst values are faded, and the new slice serves (Table 14-5 step 5). -/
def substFadeEnd (q : Nat) (s : State) : State :=
  if (s.spare q).phase != 3 || !s.substEnough q (s.rd R.cu_FADE_LEN) (s.rd R.cu_FADE_BURSTS) then s else s.fadeDone q

namespace State

/-- The leases of open clauses are extended by the 50 ms a takeover may last (R327, R350). -/
def extendLeases (s : State) : State :=
  s.each ((List.range 64).map (· + 1)) fun s c =>
    if s.rd (R.cs_CL_STATE c) == 1 then
      s.wr (R.cs_LEASE_END c) (t96OfTicks (ticksOfT96 (s.rd (R.cs_LEASE_END c)) + 50000000 * ticksPerNs))
    else s

end State

/-- CORE_WATCHDOG_MISS: after 10 misses the core is out of service, and the spare core takes over what it held, or with no
spare left 0x7143 is raised (R350). -/
def coreWatchdogMiss (core : Nat) (s : State) : State :=
  if s.cores.out.contains core then s
  else
    let m := tabGet 0 s.cores.misses core + 1
    if m < 10 then s.putCores { s.cores with misses := tabPut 0 core m s.cores.misses }
    else
      let had := s.cores.spareUsed
      let s := s.putCores ⟨s.cores.out ++ [core], true, tabPut 0 core 0 s.cores.misses⟩
      let s := s.logEvent 11 core 7
      if had then (s.logEvent 11 core 6).raise 0x7143 core
      else (((s.logEvent 11 core 3).extendLeases.logEvent 11 core 4).count R.cu_SUBSTITUTIONS 1)

/-- SRAM_ROW_REMAP: a row with four corrected errors in 24 h is copied to a spare row of its memory and remapped (R351,
Table 14-4). -/
def sramRowRemap (mem : SramKind) (s : State) : State :=
  let (check, inst, ce, rows) := match mem with
    | .frontDie d => (2, d, R.ig_FSRAM_CE, 512)
    | .queueCells => (4, 0, R.ig_QCELL_CE, 384)
  if check == 2 && (inst == 0 || s.part.fronts < inst) then s
  else
    let s := (s.count ce 4).logEvent check inst 2
    let used := tabGet 0 s.mode.rowsUsed inst
    if rows ≤ used then s.logEvent check inst 6
    else
      let s := s.putMode { s.mode with rowsUsed := tabPut 0 inst (used + 1) s.mode.rowsUsed }
      let s := (s.wr R.cu_ROW_SPARES (s.rd R.cu_ROW_SPARES - 1)).count R.cu_SUBSTITUTIONS 1
      (s.logEvent check inst 3).logEvent check inst 4

/-- AGEING_MEASUREMENT: AGE_PPM with its rate over the last 1,000 h, and what passing AGE_WARN or 50,000 ppm means
(R342). -/
def ageingMeasurement (d ppm : Nat) (s : State) : State :=
  let old := s.rd (R.ag_AGE_PPM d)
  let hist := lastN 1001 (tabGet [] s.mode.ages d ++ [ppm])
  let s := s.putMode { s.mode with ages := tabPut [] d hist s.mode.ages }
  let hours := hist.length - 1
  let rate := if hours == 0 then 0 else roundNear ((ppm - hist.headD 0) * 1000) hours
  let s := ((s.wr (R.ag_AGE_PPM d) ppm).wr (R.ag_AGE_TIME d) s.now96).wr (R.ag_AGE_RATE d) rate
  let s := s.wr (R.ag_LIFE_LEFT d) (if rate == 0 then 0xFFFFFFFF else min ((50000 - ppm) * 1000 / rate) 0xFFFFFFFF)
  let warn := s.rd (R.ag_AGE_WARN d)
  let s := if old ≤ warn && warn < ppm then s.logEvent 10 d 2 else s
  if ppm ≤ 50000 || s.mode.ageSlow.contains d then s
  else
    let t := max 1 (tabGet 0 s.mode.throttle d)
    let s := s.putMode { s.mode with ageSlow := s.mode.ageSlow ++ [d], throttle := tabPut 0 d t s.mode.throttle }
    s.wrBit R.th_THROTTLED d true

end Sys2Proof.Machine
end

