-- ==== Sys2Proof/Machine/Ampoule.lean ====
section
/-! DEFINITION. The Ampoule (chapter 15): the seal loop, sealing, the legally relevant program, legal records and the
outage rules. -/

namespace Sys2Proof.Machine

/-- The marks and the TIME flag of a Lehr output word (Table 6-4). -/
def wordMarks (w : Nat) : Marks :=
  ⟨bitAt w 31, bitAt w 29, bitAt w 28, bitAt w 27, bitAt w 26, bitAt w 25, false⟩

/-- The words of a legal record without its signature, Table 15-5. -/
def recordWords (payload : List Byte) (rnum count checksum t96 span chans validity keyId lost : Nat) : List Nat :=
  [0x81 * 2 ^ 24 + payload.length % 65536, rnum, count, checksum] ++ [t96 % 2 ^ 32, t96 / 2 ^ 32 % 2 ^ 32, t96 / 2 ^ 64 % 2 ^ 32]
    ++ [span % 2 ^ 32] ++ words2 chans ++ [validity % 2 ^ 32] ++ words2 keyId ++ [lost % 2 ^ 32] ++ wordsOfOctets payload

/-- A digest of octets as a number, octet 0 lowest. -/
def digestOf (l : List Byte) : Nat := leNat (sha256Octets l)

/-- LEGAL_CHECKSUM: the first four octets of SHA-256 over image, PARAMS and firmware, the first in [31:24] (R363). -/
def legalChecksum (image params : List Byte) : Nat := (sha256 (image ++ params ++ Config.ampFirmware)).headD 0

/-- KEY_ID: the first eight octets of SHA-256 over PUBKEY (R370). -/
def keyIdOf (pub : Nat) : Nat := leNat ((sha256Octets (natLE 65 pub)).take 8)

namespace State

/-- Is the Ampoule sealed: it holds a key, whatever it does now (R365, R370, R377). -/
def ampSealed (s : State) : Bool := s.amp.key.isSome

/-- The channels of the legal set, in subindex order (R359). -/
def legalSet (s : State) : List Nat :=
  ((List.range 64).map fun k => s.rd (R.ls_LEGAL_CH k)).filter fun n => n != 0xFFFF

/-- Does sealing a set of channels freeze an entry (R360, R10): suffix L of the channels, their quads, banks, front dies,
mains trackers and Lehr paths. -/
def frozenBy (s : State) (chans : List Nat) (r : Reg) : Bool :=
  (match rowAt r.grp r.sub with | some w => w.acc.legal | none => false) && (match r.grp with
    | .channel => chans.contains r.inst
    | .quad => chans.any fun n => quadOf n == r.inst
    | .bank => chans.any fun n => bankOfChan n == r.inst
    | .die =>
      if 0x1D ≤ r.sub && r.sub ≤ 0x1F then
        chans.any fun n => dieOf n == r.inst + 1 && s.rd (R.ch_TRACK_STAGE n) != 0
      else chans.any fun n => dieOf n == r.inst + 1
    | .path => chans.contains (s.rd (R.pa_SOURCE r.inst))
    | _ => false)

/-- Is an entry frozen by the seal in force (R10, R360). -/
def sealedEntry (s : State) (r : Reg) : Bool := s.amp.legal != [] && s.frozenBy s.amp.legal r

/-- The paths whose SOURCE is a channel of a list. -/
def pathsFrom (s : State) (chans : List Nat) : List Nat :=
  (s.insts .path 0x02).filter fun p => chans.contains (s.rd (R.pa_SOURCE p))

/-- Output words per second of a list of paths, in 2^-16 (R365). -/
def legalRate (s : State) (ps : List Nat) : Nat :=
  ps.foldl (fun a p => if s.rdB (R.pa_ENABLE p) then a + ticksPerSec * 65536 / max 1 (s.pathFrame p).period else a) 0

/-- Does an open or scheduled clause lock an entry that sealing would freeze (R366). -/
def sealBlocked (s : State) (chans : List Nat) : Bool :=
  s.clauses.any fun e => e.2.locks.any fun r => (rowsOf r.grp).any fun w => s.frozenBy chans { r with sub := w.sub }

/-- A write of SEAL by a tenant (R365, R366, R369, R371). -/
def sealAct (s : State) (tenant : Nat) (on : Bool) : Ans :=
  let set := s.legalSet
  let ps := s.pathsFrom set
  let ready := s.rd R.am_AMP_STATE == 1 && s.rd R.am_LOOP == 1 && 10 ≤ s.amp.loopSince && s.rd R.ap_PROG_STATE == 3
    && set != [] && set.all (fun n => ps.any fun p =>
      s.rd (R.pa_SOURCE p) == n && s.rdB (R.pa_ENABLE p) && s.rdB (R.pa_SEAL p)) && !s.sealBlocked set
  if !on then ok s
  else if set.eraseDups.length != set.length || set.any (fun n => s.part.channels ≤ n) then (0x2151, s)
  else if !ready then (0x3151, s)
  else if 2000000 * 65536 < s.legalRate ps then (0x4152, s)
  else if s.rd R.am_EVENT_COUNT == 0xFFFFFFFF then (0x6153, s)
  else if s.rd R.au_CHANGES_LEFT == 0 then (0x4151, s)
  else
    let s := s.wr R.am_AMP_STATE 2
    let s := s.putAmp { s.amp with legal := set, paths := ps, sealTenant := tenant }
    ok (s.each set fun s n => s.wr (R.ch_LEGAL n) 1)

/-- EVENT_COUNT goes up, and never down (R369). -/
def countEvent (s : State) : State := s.wr R.am_EVENT_COUNT (min 0xFFFFFFFF (s.rd R.am_EVENT_COUNT + 1))

/-- A write of UNSEAL by a tenant (R368, R371). -/
def unsealAct (s : State) (tenant : Nat) (on : Bool) : Ans :=
  if !on then ok s
  else if s.rd R.am_AMP_STATE != 3 || s.rd R.am_LOOP != 0 || s.amp.loopSince < 10 then (0x3151, s)
  else if s.rd R.au_CHANGES_LEFT == 0 then (0x4151, s)
  else
    let s := (s.wr R.am_AMP_STATE 4).countEvent
    ok (s.audit 0x02 true tenant s.auditNow (words2 (s.rd R.am_KEY_ID)))

/-- A write of PROG_ACTIVATE by a tenant (R362, R363, R369, R371). -/
def progActivateAct (s : State) (tenant : Nat) (on : Bool) : Ans :=
  if !on then ok s
  else if s.ampSealed || s.rd R.am_AMP_STATE == 2 then (0x6151, s)
  else if s.rd R.am_EVENT_COUNT == 0xFFFFFFFF then (0x6153, s)
  else if s.rd R.au_CHANGES_LEFT == 0 then (0x4151, s)
  else if s.rd R.ap_PROG_STATE != 2 then (0x2152, s)
  else
    let image := s.rdDom R.ap_PROG_IMAGE
    let was := s.rd R.am_LEGAL_CHECKSUM
    let s := (s.wr R.ap_PROG_STATE 3).wr R.am_LEGAL_CHECKSUM (legalChecksum image (s.rdDom R.ap_PARAMS))
    let s := (s.wrDom R.ap_PROG_ID (Config.containerId image)).countEvent
    ok (s.audit 0x03 true tenant s.auditNow [was])

/-- A write of AMP_RESTART (R377). -/
def ampRestartAct (s : State) (on : Bool) : Ans :=
  ok (if on then s.putAmp { s.amp with held := false, restarts := [] } else s)

/-- A write of AUDIT_SEL in a session (R372). -/
def auditSelAct (s : State) (session eno : Nat) : Ans :=
  match s.auditHeld eno with
  | none => (0x2153, s)
  | some _ => ok (s.setSession session { s.session session with auditSel := eno })

/-- A write of LREC_POP by a tenant (R378). -/
def lrecPopAct (s : State) (tenant rnum : Nat) : Ans :=
  if s.rd R.lr_LREC_TENANT != tenant then (0x1151, s)
  else match s.amp.queue with
    | [] => (0x3152, s)
    | r :: t => if r.rnum == rnum then ok (s.putAmp { s.amp with queue := t }) else (0x3152, s)

/-- An image written to PROG_IMAGE is verified when its last segment arrives (R362). -/
def progImage (s : State) (image : List Byte) : Ans :=
  let n := image.length
  let body := image.take (n - 64)
  let good := decide (n ≤ 1048576) && decide (64 < n) && Config.containerValid image
    && Config.verifies (s.rd R.ap_PROG_KEY) (digestOf body) (leNat (image.drop (n - 64)))
  if good then ok ((s.wrDom R.ap_PROG_IMAGE image).wr R.ap_PROG_STATE 2) else (0x2152, s.wr R.ap_PROG_STATE 4)

/-- A span [a, b] of ticks meets another whose end may be open. -/
def meets (a b c : Nat) (d : Option Nat) : Bool := c ≤ b && (match d with | none => true | some e => a ≤ e)

/-- VALIDITY of a record over a span of ticks and a CHANNELS mask (R374, Table 15-6). -/
def validity (s : State) (a b chans flags : Nat) : Nat :=
  let named := ((List.range s.amp.legal.length).filter (bitAt chans)).map fun k => s.amp.legal.getD k 0
  let ps := s.amp.paths.filter fun p => named.contains (s.rd (R.pa_SOURCE p))
  let ws := s.amp.window.filter fun w => ps.contains w.path && a ≤ w.instant && w.instant ≤ b
  let m := marksAll (ws.map (·.marks))
  let ref := m.refSuspect || named.any fun n => s.amp.suspect.contains (dieOf n)
  let miss := s.amp.missing.any fun e => ps.contains e.1 && meets a b e.2.1 (some e.2.2)
  let loop := s.amp.openSpans.any fun e => meets a b e.1 e.2
  let time := ws.any (·.time)
  let fail := ws.any (·.sealFail)
  let bad := m.excFault || time || loop || m.substituted || ref || miss || fail || bitAt flags 0
  flags / 65536 * 65536 + ofBool m.late * 1024 + ofBool m.settling * 512 + ofBool m.overRange * 256 + ofBool m.excFault * 128
    + ofBool time * 64 + ofBool loop * 32 + ofBool m.substituted * 16 + ofBool ref * 8 + ofBool miss * 4 + ofBool fail * 2
    + ofBool bad

/-- A record number is taken; numbers are reserved in MRAM 256 at a time (R373). -/
def takeRnum (s : State) : State :=
  let a := s.amp
  (s.putAmp { a with
      nextRnum := a.nextRnum + 1, reserved := if a.reserved ≤ a.nextRnum then a.nextRnum + 256 else a.reserved })

/-- A record that the program emits is completed, signed and queued, or lost when the output queue is full (R362, R373,
R374, R378). -/
def emitRecord (s : State) (x : List Byte × Nat × Nat × Nat × Nat) : State :=
  let payload := x.1.take 448
  let a := s.amp
  if 1024 ≤ a.queue.length then
    (s.count R.lr_LREC_LOST 1).putAmp { a with lostBefore := a.lostBefore + 1 }
  else
    let first := x.2.1
    let span := x.2.2.1
    let chans := x.2.2.2.1
    let v := s.validity first (first + span * 1000 * ticksPerNs) chans x.2.2.2.2
    let ws := recordWords payload a.nextRnum (s.rd R.am_EVENT_COUNT) (s.rd R.am_LEGAL_CHECKSUM) (t96OfTicks first) span chans v
      (s.rd R.am_KEY_ID) a.lostBefore
    let sig := Config.sign (a.key.getD 0) (digestOf (octetsOfWords ws)) s.freeCount % 2 ^ 512
    let s := s.bump.takeRnum
    let s := s.putAmp { s.amp with queue := s.amp.queue ++ [⟨a.nextRnum, ws, sig⟩], lostBefore := 0 }
    let q := s.rd R.lr_LREC_COPY
    if q < 8192 then s.enqueueNow q (s.hubFrame q 6 0 (octetsOfWords ws ++ natLE 64 sig) none) else s

/-- Instants of a path were not received: marked missing, and recorded once (R376). -/
def markMissing (s : State) (p from_ to_ count : Nat) : State :=
  let s := s.putAmp { s.amp with missing := s.amp.missing ++ [(p, from_, to_)] }
  s.audit 0x17 false 0xFFFF s.auditNow [p, count % 2 ^ 32]

/-- The instant by which the block with a path's instant t must have arrived: LATENCY, BLOCK_MAXAGE and 100 ms on (R376). -/
def blockDeadline (s : State) (p t : Nat) : Nat :=
  t + (s.boundNs p + s.rd (R.pa_BLOCK_MAXAGE p) * 1000 + 100000000) * ticksPerNs

/-- What an enabled legal path owes first once the copy port opens: its open block, or its next output instant (R376). -/
def firstOwed (s : State) (p : Nat) : Option (Nat × Nat) :=
  let x := s.path p
  if !s.rdB (R.pa_ENABLE p) then none
  else if x.words != [] then some (x.bseq, x.firstInstant)
  else some (x.bseq, if x.live then x.nextGrid else gridAt (max 1 (s.pathFrame p).period) s.now)

/-- The Ampoule restarts (R370): it returns sealed with the same key and numbers its records with no reuse. -/
def ampRestarts (s : State) (cause : Nat) : State :=
  if !s.ampSealed then s
  else
    let s := s.putAmp { s.amp with nextRnum := max s.amp.nextRnum s.amp.reserved }
    s.audit 0x18 false 0xFFFF s.auditNow [cause]

end State

/-- SEAL_LOOP_SAMPLE: three readings in a row change LOOP; an opening or closing while sealed is a notice (R364,
R367). -/
def sealLoopSample (ohms : Nat) (s : State) : State :=
  if !s.part.amp then s
  else
    let a := s.amp
    let kind := if ohms ≤ 1000 then 1 else 0
    let between := 1000 < ohms && ohms < 10000
    let run := if between then 0 else if kind == a.loopKind then a.loopRun + 1 else 1
    let s := s.putAmp { a with
      loopRun := run, loopKind := if between then a.loopKind else kind, loopSince := a.loopSince + 1 }
    if between || run < 3 || s.rd R.am_LOOP == kind then s
    else
      let s := (s.wr R.am_LOOP kind).putAmp { s.amp with loopSince := 0 }
      if !s.ampSealed then s
      else if kind == 0 then
        let s := s.audit 0x10 false 0xFFFF s.auditNow []
        s.putAmp { s.amp with openSpans := s.amp.openSpans ++ [(s.now, none)] }
      else
        let s := s.audit 0x11 false 0xFFFF s.auditNow []
        s.putAmp { s.amp with openSpans := s.amp.openSpans.map fun e => if e.2.isNone then (e.1, some s.now) else e }

/-- The hub signals the dies whose reference is suspect for a sealed legal channel (R108). -/
def State.signalSuspects (s : State) : State :=
  let flagged (d : Nat) := (chansOfDie d).any fun n => s.isLegal n && bitAt (s.rd (R.ch_CONV_STATUS n)) 3
  s.each (((List.range s.part.fronts).map (· + 1)).filter flagged) fun s d => s.emit (.notice (.refSuspect d))

/-- SEALING_DONE: the key, the checksum, the change entry and the committed configuration; the copy port opens (Table 15-2
steps 3 to 5), and references already suspect are signalled (R108). -/
def sealingDone (s : State) : State :=
  if s.rd R.am_AMP_STATE != 2 then s
  else
    let k := Config.newKey s.freeCount
    let pub := Config.publicKey k % 2 ^ 520 / 256 * 256 + 4
    let s := s.bump
    let s := s.putAmp { s.amp with
      key := some k, nextRnum := 1, reserved := 0, window := [], missing := [], openSpans := []
      expect := s.amp.paths.foldl (fun t p => tabPut none p (s.firstOwed p) t) [] }
    let s := (s.wr R.am_PUBKEY pub).wr R.am_KEY_ID (keyIdOf pub)
    let s := s.wr R.am_LEGAL_CHECKSUM (legalChecksum (s.rdDom R.ap_PROG_IMAGE) (s.rdDom R.ap_PARAMS))
    let s := s.audit 0x01 true s.amp.sealTenant s.auditNow (words2 (s.rd R.am_KEY_ID) ++ [s.amp.legal.length])
    (s.commitMram.wr R.am_AMP_STATE 3).signalSuspects

/-- UNSEALING_DONE: the key is zeroised, the entries are released, the copy port closes (R368). -/
def unsealingDone (s : State) : State :=
  if s.rd R.am_AMP_STATE != 4 then s
  else
    let s := s.each s.amp.legal fun s n => s.wr (R.ch_LEGAL n) 0
    let s := s.putAmp { s.amp with key := none, legal := [], paths := [], expect := [], window := [], suspect := [] }
    ((s.wr R.am_PUBKEY 0).wr R.am_KEY_ID 0).wr R.am_AMP_STATE 1

/-- LEGAL_BLOCK_COPY: a block of a legal path reaches the Ampoule; gaps are missing, and the program is called with it
(R362, R374, R376). A block that comes after its deadline was recorded as missing already. -/
def legalBlockCopy (p : Nat) (block : List Nat) (s : State) : State :=
  if s.rd R.am_AMP_STATE != 3 || !s.amp.paths.contains p then s
  else
    let w1 := block.getD 1 0
    let count := field w1 31 21
    let first := ticksOfT96 (block.getD 2 0 + block.getD 3 0 * 2 ^ 32 + block.getD 4 0 * 2 ^ 64)
    let period := max 1 (s.pathFrame p).period
    let words := (block.drop 6).take count
    let good := bitAt w1 18 && block.getD (6 + count) 0 == crc32c (octetsOfWords (block.take (6 + count)))
    let tkind1 := field w1 17 16 == 1
    let mk (e : Nat × Nat) : AmpWord := ⟨p, first + e.2 * period, wordMarks e.1, tkind1 || bitAt e.1 24, !good⟩
    let s := match tabGet none s.amp.expect p with
      | some (_, t) => if t < first && 0 < count then s.markMissing p t (first - period) ((first - t) / period) else s
      | none => s
    let old := s.now - 4294967296 * 1000 * ticksPerNs
    let owed := match tabGet none s.amp.expect p with
      | some (_, t) => if first < t && t ≤ s.now then max t (first + count * period) else first + count * period
      | none => first + count * period
    let next := if count == 0 then tabGet none s.amp.expect p else some (field (block.getD 0 0) 15 0 + 1, owed)
    let s := s.putAmp { s.amp with
      window := (s.amp.window.filter fun (w : AmpWord) => old ≤ w.instant) ++ (words.zip (List.range count)).map mk
      expect := tabPut none p next s.amp.expect }
    let recs := Config.programRecords (s.rd R.am_LEGAL_CHECKSUM) block s.freeCount
    s.bump.each recs State.emitRecord

/-- LEGAL_NOTICE: a notice from the hub enters the trail; it sets or clears a die's suspect latch (R375), or marks a
change of slice in the path's words (R374). -/
def legalNotice (n : Notice) (s : State) : State :=
  if !s.part.amp then s
  else
    let s := s.noticeEntry n
    match n with
    | .refSuspect d => if s.amp.suspect.contains d then s else s.putAmp { s.amp with suspect := s.amp.suspect ++ [d] }
    | .recalibrated d _ => s.putAmp { s.amp with suspect := s.amp.suspect.filter (· != d) }
    | .substitution ch _ =>
      let m : Marks := { Marks.none with substituted := true }
      let ps := s.amp.paths.filter fun p => s.rd (R.pa_SOURCE p) == ch
      (s.putAmp { s.amp with window := s.amp.window ++ ps.map fun p => ⟨p, s.amp.now, m, false, false⟩ })
    | _ => s

/-- LEGAL_MISSING_TIMEOUT: the block a legal path owes has not arrived by its deadline (R376). -/
def legalMissingTimeout (p : Nat) (s : State) : State :=
  if !s.ampSealed || !s.amp.paths.contains p then s
  else match tabGet none s.amp.expect p with
    | none => s
    | some (b, t) =>
      let period := max 1 (s.pathFrame p).period
      let due := s.blockDeadline p t
      if s.now < due then s
      else
        let n := (s.now - due) / period + 1
        let s := s.markMissing p t (t + (n - 1) * period) n
        (s.putAmp { s.amp with expect := tabPut none p (some (b, t + n * period)) s.amp.expect })

/-- AMP_WATCHDOG_MISS: the processor is restarted; after three restarts in an hour it is held in fault (R377). -/
def ampWatchdogMiss (s : State) : State :=
  if !s.part.amp || s.rd R.am_AMP_STATE == 5 then s
  else
    let times := s.amp.restarts.filter fun t => s.time.edge < t + 3600 * edgesPerSec
    let s := s.wr R.am_AMP_STATE 5
    if 3 ≤ times.length then
      (s.putAmp { s.amp with held := true, restarts := times, outageFrom := some s.now }).raise 0x7151 0
    else s.putAmp { s.amp with restarts := times ++ [s.time.edge], outageFrom := some s.now }

/-- AMPOULE_RESTART_COMPLETE: the processor runs again; records whose spans meet the outage carry MISSING (R370, R377). -/
def ampouleRestartComplete (s : State) : State :=
  if s.rd R.am_AMP_STATE != 5 || s.amp.held then s
  else
    let from_ := s.amp.outageFrom.getD s.now
    let s := s.putAmp { s.amp with
      missing := s.amp.missing ++ s.amp.paths.map fun p => (p, from_, s.now)
      outageFrom := none }
    (s.wr R.am_AMP_STATE (if s.ampSealed then 3 else 1)).ampRestarts 2

/-- AMP_TIME_UPDATE: hub time is passed to the Ampoule (R357). -/
def ampTimeUpdate (s : State) : State := s.putAmp { s.amp with now := s.now }

end Sys2Proof.Machine
end

