-- ==== Sys2Proof/Machine/Operands.lean ====
section
/-! DEFINITION. The values that requests carry: octets of a write by the entry's type, octets of a read, the range check
(R8, R301 step 8). -/

namespace Sys2Proof.Machine

/-- The octets of a WRITE as a value of the entry's type, or the code of the first check that fails (R6, R8, R299). A
VSTR is kept as its octets. -/
def decodeVal (w : Row) (l : List Byte) : Except Nat Val :=
  match w.ty with
  | .dom => .error 0x2002
  | .vstr => if l.length ≤ 255 then .ok (.dom l) else .error 0x2002
  | .bool =>
    if l.length != 1 then .error 0x2002 else if 1 < leNat l then .error 0x2003 else .ok (.num (leNat l))
  | .t96 =>
    if l.length != 12 then .error 0x2002 else if t96Valid (leNat l) then .ok (.num (leNat l)) else .error 0x2021
  | .u n => if l.length != n then .error 0x2002 else .ok (.num (leNat l))
  | .i n => if l.length != n then .error 0x2002 else .ok (.num (leNat l))
  | .oct n => if l.length != n then .error 0x2002 else .ok (.num (leNat l))
  | .t64 => if l.length != 8 then .error 0x2002 else .ok (.num (leNat l))

/-- The octets of a value of fixed length as READ answers them (R8). -/
def encodeNum (w : Row) (v : Nat) : List Byte := natLE w.ty.octets v

/-- The range code of an entry, if the value is outside its stated range (R301 step 8). -/
def rangeCheck (w : Row) : Val → Nat
  | .num v => if w.rng.holds w.ty v then 0 else w.code
  | .dom _ => 0

/-- The number a value carries; 0 for a domain. -/
def Val.toNat : Val → Nat
  | .num v => v
  | .dom _ => 0

/-- The octets a value carries; none for a number. -/
def Val.octets : Val → List Byte
  | .num _ => []
  | .dom l => l

/-- Does the entry move by octets of varying length (DOM, VSTR). -/
def Ty.isDom : Ty → Bool
  | .dom => true
  | .vstr => true
  | _ => false

end Sys2Proof.Machine
end

