-- ==== Sys2Proof/Machine/Views.lean ====
section
/-! DEFINITION. What the dictionary shows of the machine: power (R114, R330), conditions (Table 13-1), the capability
list (R309, R397), the loads that admission reserves (R17 to R20, R231, R259), and every entry that is computed
when it is read. -/

namespace Sys2Proof.Machine

/-- Power of an awake channel by CONV_RATE, µW (Table 4-6). -/
def awakePower : Nat → Nat
  | 0 => 62000 | 1 => 37700 | 2 => 23200 | 3 => 14900 | 4 => 10700 | 5 => 8600 | _ => 7000

/-- The PART string (Table 0-1, Table 12-2): BH, channels, and the suffixes of the units fitted. -/
def Part.name (p : Part) : List Byte :=
  let digits := [p.channels / 100 % 10, p.channels / 10 % 10, p.channels % 10].map fun d => BitVec.ofNat 8 (48 + d)
  [0x42#8, 0x48#8] ++ digits ++ (if p.frit || p.amp then [0x2D#8] else []) ++ (if p.frit then [0x46#8] else [])
    ++ (if p.amp then [0x41#8] else [])

/-- "Eloato", the VENDOR string (Table 12-2). -/
def vendorName : List Byte := [0x45#8, 0x6C#8, 0x6F#8, 0x61#8, 0x74#8, 0x6F#8]

/-- A capability record (R309): id, version 1, count. -/
def capRecord (id count : Nat) : Nat := id * 65536 + 0x100 + count % 256

/-- A transmit timestamp entry as 128 bits (Table 2-3). -/
def TxStamp.word (e : TxStamp) : Nat :=
  e.tsId % 65536 * 2 ^ 112 + ofBool e.valid * 2 ^ 111 + ofBool e.late * 2 ^ 110 + ofBool e.dropped * 2 ^ 109
    + (if e.valid then t96OfTicks e.time else 0)

/-- A legal record as it is sent (R373): its words, then the signature. -/
def LegalRec.octets (r : LegalRec) : List Byte := octetsOfWords r.words ++ natLE 64 r.signature

namespace State

/-- Is a channel's bank, and its die, commanded on (R102, R117). -/
def bankWanted (s : State) (n : Nat) : Bool :=
  s.rd (R.bk_BANK_POWER (bankOfChan n)) == 2 && s.rd (R.di_DIE_POWER (dieOf n - 1)) == 1

/-- Power of a channel, µW (R114): awake 2 µs + B + 1 µs of each burst period; the asleep power otherwise, and in
standby. -/
def chanPower (s : State) (n : Nat) : Nat :=
  let q := quadOf n
  if s.rd (R.ch_STAGE n) == 0 || s.rd (R.bk_BANK_POWER (bankOfChan n)) == 0 || s.rd (R.di_DIE_POWER (dieOf n - 1)) != 1 then 0
  else if s.rd (R.bk_BANK_POWER (bankOfChan n)) == 1 then 7
  else if !s.isBurst n then awakePower (s.rd (R.ch_CONV_RATE n))
  else
    let t := s.burstPeriod q * ticksPerNs
    let up := 3000 * ticksPerNs + s.burstLen q
    let p := awakePower (s.rd (R.qd_BURST_RATE q))
    if t == 0 then 7 else if t < up + 1000 * ticksPerNs then p else (p * up + 7 * (t - up)) / t

/-- Power of a list of channels, µW. -/
def chansPower (s : State) (l : List Nat) : Nat := l.foldl (fun a n => a + s.chanPower n) 0

/-- The channels with an input stage, fitted. -/
def stagedChannels (s : State) : List Nat := (s.insts .channel 0x01).filter fun n => n < s.part.channels

/-- Power of a lane, µW (Table 13-5). -/
def lanePower (s : State) (l : Nat) : Nat :=
  let st := s.rd (R.ln_LANE_STATE l)
  if st == 1 || st == 7 then 20000
  else match s.rd (R.ln_MODE l) with
    | 1 => 450000 | 3 => 450000 | 2 => 300000 | 4 => 300000 | 5 => 100000 | _ => 0

/-- Power of a DRAM controller, µW (Table 13-5). -/
def dramPower (s : State) (c : Nat) : Nat :=
  match s.rd (R.dc_CH_STATE c) with
  | 2 => 1100000 | 3 => 100000 | 4 => 1100000 | _ => 0

/-- Outputs in the blocks of a path: BLOCK_LEN, or those of BLOCK_MAXAGE if fewer (R170). -/
def blockRun (s : State) (p : Nat) : Nat :=
  min (s.rd (R.pa_BLOCK_LEN p)) (max 1 (fOut (s.pathFrame p) * s.rd (R.pa_BLOCK_MAXAGE p) / 1000000000000))

/-- The rate of a path's blocks in bit/s: header, outputs and seal (Table 6-5), and `more` words that each block brings with it. -/
def blockBits (s : State) (p more : Nat) : Nat :=
  let w := s.blockRun p
  ceilDiv (32 * fOut (s.pathFrame p) * (6 + w + s.rd (R.pa_SEAL p) + more)) (w * 1000000)

/-- What a path delivers to its queue in bit/s: the words of its blocks (R231). -/
def pathBits (s : State) (p : Nat) : Nat := s.blockBits p 0

/-- The enabled paths that feed a queue. -/
def pathsInto (s : State) (q : Nat) : List Nat := s.enabledPaths.filter fun p => s.rd (R.pa_QUEUE p) == q

/-- The capture channels that feed a queue. -/
def capsInto (s : State) (q : Nat) : List Nat := s.capChannels.filter fun n => s.rd (R.pu_SEG_QUEUE n) == q

/-- The segment records into a queue, each charged `cost`, per second: as many as DRAIN_RATE lets the shortest settings of each
die's channels give (R199). -/
def recordRate (s : State) (q cost : Nat) : Nat :=
  (List.range s.part.fronts).foldl (fun a i =>
    match ((s.capsInto q).filter fun n => dieOf n == i + 1).map fun n => 16 + tapWords (s.rd (R.pu_TAP n)) (s.rd (R.pu_SEG_LEN n)) with
    | [] => a
    | w :: t => a + ceilDiv (s.rd (R.ri_DRAIN_RATE (i + 1)) * 1000 * cost) (t.foldl min w)) 0

/-- The admitted rate of a queue's producers in bit/s: the words of Lehr blocks, and segment records of 72 octets (R199, R231). -/
def queueBits (s : State) (q : Nat) : Nat := (s.pathsInto q).foldl (fun a p => a + s.pathBits p) (s.recordRate q 576)

/-- The same as the frames that the queue holds, each with its descriptor of 32 octets (R210, R217). -/
def queueFrameBits (s : State) (q : Nat) : Nat := (s.pathsInto q).foldl (fun a p => a + s.blockBits p 8) (s.recordRate q 832)

/-- The factor of R231. -/
def fritFactor (level : Nat) : Nat := if level ≤ 3 then 1 else if level ≤ 5 then 2 else 4

/-- A context's charge in bit/s: input rate times factor (R231), while it is a stream context that a queue names. -/
def ctxLoad (s : State) (c : Nat) : Nat :=
  if s.rd (R.fc_MODE c) != 0 then 0
  else match s.queueOfCtx c with
    | some q => s.queueBits q * fritFactor (s.rd (R.fc_MATCH_LEVEL c))
    | none => 0

/-- Stream load of an engine, bit/s (R231). -/
def engineLoad (s : State) (e : Nat) : Nat :=
  (List.range 64).foldl (fun a c => if s.rd (R.fc_ENGINE c) == e then a + s.ctxLoad c else a) 0

/-- Is an engine at work: stream load, or for engine 0 and 1 in turn a running job. -/
def engineBusy (s : State) (e : Nat) : Bool :=
  0 < s.engineLoad e || e < (s.jobsIn 1).length + (s.jobsIn 2).length

/-- P_EST without the channels, µW (Table 13-5). -/
def fixedPower (s : State) : Nat :=
  let dies := (List.range s.part.fronts).foldl (fun a i => a + 1200000 * ofBool (s.rd (R.di_DIE_POWER i) == 1)) 0
  let lanes := ((List.range 18).filter s.part.laneFitted).foldl (fun a l => a + s.lanePower l) 0
  let dram := (List.range s.part.drams).foldl (fun a c => a + s.dramPower c) 0
  let frit := (List.range 2).foldl (fun a e => a + 2500000 * ofBool (s.part.frit && s.engineBusy e)) 0
  9000000 + dies + lanes + dram + s.lehrLoad * 50 / 1000000 + frit

/-- P_EST, mW (R330). -/
def pEst (s : State) : Nat := (s.fixedPower + s.chansPower s.stagedChannels) / 1000

/-- VIN_MIN_10S, mV: no higher than VIN_MEAS, otherwise free (log entry 13). -/
def vinMin (s : State) : Nat := min s.vinMeas (Config.measured R.pw_VIN_MIN_10S.code 0 % 65536)

/-- P_THERMAL, mW: (110 °C − TAMB_MAX) / THETA_JA (R330). -/
def pThermal (s : State) : Nat :=
  ((110 - s.rdI R.pw_TAMB_MAX 16) * 1000000 / (s.rd R.pw_THETA_JA : Int)).toNat

/-- P_VIN, mW (R330). -/
def pVin (s : State) : Nat :=
  let v := min (s.rd R.pw_VIN_FLOOR) s.vinMin
  min (if 3300 ≤ v then 100000 else 60000) (22 * v)

/-- P_LIMIT, mW (R330). -/
def pLimit (s : State) : Nat := min s.pVin s.pThermal

/-- Is a stream of a channel admitted: an input stage, and a bank and die that are commanded on, or that still drain: capacity
is released when the bank is off (R24, R102, R115). -/
def chanAdmitted (s : State) (n : Nat) : Bool :=
  let b := bankOfChan n
  s.rd (R.ch_STAGE n) != 0 && ((s.rd (R.bk_BANK_POWER b) != 0 && s.rd (R.di_DIE_POWER (dieOf n - 1)) == 1)
    || s.rd (R.bk_BANK_STATE b) != 0)

/-- The channels of a die with an admitted Gob stream (R129): those that enabled paths name, or that paths still read, and
those whose last flits are on their way (R24). -/
def gobAdmitted (s : State) (d : Nat) : List Nat :=
  let reading := s.paths.flatMap fun e => if e.2.live then e.2.fr.source :: (s.lives e.1).map (·.fr.source) else []
  let named := (s.enabledPaths.map fun p => s.rd (R.pa_SOURCE p)) ++ reading
  ((named.filter fun n => n < s.part.channels && dieOf n == d && s.chanAdmitted n && 1 ≤ s.rd (R.ch_STAGES n))
    ++ s.crossing d 2).eraseDups

/-- Words per second of a Gob stream, in millionths (R131). -/
def gobWordRate (s : State) (n : Nat) : Nat :=
  if s.isBurst n then 3 * s.fIn n
  else if s.rd (R.ch_TRACK_STAGE n) != 0 then
    s.fIn n + 22 * mainsNominal (s.rd (R.di_MAINS_NOMINAL (dieOf n - 1))) / 10
  else s.fIn n

/-- The channels of a die with raw forwarding admitted (R18), and those whose last flits are on their way (R24). -/
def rawAdmitted (s : State) (d : Nat) : List Nat :=
  (((s.insts .channel 0x35).filter fun n =>
    n < s.part.channels && dieOf n == d && s.rdB (R.ch_RAW_FWD n) && s.chanAdmitted n) ++ s.crossing d 1).eraseDups

/-- RAW_ADMITTED: units of 1/64 channel-equivalent (R18). -/
def rawUnits (s : State) (d : Nat) : Nat :=
  (s.rawAdmitted d).foldl (fun a n => a + 64 / 2 ^ s.rd (R.ch_CONV_RATE n)) 0

/-- Flit slots per second that a die's streams use, in millionths (R17, R18, R131, R199; log entry 147). -/
def flitRate (s : State) (d : Nat) : Nat :=
  let gob := (s.gobAdmitted d).foldl (fun a n =>
    a + max (s.gobWordRate n / 30) ((s.flushTime n).2 * 1000000 / (s.flushTime n).1)) 0
  let raw := (s.rawAdmitted d).foldl (fun a n => a + convRate (s.rd (R.ch_CONV_RATE n)) * 1000000 / 90) 0
  let drain := if s.capOfDie d == [] then 0 else s.rd (R.ri_DRAIN_RATE d) * 1000 * 1000000 / 30
  gob + raw + drain

/-- The first two ranks and their spare use: working management cores (R350). -/
def workingCores (s : State) : Nat := min 4 (5 - s.cores.out.length)

/-- Has a front die a spare slice in use or out of service, or a channel out of service with no spare left (Table 14-4,
R343). -/
def dieSliceSpare (s : State) (d : Nat) : Bool :=
  (List.range 32).any fun i =>
    let q := 32 * (d - 1) + i
    s.spareServes q || s.rd (R.ss_SUBST_STATE q) == 6 || (s.spare q).lost != []

/-- Is a lane out of service with no spare in its place. -/
def laneLost (s : State) (l : Nat) : Bool := s.rd (R.ln_LANE_STATE l) == 6 && s.servingLane l == l

/-- The capability records with bit 15 set and their counts (R309, R343). -/
def spareRecords (s : State) : List (Nat × Nat) :=
  let p := s.part
  let dies := (List.range p.fronts).map (· + 1)
  let lanes := List.range p.lanes
  [(0x8002, s.cores.out.length),
   (0x8010, (dies.filter s.dieSliceSpare).length),
   (0x8012, (dies.filter fun d => s.rd (R.di_SPARES_OUT (d - 1)) != 0 || s.rd (R.di_SPARES_IN (d - 1)) != 0).length),
   (0x8020, (List.range p.drams).foldl (fun a c => a + (s.dramCh c).softRows.length + (s.dramCh c).hardRows.length + ofBool (s.rd (R.dc_CH_STATE c) == 5)) 0),
   (0x8031, (lanes.filter fun l => s.servingLane l != l || s.laneLost l).length
     + ([16, 17].filter fun k => p.laneFitted k && s.rd (R.ln_LANE_STATE k) == 6).length),
   (0x8040, (4 - s.rd R.le_LANE_SPARES) + (64 - s.rd R.le_LANES_WORKING))].filter fun r => r.2 != 0

/-- The capability list without its end record (R309, Table 12-7). -/
def capList (s : State) : List Nat :=
  let p := s.part
  let lanes := ((List.range p.lanes).filter fun l => !s.laneLost l).length
  ([(0x0001, 1), (0x0002, s.workingCores), (0x0010, p.fronts), (0x0011, if p.tia then p.fronts else 0), (0x0012, p.fronts),
    (0x0020, p.drams), (0x0030, lanes), (0x0031, p.spareLanes), (0x0032, 4), (0x0033, 4), (0x0040, 1), (0x0041, 1),
    (0x0050, if p.frit then s.rd R.fe_ENGINES else 0), (0x0060, ofBool p.amp), (0x0070, 1)].filter fun r => r.2 != 0).map
      (fun r => capRecord r.1 r.2) ++ s.spareRecords.map fun r => capRecord r.1 r.2

/-- Is any queue with a consumer in a state (R289): bit pattern of BACKLOG. -/
def backlogBits (s : State) : Nat :=
  let any (c st : Nat) : Bool := s.queueIds.any fun q => s.rd (R.qu_CONSUMER q) == c && s.rd (R.qu_QSTATE q) == st
  ofBool (any 1 2) + 2 * ofBool (any 1 3) + 4 * ofBool (any 2 2) + 8 * ofBool (any 2 3)

/-- Degraded (Table 13-1). -/
def degraded (s : State) : Bool :=
  s.spareRecords != []
    || (List.range s.part.drams).any (fun c => s.rd (R.dc_TRAINED_RATE c) != 0 && s.rd (R.dc_TRAINED_RATE c) < s.dram.rate)
    || (List.range 2).any (fun b => bitAt (s.rd (R.bu_BFLAGS b)) 1)
    || s.rd R.le_LANES_WORKING < 64 || s.mode.ageSlow != []

/-- Repair (Table 13-1): a substitution of chapter 14 is in progress. -/
def repairing (s : State) : Bool :=
  s.spares.any (fun e => e.2.phase != 0) || s.dram.chans.any (fun e => e.2.repairing.isSome) || s.mode.handover.isSome
    || [16, 17].any fun k => (s.lane k).standIn.isSome && s.rd (R.ln_LANE_STATE k) == 2

/-- CONDITIONS (Table 13-1). -/
def conditions (s : State) : Nat :=
  let b (m : BaseMode) : Bool := s.mode.base == m
  let bits := [s.frozen, b .safe, s.repairing, b .test, s.backlogBits != 0, s.rd R.tm_TIME_STATE == 3, s.degraded, b .acquire,
    b .calibrate, b .commission, b .boot, b .dormant]
  (bits.zip (List.range 12)).foldl (fun a p => a + ofBool p.1 * 2 ^ p.2) 0

/-- MODE: the set bit of highest precedence (R321). -/
def modeNumber (s : State) : Nat := ((List.range 12).find? fun i => bitAt s.conditions i).getD 11 + 1

/-- ALERT_N is driven low (R394, R323, R326). -/
def alertLow (s : State) : Bool := s.mode.base == .boot || (s.conditions &&& s.rd R.cb_ALERT_MASK) != 0

/-- DRAIN_WORST in ns: the largest T_c of R200 over the dies fitted (log entry 23). -/
def drainWorst (s : State) : Nat :=
  ((List.range s.part.fronts).map fun i =>
    let d := i + 1
    let words := (s.capOfDie d).foldl (fun a n => a + 16 + tapWords (s.rd (R.pu_TAP n)) (s.rd (R.pu_SEG_LEN n))) 0
    if s.capOfDie d == [] then 0 else roundNear (words * 1000000) (max 1 (s.rd (R.ri_DRAIN_RATE d))) + 2000).foldl max 0

/-- Words that await drain on a die. -/
def drainWaiting (s : State) (d : Nat) : Nat := (s.ringOf d).foldl (fun a g => a + g.words.length) 0

/-- The paths a tenant has claimed (R307). -/
def pathsOfTenant (s : State) (t : Nat) : List Nat :=
  (s.insts .path 0x18).filter fun p => s.rd (R.pa_TENANT p) == t

/-- MAC/s of a tenant's enabled paths with reserved fades. -/
def tenantMacs (s : State) (t : Nat) : Nat :=
  (s.enabledPaths.filter fun p => s.rd (R.pa_TENANT p) == t).foldl (fun a p => a + s.costOf p + s.fadeReserve p) 0

/-- USED_MACS: the MAC/s admitted for a tenant, as LOAD counts them (Table 12-6, R313; log entry 80). -/
def usedMacs (s : State) (t : Nat) : Nat :=
  max (s.tenantMacs t) (s.reservedConfig.tenantMacs t +
    s.scheduledOld (s.enabledPaths.filter fun p => s.rd (R.pa_TENANT p) == t))

/-- bit/s of a tenant's route shares (R280). -/
def usedLane (s : State) (t : Nat) : Nat :=
  (List.range 64).foldl (fun a r =>
    if s.rd (R.ro_QUEUE r) != 0xFFFF && s.rd (R.ro_TENANT r) == t then
      a + s.rd (R.ro_SHARE r) * (if s.rdB (R.ro_DUAL r) && s.rd (R.ro_PORT r) < 2 then 2 else 1) else a) 0

/-- OVER_QUOTA (R308): each bit is set while use exceeds the quota. -/
def overQuota (s : State) (t : Nat) : Nat :=
  let l := [(s.usedCells t, R.te_CELL_QUOTA t), (s.usedDram t, R.te_DRAM_QUOTA t), (s.usedLane t, R.te_LANE_QUOTA t),
    ((s.pathsOfTenant t).length, R.te_PATH_QUOTA t), (s.usedMacs t, R.te_MAC_QUOTA t), (s.usedDescs t, R.te_DESC_QUOTA t)]
  (l.zip (List.range 6)).foldl (fun a e => a + ofBool (s.rd e.1.2 < e.1.1) * 2 ^ e.2) 0

/-- The reserved bandwidth of DRAM, octets per second (R217, R199, R259): twice the producers' rate of every spilling
queue, in whole frames, and the segment drain of the dies that capture. -/
def reservedBw (s : State) : Nat :=
  let spill := (s.insts .queue 0x05).foldl (fun a q =>
    if s.rdB (R.qu_ENABLE q) && s.rdB (R.qu_SPILL_EN q) then a + 2 * ceilDiv (s.queueFrameBits q) 8 else a) 0
  (List.range s.part.fronts).foldl (fun a i =>
    if s.capOfDie (i + 1) == [] then a else a + s.rd (R.ri_DRAIN_RATE (i + 1)) * 4000) spill

/-- A junction temperature in 0.1 °C: what the events gave last, else free (log entry 13). -/
def tjOf (s : State) (d : Nat) : Int :=
  match s.mode.tj.find? fun e => e.1 == d with
  | some e => e.2
  | none => toSigned 16 (Config.measured R.th_TJ_MAX.code d)

/-- A measured value that nothing computes (log entry 13). -/
def free (s : State) (r : Reg) (n : Nat) : Nat := Config.measured r.code s.freeCount % 2 ^ n

/-- EXC_MEAS_V and EXC_MEAS_I of a quad: free while its driver is on, afterwards the last measurement, 0 before the first
(Table 3-10; log entry 13). -/
def excMeasured (s : State) (r : Reg) : Nat :=
  let x := s.quad r.inst
  if x.driverOn then s.free r 32
  else match x.measured with
    | some k => Config.measured r.code k % 2 ^ 32
    | none => 0

/-- An entry that is computed when it is read. -/
def computed (s : State) (r : Reg) : Option Nat :=
  let i := r.inst
  match r.grp, r.sub with
  | .identity, 0x04 => some (Config.identityNum 0x1000 4 % 2 ^ 64)
  | .adpPorts, 0x07 => some (s.insts .session 0x02).length
  | .tenant, 0x11 => some (s.overQuota i)
  | .tenant, 0x12 => some (s.usedCells i)
  | .tenant, 0x13 => some (s.usedDram i)
  | .tenant, 0x14 => some (s.usedLane i)
  | .tenant, 0x15 => some (s.pathsOfTenant i).length
  | .tenant, 0x16 => some (s.usedMacs i)
  | .tenant, 0x17 => some (s.usedDescs i)
  | .tenant, 0x18 => some (((s.regionOf i 0).map (·.base)).getD 0)
  | .tenant, 0x19 => some (((s.regionOf i 1).map (·.base)).getD 0)
  | .time, 0x01 => some s.now96
  | .time, 0x14 => some State.clockId
  | .ptp, 0x12 => some (s.ptp i).stamps.length
  | .ptp, 0x13 => some (((s.ptp i).stamps.head?.map TxStamp.word).getD 0)
  | .channel, 0x1E => some (s.convStatus i)
  | .channel, 0x20 => some (s.apDelay i)
  | .channel, 0x36 => some (if s.rd (R.ch_STAGES i) == 0 then 0 else s.fIn i)
  | .channel, 0x37 => some (s.groupDelay i)
  | .channel, 0x38 => some (s.gobStatus i)
  | .quad, 0x09 => some (s.excMeasured r)
  | .quad, 0x0A => some (s.excMeasured r)
  | .quad, 0x14 => some (s.nextStart i)
  | .bank, 0x0B => some (s.chansPower (chansOfBank i) / 1000)
  | .die, 0x08 => some (s.rawUnits (i + 1))
  | .die, 0x09 => some (s.flitRate (i + 1) / 1000000000)
  | .path, 0x10 => some (if s.rdB (R.pa_ENABLE i) then s.costOf i else 0)
  | .path, 0x17 => some (s.fadeAt i)
  | .path, 0x11 => some (if s.rdB (R.pa_ENABLE i) then s.pathLatency i else 0)
  | .lehrEngine, 0x01 => some s.lehrLoad
  | .lehrEngine, 0x05 => some s.roundDemand
  | .lehrEngine, 0x06 => some s.catchUp
  | .lehrEngine, 0x07 => some s.enabledPaths.length
  | .punty, 0x21 => some (if s.rdB (R.pu_CAP_ENABLE i) then s.segOctets i + s.histOctets i else 0)
  | .punty, 0x22 => some (s.segsOf i).length
  | .rings, 0x01 => some s.segments.length
  | .rings, 0x02 => some s.drainWorst
  | .rings, k =>
    if k < 0x10 then none
    else match k % 16 with
      | 2 => some (s.sramReserved (k / 16))
      | 3 => some (s.sramUsed (k / 16))
      | 5 => some (s.ringDescs (k / 16))
      | 8 => some (s.drainWaiting (k / 16))
      | _ => none
  | .queue, 0x0E => some (s.available i).length
  | .queue, 0x0F => some (cellSum (s.queue i).frames)
  | .queue, 0x10 => some (s.queue i).onChip
  | .queue, 0x11 => some (256 * (s.queue i).spillCells)
  | .fritEngine, 0x02 => some (s.engineLoad 0)
  | .fritEngine, 0x03 => some (s.engineLoad 1)
  | .fritEngine, 0x04 => some ((List.range 64).filter fun c => s.rdB (R.fc_PRIVILEGED c)).length
  | .fritEngine, 0x05 => some (s.jobsIn 1).length
  | .dramSet, 0x02 => some s.chSetEntry
  | .dramSet, 0x0C => some (s.chCapacity * ((List.range s.part.drams).filter fun c => [2, 3, 4].contains (s.rd (R.dc_CH_STATE c))).length)
  | .dramSet, 0x0D => some s.reservedBw
  | .laneCx, 0x02 => some s.backlogBits
  | .cullet, 0x04 => some (s.rd r - 32 * (7 - s.part.fronts))
  | .cullet, 0x0E => some (s.rd r - 64 * (7 - s.part.fronts))
  | .cullet, 0x0F => some (s.rd r - 512 * (7 - s.part.fronts))
  | .lane, 0x05 =>
    let st := s.rd (R.ln_LANE_STATE i)
    some (if st == 4 && s.eyeOf i < s.rd (R.ln_EYE_WARN i) then 5 else st)
  | .lane, 0x06 => some (s.eyeOf i)
  | .lane, 0x0D => some (Config.laneReading (32 + i) s.freeCount % 2 ^ 64)
  | .bundle, 0x04 => some (s.workingLanes i)
  | .bundle, 0x05 => some (s.bundleCapacity i)
  | .bundle, 0x06 => some (s.bundleShares i)
  | .bundle, 0x09 => some (ofBool (s.duplicated i))
  | .mac, 0x05 => some (State.srcMac i)
  | .modes, 0x01 => some s.modeNumber
  | .modes, 0x02 => some s.conditions
  | .modes, 0x06 => some s.mram.starts
  | .power, 0x01 => some s.pLimit
  | .power, 0x02 => some s.pEst
  | .power, 0x04 => some s.vinMeas
  | .power, 0x05 => some s.vinMin
  | .power, 0x08 => some s.pThermal
  | .power, 0x0A => some (ofBool (s.pLimit < s.pEst) + 2 * ofBool s.mode.currentLimit)
  | .thermal, 0x01 =>
    some (ofSigned 16 (((List.range s.part.dies).map s.tjOf).foldl (fun a b => if a < b then b else a) (s.tjOf 0)))
  | .thermal, 0x02 => some (leNat ((List.range 8).flatMap fun d => natLE 2 (if d < s.part.dies then ofSigned 16 (s.tjOf d) else 0)))
  | .lrec, 0x01 => some s.amp.queue.length
  | .ctrlBalls, 0x02 => some (ofBool s.alertLow)
  | .ctrlBalls, 0x04 => some (s.free r 16)
  | .ctrlBalls, 0x05 => some (ofBool s.mode.refclk)
  | _, _ => none

/-- A domain or string that is computed when it is read. -/
def computedDom (s : State) (r : Reg) : Option (List Byte) :=
  match r.grp, r.sub with
  | .identity, 0x01 => some vendorName
  | .identity, 0x02 => some s.part.name
  | .identity, k => some (Config.identity 0x1000 k)
  | .queue, 0x12 => some (((s.available r.inst).head?.map Frame.octets).getD [])
  | .amp, 0x09 => some (Config.identity 0xC000 9)
  | .lrec, 0x02 => some ((s.amp.queue.head?.map LegalRec.octets).getD [])
  | _, _ => none

/-- The value in force of a numeric entry as READ shows it: W1 entries read 0 (Table 0-6). What an entry shows of a value
that its width cannot hold is not stated (log entry 3). -/
def shown (s : State) (r : Reg) (w : Row) : Nat :=
  if w.acc = .w1 then 0
  else
    let v := (s.computed r).getD (s.rd r)
    if v < 2 ^ (8 * w.ty.octets) then v else Config.counterAfterMax r.code v % 2 ^ (8 * w.ty.octets)

/-- The octets in force of a domain or string. -/
def shownDom (s : State) (r : Reg) : List Byte := (s.computedDom r).getD (s.rdDom r)

/-- AUDIT_SIG (R371): the signature over the newest change followed by the newest notice; zero while unsealed. -/
def auditSig (s : State) : Nat :=
  match s.amp.key with
  | none => 0
  | some k =>
    let last (l : List AuditEntry) : List Byte := (l.getLast?.map AuditEntry.octets).getD []
    Config.sign k (digestOf (last s.amp.changes ++ last s.amp.notices)) s.freeCount % 2 ^ 512

/-- The octets that a READ in a session answers, or the code that refuses it (R372 for the audit entries). -/
def readValue (s : State) (session : Nat) (r : Reg) (w : Row) : Except Nat (List Byte) :=
  match r.grp, r.sub with
  | .audit, 0x02 => .ok (natLE 4 (s.session session).auditSel)
  | .audit, 0x03 =>
    match s.auditHeld (s.session session).auditSel with
    | some e => .ok e.octets
    | none => .error 0x2153
  | .audit, 0x04 => .ok (natLE 64 s.auditSig)
  | _, _ => if w.ty.isDom then .ok (s.shownDom r) else .ok (encodeNum w (s.shown r w))

end State

end Sys2Proof.Machine
end

