-- ==== Sys2Proof/Machine/Admission.lean ====
section
/-! DEFINITION. What a commit tests (R24, R301, R312): the rules of every chapter over the configuration as the writes
would leave it, and the admission of its streams in the order of Table 1-6. -/

namespace Sys2Proof.Machine

/-- The writes that one commit carries: the staged ones of a clause, or the one of a write outside a clause. -/
abbrev Writes := List (Reg × Val)

/-- The first code of a list that is not 0. -/
def firstCode (l : List Nat) : Nat := (l.find? (· != 0)).getD 0

/-- A code where a test fails. -/
def codeIf (bad : Bool) (code : Nat) : Nat := if bad then code else 0

/-- An entry whose write starts an action and sets no value in force: W1 and WO, AUDIT_SEL and the window. -/
def isAction (r : Reg) : Bool :=
  (match rowAt r.grp r.sub with | some w => w.acc == .w1 || w.acc == .wo | none => false)
    || (r.grp == .audit && r.sub == 0x02) || (r.grp == .dramWin && r.sub == 0x02)

/-- Does a commit write an entry. -/
def wrote (ws : Writes) (r : Reg) : Bool := ws.any fun e => e.1 == r

/-- Does a commit write an entry with a value. -/
def wroteVal (ws : Writes) (r : Reg) (v : Nat) : Bool := ws.any fun e => e.1 == r && e.2 == .num v

/-- Does a commit write any of some subindices of an instance. -/
def wroteSubs (ws : Writes) (g : Grp) (i : Nat) (subs : List Nat) : Bool :=
  ws.any fun e => e.1.grp == g && e.1.inst == i && subs.contains e.1.sub

/-- The instances of a group that a commit writes, each once. -/
def touched (ws : Writes) (g : Grp) : List Nat := ((ws.filter fun e => e.1.grp == g).map fun e => e.1.inst).eraseDups

/-- The subindices from lo to hi. -/
def subRange (lo hi : Nat) : List Nat := (List.range (hi + 1 - lo)).map (lo + ·)

/-- A matrix output record that breaks R188. -/
def moutBad (p : Part) (r : Nat) : Bool :=
  let f (hi lo : Nat) := field r hi lo
  let range (a b : Nat) : Bool :=
    (a == 0x3FF && b == 0x3FF) || (a != 0x3FF && b != 0x3FF && a ≤ b && b < p.channels)
  let chans := if f 127 118 == 0x3FF then 0 else f 117 108 + 1 - f 127 118
  let bits (v : Nat) := (List.range 16).foldl (fun a i => a + ofBool (bitAt v i)) 0
  let sources := chans + bits (f 107 100) + bits (f 99 96) + bits (f 95 80) + f 79 79
  sources < f 75 66 || !range (f 127 118) (f 117 108) || !range (f 45 36) (f 35 26) || 1000000 < f 65 46
    || f 76 76 != 0 || f 21 16 != 0

/-- Is a value of an injection rule's TARGET one of Table 11-10 on this part. -/
def injTargetOk (p : Part) (t : Nat) : Bool :=
  t < 2 || (0x10 ≤ t && p.laneFitted (t - 0x10)) || (0x20 ≤ t && (t - 0x20) / 2 < p.fronts)

/-- The rules on one value that a type and a range do not say: the code, or 0 (R72, R78, R188, R38, R226, R176, R306,
R293, R359). -/
def valueCode (p : Part) (r : Reg) (v : Nat) : Nat :=
  match r.grp, r.sub with
  | .channel, 0x01 => codeIf (v == 3 && !p.tia) 0x2042
  | .quad, 0x06 => codeIf (v < 1000) 0x2031
  | .time, 0x03 => codeIf (!priorityOk v) 0x2023
  | .queue, 0x0C => if !p.frit then codeIf (v != 0xFFFF) 0x2001 else codeIf (64 ≤ v && v != 0xFFFF) 0x2081
  | .path, 0x02 => codeIf (v != 0xFFFF && p.channels ≤ v) 0x2061
  | .matrix, k => codeIf (0x20 ≤ k && k < 0x40 && moutBad p v) 0x2073
  | .injRule, 0x02 => codeIf (!injTargetOk p v) 0x2111
  | .tenant, 0x01 => codeIf (r.inst == 0 && v == 0) 0x2123
  | .tenant, 0x02 => codeIf ((r.inst == 0) != (v == 0)) 0x2123
  | _, _ => 0

namespace State

/-- The writes in force as one configuration: every value set, FIR_CENTRE as R154 sets it, and paths and routes claimed
and freed (R307). -/
def stage (s : State) (tenant : Nat) (ws : Writes) : State :=
  let s := s.each (ws.filter fun e => !isAction e.1) fun s e => s.put e.1 e.2
  let s := s.each (touched ws .path) fun s p =>
    let s := if wrote ws (R.pa_FIR_TAPS p) && !wrote ws (R.pa_FIR_CENTRE p) then
        s.wr (R.pa_FIR_CENTRE p) (128 * (s.rd (R.pa_FIR_TAPS p) - 1)) else s
    if wroteVal ws (R.pa_ENABLE p) 0 then s.wr (R.pa_TENANT p) 0xFFFF
    else if s.rd (R.pa_TENANT p) == 0xFFFF then s.wr (R.pa_TENANT p) tenant else s
  s.each (touched ws .route) fun s r =>
    if wroteVal ws (R.ro_QUEUE r) 0xFFFF then s.wr (R.ro_TENANT r) 0xFFFF
    else if s.rd (R.ro_TENANT r) == 0xFFFF then s.wr (R.ro_TENANT r) tenant else s

/-- May a tenant's producers name a queue: it holds it or is granted it (R212). -/
def mayFeed (s : State) (t q : Nat) : Bool := q / 8 == t || s.rd (R.qu_PRODUCER_GRANT q) == t

/-- The quads whose entries or channels a commit writes. -/
def quadsTouched (ws : Writes) : List Nat := (touched ws .quad ++ (touched ws .channel).map quadOf).eraseDups

/-- Is a lane bound to a MAC in an Ethernet mode (R50, R271). -/
def macInUse (s : State) (m : Nat) : Bool :=
  (List.range 16).any fun l => s.rd (R.ln_MAC l) == m && 3 ≤ s.rd (R.ln_MODE l)

/-- Chapter 2: PTP ports (R50, R62; log entry 35). -/
def testTime (s0 s : State) (ws : Writes) : Nat :=
  firstCode ((touched ws .ptp).map fun m =>
    if s0.rdB (R.pt_ENABLE m) && !wroteVal ws (R.pt_ENABLE m) 0 && wroteSubs ws .ptp m (subRange 0x01 0x0E) then 0x3002
    else codeIf (wroteVal ws (R.pt_ENABLE m) 1 && !s.macInUse m) 0x3024)

/-- The longest time, in ticks, for which two intervals overlap that come round again and again, of length g every p and of length f
every q, the second beginning x after the first at one pair: at the other pairs the distance differs by multiples of the greatest
common divisor of p and q (R84). -/
def longestOverlap (g p f q : Nat) (x : Int) : Nat :=
  let d : Int := max 1 (Nat.gcd p q)
  let lo : Int := min 0 ((g : Int) - f)
  let hi : Int := max 0 ((g : Int) - f)
  let up := lo + (x - lo) % d
  (if up ≤ hi then (min g f : Int) else (min g f : Int) - min (up - hi) (lo - (up - d))).toNat

/-- The longest gap of a quad's schedule in which a slot may run, in ticks (R84). -/
def slotGap (s : State) (q : Nat) : Nat :=
  let busy := s.burstDelay q + s.burstLen q
  let off := (s.rd (R.qd_PWM_PERIOD q) - s.rd (R.qd_PWM_WIDTH q)) * ticksPerNs
  match s.rd (R.qd_START_SRC q) with
  | 0 => if s.rdB (R.qd_PULSED q) then off else 20000000 * ticksPerNs
  | 1 =>
    let g := s.rd (R.qd_TIMER_PERIOD q) * ticksPerNs - s.burstLen q
    if s.rdB (R.qd_PULSED q) then
      longestOverlap g (s.rd (R.qd_TIMER_PERIOD q) * ticksPerNs) off (s.rd (R.qd_PWM_PERIOD q) * ticksPerNs)
        (((s.rd (R.qd_PWM_PHASE q) + s.rd (R.qd_PWM_WIDTH q) : Nat) : Int) * ticksPerNs - (s.rd (R.qd_TIMER_PHASE q) * ticksPerNs + busy : Nat))
    else g
  | 2 => off
  | _ => max (off - busy) (s.burstDelay q)

/-- Has the schedule of a channel's quad a gap for its diagnostic slots (R84). -/
def testSlot (s : State) (n : Nat) : Nat :=
  codeIf (s.rd (R.ch_STAGE n) == 1 && s.isBurst n && s.rd (R.ch_OW_CURRENT n) != 0 && s.rd (R.ch_OW_PERIOD n) != 0
    && s.slotGap (quadOf n) < s.slotLen n * ticksPerNs) 0x2045

/-- Chapter 3 on a channel (R68, R70, R72, R83, R84, Table 3-9). -/
def testInput (s : State) (ws : Writes) (n : Nat) : Nat :=
  let st := s.rd (R.ch_STAGE n)
  let ow := s.rd (R.ch_OW_CURRENT n)
  firstCode [
    codeIf (s.rd (R.ch_BURNOUT n) != 0 && (st == 2 || st == 3)) 0x2041,
    codeIf (st != 1 && (ow != 0 || s.rd (R.ch_OW_PERIOD n) != 0) && wroteSubs ws .channel n [0x01, 0x08, 0x0A]) 0x2041,
    codeIf (wrote ws (R.ch_PD_BIAS n) && s.vinMeas < s.rd (R.ch_PD_BIAS n) + 300) 0x2041]

/-- Chapters 3 and 4 on a quad (R75, R78, R79, R80, R97 to R99, Table 4-9; log entry 150). -/
def testQuad (s0 s : State) (ws : Writes) (q : Nat) : Nat :=
  let mode := s.rd (R.qd_EXC_MODE q)
  let volt := s.rd (R.qd_EXC_VOLT q)
  let width := s.rd (R.qd_PWM_WIDTH q)
  let period := s.rd (R.qd_PWM_PERIOD q)
  let src := s.rd (R.qd_START_SRC q)
  let busy := s.burstDelay q + s.burstLen q
  let chans := (chansOfQuad q).filter fun n => s.rd (R.ch_STAGE n) != 0
  firstCode [
    codeIf (wroteSubs ws .quad q [0x01, 0x02] && mode == 1 && (volt < 100 || 5000 < volt || s.vinMeas < volt + 300)) 0x2043,
    codeIf (wrote ws (R.qd_EXC_MODE q) && mode != 0 && bitAt (s0.rd (R.qd_EXC_STATUS q)) 5) 0x7041,
    codeIf (width < 1000) 0x2031,
    codeIf (1000000000 < width || period < width + 1000 || period ≤ s.rd (R.qd_PWM_PHASE q)) 0x2044,
    codeIf (3 ≤ mode && (chans.any (fun n => !s.isBurst n) || (chansOfQuad q).any (fun n =>
      1 ≤ s.rd (R.ch_STAGES n) && (s.rd (R.ch_S1_LEN n) % 512 != 0 || s.rd (R.ch_TRACK_STAGE n) == 1)))) 0x2046,
    codeIf (src == 2 && width * ticksPerNs < busy) 0x2031,
    codeIf (src == 1 && s.rd (R.qd_TIMER_PERIOD q) * ticksPerNs < busy + 1000 * ticksPerNs) 0x2032,
    codeIf (src == 3 && (period - width) * ticksPerNs < busy) 0x2032,
    codeIf (s.rd (R.qd_TIMER_PERIOD q) ≤ s.rd (R.qd_TIMER_PHASE q)) 0x2033,
    codeIf (2 ≤ src && !s.rdB (R.qd_PULSED q)) 0x3031,
    codeIf (src == 0 && chans.any s.isBurst) 0x3031]

/-- The front die that holds an entry; the link's own entries of Table 1-7 are the hub die's. -/
def dieOfReg (r : Reg) : Option Nat :=
  match bankOfReg r with
  | some b => some (b / 4 + 1)
  | none => if r.grp == .die && 0x12 ≤ r.sub then some (r.inst + 1) else if r.grp == .ageing && r.inst != 0 then some r.inst else none

/-- Is a front die unreachable: its link out of service, or down for longer than a retraining of 20 µs (R30). -/
def dieUnreachable (s : State) (d : Nat) : Bool :=
  s.rd (R.di_LINK_STATE (d - 1)) == 5 || (match (s.link d).downSince with
    | some e => !s.linkUp d && s.rd (R.di_LINK_STATE (d - 1)) != 0 && decide (e + 32768 < s.time.edge)
    | none => false)

/-- The code that refuses a request for an entry of an unreachable front die (R30, R348). -/
def reachCode (s : State) (r : Reg) : Nat :=
  match dieOfReg r with
  | some d => codeIf (s.dieUnreachable d) 0x7011
  | none => 0

/-- What the seal freezes (R10, R136, R360, R362): check 6 of R301, made again when a clause's writes take effect. -/
def legalCode (s : State) (r : Reg) : Nat :=
  if s.sealedEntry r then (if r.grp == .die && 0x1D ≤ r.sub && r.sub ≤ 0x1F then 0x6051 else 0x6001)
  else codeIf (((r.grp == .ampProg && r.sub ≤ 4) || r.grp == .legalSet)
    && (s.ampSealed || s.rd R.am_AMP_STATE == 2)) 0x6151

/-- The code that refuses writes for where their entries are: fenced, frozen by the seal, or on an unreachable die. -/
def placeCode (s : State) (ws : Writes) : Nat :=
  firstCode (ws.map fun e => firstCode [codeIf (s.fenced e.1) 0x3005, s.legalCode e.1, s.reachCode e.1])

/-- Is the tracked length of a channel legal across the tracked range (R135). -/
def trackOk (s : State) (n : Nat) : Bool :=
  let k := s.rd (R.ch_TRACK_STAGE n)
  let r := mainsRange (s.rd (R.di_MAINS_NOMINAL (dieOf n - 1)))
  let len (f : Nat) := s.lengthAt n k f
  k == 0 || (256 ≤ len r.1 && len r.1 ≤ 16777216 && 256 ≤ len r.2 && len r.2 ≤ 16777216)

/-- Chapter 5 on a channel (R126, R127, R135). -/
def testGob (s : State) (n : Nat) : Nat :=
  let stages := s.rd (R.ch_STAGES n)
  firstCode [
    codeIf (1 ≤ stages && 102400000000000 < s.fIn n) 0x2051,
    codeIf (s.rdB (R.ch_CHOP n) && !s.isBurst n
      && (s.rd (R.ch_S1_LEN n) != 256 * s.rd (R.ch_S1_DEC n) || s.rd (R.ch_TRACK_STAGE n) == 1)) 0x2052,
    codeIf (!s.trackOk n) 0x2053]

/-- Chapter 5 on a die (R134, R135). -/
def testMains (s : State) (ws : Writes) (i : Nat) : Nat :=
  let n := s.rd (R.di_MAINS_SENSE i)
  firstCode [
    codeIf (wrote ws (R.di_MAINS_SENSE i) && n != 0xFFFF
      && (n / 128 != i || s.rd (R.ch_STAGE n) != 1 || s.isBurst n)) 0x3051,
    codeIf (wrote ws (R.di_MAINS_NOMINAL i) && (chansOfDie (i + 1)).any (fun n => !s.trackOk n)) 0x2053]

/-- Is OUT_PERIOD one that R153 allows. -/
def periodOk (p : Nat) : Bool :=
  (40000000 ≤ p && p ≤ ticksPerSec && ticksPerSec % p == 0)
    || (p % ticksPerSec == 0 && 2 ≤ p / ticksPerSec && p / ticksPerSec ≤ 100)

/-- Chapter 6 on a path written (R149, R153, R154, R155, R164, R176, R360). -/
def testPath (s0 s : State) (ws : Writes) (tenant p : Nat) : Nat :=
  let src := s.rd (R.pa_SOURCE p)
  let q := s.rd (R.pa_QUEUE p)
  let taps := s.rd (R.pa_FIR_TAPS p)
  let on := s.rdB (R.pa_ENABLE p)
  let holder := if s0.rd (R.pa_TENANT p) == 0xFFFF then tenant else s0.rd (R.pa_TENANT p)
  firstCode [
    codeIf (!periodOk (s.rd (R.pa_OUT_PERIOD p))) 0x2061,
    codeIf (taps == 0 && s.rd (R.pa_FIR_DEC p) != 1) 0x2061,
    codeIf (256 * (taps - 1) < s.rd (R.pa_FIR_CENTRE p)) 0x2061,
    codeIf ((wrote ws (R.pa_FIR_COEF p) || on) && (s.rdDom (R.pa_FIR_COEF p)).length != 4 * taps) 0x2062,
    codeIf (q < 8192 && !s.mayFeed holder q) 0x1061,
    codeIf (wrote ws (R.pa_SOURCE p) && s0.amp.legal.contains src) 0x6152,
    codeIf (on && (src == 0xFFFF || q == 0xFFFF || s.rd (R.ch_STAGES src) == 0)) 0x3062,
    codeIf (on && !s.ratioOk (s.pathFrame p)) 0x2063,
    codeIf (fades s0 s p && ((s0.newestLife p).fade.isSome || (s0.fadeClause p).isSome)) 0x3061]

/-- Chapter 6 on the paths whose source a commit changes (R155). -/
def testSources (s : State) (ws : Writes) : Nat :=
  let qs := touched ws .quad
  let cs := touched ws .channel
  firstCode (s.enabledPaths.map fun p =>
    let n := s.rd (R.pa_SOURCE p)
    codeIf ((cs.contains n || qs.contains (quadOf n)) && 1 ≤ s.rd (R.ch_STAGES n) && !s.ratioOk (s.pathFrame p)) 0x2063)

/-- The LOOKBACK that a matrix output asks of its destinations, ns (R190). -/
def lookbackNeed (mr : Nat) : Nat := 80 + (if bitAt mr 77 then 0 else field mr 65 46)

/-- Is a channel a destination of a matrix output (Table 7-3). -/
def isDest (mr n : Nat) : Bool := field mr 45 36 != 0x3FF && field mr 45 36 ≤ n && n ≤ field mr 35 26

/-- TAP against STAGES, on the channels whose capture or cascade a commit writes (R179). -/
def testTap (s : State) (n : Nat) : Nat := codeIf (s.rd (R.ch_STAGES n) < s.rd (R.pu_TAP n)) 0x2071

/-- Chapter 7 on a channel's capture (R181, R190, R191, R199). -/
def testCapture (s : State) (ws : Writes) (tenant n : Nat) : Nat :=
  let q := s.rd (R.pu_SEG_QUEUE n)
  firstCode [
    codeIf (s.rd (R.pu_TRIG_TYPE n) == 3 && s.rdI (R.pu_LEVEL_A n) 32 < s.rdI (R.pu_LEVEL_B n) 32) 0x2071,
    codeIf (s.rd (R.pu_WIDTH_MAX n) < s.rd (R.pu_WIDTH_MIN n)) 0x2071,
    codeIf (s.rd (R.pu_SEG_LEN n) ≤ s.rd (R.pu_PRE n)) 0x2071,
    codeIf (q < 8192 && wrote ws (R.pu_SEG_QUEUE n) && !s.mayFeed tenant q) 0x1071,
    codeIf (wroteVal ws (R.pu_CAP_ENABLE n) 1 && (s.rd (R.ch_STAGE n) == 0 || s.isBurst n)) 0x3071,
    codeIf ((List.range 32).any fun m =>
      let mr := s.rd (R.mx_MOUT m)
      isDest mr n && s.rd (R.pu_LOOKBACK n) < lookbackNeed mr) 0x2072]

/-- Chapter 7 on the matrix: the destinations of the outputs written (R190). -/
def testMatrix (s : State) (ws : Writes) : Nat :=
  let outs := (List.range 32).filter fun m => wrote ws (R.mx_MOUT m)
  codeIf (outs.any fun m =>
    let mr := s.rd (R.mx_MOUT m)
    field mr 45 36 != 0x3FF && (subRange (field mr 45 36) (field mr 35 26)).any fun n =>
      s.rd (R.pu_LOOKBACK n) < lookbackNeed mr) 0x2072

/-- The largest payload of a path's blocks in octets (Table 6-5, R170, R171). -/
def blockOctets (s : State) (p : Nat) : Nat := 4 * (6 + s.rd (R.pa_BLOCK_LEN p) + s.rd (R.pa_SEAL p))

/-- The payloads of the largest frames of a queue's producers: Lehr blocks, and segment records of 72 octets (R199). -/
def producerFrames (s : State) (q : Nat) : List Nat :=
  (s.pathsInto q).map s.blockOctets ++ (s.capsInto q).map fun _ => 72

/-- Cells of the largest frame of a queue's producers; one more behind Frit (R215, R239). -/
def largestCells (s : State) (q : Nat) : Nat :=
  ((s.producerFrames q).map cellsOf).foldl max 0 + ofBool (s.rd (R.qu_FRIT_CTX q) < 64)

/-- Chapter 8 on a queue written (R212, R214, R226, R239); a Frit context and a queue name one another by FRIT_CTX (log entry
139). -/
def testQueue (s0 s : State) (ws : Writes) (q : Nat) : Nat :=
  let c := s.rd (R.qu_FRIT_CTX q)
  let res := s.rd (R.qu_CELL_RESERVE q)
  let off := wroteVal ws (R.qu_ENABLE q) 0
  let was := s0.rd (R.qu_PRODUCER_GRANT q)
  let named := (s.insts .path 0x0B).any (fun p => s.rd (R.pa_QUEUE p) == q)
    || (s.insts .punty 0x12).any (fun n => s.rd (R.pu_SEG_QUEUE n) == q)
  let granted := (s.insts .path 0x0B).any (fun p => s.rd (R.pa_QUEUE p) == q && s.rd (R.pa_TENANT p) == was)
    || (s.insts .punty 0x12).any (fun n => s.rd (R.pu_SEG_QUEUE n) == q && (s0.cap n).segTenant == was)
  firstCode [
    codeIf (s0.rdB (R.qu_ENABLE q) && !off && wroteSubs ws .queue q (subRange 0x01 0x0C)) 0x3083,
    codeIf (s0.rdB (R.qu_ENABLE q) && off && (named || c < 64)) 0x3082,
    codeIf (s.rd (R.qu_PRODUCER_GRANT q) != was && was != 0xFFFF && granted) 0x3082,
    codeIf (s.rd (R.qu_CELL_QUOTA q) < res || (s.rdB (R.qu_SPILL_EN q) && res < 32)) 0x2081,
    codeIf (c < 64 && wrote ws (R.qu_FRIT_CTX q) && s.rd (R.fc_TENANT c) != q / 8) 0x1091]

/-- R239 where a queue feeds Frit. -/
def testProducers (s : State) (q : Nat) : Nat :=
  let c := s.rd (R.qu_FRIT_CTX q)
  if 64 ≤ c then 0
  else if s.rd (R.fc_TENANT c) != q / 8 then 0x1091
  else codeIf (s.rd (R.fc_MODE c) != 0
    || ((s.insts .queue 0x0C).filter fun x => s.rd (R.qu_FRIT_CTX x) == c).length != 1 || s.capsInto q != []) 0x3093

/-- The reserve that the producers of a queue need (R215): part of the stage of queue cells (Table 1-6). -/
def testReserve (s : State) (q : Nat) : Nat :=
  codeIf (s.producerFrames q != [] && (!s.rdB (R.qu_ENABLE q) || s.rd (R.qu_CELL_RESERVE q) < 2 * s.largestCells q)) 0x4084

/-- The queues that a commit can affect: written, or named by what it writes. -/
def queuesTouched (s : State) (ws : Writes) : List Nat :=
  (touched ws .queue ++ (touched ws .path).map (fun p => s.rd (R.pa_QUEUE p))
    ++ (touched ws .punty).map (fun n => s.rd (R.pu_SEG_QUEUE n))
    ++ (touched ws .fritCtx).filterMap s.queueOfCtx
    ++ (touched ws .route).map (fun r => s.rd (R.ro_QUEUE r))).eraseDups.filter (· < 8192)

/-- Chapter 9 (R230, R241). -/
def testFrit (s : State) (ws : Writes) (tenant : Nat) : Nat :=
  firstCode ([codeIf ((touched ws .fritCtx) != []
      && 16 < ((List.range 64).filter fun c => s.rdB (R.fc_PRIVILEGED c)).length) 0x4092]
    ++ (touched ws .fritCtx).map (fun c => codeIf (0 < s.rd (R.fc_MATCH_LEVEL c) && !s.rdB (R.fc_PRIVILEGED c)) 0x4092)
    ++ (touched ws .fritJob).map (fun j =>
      let st := s.rd (R.fj_JOB_STATE j)
      let c := s.rd (R.fj_CTX j)
      let out (subs : List Nat) (a n : Nat) := wroteSubs ws .fritJob j subs && !s.inAllocation tenant a n
      if wroteSubs ws .fritJob j (subRange 0x01 0x06) && (st == 1 || st == 2) then 0x3091
      else firstCode [codeIf (wrote ws (R.fj_CTX j) && c < 64 && s.rd (R.fc_TENANT c) != tenant) 0x1091,
        codeIf (wrote ws (R.fj_CTX j) && c < 64 && s.rd (R.fc_MODE c) != 1) 0x2091,
        codeIf ((s.rd (R.fj_FORMAT j) != 3 && out [0x03, 0x04] (s.rd (R.fj_IN_ADDR j)) (s.rd (R.fj_IN_LEN j)))
          || out [0x05, 0x06] (s.rd (R.fj_OUT_ADDR j)) (s.rd (R.fj_OUT_LEN j))) 0x1092]))

/-- The five masks as the entries give them. -/
def maskEntries (s : State) : List Nat :=
  [s.rd R.ds_BG_MASK0, s.rd R.ds_BG_MASK1, s.rd R.ds_BG_MASK2, s.rd R.ds_BA_MASK0, s.rd R.ds_BA_MASK1]

/-- Chapter 10 (R250, R251). -/
def testDram (s0 s : State) (ws : Writes) : Nat :=
  firstCode ([codeIf ((touched ws .dramSet) != [] && masksBad s.maskEntries) 0x2101]
    ++ (touched ws .tenant).map (fun t =>
      let archive := (s0.dram.archive.filter (·.2.2 != 0xFFFF)).any fun e => match s0.regionOf t 0 with
        | some r => r.base ≤ e.1 && e.1 < r.base + r.size
        | none => false
      let work (a n : Nat) : Bool := match s0.regionOf t 1 with
        | some r => r.base < a + n && a < r.base + r.size
        | none => false
      let busy := s0.jobs.any (fun e => e.2.tenant == t
          && (let st := s0.rd (R.fj_JOB_STATE e.1); st == 1 || st == 2 || st == 4 || st == 8)
          && (work (s0.rd (R.fj_OUT_ADDR e.1)) (s0.rd (R.fj_OUT_LEN e.1))
            || (s0.rd (R.fj_FORMAT e.1) != 3 && work (s0.rd (R.fj_IN_ADDR e.1)) (s0.rd (R.fj_IN_LEN e.1)))))
        || s0.sessions.any (fun e => s0.rd (R.se_S_TENANT e.1) == t && e.2.xfers.any (·.window)
          && work (s0.rd R.dw_WIN_ADDR) 1)
      firstCode [codeIf (changedSubs s0 s .tenant t [0x07] && archive) 0x3103,
        codeIf (changedSubs s0 s .tenant t [0x08] && busy) 0x3103]))

/-- Octets of a stream frame (R224). -/
def streamOctets (n : Nat) : Nat := 20 + ceilDiv n 4 * 4

/-- The frame rate that a queue's producers are admitted at, as a route is charged for it in bit/s (R280): a frame costs
(NBLK + 2) × 256 bits. -/
def producerRate (s : State) (q : Nat) : Nat :=
  let cost (n : Nat) := (ceilDiv (streamOctets n) 32 + 2) * 256
  (s.pathsInto q).foldl (fun a p =>
    let w := s.blockRun p
    a + ceilDiv (fOut (s.pathFrame p) * cost (4 * (6 + w + s.rd (R.pa_SEAL p)))) (max 1 (w * 1000000))) (s.recordRate q (cost 72))

/-- Octets that an encapsulation adds (R290). -/
def encapOctets (e : Nat) : Nat := if e = 0 then 0 else if e = 1 then 28 else 48

/-- Has a bundle other than 2 to 4 lanes of one mode (R279; log entry 127). -/
def bundleBad (s : State) (b : Nat) : Bool :=
  let modes := (s.lanesOf b).map fun l => s.rd (R.ln_MODE l)
  modes != [] && (modes.length < 2 || 4 < modes.length || modes.eraseDups.length != 1)

/-- Does a MAC outside 25GBASE-R have RS-FEC (R290, Table 11-8). -/
def fecBad (s : State) : Bool :=
  (List.range 4).any fun m => s.rd (R.ma_FEC m) == 1
    && (List.range 16).any fun l => s.rd (R.ln_MAC l) == m && 4 ≤ s.rd (R.ln_MODE l)

/-- Chapter 11 on lanes and MACs (R271, R279, R290, Tables 11-6 and 11-8). -/
def testLanes (s : State) (ws : Writes) : Nat :=
  if (touched ws .lane) == [] && (touched ws .mac) == [] then 0 else
  let eth := (List.range 16).filter fun l => 3 ≤ s.rd (R.ln_MODE l)
  let macs := eth.map fun l => s.rd (R.ln_MAC l)
  codeIf ((3 ≤ s.rd (R.ln_MODE 16) || 3 ≤ s.rd (R.ln_MODE 17) || 4 < eth.length
    || macs.any (4 ≤ ·) || macs.eraseDups.length != macs.length
    || s.bundleBad 0 || s.bundleBad 1 || s.fecBad
    || (touched ws .lane).any fun l => s.rd (R.ln_EYE_WARN l) ≤ s.rd (R.ln_EYE_ALARM l))) 0x2111

/-- Chapter 11 on a route whose entries or producers a commit writes (R284, R290). -/
def testRoute (s : State) (ws : Writes) (r : Nat) : Nat :=
  let q := s.rd (R.ro_QUEUE r)
  let t := s.rd (R.ro_TENANT r)
  let port := s.rd (R.ro_PORT r)
  let longest := ((s.producerFrames q).map streamOctets).foldl max 0
  firstCode [
    codeIf (wrote ws (R.ro_QUEUE r) && ((q < 8192 && q / 8 != t) || (q == 0xFFFE && t != 0))) 0x1111,
    codeIf (q < 8192 && 4 ≤ port && s.rd (R.ma_MTU (portMac port)) < longest + encapOctets (s.rd (R.ro_ENCAP r))
      && longest != 0) 0x2112]

/-- The routes that take a queue. -/
def routesOf (s : State) (q : Nat) : List Nat := (List.range 64).filter fun r => s.rd (R.ro_QUEUE r) == q

/-- The routes whose entries or producers a commit writes. -/
def routesTouched (s : State) (ws : Writes) : List Nat :=
  let qs := s.queuesTouched ws
  (List.range 64).filter fun r => (touched ws .route).contains r || qs.contains (s.rd (R.ro_QUEUE r))
    || (touched ws .mac).any fun m => s.rd (R.ro_PORT r) == 4 + m

/-- Is a route's SHARE below what its queue's producers are admitted at (R280): part of the stage of lanes (Table 1-6). -/
def shareShort (s : State) (r : Nat) : Bool :=
  let q := s.rd (R.ro_QUEUE r)
  q < 8192 && s.rd (R.ro_SHARE r) < s.producerRate q

/-- Chapter 11 on routes (R284). -/
def testRoutes (s : State) (ws : Writes) : Nat :=
  let rs := s.routesTouched ws
  let lost := (touched ws .queue) != [] || (touched ws .route) != []
  let consumers := (s.insts .queue 0x02).filter fun q => s.rd (R.qu_CONSUMER q) == 1
  firstCode (rs.map (s.testRoute ws) ++ [codeIf (lost && consumers.any fun q => (s.routesOf q).length != 1) 0x3114])

/-- Chapter 11 on injection rules (R294). -/
def testInject (s : State) (ws : Writes) (i : Nat) : Nat :=
  let t := s.rd (R.ir_TARGET i)
  if !s.rdB (R.ir_ENABLE i) || s.mode.base == .test then 0
  else if !wroteVal ws (R.ir_ENABLE i) 1 && !wrote ws (R.ir_TARGET i) then 0
  else if s.mode.base != .acquire || 2 ≤ t then 0x3111
  else if !s.duplicated t then 0x3112
  else codeIf (t64Past (s.rd R.ij_PERMIT_UNTIL) s.now) 0x3113

/-- Chapter 12 (R302, R306). -/
def testPorts (s : State) (ws : Writes) : Nat :=
  firstCode ([codeIf ((touched ws .adpPorts) != [] && s.rd R.ad_CAN_ID_IN == s.rd R.ad_CAN_ID_OUT) 0x2123]
    ++ (touched ws .tenant).map (fun t =>
      let k := s.rd (R.te_CERT_KEY t)
      codeIf (wrote ws (R.te_CERT_KEY t) && k != 0
        && (s.insts .tenant 0x03).any (fun u => u != t && s.rd (R.te_CERT_KEY u) == k)) 0x2124))

/-- The rules of every chapter over the configuration that a commit would leave (R312), by chapter (log entry 36). -/
def testRules (s0 s : State) (tenant : Nat) (ws : Writes) : Nat :=
  let chans := touched ws .channel
  let quads := quadsTouched ws
  let gobs := (chans ++ ((touched ws .quad).flatMap chansOfQuad)).eraseDups
  let caps := (touched ws .punty ++ chans).eraseDups
  firstCode [
    testTime s0 s ws,
    firstCode (chans.map (s.testInput ws)),
    firstCode (gobs.map s.testSlot),
    firstCode (quads.map (testQuad s0 s ws)),
    firstCode (gobs.map s.testGob),
    firstCode ((touched ws .die).map (s.testMains ws)),
    firstCode ((touched ws .path).map (testPath s0 s ws tenant)),
    s.testSources ws,
    firstCode (caps.map s.testTap),
    firstCode ((touched ws .punty).map (s.testCapture ws tenant)),
    s.testMatrix ws,
    firstCode ((touched ws .queue).map (testQueue s0 s ws)),
    firstCode ((s.queuesTouched ws).map s.testProducers),
    s.testFrit ws tenant,
    testDram s0 s ws,
    s.testLanes ws,
    s.testRoutes ws,
    firstCode ((touched ws .injRule).map (s.testInject ws)),
    s.testPorts ws]

/-- What the lanes of a bundle carry as they are configured, in bit/s (R280). -/
def lanesCarry (s : State) (k : Nat) : Nat :=
  laneCapacity (s.rd (R.ln_MODE ((s.lanesOf k).headD 0))) (s.lanesOf k).length

/-- Does a use exceed its limit, and does the commit raise it: a limit that falls ends nothing already admitted (R308,
R330). -/
def grows (before after limit : Nat) : Bool := before < after && limit < after

/-- A tenant's use against its quota: 0x4021 in place of the chapter's code while the use already exceeds a quota that was
cut below it (R308). -/
def quotaCode (before after quotaBefore quotaAfter code : Nat) : Nat :=
  if !grows before after quotaAfter then 0
  else if quotaBefore < before then 0x4021 else code

/-- Segment records of a die in bit/s: one of 72 octets for every segment that DRAIN_RATE lets the shortest settings give
(R199). -/
def recordBits (s : State) (d : Nat) : Nat :=
  match (s.capOfDie d).map fun n => 16 + tapWords (s.rd (R.pu_TAP n)) (s.rd (R.pu_SEG_LEN n)) with
  | [] => 0
  | w :: t => ceilDiv (s.rd (R.ri_DRAIN_RATE d) * 1000 * 576) (t.foldl min w)

/-- Raw words of a die in bit/s: three samples to a word (R18, R211). -/
def rawBits (s : State) (d : Nat) : Nat :=
  (s.rawAdmitted d).foldl (fun a n => a + ceilDiv (32 * convRate (s.rd (R.ch_CONV_RATE n))) 3) 0

/-- Reserved traffic into an output port of the fabric, bit/s (R20; log entry 37): Gob words into the Lehr, the words of stream
contexts into Frit, Lehr words, raw words and segment records into the queue manager, shares into the lane complex, reserved
DRAM bandwidth into the controllers. -/
def portLoad (s : State) (port : Nat) : Nat :=
  match port with
  | 12 =>
    (List.range s.part.fronts).foldl (fun a i =>
      (s.gobAdmitted (i + 1)).foldl (fun a n => a + ceilDiv (32 * s.gobWordRate n) 1000000) a) 0
  | 13 => (List.range 64).foldl (fun a c =>
      if s.rd (R.fc_MODE c) == 0 then a + ((s.queueOfCtx c).map s.queueBits).getD 0 else a) 0
  | 14 =>
    (List.range s.part.fronts).foldl (fun a i => a + s.rawBits (i + 1) + s.recordBits (i + 1))
      (s.enabledPaths.foldl (fun a p => a + s.pathBits p) 0)
  | 11 => (List.range 64).foldl (fun a r => if s.rd (R.ro_QUEUE r) == 0xFFFF then a else a + s.rd (R.ro_SHARE r)) 0
  | _ => if 7 ≤ port && port < 7 + s.part.drams then ceilDiv (8 * s.reservedBw) s.part.drams else 0

/-- The extra cost of the fades that a commit starts: the old configurations (R166). -/
def fadeCost (s0 s : State) (ps : List Nat) : Nat :=
  ps.foldl (fun a p => if fades s0 s p then a + s0.pathCost (s0.pathFrame p) (s0.pathCfg p) else a) 0

/-- The reserves of a tenant's queues (R214). -/
def tenantReserves (s : State) (t : Nat) : Nat :=
  (List.range 8).foldl (fun a i => a + s.rd (R.qu_CELL_RESERVE (8 * t + i))) 0

/-- The limit of R259, octets per second: 30.72 GB/s for each channel in CH_SET, scaled with the slowest trained rate. -/
def bwLimit (s : State) : Nat :=
  let rate := s.chSetNow.foldl (fun a c =>
    let r := s.rd (R.dc_TRAINED_RATE c)
    if r == 0 then a else min a r) 6400
  30720000000 * s.chSetNow.length * rate / 6400

/-- The descriptors of a tenant with the captures that a commit enables (R197). -/
def descsAfter (s0 s : State) (ws : Writes) (tenant t : Nat) : Nat :=
  let fresh := (touched ws .punty).filter fun n => !s0.rdB (R.pu_CAP_ENABLE n) && s.rdB (R.pu_CAP_ENABLE n)
  let kept := (s.capChannels.filter fun n => (s0.cap n).tenant == t && !fresh.contains n).foldl
    (fun a n => a + 4 + s0.sharedDescs n) 0
  kept + (if t == tenant then 4 * fresh.length else 0)

/-- DRAM regions released, all before any is placed, and placed by a commit (R217, R251), or the code that refuses it. -/
def placeRegions (s0 s : State) (ws : Writes) : Except Nat State :=
  let quotaTest (s : State) (t : Nat) : Nat :=
    quotaCode (s0.usedDram t) (s.usedDram t) (s0.rd (R.te_DRAM_QUOTA t)) (s.rd (R.te_DRAM_QUOTA t)) 0x4102
  let asks : List (Nat × Nat × Nat) :=
    ((touched ws .tenant).flatMap fun t =>
      (if changedSubs s0 s .tenant t [0x07] then [(t, 0, s.rd (R.te_ARCHIVE_BYTES t))] else [])
        ++ (if changedSubs s0 s .tenant t [0x08] then [(t, 1, s.rd (R.te_WORK_BYTES t))] else []))
    ++ ((touched ws .queue).filter fun q => s0.rdB (R.qu_ENABLE q) != s.rdB (R.qu_ENABLE q)).map fun q =>
      (q / 8, 2 + q, if s.rdB (R.qu_ENABLE q) && s.rdB (R.qu_SPILL_EN q) then s.rd (R.qu_SPILL_BYTES q) else 0)
  let want := asks.filter fun e => e.2.2 != 0
  if s0.frozen && want != [] then .error 0x3101
  else match want.foldl (fun (acc : Option State) e => acc.bind fun s => s.placeRegion e.1 e.2.1 e.2.2)
      (some (s.each asks fun s e => s.releaseRegion e.1 e.2.1)) with
    | none => .error 0x4102
    | some s =>
      let c := firstCode (want.map fun e => quotaTest s e.1)
      if c != 0 then .error c else .ok s

/-- Stream contexts are placed on the engine with the lower load, those no queue names leave theirs; one whose load has grown since
the state `b` goes to the other engine where its own cannot bear it (R231). -/
def placeContexts (b s : State) : Nat × State :=
  (List.range 64).foldl (fun (a : Nat × State) c =>
    let s := a.2
    let want := (s.queueOfCtx c).isSome && s.rd (R.fc_MODE c) == 0
    if !want then (a.1, if s.rd (R.fc_ENGINE c) == 0xFF then s else s.wr (R.fc_ENGINE c) 0xFF)
    else if s.rd (R.fc_ENGINE c) != 0xFF then
      let e := s.rd (R.fc_ENGINE c)
      if s.ctxLoad c ≤ b.ctxLoad c || s.engineLoad e ≤ 115200000000 then a
      else if s.engineLoad (1 - e) + s.ctxLoad c ≤ 115200000000 then (a.1, s.wr (R.fc_ENGINE c) (1 - e))
      else (if a.1 != 0 then a.1 else 0x4091, s)
    else
      let e := if s.engineLoad 1 < s.engineLoad 0 then 1 else 0
      let s := s.wr (R.fc_ENGINE c) e
      (if a.1 != 0 then a.1 else codeIf (115200000000 < s.engineLoad e) 0x4091, s)) (0, s)

/-- The Lehr stage of Table 1-6 (R166): the cost in force after the commit, and that with every scheduled clause over it, each
with the fades that the commit adds and those still reserved, against the capacity and the tenant's quotas. -/
def testLehr (s0 b s : State) (tenant : Nat) (ws : Writes) : Nat :=
  let now := s0.stage tenant ws
  let ps := touched ws .path
  let mine (p : Nat) : Bool := s.rd (R.pa_TENANT p) == tenant
  let old := scheduledOld s0 s0.enabledPaths
  let oldMine := scheduledOld s0 (s0.enabledPaths.filter mine)
  firstCode [
    codeIf (s.rd R.le_CAPACITY < max (now.costInForce + fadeCost s0 now ps + s0.reservedFades) (s.costInForce + fadeCost s0 s ps + old))
      0x4061,
    quotaCode (s0.tenantMacs tenant) (now.tenantMacs tenant + fadeCost s0 now (ps.filter mine))
      (s0.rd (R.te_MAC_QUOTA tenant)) (now.rd (R.te_MAC_QUOTA tenant)) 0x4062,
    quotaCode (b.tenantMacs tenant + oldMine) (s.tenantMacs tenant + oldMine + fadeCost s0 s (ps.filter mine))
      (b.rd (R.te_MAC_QUOTA tenant)) (s.rd (R.te_MAC_QUOTA tenant)) 0x4062,
    quotaCode (s0.pathsOfTenant tenant).length (now.pathsOfTenant tenant).length (s0.rd (R.te_PATH_QUOTA tenant))
      (now.rd (R.te_PATH_QUOTA tenant)) 0x4063,
    quotaCode (b.pathsOfTenant tenant).length (s.pathsOfTenant tenant).length (b.rd (R.te_PATH_QUOTA tenant))
      (s.rd (R.te_PATH_QUOTA tenant)) 0x4063]

/-- Admission in the order of Table 1-6 (R24), from the configuration in force `b` to the one that the commit would leave;
`regions` is what placing its DRAM regions answers. -/
def testAdmission (s0 b s : State) (tenant : Nat) (ws : Writes) (regions : Nat) : Nat :=
  let dies := (List.range s.part.fronts).map (· + 1)
  let quota (f : State → Nat → Nat) (r : Nat → Reg) (code : Nat) : Nat :=
    quotaCode (f b tenant) (f s tenant) (b.rd (r tenant)) (s.rd (r tenant)) code
  let eng := placeContexts b s
  firstCode [
    firstCode (dies.map fun d => codeIf (grows (b.rawUnits d) (s.rawUnits d) 2560) 0x4011),
    firstCode (dies.map fun d => codeIf (grows (b.flitRate d) (s.flitRate d) 1612800000000000) 0x4012),
    firstCode ((List.range 16).map fun k => codeIf (grows (b.portLoad k) (s.portLoad k) 1572864000000) 0x4013),
    testLehr s0 b s tenant ws,
    firstCode (dies.map fun d => codeIf (grows (b.sramReserved d) (s.sramReserved d) 67108864) 0x4071),
    quotaCode (b.usedDescs tenant) (descsAfter s0 s ws tenant tenant) (b.rd (R.te_DESC_QUOTA tenant))
      (s.rd (R.te_DESC_QUOTA tenant)) 0x4072,
    firstCode ((s.queuesTouched ws).map s.testReserve),
    codeIf (grows b.reserveSum s.reserveSum 192512) 0x4081,
    quota tenantReserves R.te_CELL_QUOTA 0x4082,
    eng.1,
    firstCode ((List.range 2).map fun k => codeIf ((b.bundleShares k < s.bundleShares k || s.lanesCarry k < b.lanesCarry k)
      && s.lanesCarry k < s.bundleShares k) 0x4111),
    quota usedLane R.te_LANE_QUOTA 0x4112,
    codeIf ((s.routesTouched ws).any s.shareShort) 0x4113,
    regions,
    codeIf (s0.frozen && b.reservedBw < s.reservedBw) 0x3101,
    codeIf (grows b.reservedBw s.reservedBw s.bwLimit) 0x4101,
    codeIf (grows b.pEst s.pEst s.pLimit) 0x4010]

end State

end Sys2Proof.Machine
end

