-- ==== Sys2Proof/Machine/Commit.lean ====
section
/-! DEFINITION. A commit (R301, R312, R313): its test as one configuration, and what each unit does when the values take
effect, by comparing the configuration before (`s0`) with the one after. Actions are run in Actions.lean. -/

namespace Sys2Proof.Machine

namespace State

/-- Base modes in which nothing that is configured starts: Safe (R332), Boot, and Dormant from its request on (R328). -/
def quiet (s : State) : Bool :=
  s.mode.base == .safe || s.mode.base == .boot || s.mode.base == .dormant || s.mode.dormantPending

/-- Writes staged with their regions placed as far as they fit. -/
def stagePlaced (s : State) (tenant : Nat) (ws : Writes) : State :=
  let c := s.stage tenant ws
  match placeRegions s c ws with
  | .ok c => c
  | .error _ => c

/-- The configuration in force with that of every scheduled clause over it (R313). -/
def overlay (s : State) : State :=
  s.each s.reservedClauses fun s c => s.stagePlaced (s.rd (R.cs_CL_TENANT c)) (s.clause c).staged

/-- The code of the first test that a commit fails, or 0 (R301, R312). -/
def testCommit (s : State) (tenant : Nat) (ws : Writes) : Nat :=
  let rules := testRules s (s.stage tenant ws) tenant ws
  if rules != 0 then rules
  else
    let b := s.overlay
    let c := b.stage tenant ws
    match placeRegions b c ws with
    | .error e => testAdmission s b c tenant ws e
    | .ok c => testAdmission s b c tenant ws 0

/-- A refused commit is counted where an entry counts it: P_REFUSALS, BUDGET_REFUSALS. -/
def countRefusal (s : State) (code : Nat) : State :=
  if code == 0x4010 then s.count R.pw_P_REFUSALS 1
  else if code == 0x4061 then s.count R.le_BUDGET_REFUSALS 1 else s

/-- DIE_POWER and the mains entries of a front die take effect (R117, R134). -/
def effectDie (s0 s : State) (i : Nat) : State :=
  let banks := (List.range 4).map (4 * i + ·)
  let p := s.rd (R.di_DIE_POWER i)
  let s := if s0.rd (R.di_DIE_POWER i) == p then s
    else if p == 0 then
      let s := (s.wr (R.di_DIE_STATE i) 2).each banks fenceBank
      if banks.all fun b => s.rd (R.bk_BANK_STATE b) == 0 then (s.wr (R.di_DIE_STATE i) 0).settleLink (i + 1) else s
    else if s.rd (R.di_DIE_STATE i) == 0 then (s.wr (R.di_DIE_STATE i) 3).trainLink (i + 1)
    else if s.rd (R.di_DIE_STATE i) == 2 then (s.wr (R.di_DIE_STATE i) 1).each banks commandBank
    else s
  if changedSubs s0 s .die i [0x1D, 0x1E, 0x1F] then
    let s := s.setDieRef (i + 1) { s.dieRef (i + 1) with mainsTimes := [], goodCycles := 0, sense := [] }
    s.wr (R.di_MAINS_STATE i) (if s.rd (R.di_MAINS_SENSE i) == 0xFFFF then 0 else 1)
  else s

/-- BANK_POWER and REF_SEL of a bank take effect (R102, R105, R115). -/
def effectBank (s0 s : State) (b : Nat) : State :=
  let s := if s0.rd (R.bk_BANK_POWER b) == s.rd (R.bk_BANK_POWER b) then s else s.commandBank b
  if s0.rd (R.bk_REF_SEL b) == s.rd (R.bk_REF_SEL b) then s
  else
    let d := b / 4 + 1
    let st := s.rd (R.di_REF_STATE (b / 4))
    let s := if bitAt st 0 || bitAt st 1 then
        s.setDieRef d { s.dieRef d with heldBanks := (b :: (s.dieRef d).heldBanks).eraseDups } else s
    (s.each ((chansOfBank b).filter s.converting) settleLines).markRefs d

/-- The excitation of a quad takes effect (R79, R116). -/
def effectQuad (s0 s : State) (q : Nat) : State :=
  if changedSubs s0 s .quad q (subRange 0x01 0x07) then
    let s := s.commitExc q
    if s.quiet then s.setDriver q false else s
  else s

/-- The delay from ball to aperture that held until a channel's stage, gain or TIA setting changed is kept for the edges before
(R111). -/
def keepDelay (s0 s : State) (n : Nat) : State :=
  s.setChan n { s.chan n with apOld := ((s.time.edge, s0.apDelay n) :: (s.chan n).apOld).take 16 }

/-- The tracked length of a channel is found anew (R135). -/
def retrack (s : State) (n : Nat) : State := s.setChan n { s.chan n with tracked := 0, trackFlag := 0 }

/-- Input stage, conversion, Gob and diagnostics of a channel take effect (R68, R83, R95, R123, R130, R135, R137, R347; log entry 153). -/
def effectChannel (s0 s : State) (n : Nat) : State :=
  let stage := changedSubs s0 s .channel n (subRange 0x01 0x05)
  let rate := changedSubs s0 s .channel n [0x1C, 0x1D]
  let gob := changedSubs s0 s .channel n (subRange 0x28 0x32)
  let s := if rate || gob then s.retrack n else s
  let s := if stage then (keepDelay s0 s n).beginStageChange n else s
  let s := if (rate || gob) && s.converting n then s.quickChange n gob else s
  let s := s.settleConversion n
  let s := if stage || rate || gob then s.substMeetsChange n else s
  let s := if changedSubs s0 s .channel n [0x1C] then s.markTracking (quadOf n) else s
  let s := if s0.rdB (R.ch_RAW_FWD n) && !s.rdB (R.ch_RAW_FWD n) then s.endRawStream n else s
  let s := s.settleGob n
  let s := if (rate || gob) && s.rdB (R.pu_CAP_ENABLE n) then s.ringPeaks (dieOf n) else s
  if changedSubs s0 s .channel n [0x08, 0x0A] then
    let off := s.rd (R.ch_OW_PERIOD n) == 0 || s.rd (R.ch_OW_CURRENT n) == 0
    s.setChan n { s.chan n with owBase := s.time.edge, owDue := (s.chan n).owDue && !off }
  else s

/-- Capture settings of a channel take effect (R179, R192). -/
def effectCapture (s0 s : State) (tenant n : Nat) : State :=
  let was := s0.rdB (R.pu_CAP_ENABLE n)
  let on := s.rdB (R.pu_CAP_ENABLE n)
  let s := if changedSubs s0 s .punty n [0x12] then s.setCap n { s.cap n with segTenant := tenant } else s
  if on && !was then s.enableCapture n tenant
  else if was && !on then s.disableCapture n
  else if on && changedSubs s0 s .punty n (subRange 0x02 0x12) then (s.recapture n).ringPeaks (dieOf n)
  else s

/-- A queue's ENABLE and FRIT_CTX take effect (R226, R229). -/
def effectQueue (s0 s : State) (q : Nat) : State :=
  let was := s0.rdB (R.qu_ENABLE q)
  let on := s.rdB (R.qu_ENABLE q)
  let c0 := s0.rd (R.qu_FRIT_CTX q)
  let c := s.rd (R.qu_FRIT_CTX q)
  let s := if c0 < 64 && (c0 != c || (was && !on)) then s.flushTo q c0 (s.ctxWords c0) else s
  let s := if on && !was then s.enableQueue q else if was && !on then s.disableQueue q else s
  if c0 == c then s
  else
    let s := if c0 < 64 then s.wr (R.fc_CTX_STATE c0) (if s.rd (R.fc_TENANT c0) == 0xFFFF then 0 else 1) else s
    if c < 64 then (s.setCtx c FritCtx.init).wr (R.fc_CTX_STATE c) 2 else s

/-- A Frit context's assignment and settings take effect; its history is cleared with every commit of it (R229, R235). -/
def effectCtx (s0 s : State) (c : Nat) : State :=
  let st := s.rd (R.fc_CTX_STATE c)
  let s := if s0.rd (R.fc_TENANT c) == s.rd (R.fc_TENANT c) || 2 ≤ st then s
    else s.wr (R.fc_CTX_STATE c) (if s.rd (R.fc_TENANT c) == 0xFFFF then 0 else 1)
  s.clearHistory c

/-- A path starts at an instant, or when the life that still waits for its last inputs has ended (R159). -/
def startNext (s : State) (p t : Nat) (restarted : Bool) : State :=
  if (s.path p).live then s.setLives p (s.lives p ++ [s.newLife p t restarted]) else s.startPath p t restarted

/-- A path runs on until the outputs before an instant are produced, and then ends or starts again (R159, R162). -/
def endPathAt (s : State) (p t : Nat) (again : Bool) : State :=
  if !(s.path p).live then (if again then s.startPath p t true else s.wr (R.pa_PATH_STATE p) 0)
  else
    let s := (s.setNewest p { s.newestLife p with ending := some t }).wr (R.pa_PATH_STATE p) 4
    let s := if again then s.startNext p t true else s
    if s.pathIdle p then s.endPath p 0 else s

/-- A path's entries take effect at an instant (Table 6-2, R159, R162 to R164); `fade` is the instant of a fading change. -/
def effectPath (s0 s : State) (p t : Nat) (fade : Option Nat) : State :=
  let was := s0.rdB (R.pa_ENABLE p)
  let on := s.rdB (R.pa_ENABLE p)
  let s :=
    if was && !on then s.endPathAt p t false
    else if !on then s
    else if s.quiet then s.wr (R.pa_PATH_STATE p) 6
    else if !was then s.startNext p t false
    else if changedSubs s0 s .path p restartSubs then s.endPathAt p t true
    else if changedSubs s0 s .path p fadeSubs then
      (if (s.path p).live then s.beginFade p fade else s.startPath p t false)
    else s
  let touch := [s0.rd (R.pa_SOURCE p), s.rd (R.pa_SOURCE p)].filter (· < s.part.channels)
  s.each touch State.settleGob

/-- A cut cell quota is enforced on tenants that let old data go (R308); clearing ENABLE or rewriting CERT_KEY withdraws
the tenant from its DTLS sessions (R302; log entry 43). -/
def effectTenant (s0 s : State) (t : Nat) : State :=
  let out := (s0.rdB (R.te_ENABLE t) && !s.rdB (R.te_ENABLE t)) || s0.rd (R.te_CERT_KEY t) != s.rd (R.te_CERT_KEY t)
  let gone := if out then (List.range 64).filter fun x =>
    s.rd (R.se_S_TRANSPORT x) == 1 && s.rd (R.se_S_TENANT x) == t else []
  (s.reclaim t).each gone fun s x => s.setSession x { s.session x with withdrawn := true }

/-- A bundle without lanes is off; its traffic goes as when it is down (R285; log entry 127). -/
def bundleOff (s : State) (b : Nat) : State :=
  if 2 ≤ b || s.lanesOf b != [] || s.rd (R.bu_BUNDLE_STATE b) == 0 then s
  else (s.downBundle b).wr (R.bu_BUNDLE_STATE b) 0

/-- A lane's MODE takes effect: training begins (Table 11-3), a spare goes to standby, an Ethernet MAC takes it, or it is off
(R271, R276, R277). -/
def effectLane (s0 s : State) (l : Nat) : State :=
  if !changedSubs s0 s .lane l [0x01, 0x03] then s
  else
    let m := s.rd (R.ln_MODE l)
    let b := s.rd (R.ln_BUNDLE l)
    let s := s.bundleOff (s0.rd (R.ln_BUNDLE l))
    if m == 0 then (s.wr (R.ln_LANE_STATE l) 0).laneChanged l
    else if 3 ≤ m then s.wr (R.ln_LANE_STATE l) 2
    else if 16 ≤ l then (s.goIdle l).wr (R.ln_LANE_STATE l) 7
    else
      let s := if b < 2 && s.rd (R.bu_BUNDLE_STATE b) == 0 then s.wr (R.bu_BUNDLE_STATE b) 1 else s
      s.trainLane l

/-- A PTP port's ENABLE takes effect (R50; PRESUMED, log entry 62). -/
def effectPtp (s0 s : State) (m : Nat) : State :=
  if s0.rd (R.pt_ENABLE m) == s.rd (R.pt_ENABLE m) then s
  else if s.rdB (R.pt_ENABLE m) then
    (s.setPtp m { PtpPort.init with stamps := (s.ptp m).stamps, lastAnnounce := s.time.edge }).wr (R.pt_PORT_STATE m) 4
  else s.wr (R.pt_PORT_STATE m) 3

/-- A time trigger is enabled or given a target that is already past (R58). -/
def effectTrigger (s0 s : State) (k : Nat) : State :=
  if changedSubs s0 s .trigger k [0x01, 0x02] && s.rdB (R.tr_ENABLE k) && t64Past (s.rd (R.tr_TARGET k)) s.now then
    s.fireTrigger k true
  else s

/-- An injection rule starts, its count of units and HITS at zero, or stops (R293, R294; log entry 144). -/
def effectRule (s0 s : State) (i : Nat) : State :=
  let on := s.rdB (R.ir_ENABLE i)
  if s0.rdB (R.ir_ENABLE i) == on then s
  else
    let s := s.wr (R.ir_INJ_STATE i) (ofBool on)
    if on then (s.wr (R.ir_HITS i) 0).putLanes { s.lanes with injCount := tabPut 0 i 0 s.lanes.injCount } else s

/-- Steering, the sources of hub time, PPS_OUT and the direction of Breimlink time follow their entries (R33, R38, R48,
R59). -/
def effectTime (s0 s : State) : State :=
  let s := if s0.rd R.tm_STEER_MODE == s.rd R.tm_STEER_MODE then s else s.steer
  let s := if s0.rd R.tm_SRC_PRIORITY == s.rd R.tm_SRC_PRIORITY then s else s.reselect
  let s := s.settlePps
  if s0.rd R.bl_PRIMARY_DIR == s.rd R.bl_PRIMARY_DIR && s0.rd R.lx_CHAIN_ADDR == s.rd R.lx_CHAIN_ADDR then s
  else s.settleDir

/-- Power of dies and banks, and lanes, take effect. -/
def effectHardware (s0 s : State) (ws : Writes) : State :=
  let s := s.each (touched ws .die) fun s i => effectDie s0 s i
  let s := s.each (touched ws .bank) fun s b => effectBank s0 s b
  let s := s.each (touched ws .lane) fun s l => effectLane s0 s l
  s.each ((List.range 2).filter fun b => (touched ws .lane) != [] || (touched ws .bundle).contains b) settleBundle

/-- Everything else takes effect, at an instant if the commit was scheduled for one, fades from an instant if it named one. -/
def effectStreams (s0 s : State) (tenant : Nat → Nat) (ws : Writes) (at_ fade : Option Nat) : State :=
  let s := s.each (touched ws .tenant) fun s t => effectTenant s0 s t
  let s := s.each (touched ws .queue) fun s q => effectQueue s0 s q
  let s := s.each (touched ws .fritCtx) fun s c => effectCtx s0 s c
  let s := s.each (touched ws .quad) fun s q => effectQuad s0 s q
  let s := s.each (touched ws .channel) fun s n => effectChannel s0 s n
  let s := s.each (touched ws .punty) fun s n => effectCapture s0 s (tenant n) n
  let s := s.each (touched ws .path) fun s p => effectPath s0 s p (at_.getD s.now) fade
  let s := effectTime s0 s
  let s := s.each (touched ws .ptp) fun s m => effectPtp s0 s m
  let s := s.each (touched ws .trigger) fun s k => effectTrigger s0 s k
  (s.each (touched ws .injRule) fun s i => effectRule s0 s i).checkRules

/-- The values of a commit take effect together (R312, R313): set, placed, and followed by every unit. Until the first
Acquire after a start, streams wait for step 7 of Table 13-3, and of Frit only the contexts follow their entries (R235, R245). -/
def applyWrites (s : State) (tenant : Nat) (ws : Writes) (at_ fade : Option Nat) : State :=
  let vs := ws.filter fun e => !isAction e.1
  let c := (placeContexts s (s.stagePlaced tenant vs)).2
  let c := effectHardware s c vs
  if s.mode.started then effectStreams s c (fun _ => tenant) vs at_ fade else c.each (touched vs .fritCtx) fun c i => effectCtx s c i

/-- The writes that a configuration in MRAM stands for. -/
def configWrites (s : State) : Writes :=
  (s.regs.filter fun e => inConfig e.1).map (fun e => (e.1, Val.num e.2))
    ++ (s.doms.filter fun e => inConfig e.1).map fun e => (e.1, Val.dom e.2)

/-- The state with every entry of the configuration at its default. -/
def unconfigured (s : State) : State :=
  { s with regs := s.regs.filter fun e => !inConfig e.1, doms := s.doms.filter fun e => !inConfig e.1 }

/-- The tenant of a channel's capture when the configuration comes from MRAM: that of its segment queue (log entry 38). -/
def captureOwner (s : State) (n : Nat) : Nat :=
  let q := s.rd (R.pu_SEG_QUEUE n)
  if q < 8192 then q / 8 else 0

/-- The committed configuration is admitted as one commit and its streams start: Table 13-3 step 7 (R325). -/
def startConfig (s : State) : State :=
  let ws := s.configWrites
  let s0 := s.unconfigured
  let c := match placeRegions s0 s ws with | .ok c => c | .error _ => s
  effectStreams s0 (placeContexts s0 c).2 s.captureOwner ws none none

end State

end Sys2Proof.Machine
end

