-- ==== Sys2Proof/Machine/Modes.lean ====
section
/-! DEFINITION. Modes, start-up, firmware, throttling (chapter 13) and power-up, reset and the test port (chapter 16). -/

namespace Sys2Proof.Machine

/-- The groups of entries that the Ampoule's island and the management cores' MRAM keep over a reset (R358, R390). -/
def ampGroup (g : Grp) : Bool :=
  g == .amp || g == .ampProg || g == .legalSet || g == .lrec || g == .audit

/-- Is an entry kept over a reset: the Ampoule's, and the firmware and ageing records that no configuration holds. -/
def keptOver (r : Reg) : Bool :=
  ampGroup r.grp || ((r.grp == .fw || r.grp == .ageing) && !inConfig r)

namespace State

/-- The base mode changes; MODE_SINCE tells when. Injection stops where Test or Acquire is left (R294, R322). -/
def setBase (s : State) (m : BaseMode) : State :=
  if s.mode.base == m then s
  else
    let s := if s.mode.base == .acquire || s.mode.base == .test then s.stopRules else s
    (s.putMode { s.mode with base := m }).wr R.mo_MODE_SINCE s.now96

/-- The banks of the front dies fitted. -/
def bankIds (s : State) : List Nat := List.range (4 * s.part.fronts)

/-- The lanes that carry Breimlink, in mode 1 or 2 and in service, with the spares that serve a place. -/
def blLanes (s : State) : List Nat :=
  (List.range 18).filter fun l => s.part.laneFitted l && (s.rd (R.ln_MODE l) == 1 || s.rd (R.ln_MODE l) == 2)
    && s.rd (R.ln_LANE_STATE l) != 6 && (l < 16 || (s.lane l).standIn.isSome)

/-- The lanes' transmitters leave idle, and DRAM leaves self-refresh (R277, R329). -/
def wakeHardware (s : State) : State :=
  let s := s.each s.blLanes leaveIdle
  if s.frozen then s
  else s.each ((List.range s.part.drams).filter fun c => s.rd (R.dc_CH_STATE c) == 3) fun s c => s.wr (R.dc_CH_STATE c) 2

/-- Calibrate begins: buffers are enabled on the banks that the configuration powers (Table 13-3 step 4). -/
def enterCalibrate (s : State) : State :=
  let s := s.setBase .calibrate
  s.each s.bankIds commandBank

/-- Calibrate is over: every powered bank is ready or in fault, every lane of a configured bundle has trained
(Table 13-1; log entry 40). -/
def allCalibrated (s : State) : Bool :=
  (s.bankIds.all fun b => s.rd (R.bk_BANK_POWER b) == 0 || s.rd (R.di_DIE_POWER (b / 4)) != 1
    || [2, 3, 6].contains (s.rd (R.bk_BANK_STATE b)))
  && s.blLanes.all fun l => 2 ≤ s.rd (R.ln_BUNDLE l) || !(s.rd (R.ln_LANE_STATE l) == 2 || s.rd (R.ln_LANE_STATE l) == 3)

/-- What Safe or Dormant ended starts again: enabled paths, and steady excitation (R332). -/
def resumeStreams (s : State) : State :=
  let s := s.each (s.enabledPaths.filter fun p => !(s.path p).live) fun s p => s.startPath p s.now false
  let quads := (List.range (32 * s.part.fronts)).filter fun q =>
    s.rd (R.qd_EXC_MODE q) != 0 && !s.rdB (R.qd_PULSED q) && !(s.quad q).driverOn && s.rd (R.bk_BANK_STATE (q / 8)) != 0 && !bitAt (s.rd (R.qd_EXC_STATUS q)) 5
  s.each quads excNow

/-- The hub enters Safe with a cause (R332). The first cause stays while the hub is in Safe (log entry 41). -/
def enterSafe (s : State) (cause : Nat) : State :=
  if s.mode.base == .boot || s.mode.base == .safe then s
  else
    let s := s.putMode { s.mode with dormantPending := false }
    let s := if s.mode.base == .dormant then s.wakeHardware else s
    let s := s.each ((List.range (32 * s.part.fronts)).filter fun q => (s.quad q).driverOn) fun s q => s.setDriver q false
    let s := s.endAllPaths
    let s := s.each s.capChannels fun s n => s.closeCapture n 2
    let s := s.each s.bankIds fenceBank
    (s.setBase .safe).wr R.mo_SAFE_CAUSE cause

/-- A cause of Table 13-4 is raised and enters Safe. -/
def safeFor (s : State) (cause : Nat) : State := (s.raise cause 0).enterSafe cause

/-- Has the cause in SAFE_CAUSE cleared (Table 13-4). -/
def causeCleared (s : State) : Bool :=
  match s.rd R.mo_SAFE_CAUSE with
  | 0x7061 => s.lehrLoad ≤ s.rd R.le_CAPACITY
  | 0x7102 => s.chSetNow.all fun c => s.rd (R.dc_CH_STATE c) != 5
  | 0x7132 => s.mram.copyA.valid || s.mram.copyB.valid
  | 0x7134 => (List.range s.part.dies).all fun d => s.tjOf d < 1000
  | 0x7135 => s.pEst ≤ s.pLimit
  | _ => true

/-- A base-mode change is in progress: on the way to Dormant, or Safe with banks still being gated (R322). -/
def changing (s : State) : Bool :=
  s.mode.dormantPending || (s.mode.base == .safe && s.bankIds.any fun b =>
    s.rd (R.bk_BANK_STATE b) == 4 || s.rd (R.bk_BANK_STATE b) == 5)

/-- Dormant ends for a reason of LAST_WAKE, and the hub goes to Acquire through Calibrate (R329). -/
def wake (s : State) (reason : Nat) : State :=
  if s.mode.base != .dormant then s else (s.wr R.mo_LAST_WAKE reason).wakeHardware.enterCalibrate

/-- A write of MODE_REQ (R322, R328, R333). -/
def modeReqAct (s : State) (v : Nat) : Ans :=
  let b := s.mode.base
  if v == 5 then ok (s.enterSafe 0)
  else if s.changing then (0x3132, s)
  else match v with
    | 1 =>
      if b == .commission then ok s.commitMram.enterCalibrate
      else if b == .dormant then ok (s.wake 4)
      else (0x3131, s)
    | 2 => if b == .acquire then ok (s.setBase .commission) else (0x3131, s)
    | 3 => if b == .acquire || b == .commission then ok (s.setBase .test) else (0x3131, s)
    | 4 => if b == .test then ok s.enterCalibrate else (0x3131, s)
    | 6 => if b == .safe && s.causeCleared then ok s.enterCalibrate else (0x3131, s)
    | 7 =>
      if b != .acquire then (0x3131, s)
      else if s.amp.legal != [] then (0x6131, s)
      else if s.frozen || s.repairing || s.backlogBits != 0 then (0x3133, s)
      else
        let s := s.putMode { s.mode with dormantPending := true }
        ok (s.each s.bankIds fenceBank)
    | _ => (0x2131, s)

/-- The slot that does not run. -/
def otherSlot (s : State) : Nat := 1 - s.rd R.fw_FW_ACTIVE

/-- The last segment of an image arrives: it is verified and its slot takes it (R326, R327). -/
def fwImage (s : State) (image : List Byte) : Ans :=
  if Config.imageVerifies image && s.rd R.fw_FW_MIN_VERSION ≤ Config.imageCounter image then
    let v := Config.imageVersion image % 2 ^ 32
    let s := (s.wrDom R.fw_FW_IMAGE image).wr R.fw_FW_STATE 2
    ok (if s.otherSlot == 0 then s.wr R.fw_FW_VERSION_A v else s.wr R.fw_FW_VERSION_B v)
  else (0x2132, s.wr R.fw_FW_STATE 4)

/-- A write of FW_ACTIVATE (R327). -/
def fwActivateAct (s : State) (v : Nat) : Ans :=
  if s.rd R.fw_FW_STATE != 2 then (0x2132, s)
  else if v == 2 then ok (s.putMode { s.mode with fwNext := some s.otherSlot })
  else if s.cores.spareUsed then (0x4131, s)
  else ok ((s.putMode { s.mode with handover := some 0 }).wr R.fw_FW_STATE 3)

/-- A die's islands are slowed by one step of 1/8, at most seven (R331). -/
def throttleStep (s : State) (d : Nat) : State :=
  let k := tabGet 0 s.mode.throttle d
  if 7 ≤ k then s
  else
    let s := s.putMode { s.mode with throttle := tabPut 0 d (k + 1) s.mode.throttle }
    (s.wrBit R.th_THROTTLED d true).count R.th_THROTTLE_EVENTS 1

/-- A junction temperature is known; `hotAt` tells when the die was last less than 3 °C below TJ_THROTTLE (R331). -/
def setTj (s : State) (d : Nat) (tj : Int) : State :=
  s.putMode { s.mode with
    tj := (s.mode.tj.filter fun e => e.1 != d) ++ [(d, tj)]
    hotAt := if s.rdI R.th_TJ_THROTTLE 16 - 30 < tj then tabPut 0 d s.time.edge s.mode.hotAt else s.mode.hotAt }

/-- The state right after a reset for a cause of LAST_RESET: what MRAM, the Ampoule and the outside keep (R325, R390,
R391). Scheduled clauses are lost and counted. -/
def restart (s : State) (cause : Nat) : State :=
  let lost := ((s.clauses.map (·.1)).filter fun c => s.rd (R.cs_CL_STATE c) == 2).length
  let r := State.reset
  let m := s.mode
  let n : State := { r with
    part := s.part
    regs := s.regs.filter fun e => keptOver e.1
    doms := s.doms.filter fun e => keptOver e.1
    mode := { r.mode with
      refclk := m.refclk, rstN := m.rstN, pgood := m.pgood, ages := m.ages, ageSlow := m.ageSlow, fwNext := m.fwNext
      throttle := m.ageSlow.foldl (fun t d => tabPut 0 d 1 t) [], jtag := m.jtag }
    mram := s.mram
    dram := { r.dram with chans := s.dram.chans.map fun e =>
      (e.1, { DramCh.init with softRows := e.2.softRows, hardRows := e.2.hardRows }) }
    amp := { s.amp with restarts := s.amp.restarts.map fun _ => 0 }
    out := s.out
    freeCount := s.freeCount
    pending := s.pending }
  let n := n.each s.amp.legal fun n c => n.wr (R.ch_LEGAL c) 1
  let n := if m.refclk then n else n.wrBit R.tm_STATE_FLAGS 2 true
  let n := n.wr R.th_THROTTLED (m.ageSlow.foldl (fun a d => putBit a d true) 0)
  ((n.wr R.mo_SCHED_LOST (s.rd R.mo_SCHED_LOST)).count R.mo_SCHED_LOST lost).wr R.cb_LAST_RESET cause

/-- Boot begins once the main-clock PLL has REFCLK (R323, R389): the time counter runs, PGOOD is high, and with RST_N high
the start is counted. -/
def beginBoot (s : State) : State :=
  if !s.mode.refclk then s
  else
    let s := s.putMode { s.mode with pgood := true }
    if !s.mode.rstN || s.time.running then s
    else ((s.putTime { s.time with running := true }).putMode { s.mode with startEdge := s.time.edge }).putMram
      { s.mram with starts := s.mram.starts + 1 }

/-- The Ampoule's power has failed: it comes back in fault no longer, sealed if it holds a key (R370). -/
def ampPowerLoss (s : State) : State :=
  if !s.part.amp then s
  else
    let s := s.putAmp { s.amp with held := false, outageFrom := none }
    (s.wr R.am_AMP_STATE (if s.ampSealed then 3 else 1)).ampRestarts 1

/-- The newest valid copy of the configuration (R324). -/
def newestCopy (s : State) : Option Copy :=
  let a := s.mram.copyA
  let b := s.mram.copyB
  if a.valid && (!b.valid || b.seq < a.seq) then some a else if b.valid then some b else none

/-- The configuration of a copy is in force, but for what the Ampoule keeps itself. -/
def loadCopy (s : State) (c : Copy) : State :=
  let s := s.each (c.regs.filter fun e => !ampGroup e.1.grp) fun s e => s.wr e.1 e.2
  let s := s.each (c.doms.filter fun e => !ampGroup e.1.grp) fun s e => s.wrDom e.1 e.2
  s.wr R.mo_CONFIG_SEQ c.seq

/-- Die links, lanes and DRAM start as the configuration says (Table 13-3 step 4, R117, R247, R248, R386). -/
def coldHardware (s : State) : State :=
  let s := s.putMode { s.mode with trainDue := s.time.edge }
  let s := s.each (List.range s.part.fronts) fun s i =>
    if s.rd (R.di_DIE_POWER i) == 1 then s.trainLink (i + 1) else s.wr (R.di_DIE_STATE i) 0
  let act := s.rd R.fw_FW_ACTIVE
  let s := s.putDram { s.dram with
    chSet := s.rd R.ds_CH_SET, masks := s.maskEntries, rate := s.rd R.ds_DATA_RATE
    config := Config.bootDram act (s.rd (if act == 0 then R.fw_FW_VERSION_A else R.fw_FW_VERSION_B)) }
  let s := s.each (List.range s.part.drams) fun s c =>
    let x := s.dramCh c
    (s.setDramCh c { x with softRows := [], hardRows := x.hardRows ++ x.softRows }).wr (R.dc_CH_STATE c) 1
  let s := s.each ((List.range 18).filter fun l => s.part.laneFitted l && s.rd (R.ln_MODE l) != 0) fun s l =>
    effectLane (s.wr (R.ln_MODE l) 0) s l
  s.each (List.range 2) settleBundle

end State

/-- VIN_POWER_ON: VIN rises through 2.7 V; the cold start begins in Boot (R323, R389). -/
def vinPowerOn (s : State) : State :=
  let s := if s.mode.brownedOut then s else s.ampPowerLoss
  let n := s.restart (if s.mode.brownedOut then 3 else 1)
  { n with mode := { n.mode with pgood := false } }.beginBoot

/-- RST_N_LOW: every island but the Ampoule is reset and held so (R390). -/
def rstNLow (s : State) : State :=
  let n := s.restart 2
  { n with mode := { n.mode with rstN := false } }

/-- RST_N_RELEASE: Boot begins (R389); a driving instruction of the test port ends with the reset (R392). -/
def rstNRelease (s : State) : State :=
  if s.mode.rstN then s
  else
    let j := if s.mode.jtag == .extest || s.mode.jtag == .otherDriving then JtagInstr.bypass else s.mode.jtag
    (s.putMode { s.mode with rstN := true, jtag := j }).beginBoot

/-- BROWN_OUT: excitation and bias off, PGOOD low, and a reset as under RST_N; below 2.3 V the Ampoule loses its power
too (R391). -/
def brownOut (below2300 : Bool) (s : State) : State :=
  let s := if below2300 then s.ampPowerLoss else s
  let n := s.restart 3
  { n with mode := { n.mode with pgood := false, brownedOut := true } }

/-- BOOT_IMAGE_VERIFIED: which of the two slots holds an image that verifies; the hub boots from the active one or else
the other, and goes where MRAM sends it (R323, R325, R326, Table 13-2). -/
def bootImageVerified (slotAOk slotBOk : Bool) (s : State) : State :=
  let m := s.mode
  if m.base != .boot || !s.time.running || !m.rstN || m.bootFailed then s
  else
    let act := m.fwNext.getD (s.rd R.fw_FW_ACTIVE)
    let good (k : Nat) : Bool := if k == 0 then slotAOk else slotBOk
    if !good act && !good (1 - act) then (s.putMode { m with bootFailed := true }).raise 0x7131 0
    else
      let s := (s.putMode { m with coresRun := true, fwNext := none }).wr R.fw_FW_ACTIVE
        (if good act then act else 1 - act)
      match s.newestCopy with
      | some c => (s.loadCopy c).coldHardware.enterCalibrate
      | none =>
        let s := s.coldHardware
        let s := s.putMode { s.mode with started := true }
        if s.mram.copyA.seq == 0 && s.mram.copyB.seq == 0 then s.setBase .commission
        else ((s.raise 0x7132 0).setBase .safe).wr R.mo_SAFE_CAUSE 0x7132

/-- CALIBRATE_DONE: the configuration's streams start, and Acquire begins (R321, R323). -/
def calibrateDone (s : State) : State :=
  if s.mode.base != .calibrate || !s.allCalibrated then s
  else
    let fresh := !s.mode.started
    let s := s.setBase .acquire
    let s := s.putMode { s.mode with started := true }
    let s := if fresh then s.startConfig else s.resumeStreams
    if s.rd R.mo_LAST_START == 0 then
      s.wr R.mo_LAST_START (nsOfEdges (s.time.edge - s.mode.startEdge) / 1000000 % 2 ^ 32)
    else s

/-- DORMANT_LANES_IDLE: with every bank gated and every CONSUMER 1 queue empty, lanes go idle and DRAM goes to
self-refresh; Breimlink time is lost as a source (R328). -/
def dormantLanesIdle (s : State) : State :=
  let busy := (s.bankIds.any fun b => s.rd (R.bk_BANK_STATE b) != 0)
    || s.queueIds.any fun q => s.rd (R.qu_CONSUMER q) == 1 && (s.queue q).frames != []
  if !s.mode.dormantPending || busy then s
  else
    let s := s.each s.blLanes fun s l =>
      (s.goIdle l).wr (R.ln_LANE_STATE l) 1
    let s := s.each ((List.range s.part.drams).filter fun c => s.rd (R.dc_CH_STATE c) == 2) fun s c =>
      (s.wr (R.dc_CH_STATE c) 3).count (R.dc_SR_ENTRIES c) 1
    let s := (s.putMode { s.mode with dormantPending := false }).setBase .dormant
    if (s.source 1).qualified then s.disqualify 1 else s

/-- WAKE_PIN: a falling edge on WAKE (R329). -/
def wakePin (s : State) : State := s.wake 1

/-- WAKE_AT: hub time reaches WAKE_AT (R329). -/
def wakeAt (s : State) : State :=
  if s.rd R.mo_WAKE_AT != 0 && t64Past (s.rd R.mo_WAKE_AT) s.now then s.wake 3 else s

/-- TRAINING_BURST: the lane's idle ends, and a dormant hub wakes (R277, R329). -/
def trainingBurst (lane : Nat) (s : State) : State := (trainingBurstStep lane s).wake 2

/-- TJ_THROTTLE_STEP: a die at TJ_THROTTLE is slowed (R331). -/
def tjThrottleStep (d : Nat) (tj : Int) (s : State) : State :=
  let s := s.setTj d tj
  if s.rdI R.th_TJ_THROTTLE 16 ≤ tj then s.throttleStep d else s

/-- THROTTLE_RESTORE: one step is restored after each second 3 °C below TJ_THROTTLE; a die that ageing holds keeps one
(R331, R342). -/
def throttleRestore (d : Nat) (tj : Int) (s : State) : State :=
  let s := s.setTj d tj
  let k := tabGet 0 s.mode.throttle d
  let least := ofBool (s.mode.ageSlow.contains d)
  if s.rdI R.th_TJ_THROTTLE 16 - 30 < tj || k ≤ least || s.time.edge - tabGet 0 s.mode.hotAt d < edgesPerSec then s
  else
    let t := tabPut 0 d (k - 1) s.mode.throttle
    let slow := t.any fun e => !s.mode.ageSlow.contains e.1 || 1 < e.2
    let s := s.putMode { s.mode with
      throttle := t, currentLimit := s.mode.currentLimit && slow, hotAt := tabPut 0 d s.time.edge s.mode.hotAt }
    if k == 1 then s.wrBit R.th_THROTTLED d false else s

/-- VIN_CURRENT_LIMIT: every die is slowed and P_FLAGS bit 1 is set (R331). -/
def vinCurrentLimit (s : State) : State :=
  let s := s.each (List.range s.part.dies) State.throttleStep
  s.putMode { s.mode with
    currentLimit := true, limitAt := if s.mode.currentLimit then s.mode.limitAt else s.time.edge
    hotAt := s.mode.throttle.foldl (fun t e => tabPut 0 e.1 s.time.edge t) s.mode.hotAt }

/-- VIN_CURRENT_SUSTAINED: 22 A for 100 ms despite throttling (R332). -/
def vinCurrentSustained (s : State) : State :=
  if s.mode.currentLimit && edgesPerSec ≤ 10 * (s.time.edge - s.mode.limitAt) then s.safeFor 0x7135 else s

/-- TJ_LIMIT: a junction at 115 °C, or at 110 °C for 10 s (R332). -/
def tjLimit (d : Nat) (tj : Int) (tenSeconds : Bool) (s : State) : State :=
  let s := s.setTj d tj
  if 1150 ≤ tj || (1100 ≤ tj && tenSeconds) then s.safeFor 0x7134 else s

/-- CORE_HANDOVER_DONE: the next core is moved, the slot is named active after the last, or the old image is kept
(R327). -/
def coreHandoverDone (passed : Bool) (s : State) : State :=
  match s.mode.handover with
  | none => s
  | some k =>
    if !passed then ((s.putMode { s.mode with handover := none }).wr R.fw_FW_STATE 4).raise 0x7133 k
    else
      let s := s.extendLeases
      if k < 3 then s.putMode { s.mode with handover := some (k + 1) }
      else
        let s := (s.putMode { s.mode with handover := none }).wr R.fw_FW_STATE 0
        let s := s.wr R.fw_FW_ACTIVE s.otherSlot
        s.wr R.fw_FW_MIN_VERSION (max (s.rd R.fw_FW_MIN_VERSION) (Config.imageCounter (s.rdDom R.fw_FW_IMAGE)) % 2 ^ 32)

/-- VDDQ_TIMEOUT: 100 ms after DRAM training was due it still cannot start; every controller is out of service (R386). -/
def vddqTimeout (s : State) : State :=
  let cs := List.range s.part.drams
  if !s.mode.coresRun || 10 * (s.time.edge - s.mode.trainDue) < edgesPerSec || cs.all fun c => s.rd (R.dc_CH_STATE c) != 1 then s
  else
    let s := (s.putMode { s.mode with vddqOk := false }).raise 0x7161 0
    let s := s.each cs fun s c => (s.wr (R.dc_CH_STATE c) 5).wr (R.dc_TRAINED_RATE c) 0
    if s.chSetNow == [] then s else s.safeFor 0x7102

/-- JTAG_INSTRUCTION: an instruction that drives balls takes effect only under RST_N with the Ampoule unsealed (R392). -/
def jtagInstruction (i : JtagInstr) (s : State) : State :=
  let set (i : JtagInstr) : State := s.putMode { s.mode with jtag := i }
  if (i == .extest || i == .otherDriving) && (s.mode.rstN || s.ampSealed) then
    (set .bypass).wr R.cb_JTAG_LOCK 1
  else set i

/-- LEHR_ROUND: a round of the Lehr; capacity below the admitted cost enters Safe (R150, R173). -/
def lehrRound (mismatchLane : Option Nat) (s : State) : State :=
  let r := lehrRoundStep mismatchLane s
  if r.2 && r.1.mode.base != .safe then r.1.safeFor 0x7061 else r.1

/-- DRAM_TRAINING_DONE: a training ends; a channel of CH_SET that fails at every rate enters Safe (R248). -/
def dramTrainingDone (c : Nat) (passed : Bool) (pprLeft : Nat) (s : State) : State :=
  let r := trainingResult c passed pprLeft s
  if r.2 then r.1.enterSafe 0x7102 else r.1

/-- REFCLK_RELOCK: REFCLK is back; a hub that waits for it begins its Boot (R44, R323). -/
def refclkBack (s : State) : State :=
  let s := refclkRelock s
  if s.mode.base == .boot && !s.time.running then s.beginBoot else s

end Sys2Proof.Machine
end

