-- ==== Sys2Proof/Machine/Actions.lean ====
section
/-! DEFINITION. The actions that writes start: every W1 and WO entry, AUDIT_SEL and the window (R252), each by its
chapter's rule; and a commit as a whole, its values with its actions (R301, R311 to R313). -/

namespace Sys2Proof.Machine

namespace State

/-- Octets that a window transfer moves at most (R252). -/
def windowMax : Nat := 65536

/-- The code that refuses a window access of n octets at an address (R252). -/
def windowCode (s : State) (tenant addr n : Nat) : Nat :=
  if s.frozen then 0x3101
  else if windowMax < n then 0x2002
  else if !s.inAllocation tenant addr n then 0x1101
  else 0

/-- A window write: octets go to DRAM from WIN_ADDR on, charged to the tenant (R252, R258). One that would fill up a burst of
double-bit errors freezes the controllers instead (R265). -/
def windowWrite (s : State) (tenant : Nat) (octets : List Byte) : Ans :=
  let a := s.rd R.dw_WIN_ADDR
  let c := s.windowCode tenant a octets.length
  let n := octets.length
  if c != 0 then (c, s)
  else match s.badWrite a n with
    | some b => (0x7101, s.freezeBurst b 3 15 tenant)
    | none => ok (((s.wakeFor a n).chargeBursts tenant (burstsIn a n)).dramPut a octets)

/-- A write of an action entry takes effect: its code, and the state after it. -/
def runAction (s : State) (session tenant : Nat) (r : Reg) (v : Val) : Ans :=
  let i := r.inst
  let n := v.toNat
  let on := n != 0
  match r.grp, r.sub with
  | .die, 0x0C => s.ebufPeakClrAct (i + 1) on
  | .die, 0x19 => s.refRecalAct (i + 1) on
  | .time, 0x12 => s.acceptStepAct tenant (toSigned 64 n)
  | .time, 0x13 => s.setTimeAct tenant n
  | .ptp, 0x14 => s.txtsPopAct i on
  | .ptp, 0x17 => s.txtsStickyClrAct i on
  | .channel, 0x0C => s.owNowAct i on
  | .channel, 0x15 => s.tdrStartAct i on
  | .bank, 0x09 => s.calNowAct i on
  | .punty, 0x14 => s.armAct i on
  | .punty, 0x15 => s.disarmAct i on
  | .punty, 0x16 => s.forceAct i on
  | .queue, 0x13 => s.framePopAct i n
  | .queue, 0x14 => s.frameInAct i v.octets
  | .fritCtx, 0x0B => s.flushAct i on
  | .fritJob, 0x07 => s.submitAct i tenant on
  | .fritJob, 0x08 => s.continueAct i tenant on
  | .freeze, 0x0F => s.diagReadAct n
  | .freeze, 0x11 => s.releaseAct n
  | .modes, 0x03 => s.modeReqAct n
  | .fw, 0x01 => s.fwImage v.octets
  | .fw, 0x06 => s.fwActivateAct n
  | .cullet, 0x03 => s.pprNowAct n
  | .cullet, 0x0D => s.laneRestoreAct n
  | .sliceSpare, 0x01 => s.substReqAct i n
  | .amp, 0x03 => s.sealAct tenant on
  | .amp, 0x04 => s.unsealAct tenant on
  | .amp, 0x0A => s.ampRestartAct on
  | .ampProg, 0x02 => s.progImage v.octets
  | .ampProg, 0x04 => s.progActivateAct tenant on
  | .lrec, 0x03 => s.lrecPopAct tenant n
  | .audit, 0x02 => s.auditSelAct session n
  | .dramWin, 0x02 => s.windowWrite tenant v.octets
  | _, _ => ok s

/-- The actions of a commit in their order; the first that is refused ends them (R311). -/
def runActions (s : State) (session tenant : Nat) : Writes → Ans
  | [] => ok s
  | e :: t =>
    if isAction e.1 then
      match s.runAction session tenant e.1 e.2 with
      | (0, s) => s.runActions session tenant t
      | (c, s) => (c, s)
    else s.runActions session tenant t

/-- A refused action that leaves a mark of its own where it is refused: a bad image sets FW_STATE or PROG_STATE to failed
(R327, R362); the rest leave nothing. -/
def refusedMark (s : State) (r : Reg) : State :=
  match r.grp, r.sub with
  | .fw, 0x01 => s.wr R.fw_FW_STATE 4
  | .ampProg, 0x02 => s.wr R.ap_PROG_STATE 4
  | _, _ => s

/-- The window writes of a refused commit may yet have met a double-bit error: the freeze stands (R265). -/
def windowMet (s : State) (tenant : Nat) (ws : Writes) : State :=
  s.each ws fun s e =>
    if e.1.grp == .dramWin && e.1.sub == 0x02 then
      let r := s.windowWrite tenant e.2.octets
      if r.1 == 0x7101 then r.2 else s
    else s

/-- The writes of one commit as a whole: refused with the first code, and nothing takes effect; or all take effect
(R301, R312). `fade` is the instant that the commit names, already past (R164, R313). -/
def commitWrites (s : State) (session tenant : Nat) (ws : Writes) (fade : Option Nat) : Ans :=
  let vs := ws.filter fun e => !isAction e.1
  let place := s.placeCode ws
  let code := if place != 0 then place else if vs == [] then 0 else s.testCommit tenant vs
  if code != 0 then (code, s.countRefusal code)
  else
    let t := if vs == [] then s else s.applyWrites tenant vs none fade
    match t.runActions session tenant ws with
    | (0, t) => (0, t)
    | (c, _) =>
      let s := if c == 0x7101 then s.windowMet tenant ws else s
      (c, match ws with | [e] => s.refusedMark e.1 | _ => s)

/-- The writes of a scheduled commit at its instant: nothing is tested again but what the seal has frozen since, which no
clause alters (R10), and what a fence has closed since (R115); an action that is refused has no effect (R313; log entry 42). -/
def commitAtInstant (s : State) (session tenant : Nat) (ws : Writes) (at_ : Nat) : State :=
  let ws := ws.filter fun e => s.legalCode e.1 == 0 && !s.fenced e.1
  let s := s.applyWrites tenant (ws.filter fun e => !isAction e.1) (some at_) (some at_)
  s.each (ws.filter fun e => isAction e.1) fun s e =>
    match s.runAction session tenant e.1 e.2 with
    | (0, s) => s
    | (c, _) => if c == 0x7101 then s.windowMet tenant [e] else s

end State

end Sys2Proof.Machine
end

