-- ==== Sys2Proof/Machine/Sessions.lean ====
section
/-! DEFINITION. ADP messages, sessions and rights (R298 to R307), the clause slots (R310 to R315) and the chain clauses
(R316, R317). -/

namespace Sys2Proof.Machine

/-- TYPE of a request (Table 12-4). -/
def Req.typ : Req → Nat
  | .read _ _ _ => 0x01
  | .write _ _ _ _ => 0x02
  | .blockRead _ _ _ _ _ => 0x03
  | .blockWrite _ _ _ _ _ _ => 0x04
  | .walk _ _ _ => 0x05
  | .clauseOpen _ _ _ => 0x06
  | .clauseCommit _ _ => 0x07
  | .clauseAbandon _ => 0x08
  | .subscribe _ _ => 0x09
  | .unsubscribe _ => 0x0A
  | .abort _ _ => 0x0B

/-- The octets of a request's body (Table 12-4). -/
def Req.body : Req → List Byte
  | .read i s c => natLE 2 i ++ natLE 1 s ++ natLE 1 c
  | .write i s c v => natLE 2 i ++ natLE 1 s ++ natLE 1 c ++ v
  | .blockRead i s c o l => natLE 2 i ++ natLE 1 s ++ natLE 1 c ++ natLE 4 o ++ natLE 4 l
  | .blockWrite i s c o d _ => natLE 2 i ++ natLE 1 s ++ natLE 1 c ++ natLE 4 o ++ d
  | .walk i s m => natLE 2 i ++ natLE 1 s ++ natLE 1 m
  | .clauseOpen l c items => natLE 4 l ++ natLE 1 items.length ++ natLE 1 (ofBool c) ++ natLE 2 0
      ++ items.flatMap fun x => natLE 2 x.idx ++ natLE 1 x.sub ++ natLE 1 x.hub
  | .clauseCommit c w => natLE 1 c ++ natLE 7 0 ++ natLE 8 w
  | .clauseAbandon c => natLE 1 c ++ natLE 3 0
  | .subscribe q n => natLE 2 q ++ natLE 2 n
  | .unsubscribe q => natLE 2 q ++ natLE 2 0
  | .abort k i => natLE 1 k ++ natLE 1 0 ++ natLE 2 i

/-- MORE of a request: on the segments of a BLOCK-WRITE but the last. -/
def Req.more : Req → Bool
  | .blockWrite _ _ _ _ _ m => m
  | _ => false

/-- The clause that a read or a write names; 0 for none. -/
def Req.clause : Req → Nat
  | .read _ _ c => c
  | .write _ _ c _ => c
  | .blockRead _ _ c _ _ => c
  | .blockWrite _ _ c _ _ _ => c
  | _ => 0

/-- Does a request keep the ranges that Table 12-4 gives its fields. -/
def Req.formOk : Req → Bool
  | .blockRead _ _ _ _ l => 1 ≤ l && l ≤ 65536
  | .walk _ _ m => 1 ≤ m && m ≤ 64
  | .abort k _ => 1 ≤ k && k ≤ 9
  | _ => true

/-- The request of a TYPE and body, if they match a row of Table 12-4 (R299). -/
def parseReq (typ : Nat) (more : Bool) (b : List Byte) : Option Req :=
  let u (at_ n : Nat) : Nat := leNat ((b.drop at_).take n)
  let n := b.length
  match typ with
  | 0x01 => if n == 4 then some (.read (u 0 2) (u 2 1) (u 3 1)) else none
  | 0x02 => if 4 ≤ n then some (.write (u 0 2) (u 2 1) (u 3 1) (b.drop 4)) else none
  | 0x03 => if n == 12 then some (.blockRead (u 0 2) (u 2 1) (u 3 1) (u 4 4) (u 8 4)) else none
  | 0x04 => if 8 ≤ n then some (.blockWrite (u 0 2) (u 2 1) (u 3 1) (u 4 4) (b.drop 8) more) else none
  | 0x05 => if n == 4 then some (.walk (u 0 2) (u 2 1) (u 3 1)) else none
  | 0x06 =>
    if 8 ≤ n && n == 8 + 4 * u 4 1 && u 5 1 ≤ 1 && u 6 2 == 0 then
      some (.clauseOpen (u 0 4) (u 5 1 == 1) ((List.range (u 4 1)).map fun k =>
        ⟨u (8 + 4 * k) 2, u (10 + 4 * k) 1, u (11 + 4 * k) 1⟩))
    else none
  | 0x07 => if n == 16 && u 1 7 == 0 then some (.clauseCommit (u 0 1) (u 8 8)) else none
  | 0x08 => if n == 4 && u 1 3 == 0 then some (.clauseAbandon (u 0 1)) else none
  | 0x09 => if n == 4 then some (.subscribe (u 0 2) (u 2 2)) else none
  | 0x0A => if n == 4 && u 2 2 == 0 then some (.unsubscribe (u 0 2)) else none
  | 0x0B => if n == 4 && u 1 1 == 0 then some (.abort (u 0 1) (u 2 2)) else none
  | _ => none

/-- An ADP message, Table 12-3. -/
def adpMessage (typ tag session status : Nat) (remote more response : Bool) (hub : Nat) (body : List Byte) : List Byte :=
  natLE 1 1 ++ natLE 1 typ ++ natLE 2 tag ++ natLE 2 session ++ natLE 2 status ++ natLE 2 body.length
    ++ natLE 1 (4 * ofBool remote + 2 * ofBool more + ofBool response) ++ natLE 1 hub ++ body

/-- The octets of one message within padded segments, as its LEN tells (R304). -/
def trimMessage (b : List Byte) : List Byte := b.take (12 + leNat ((b.drop 8).take 2))

/-- The tenant number, 0xFFFF for none. -/
def Who.num (w : Who) : Nat := w.tenant.getD 0xFFFF

/-- Answers of a request: status, MORE and body of each message. -/
abbrev Answers := List (Nat × Bool × List Byte)

/-- One answer without a body. -/
def answer (code : Nat) : Answers := [(code, false, [])]

/-- The body of CLAUSE-COMMIT's response (Table 12-4, R298, R317). -/
def commitBody (t96 member : Nat) : List Byte := natLE 12 t96 ++ natLE 1 member

/-- The lowest class that may write an entry, or for an RO entry read it; none for A (R11). -/
def Cls.level : Cls → Option Nat
  | .O => some 0 | .P => some 1 | .S => some 2 | .V => some 3 | .A => none

namespace State

/-- Is a session open (R305). -/
def sessionOpen (s : State) (x : Nat) : Bool := x < 64 && s.rd (R.se_S_TRANSPORT x) != 0

/-- Does the CAN FD session act as the Owner (R304). -/
def canOwner (s : State) : Bool := s.rd (R.te_CERT_KEY 0) == 0 || (s.rdB R.ad_CAN_OWNER && s.inCommission)

/-- The tenant a session acts for (R302, R304). -/
def sessionTenant (s : State) (x : Nat) : Option Nat :=
  if s.rd (R.se_S_TRANSPORT x) == 2 then (if s.canOwner then some 0 else none)
  else some (s.rd (R.se_S_TENANT x))

/-- The class of a tenant: 0 O, 1 P, 2 S, 3 V (R11); a session without one has V. -/
def classOf (s : State) (t : Option Nat) : Nat :=
  match t with
  | some 0 => 0
  | some k => s.rd (R.te_CLASS k)
  | none => 3

/-- Answers leave for a session, over its own transport or the relay (R298, R303). -/
def sendAnswers (s : State) (w : Who) (typ : Nat) (l : Answers) : State :=
  s.each l fun s a =>
    if w.key < 256 then s.emit (.adp w.remote w.key typ w.tag a.1 a.2.1 a.2.2)
    else
      let k := w.key - 256
      s.sendRelay (k / 64 % 2) (k / 128) w.num (k % 64) (adpMessage typ w.tag (k % 64) a.1 true a.2.1 true (w.remote.getD 0) a.2.2)

/-- A request is answered, and the answers are kept among the last sixteen (R300). -/
def reply (s : State) (w : Who) (typ : Nat) (l : Answers) : State :=
  let x := s.session w.key
  (s.setSession w.key { x with store := lastN 16 (x.store ++ [⟨typ, w.tag, l⟩]) }).sendAnswers w typ l

/-- The lowest free session number (R305). -/
def freeSession (s : State) : Option Nat := (List.range 64).find? fun x => !s.sessionOpen x

/-- A session opens (R302, R304, R305). -/
def openSession (s : State) (x tenant transport : Nat) : State :=
  let s := ((s.wr (R.se_S_TENANT x) tenant).wr (R.se_S_TRANSPORT x) transport).wr (R.se_S_OPENED x) s.now96
  (s.wr (R.se_S_LAST_RX x) s.now96).setSession x { Session.init with lastRx := s.time.edge }

/-- A message has arrived on a session (R305). -/
def touch (s : State) (x : Nat) : State :=
  if s.sessionOpen x then (s.wr (R.se_S_LAST_RX x) s.now96).setSession x { s.session x with lastRx := s.time.edge } else s

/-! ### Rights -/

/-- Does an entry need the time right (R41, Table 2-5). -/
def needsTimeRight (r : Reg) : Bool :=
  r.grp == .time && ([0x03, 0x05, 0x12, 0x13].contains r.sub || (0x09 ≤ r.sub && r.sub ≤ 0x0F))

/-- Has a tenant the time right (R41). -/
def timeRight (s : State) (t : Option Nat) : Bool :=
  match t with
  | some 0 => true
  | some k => s.rdB (R.te_TIME_RIGHT k)
  | none => false

/-- Check 5 of R301: the rights class, and the further rights that an entry needs (R11, R41, R212, R229, R307); a job slot is its job's
tenant's from SUBMIT to the end of the job (R246; log entry 140). -/
def rightsCode (s : State) (t : Option Nat) (r : Reg) (w : Row) (write : Bool) : Nat :=
  let have_ := s.classOf t
  let need : Option Nat := if write || w.acc == .ro then Cls.level w.cls else some 3
  let me := t.getD 0xFFFF
  if (match need with | some k => decide (k < have_) | none => true) then 0x1001
  else if write then
    if needsTimeRight r && !s.timeRight t then 0x1021
    else match r.grp with
      | .queue => codeIf (r.inst / 8 != me) 0x1081
      | .fritCtx => codeIf (3 ≤ r.sub && s.rd (R.fc_TENANT r.inst) != me) 0x1091
      | .fritJob => codeIf (s.jobRuns r.inst && (s.job r.inst).tenant != me) 0x1091
      | .path => codeIf (s.rd (R.pa_TENANT r.inst) != 0xFFFF && s.rd (R.pa_TENANT r.inst) != me) 0x1001
      | .route => codeIf (s.rd (R.ro_TENANT r.inst) != 0xFFFF && s.rd (R.ro_TENANT r.inst) != me) 0x1001
      | _ => 0
  else codeIf (r.grp == .queue && w.acc == .ro && w.cls == .S && r.inst / 8 != me && have_ != 0) 0x1081

/-- The records of the capability list with its end record (R309). -/
def capRecords (s : State) : List Nat := s.capList ++ [0]

/-- A subindex 00, or a capability record, as octets (R3, R297, R309). Subindex 00 is one octet (log entry 122). -/
def specialEntry (s : State) (idx sub : Nat) : Option (List Byte) :=
  if 0x1F00 ≤ idx && idx ≤ 0x1FFF then
    let l := s.capRecords.drop ((idx - 0x1F00) * 255)
    if l == [] then none
    else if sub == 0 then some (natLE 1 (min 255 l.length))
    else (l.take 255)[sub - 1]?.map (natLE 4)
  else if sub == 0 then (highestSub s.part idx).map (natLE 1)
  else none

/-- The code of a write or a lock of an entry that has no row: read-only where a read finds a subindex 00 or a capability
record, else absent (R3, R297; log entry 122). -/
def noRowCode (s : State) (idx sub : Nat) : Nat := if (s.specialEntry idx sub).isSome then 0x1002 else 0x2001

/-- Checks 3 to 6 of R301 on a write: the entry, or the code of the first that fails. -/
def writeEntry (s : State) (t : Option Nat) (idx sub : Nat) : Except Nat (Reg × Row) :=
  match entryAt s.part idx sub with
  | none => .error (s.noRowCode idx sub)
  | some (r, w) =>
    let c := firstCode [codeIf (w.acc == .ro) 0x1002, s.rightsCode t r w true, s.legalCode r]
    if c != 0 then .error c else .ok (r, w)

/-! ### Clause slots -/

/-- The clause slots. -/
def clauseIds : List Nat := (List.range 64).map (· + 1)

/-- Is a clause open as R310 counts it: until its commit, abandonment or rollback. -/
def clauseUsed (s : State) (c : Nat) : Bool := s.rd (R.cs_CL_STATE c) != 0

/-- The clause that locks an entry. -/
def lockHolder (s : State) (r : Reg) : Option Nat :=
  clauseIds.find? fun c => s.clauseUsed c && (s.clause c).locks.contains r

/-- A free slot, in turn after the last one given. -/
def freeClauseSlot (s : State) : Option Nat :=
  (clauseIds.map fun k => (s.lastClause + k - 1) % 64 + 1).find? fun c => !s.clauseUsed c

/-- The lease in ms that a request asks for, if it may (R314). -/
def leaseMs (l : Nat) : Option Nat :=
  if l == 0 then some 10000 else if 100 ≤ l && l ≤ 600000 then some l else none

/-- The end of a lease that starts now. -/
def leaseEnd (s : State) (ms : Nat) : Nat := t96OfTicks (s.now + ms * 1000000 * ticksPerNs)

/-- A clause slot is taken. -/
def takeSlot (s : State) (c tenant session st : Nat) (x : Clause) : State :=
  let s := (s.setClause c x).putLastClause c
  let s := ((s.wr (R.cs_CL_STATE c) st).wr (R.cs_CL_TENANT c) tenant).wr (R.cs_CL_SESSION c) session
  (((s.wr (R.cs_LEASE_END c) (if x.lease == 0 then 0 else s.leaseEnd x.lease)).wr (R.cs_WHEN c) 0).wr
    (R.cs_LOCKS c) x.locks.length).wr (R.cs_CL_RETRIES c) 0

/-- A clause slot is free again; `rolled` keeps the rollback for the answers of R314. -/
def dropSlot (s : State) (c : Nat) (rolled : Bool) : State :=
  let s := s.setClause c { Clause.init with rolledBack := rolled }
  let s := ((s.wr (R.cs_CL_STATE c) 0).wr (R.cs_CL_TENANT c) 0xFFFF).wr (R.cs_CL_SESSION c) 0xFFFF
  ((s.wr (R.cs_LOCKS c) 0).wr (R.cs_WHEN c) 0).wr (R.cs_CL_RETRIES c) 0

/-- The requester that a clause's pending answer goes to. -/
def clauseWho (s : State) (c : Nat) : Who :=
  let k := (s.clause c).chain
  ⟨s.rd (R.cs_CL_SESSION c), some (s.rd (R.cs_CL_TENANT c)), (k.map (·.pendTag)).getD 0, k.bind (·.pendRemote)⟩

/-- The hub's own chain address. -/
def ownAddr (s : State) : Nat := s.rd R.lx_CHAIN_ADDR

/-- Is a clause the coordinator's side of a chain clause. -/
def coordinates (s : State) (c : Nat) : Bool := (s.clause c).chain.isSome && s.rd (R.cs_CL_SESSION c) != 0xFFFF

/-- Every other member of a chain clause that may hold something is told to abandon its part (R314, R316, R317). -/
def abandonMembers (s : State) (c : Nat) : State :=
  match (s.clause c).chain with
  | none => s
  | some x =>
    if !s.coordinates c then s
    else s.each (x.members.filter fun m => m.1 != s.ownAddr) fun s m => s.emit (.chain m.1 c .abandon)

/-- One member's progress is noted. -/
def setMember (s : State) (c hub : Nat) (st : MemberSt) : State :=
  let x := s.clause c
  match x.chain with
  | none => s
  | some k => s.setClause c { x with chain := some { k with
      members := k.members.map fun m => if m.1 == hub then (m.1, st) else m } }

/-- The precedence of a chain clause: the coordinator's address, then the clause number (R316). -/
def chainRank (s : State) (c : Nat) : Nat :=
  match (s.clause c).chain with
  | some x => x.coordinator * 256 + x.coordClause
  | none => 0

/-- The other clauses that hold any of some entries. -/
def holders (s : State) (c : Nat) (items : List Reg) : List Nat :=
  ((items.filterMap s.lockHolder).filter (· != c)).eraseDups

/-- A chain clause's CLAUSE-OPEN is answered with a failure: every member lets go (R316). -/
def chainOpenEnds (s : State) (c code : Nat) : State :=
  let w := s.clauseWho c
  ((s.abandonMembers c).dropSlot c false).reply w 0x06 (answer code)

/-- A chain clause gives way: every lock is released, and it waits its backoff and tries again, at most eight times
(R316). -/
def chainLetGo (s : State) (c : Nat) : State :=
  if 8 ≤ s.rd (R.cs_CL_RETRIES c) then s.chainOpenEnds c 0x5123
  else
    let s := (s.abandonMembers c).count (R.cs_CL_RETRIES c) 1
    let x := s.clause c
    (s.setClause c { x with locks := [], waitItems := [], chain := x.chain.map fun k => { k with
      backoff := true, since := s.time.edge, members := k.members.map fun m => (m.1, MemberSt.waiting) } }).wr (R.cs_LOCKS c) 0

/-- A chain clause of lower precedence gives way (R316): by an order to its coordinator, or here where this hub is that and the
clause still takes its locks. -/
def giveWay (s : State) (c : Nat) : State :=
  match (s.clause c).chain with
  | none => s
  | some x =>
    if !s.coordinates c then s.emit (.chainReply x.coordinator x.coordClause .lock 0x5001)
    else if s.rd (R.cs_CL_STATE c) == 3 then s.chainLetGo c else s

/-- What a chain clause meets on this hub: 0 its locks are taken, 1 it waits, 2 it gives way (R316). -/
def tryLock (s : State) (c : Nat) (items : List Reg) : Nat × State :=
  let hs := s.holders c items
  let x := s.clause c
  if hs == [] then (0, (s.setClause c { x with locks := items, waitItems := [] }).wr (R.cs_LOCKS c) items.length)
  else if hs.any fun h => (s.clause h).chain.isSome && s.chainRank h < s.chainRank c then (2, s)
  else (1, (s.setClause c { x with waitItems := items, waitSince := s.time.edge }).each hs giveWay)

/-- The local entries that lock items of this hub name. -/
def localItems (s : State) (items : List LockItem) : List Reg :=
  (items.filter fun i => i.hub == s.ownAddr).filterMap fun i => (entryAt s.part i.idx i.sub).map (·.1)

/-- The body of CLAUSE-OPEN's response. -/
def openBody (s : State) (c : Nat) : List Byte := natLE 1 c ++ natLE 3 0 ++ natLE 12 (s.rd (R.cs_LEASE_END c))

/-- A coordinator goes on to the next member in ascending chain address; with every lock taken the clause is open
(R316). At most n local steps. -/
def chainNext (s : State) (c : Nat) : Nat → State
  | 0 => s
  | n + 1 =>
    match (s.clause c).chain with
    | none => s
    | some k =>
      match k.members.find? fun m => m.2 == .waiting with
      | none => (s.wr (R.cs_CL_STATE c) 1).reply (s.clauseWho c) 0x06 [(0, false, s.openBody c)]
      | some m =>
        if m.1 != s.ownAddr then s.emit (.chain m.1 c .lock)
        else match s.tryLock c (s.localItems (s.clause c).remoteLocks) with
          | (0, s) => (s.setMember c m.1 .locked).chainNext c n
          | (1, s) => s
          | (_, s) => s.chainLetGo c

/-- Clauses that wait for entries take them as they become free, in order of precedence; at most n rounds (R316). -/
def grantWaiting (s : State) : Nat → State
  | 0 => s
  | n + 1 =>
    let ready := (clauseIds.filter fun c => (s.clause c).waitItems != []
      && s.holders c (s.clause c).waitItems == [])
    match ready with
    | [] => s
    | a :: t =>
      let c := t.foldl (fun b x => if s.chainRank x < s.chainRank b then x else b) a
      let items := (s.clause c).waitItems
      let s := (s.tryLock c items).2
      let s := if s.coordinates c then (s.setMember c s.ownAddr .locked).chainNext c 64
        else match (s.clause c).chain with
          | some k => (s.wr (R.cs_CL_STATE c) 1).emit (.chainReply k.coordinator k.coordClause .lock 0)
          | none => s
      s.grantWaiting n

/-- A coordinator goes on, and clauses that wait for what this releases go on too (R316). -/
def chainGo (s : State) (c : Nat) : State := (s.chainNext c 64).grantWaiting 64

/-- A chain clause's CLAUSE-OPEN fails, and clauses that wait for its locks go on (R316). -/
def chainOpenFails (s : State) (c code : Nat) : State := (s.chainOpenEnds c code).grantWaiting 64

/-- A chain clause gives way, and clauses that wait for its locks go on (R316). -/
def chainBackoff (s : State) (c : Nat) : State := (s.chainLetGo c).grantWaiting 64

/-- A clause ends on this hub: its staged writes are discarded and its locks released (R312, R314). -/
def endClause (s : State) (c : Nat) (rolled : Bool) : State := (s.dropSlot c rolled).grantWaiting 64

/-- A clause is rolled back (R314). A request that waits for its answer is answered with the code. -/
def rollBack (s : State) (c code : Nat) : State :=
  let w := s.clauseWho c
  let st := s.rd (R.cs_CL_STATE c)
  let s := (s.abandonMembers c).count (R.cs_ROLLBACKS c) 1
  let s := s.endClause c true
  if st == 3 then s.reply w 0x06 (answer code)
  else if st == 4 && w.key != 0xFFFF then s.reply w 0x07 [(code, false, commitBody 0 0)] else s

/-- A clause is withdrawn by ABANDON or ABORT: no rollback is counted (R313, R314; log entry 44). A request that waits is
answered with the code. -/
def withdraw (s : State) (c code : Nat) : State :=
  let w := s.clauseWho c
  let st := s.rd (R.cs_CL_STATE c)
  let s := (s.abandonMembers c).endClause c false
  if st == 3 then s.reply w 0x06 (answer code)
  else if st == 4 && w.key != 0xFFFF then s.reply w 0x07 [(code, false, commitBody 0 0)] else s

/-- A session is lost: its open clauses are rolled back, its subscriptions end, its number is free (R305, R314, R318). -/
def loseSession (s : State) (x : Nat) : State :=
  if !s.sessionOpen x then s
  else
    let cs := clauseIds.filter fun c => s.rd (R.cs_CL_SESSION c) == x &&
      (s.rd (R.cs_CL_STATE c) == 1 || s.rd (R.cs_CL_STATE c) == 3 || (s.rd (R.cs_CL_STATE c) == 4 && s.coordinates c))
    let s := s.each cs fun s c => s.rollBack c 0x5124
    let qs := (s.queues.filter fun e => e.2.subscriber == some x).map (·.1)
    let s := s.each qs endSubscription
    let s := (s.putForwarded (s.forwarded.filter fun e => e.session != x)).putHeld (s.held.filter fun e => e.who.key != x)
    let s := ((s.wr (R.se_S_TENANT x) 0xFFFF).wr (R.se_S_TRANSPORT x) 0).wr (R.se_S_OPENED x) 0
    (s.wr (R.se_S_LAST_RX x) 0).setSession x Session.init

/-- Is a used slot a member's part of a chain clause (Table 12-8). -/
def memberPart (s : State) (c : Nat) : Bool :=
  1 ≤ c && c ≤ 64 && s.clauseUsed c && s.rd (R.cs_CL_SESSION c) == 0xFFFF

/-- The slot that a clause number in a session's request means: its own, or for a relayed session the member part of that clause
of its gateway, the coordinator (R316; log entry 39); a number that means neither names no clause. -/
def slotFor (s : State) (key c : Nat) : Nat :=
  if key < 256 || c == 0 || s.rd (R.cs_CL_SESSION c) == key then c
  else (clauseIds.find? fun k => s.memberPart k && match (s.clause k).chain with
    | some x => x.coordinator == (key - 256) / 128 && x.coordClause == c
    | none => false).getD (if s.memberPart c then 65 else c)

/-- May a session use a clause in one of some states (R311, R314): the code, or 0. -/
def clauseCode (s : State) (key c : Nat) (states : List Nat) : Nat :=
  if c == 0 || 64 < c then 0x3121
  else if !s.clauseUsed c then (if (s.clause c).rolledBack then 0x5124 else 0x3121)
  else if s.rd (R.cs_CL_SESSION c) != key && !(s.rd (R.cs_CL_SESSION c) == 0xFFFF && 256 ≤ key) then 0x1121
  else codeIf (!states.contains (s.rd (R.cs_CL_STATE c))) 0x3121

/-- A message that names an open clause restarts its lease (R314). -/
def renewLease (s : State) (key c : Nat) : State :=
  if c != 0 && s.rd (R.cs_CL_STATE c) == 1 && s.rd (R.cs_CL_SESSION c) == key && (s.clause c).lease != 0 then
    s.wr (R.cs_LEASE_END c) (s.leaseEnd (s.clause c).lease) else s

/-- Check 7 of R301 on a write: an entry that another clause holds is not that clause's to write (R311). -/
def lockCode (s : State) (key c : Nat) (r : Reg) (w : Row) : Nat :=
  if c == 0 then firstCode [codeIf (w.acc.clauseOnly && !s.inCommission) 0x3001, codeIf (s.lockHolder r).isSome 0x5001]
  else firstCode [s.clauseCode key c [1],
    codeIf (!(s.clause c).locks.contains r) (if (s.lockHolder r).isSome then 0x5001 else 0x5122)]

/-- Check 8 of R301: the chapter's rules on the value, then its range. -/
def valueCheck (s : State) (r : Reg) (w : Row) (v : Val) : Nat :=
  firstCode [valueCode s.part r v.toNat, rangeCheck w v]

/-- A clause's staged writes in the order of its lock list (R311). -/
def stagedInOrder (s : State) (c : Nat) : Writes :=
  let x := s.clause c
  x.locks.filterMap fun r => x.staged.find? fun e => e.1 == r

/-- A value is staged in a clause, in place of one staged before (R311). -/
def stageIn_ (s : State) (c : Nat) (r : Reg) (v : Val) : State :=
  let x := s.clause c
  s.setClause c { x with staged := (x.staged.filter fun e => e.1 != r) ++ [(r, v)] }

/-- A checked write takes effect or is staged (R301, R311). An action in a clause is staged as any value. -/
def putValue (s : State) (w : Who) (c : Nat) (r : Reg) (v : Val) : Ans :=
  if c == 0 then s.commitWrites w.key w.num [(r, v)] none
  else
    let s := if s.rd (R.cs_CL_TENANT c) == 0xFFFF then s.wr (R.cs_CL_TENANT c) w.num else s
    ok (s.stageIn_ c r v)

/-- The tests of a clause's commit (R312, R313). -/
def testClause (s : State) (c : Nat) : Nat :=
  let ws := s.stagedInOrder c
  let place := s.placeCode ws
  if place != 0 then place
  else s.testCommit (s.rd (R.cs_CL_TENANT c)) (ws.filter fun e => !isAction e.1)

/-- A scheduled clause takes effect at its instant (R313, R324). -/
def runScheduled (s : State) (c : Nat) : State :=
  let t := ((s.now : Int) + t64Diff (s.rd (R.cs_WHEN c)) s.now).toNat
  let s := s.commitAtInstant (s.rd (R.cs_CL_SESSION c)) (s.rd (R.cs_CL_TENANT c)) (s.stagedInOrder c) t
  s.commitIfOutside.endClause c false

/-- The scheduled clauses whose instant hub time has passed. -/
def dueClauses (s : State) : List Nat :=
  clauseIds.filter fun c => s.rd (R.cs_CL_STATE c) == 2 && t64Past (s.rd (R.cs_WHEN c)) s.now

/-- A forward step of hub time commits the clauses whose WHEN it passes (R313). `before` is hub time before it. -/
def afterJump (s : State) (before : Nat) : State :=
  if before < s.now then s.each s.dueClauses runScheduled else s

end State

end Sys2Proof.Machine
end

