-- ==== Sys2Proof/Machine/Adp.lean ====
section
/-! DEFINITION. ADP (chapter 12): every request of Table 12-4 by the checks of R301, ABORT (R319), the transports and the
relay (R302 to R305), and the events of clauses and chain clauses (R313 to R317). -/

namespace Sys2Proof.Machine

/-- Data octets of one BLOCK-READ response: 16,372 less OFFSET and TOTAL (R298, Table 12-4). -/
def readRoom : Nat := 16364

/-- The responses of a BLOCK-READ: the data in parts, MORE on all but the last (Table 12-4); at most n. -/
def readParts (total : Nat) : Nat → Nat → List Byte → Answers
  | 0, _, _ => []
  | n + 1, off, d =>
    let part := natLE 4 off ++ natLE 4 total ++ d.take readRoom
    if d.length ≤ readRoom then [(0, false, part)]
    else (0, true, part) :: readParts total n (off + readRoom) (d.drop readRoom)

namespace State

/-- The octets that a read in a clause answers: staged there, or in force (R299). -/
def readOctets (s : State) (w : Who) (c : Nat) (r : Reg) (row : Row) : Except Nat (List Byte) :=
  let code := if c == 0 then 0 else s.clauseCode w.key c [1, 2, 4]
  if code != 0 then .error code
  else match (if c == 0 || isAction r then none else (s.clause c).staged.find? fun e => e.1 == r) with
    | some (_, .num v) => .ok (encodeNum row v)
    | some (_, .dom l) => .ok l
    | none => s.readValue w.key r row

/-- Checks 3 to 7 of R301 on a read, and the octets read. -/
def readEntry (s : State) (w : Who) (idx sub c : Nat) : Except Nat (Reg × Row × List Byte) :=
  match entryAt s.part idx sub with
  | none =>
    match s.specialEntry idx sub with
    | some l => .ok (⟨.capList, 0, 0⟩, ⟨0, .oct 0, .ro, .V, 0, .any, 0⟩, l)
    | none => .error 0x2001
  | some (r, row) =>
    let code := firstCode [codeIf (!row.acc.readable) 0x1002, s.rightsCode w.tenant r row false, s.reachCode r]
    if code != 0 then .error code
    else match s.readOctets w c r row with
      | .ok l => .ok (r, row, l)
      | .error e => .error e

/-- READ (Table 12-4). A domain moves by BLOCK-READ only (R299; log entry 45). -/
def doRead (s : State) (w : Who) (idx sub c : Nat) : State × Answers :=
  match s.readEntry w idx sub c with
  | .error e => (s, answer e)
  | .ok (_, row, l) => if row.ty == .dom then (s, answer 0x2002) else (s, [(0, false, l)])

/-- WRITE (R301, R311). -/
def doWrite (s : State) (w : Who) (idx sub c : Nat) (value : List Byte) : State × Answers :=
  match s.writeEntry w.tenant idx sub with
  | .error e => (s, answer e)
  | .ok (r, row) =>
    let code := s.lockCode w.key c r row
    if code != 0 then (s, answer code)
    else match decodeVal row value with
      | .error e => (s, answer e)
      | .ok v =>
        let code := s.valueCheck r row v
        if code != 0 then (s, answer code)
        else
          let a := s.putValue w c r v
          (a.2, answer a.1)

/-- BLOCK-READ (Table 12-4); of WIN_DATA, octets of the tenant's DRAM from WIN_ADDR + OFFSET (R252). -/
def doBlockRead (s : State) (w : Who) (idx sub c off len : Nat) : State × Answers :=
  match s.readEntry w idx sub c with
  | .error e => (s, answer e)
  | .ok (r, _, l) =>
    if r.grp == .dramWin && r.sub == 0x02 then
      let a := s.rd R.dw_WIN_ADDR + off
      let code := firstCode [codeIf (windowMax < off + len) 0x1101, s.windowCode w.num a len]
      if code != 0 then (s, answer code)
      else match s.badRead a len with
        | some b => (s.freezeBurst b 1 15 w.num, answer 0x7101)
        | none =>
          ((s.wakeFor a len).chargeBursts w.num (burstsIn a len),
            readParts windowMax (len / readRoom + 1) off (s.dramGet a len))
    else (s, readParts l.length (len / readRoom + 1) off ((l.drop off).take len))

/-- A transfer without the one on an entry in a clause. -/
def otherXfers (x : Session) (r : Reg) (c : Nat) : List Xfer := x.xfers.filter fun t => !(t.reg == r && t.clause == c)

/-- The state entries that tell of an image being received (R327, R362): 1 while segments follow, 0 when discarded. -/
def receiving (s : State) (r : Reg) (v : Nat) : State :=
  match r.grp, r.sub with
  | .fw, 0x01 => s.wr R.fw_FW_STATE v
  | .ampProg, 0x02 => s.wr R.ap_PROG_STATE v
  | _, _ => s

/-- BLOCK-WRITE: one segment (R299). A segment out of order, or refused, discards its transfer. -/
def doBlockWrite (s : State) (w : Who) (idx sub c off : Nat) (data : List Byte) (more : Bool) : State × Answers :=
  match s.writeEntry w.tenant idx sub with
  | .error e => (s, answer e)
  | .ok (r, row) =>
    let x := s.session w.key
    let old := x.xfers.find? fun t => t.reg == r && t.clause == c
    let s := s.setSession w.key { x with xfers := otherXfers x r c }
    let got := (old.map (·.got)).getD []
    let code := firstCode [s.lockCode w.key c r row, codeIf (row.ty != .dom) 0x2002]
    if code != 0 then (s, answer code)
    else if off != got.length then ((if old.isSome then s.receiving r 0 else s), answer 0x2004)
    else if more then
      let t : Xfer := ⟨w.tag :: (old.map (·.tags)).getD [], r, c, got ++ data, r.grp == .dramWin, s.time.edge⟩
      let y := s.session w.key
      ((s.setSession w.key { y with xfers := y.xfers ++ [t] }).receiving r 1, answer 0)
    else
      let a := s.putValue w c r (.dom (got ++ data))
      (a.2, answer a.1)

/-- WALK: up to MAX records of the capability list (R397). -/
def doWalk (s : State) (idx sub max_ : Nat) : State × Answers :=
  let l := s.capRecords
  let k := (idx - 0x1F00) * 255 + (sub - 1)
  if idx < 0x1F00 || 0x1FFF < idx || sub == 0 || l.length ≤ k then (s, answer 0x2001)
  else
    let out := (l.drop k).take max_
    let next := min (k + out.length) (l.length - 1)
    (s, [(0, false, natLE 2 (0x1F00 + next / 255) ++ natLE 1 (next % 255 + 1) ++ natLE 1 out.length
      ++ out.flatMap (natLE 4))])

/-- The code that refuses a lock item to a tenant (R310): 0x1001 whatever makes the entry another tenant's. -/
def itemCode (s : State) (t : Option Nat) (i : LockItem) : Nat :=
  match entryAt s.part i.idx i.sub with
  | none => s.noRowCode i.idx i.sub
  | some (r, w) => firstCode [codeIf (w.acc == .ro) 0x1002, codeIf (s.rightsCode t r w true != 0) 0x1001]

/-- The clauses that a tenant holds open (R310). -/
def clausesOf (s : State) (t : Nat) : Nat := (clauseIds.filter fun c => s.clauseUsed c && s.rd (R.cs_CL_TENANT c) == t).length

/-- CLAUSE-OPEN (R310, R314, R316). The answer to a chain clause comes when every lock is taken. -/
def doOpen (s : State) (w : Who) (lease : Nat) (chain : Bool) (items : List LockItem) : State × Answers :=
  let own := items.filter fun i => i.hub == s.ownAddr
  let shape := codeIf (items == [] || 64 < items.length || items.eraseDups.length != items.length
    || (!chain && own.length != items.length) || (leaseMs lease).isNone) 0x2121
  let held := codeIf (clauseIds.all s.clauseUsed) 0x4121
  let quota := codeIf (s.rd (R.te_CLAUSE_QUOTA w.num) ≤ s.clausesOf w.num) 0x4122
  let regs := s.localItems items
  let locked := codeIf (!chain && regs.any fun r => (s.lockHolder r).isSome) 0x5121
  let code := firstCode [shape, firstCode (own.map (s.itemCode w.tenant)), codeIf w.tenant.isNone 0x1001, held, quota, locked]
  if code != 0 then (s, answer code)
  else match s.freeClauseSlot with
    | none => (s, answer 0x4121)
    | some c =>
      let ms := (leaseMs lease).getD 0
      if !chain then
        let s := s.takeSlot c w.num w.key 1 { Clause.init with locks := regs, lease := ms }
        (s, [(0, false, s.openBody c)])
      else
        let hubs := (List.range 256).filter fun h => items.any fun i => i.hub == h
        let k : Chain := ⟨s.ownAddr, c, hubs.map fun h => (h, MemberSt.waiting), 0, false, w.tag, w.remote, 0⟩
        let s := s.takeSlot c w.num w.key 3 { Clause.init with remoteLocks := items, lease := ms, chain := some k }
        (s.chainGo c, [])

/-- A chain clause is refused in phase 1: it is abandoned on every member, and the answer names one (R317). -/
def chainRefused (s : State) (c code hub : Nat) : State :=
  let w := s.clauseWho c
  ((s.abandonMembers c).endClause c false).reply w 0x07 [(code, false, commitBody 0 hub)]

/-- Phase 2: every member has admitted, and is told to go ahead, no later than WHEN − 2 ms (R317). -/
def chainPhase2 (s : State) (c : Nat) : State :=
  match (s.clause c).chain with
  | none => s
  | some k =>
    if t64Diff k.whn s.now < 2000000 * ticksPerNs then
      s.chainRefused c 0x7121 (((k.members.find? fun m => m.2 != .admitted).map (·.1)).getD s.ownAddr)
    else if k.members.any fun m => m.2 != .admitted then s
    else
      let s := s.setClause c { s.clause c with chain := some { k with since := s.time.edge } }
      let s := (s.wr (R.cs_CL_STATE c) 2).setMember c s.ownAddr .confirmed
      let rest := k.members.filter fun m => m.1 != s.ownAddr
      if rest == [] then s.reply (s.clauseWho c) 0x07
        [(0, false, commitBody (t96OfTicks ((s.now : Int) + t64Diff k.whn s.now).toNat) 0)]
      else s.each rest fun s m => s.emit (.chain m.1 c .goAhead)

/-- CLAUSE-COMMIT of a chain clause: phase 1 (R317). -/
def chainCommit (s : State) (w : Who) (c whn : Nat) : State × Answers :=
  if whn == 0 || t64Diff whn s.now < 250000000 * ticksPerNs then (s, [(0x2122, false, commitBody 0 0)])
  else
    let x := s.clause c
    let s := s.setClause c { x with chain := x.chain.map fun k => { k with
      whn := whn, pendTag := w.tag, pendRemote := w.remote, since := s.time.edge } }
    let code := if x.locks == [] then 0 else s.testClause c
    if code != 0 then (((s.countRefusal code).abandonMembers c).endClause c false, [(code, false, commitBody 0 s.ownAddr)])
    else
      let s := ((s.wr (R.cs_CL_STATE c) 4).wr (R.cs_WHEN c) whn).setMember c s.ownAddr .admitted
      let rest := ((s.clause c).chain.map (·.members)).getD [] |>.filter fun m => m.1 != s.ownAddr
      let s := s.each rest fun s m => s.emit (.chain m.1 c .testAll)
      (if rest == [] then s.chainPhase2 c else s, [])

/-- CLAUSE-COMMIT (R312, R313, R317). -/
def doCommit (s : State) (w : Who) (c whn : Nat) : State × Answers :=
  let code := firstCode [codeIf (s.memberPart c) 0x1121, s.clauseCode w.key c [1]]
  if code != 0 then (s, if (s.clause c).chain.isSome then [(code, false, commitBody 0 0)] else answer code)
  else
    let s := s.renewLease w.key c
    if s.coordinates c then s.chainCommit w c whn
    else if whn == 0 || t64Past whn s.now then
      let t := s.now96
      let past := if whn == 0 then none else some ((s.now : Int) + t64Diff whn s.now).toNat
      match s.commitWrites w.key (s.rd (R.cs_CL_TENANT c)) (s.stagedInOrder c) past with
      | (0, s) => (s.commitIfOutside.endClause c false, [(0, false, commitBody t 0)])
      | (e, s) => (s, answer e)
    else
      let code := s.testClause c
      if code != 0 then (s.countRefusal code, answer code)
      else
        let t := t96OfTicks ((s.now : Int) + t64Diff whn s.now).toNat
        ((s.wr (R.cs_CL_STATE c) 2).wr (R.cs_WHEN c) whn, [(0, false, commitBody t 0)])

/-- CLAUSE-ABANDON of an open or scheduled clause (R313, R314). -/
def doAbandon (s : State) (w : Who) (c : Nat) : State × Answers :=
  let code := firstCode [codeIf (s.memberPart c) 0x1121, s.clauseCode w.key c [1, 2, 3, 4]]
  if code != 0 then (s, answer code) else (s.withdraw c 0x3124, answer 0)

/-- SUBSCRIBE (R318). -/
def doSubscribe (s : State) (w : Who) (q credit : Nat) : State × Answers :=
  let x := s.queue q
  let dtls := w.key < 64 && s.rd (R.se_S_TRANSPORT w.key) == 1
  let code := firstCode [codeIf (8192 ≤ q) 0x2001, codeIf (2 < s.classOf w.tenant) 0x1001, codeIf (q / 8 != w.num) 0x1081,
    codeIf (s.rd (R.qu_CONSUMER q) != 2 || !s.rdB (R.qu_ENABLE q) || !dtls
      || (x.subscriber.isSome && x.subscriber != some w.key)) 0x3123]
  if code != 0 then (s, answer code)
  else
    let s := s.setQueue q { x with subscriber := some w.key, credit := min 1024 (x.credit + credit) }
    (s.pumpStream q, answer 0)

/-- UNSUBSCRIBE (R318). -/
def doUnsubscribe (s : State) (w : Who) (q : Nat) : State × Answers :=
  let x := s.queue q
  if 8192 ≤ q then (s, answer 0x2001)
  else if q / 8 != w.num then (s, answer 0x1081)
  else if x.subscriber.isSome && x.subscriber != some w.key then (s, answer 0x1121)
  else (s.endSubscription q, answer 0)

/-! ### ABORT -/

/-- A change of one entry is written to the committed configuration without anything else (R174). -/
def commitEntry (s : State) (r : Reg) (v : Nat) : State :=
  match s.newestCopy with
  | none => s
  | some c =>
    let n : Copy := { c with seq := c.seq + 1, regs := alPut Reg.code (dfltOf r) r v c.regs }
    let useA := !s.mram.copyA.valid || (s.mram.copyB.valid && s.mram.copyA.seq ≤ s.mram.copyB.seq)
    let m := if useA then { s.mram with copyA := n } else { s.mram with copyB := n }
    (s.putMram m).wr R.mo_CONFIG_SEQ n.seq

/-- ABORT of one Lehr path, in the committed configuration too (R174). -/
def abortOnePath (s : State) (p : Nat) : State :=
  if s.rdB (R.pa_ENABLE p) || (s.path p).live then (s.abortPath p).commitEntry (R.pa_ENABLE p) 0 else s

/-- ABORT of a channel's capture (R196, Table 7-6). -/
def abortOneCapture (s : State) (n : Nat) : State := s.closeCapture n 1

/-- ABORT of a reflectometry run (R89). -/
def abortOneTdr (s : State) (n : Nat) : State :=
  let s := s.setChan n { s.chan n with tdrPending := false }
  if bitAt (s.rd (R.ch_CH_STATUS n)) 6 then s.endTdr n 4 else s

/-- A session's block transfers that a test selects are discarded (R319). -/
def endXfers (s : State) (x : Nat) (sel : Xfer → Bool) : State :=
  let y := s.session x
  let s := s.each (y.xfers.filter sel) fun s t => s.receiving t.reg 0
  s.setSession x { y with xfers := y.xfers.filter fun t => !sel t }

/-- The sessions of a tenant that hold transfers; every session for the Owner. -/
def sessionsOf (s : State) (w : Who) : List Nat :=
  (s.sessions.map (·.1)).filter fun x => w.tenant == some 0 || x == w.key
    || (s.sessionOpen x && s.sessionTenant x == w.tenant)

/-- Abort-all: every job of the tenant, or of the hub for the Owner (R319; log entry 46). -/
def abortEverything (s : State) (w : Who) : State :=
  let owner := w.tenant == some 0
  let mine (t : Nat) : Bool := owner || t == w.num
  let s := s.each (s.capChannels.filter fun n => mine (s.cap n).tenant) abortOneCapture
  let s := if owner then s.each ((List.range s.part.channels).filter fun n =>
    (s.chan n).tdrPending || bitAt (s.rd (R.ch_CH_STATUS n)) 6) abortOneTdr else s
  let s := s.each (s.workingPaths.filter fun p => mine (s.rd (R.pa_TENANT p))) abortOnePath
  let s := s.each ((List.range 32).filter fun j => s.jobRuns j && mine (s.job j).tenant) abortJob
  let s := s.each (clauseIds.filter fun c => s.clauseUsed c && mine (s.rd (R.cs_CL_TENANT c))) fun s c => s.withdraw c 0x3124
  s.each (s.sessionsOf w) fun s x => s.endXfers x fun _ => true

/-- The rights that an ABORT needs (R313, R319): the code, or 0. -/
def abortCode (s : State) (w : Who) (kind i : Nat) : Nat :=
  let cls := s.classOf w.tenant
  let mine (t : Nat) : Bool := w.tenant == some 0 || t == w.num
  let absent : Bool := match kind with
    | 1 => decide (s.part.channels ≤ i)
    | 2 => decide (s.part.channels ≤ i)
    | 3 => decide (4096 ≤ i)
    | 5 => !s.part.frit || 32 ≤ i
    | _ => false
  let holds : Bool := match kind with
    | 3 => mine (s.rd (R.pa_TENANT i)) || !(s.rdB (R.pa_ENABLE i) || (s.path i).live)
    | 5 => mine (s.job i).tenant || !s.jobRuns i
    | 7 => mine (s.rd (R.cs_CL_TENANT i)) || !s.clauseUsed i
    | _ => true
  if absent then 0x2001
  else if 1 < cls && !(kind == 7 && w.tenant.isSome && s.clauseUsed i && mine (s.rd (R.cs_CL_TENANT i))) then 0x1001
  else codeIf (!holds) 0x1001

/-- ABORT (R319): the job ends, and the answer gives the instant. -/
def doAbort (s : State) (w : Who) (kind i : Nat) : State × Answers :=
  let code := s.abortCode w kind i
  if code != 0 then (s, answer code)
  else
    let s := match kind with
      | 1 => s.abortOneCapture i
      | 2 => s.abortOneTdr i
      | 3 => s.abortOnePath i
      | 4 => s.each (s.enabledPaths.filter fun p => s.rd (R.pa_TENANT p) == w.num) abortOnePath
      | 5 => s.abortJob i
      | 6 => s.endXfers w.key fun t => t.window && t.tags.contains i
      | 7 => if clauseIds.contains i && s.clauseUsed i then s.withdraw i 0x3124 else s
      | 8 => s.endXfers w.key fun t => !t.window && t.tags.contains i
      | _ => s.abortEverything w
    (s, [(0, false, natLE 12 s.now96)])

/-! ### Serving -/

/-- A request by the checks and effects of its type. -/
def perform (s : State) (w : Who) : Req → State × Answers
  | .read idx sub c => (s.renewLease w.key (s.slotFor w.key c)).doRead w idx sub (s.slotFor w.key c)
  | .write idx sub c v => (s.renewLease w.key (s.slotFor w.key c)).doWrite w idx sub (s.slotFor w.key c) v
  | .blockRead idx sub c off len => (s.renewLease w.key (s.slotFor w.key c)).doBlockRead w idx sub (s.slotFor w.key c) off len
  | .blockWrite idx sub c off data more =>
    (s.renewLease w.key (s.slotFor w.key c)).doBlockWrite w idx sub (s.slotFor w.key c) off data more
  | .walk idx sub m => s.doWalk idx sub m
  | .clauseOpen lease chain items => s.doOpen w lease chain items
  | .clauseCommit c whn => s.doCommit w c whn
  | .clauseAbandon c => s.doAbandon w c
  | .subscribe q n => s.doSubscribe w q n
  | .unsubscribe q => s.doUnsubscribe w q
  | .abort kind i => s.doAbort w kind i

/-- May the hub in Boot serve a request (R326): only these entries; writes of FW_IMAGE and of FW_ACTIVATE 2. -/
def bootServes : Req → Bool
  | .read idx sub c => c == 0 && (idx == 0x1000 || (idx == 0x2000 && (sub == 1 || sub == 2)) || idx == 0x2020)
  | .blockRead idx sub c _ _ => c == 0 && (idx == 0x1000 || (idx == 0x2000 && (sub == 1 || sub == 2)) || idx == 0x2020)
  | .write idx sub c v => c == 0 && idx == 0x2020 && sub == 0x06 && v == [2#8]
  | .blockWrite idx sub c _ _ _ => c == 0 && idx == 0x2020 && sub == 0x01
  | _ => false

/-- A request from a session whose tenant is known is performed: from the store if it repeats one of the last sixteen
(R300), else by R301. -/
def serveFrom (s : State) (w : Who) (typ : Nat) (q : Option Req) : State :=
  match (s.session w.key).store.find? fun e => e.typ == typ && e.tag == w.tag with
  | some e => s.sendAnswers w typ e.answers
  | none =>
    match q with
    | none => s.reply w typ (answer 0x2004)
    | some q =>
      let boot := s.mode.base == .boot
      if boot && !bootServes q then s.reply w typ (answer 0x3002)
      else
        let r := s.perform (if boot then { w with tenant := some 0 } else w) q
        (if r.2 == [] then r.1 else r.1.reply w typ r.2).afterJump s.now

/-- Does the hub answer requests: its management cores run, or it stays in Boot for want of an image and serves the CAN FD
port (R323, R326). -/
def answers (s : State) (x : Nat) : Bool := s.mode.coresRun || (s.mode.bootFailed && s.rd (R.se_S_TRANSPORT x) == 2)

/-- The bundle that relayed messages leave on: the first in service (R303). -/
def relayBundle (s : State) : Option Nat := (List.range 2).find? fun b => s.rd (R.bu_BUNDLE_STATE b) == 2

/-- The gateway forwards a request for another hub (R303); it names its clause like any other (R314). -/
def forward (s : State) (w : Who) (hub : Nat) (q : Req) : State :=
  let s := s.renewLease w.key q.clause
  let s := s.putForwarded (s.forwarded ++ [⟨w.key, w.tag, q.typ, hub, s.time.edge⟩])
  match s.relayBundle with
  | none => s
  | some b => s.sendRelay b hub w.num w.key (adpMessage q.typ w.tag 0 0 true q.more false hub q.body)

/-- A request whose turn has come: one for another hub is forwarded unless it repeats an answered one (R300, R303). -/
def serveTurn (s : State) (e : HeldReq) : State :=
  match e.other, e.req with
  | some hub, some q =>
    if (s.session e.who.key).store.any fun a => a.typ == e.typ && a.tag == e.who.tag then s.serveFrom e.who e.typ none
    else s.forward e.who hub q
  | _, _ => s.serveFrom e.who e.typ e.req

/-- Has a session a request that waits for its answer: one forwarded, or a chain clause's CLAUSE-OPEN or CLAUSE-COMMIT (R303,
R316, R317). -/
def awaits (s : State) (key : Nat) : Bool :=
  (s.forwarded.any fun e => e.session == key) || clauseIds.any fun c =>
    s.rd (R.cs_CL_SESSION c) == key && s.coordinates c && (s.rd (R.cs_CL_STATE c) == 3 || s.rd (R.cs_CL_STATE c) == 4
      || (s.rd (R.cs_CL_STATE c) == 2 && match (s.clause c).chain with
        | some k => (k.members.any fun m => m.2 == .admitted) && k.members.all fun m => m.2 != .gone
        | none => false))

/-- The requests of one session are served in order of arrival; ABORT is served ahead of those that wait (R300). -/
def serveInOrder (s : State) (e : HeldReq) : State :=
  if e.typ != 0x0B && s.awaits e.who.key then s.putHeld (s.held ++ [e]) else s.serveTurn e

/-- The requests that waited and need wait no longer are served, in order of arrival; at most n (R300). -/
def serveHeld (s : State) : Nat → State
  | 0 => s
  | n + 1 =>
    match s.held.find? fun e => !s.awaits e.who.key with
    | none => s
    | some e => ((s.putHeld (s.held.erase e)).serveTurn e).serveHeld n

/-- After what may have answered a request, those that waited behind it are served. -/
def thenHeld (s before : State) : State := if before.held == [] then s else s.serveHeld s.held.length

/-- After a command that may have stepped hub time forward: the clauses whose WHEN it passes are committed (R313). -/
def jumpClauses (t before : State) : State :=
  if before.now < t.now then (t.afterJump before.now).thenHeld before else t

/-- A request arrives on a session (R298 to R305). -/
def serve (s : State) (h : Hdr) (q : Req) : State :=
  let good := h.formOk && q.formOk && (h.remote || h.hub == 0)
  let x := h.session
  let remote := if h.remote then some h.hub else none
  if !s.answers x then s
  else if !s.sessionOpen x || (s.session x).withdrawn then
    s.sendAnswers ⟨x % 256, none, h.tag, remote⟩ q.typ (answer (if good then 0x1003 else 0x2004))
  else
    let v := s.touch x
    let other := if good && h.remote && h.hub != v.ownAddr && v.mode.base != .boot then some h.hub else none
    (v.serveInOrder ⟨⟨x, v.sessionTenant x, h.tag, remote⟩, q.typ, if good then some q else none, other⟩).thenHeld s

/-- An ADP message as octets: its parts, if the header keeps Table 12-3. -/
def headerOk (m : List Byte) : Bool :=
  let u (at_ n : Nat) : Nat := leNat ((m.drop at_).take n)
  12 ≤ m.length && u 0 1 == 1 && u 6 2 == 0 && m.length == 12 + u 8 2 && m.length ≤ 16384
    && u 10 1 % 2 == 0 && u 10 1 < 8 && (bitAt (u 10 1) 2 || u 11 1 == 0)

/-- The request that a message carries, if any (R298, R299). -/
def messageReq (m : List Byte) : Option Req :=
  let u (at_ n : Nat) : Nat := leNat ((m.drop at_).take n)
  if headerOk m then (match parseReq (u 1 1) (bitAt (u 10 1) 1) (m.drop 12) with
    | some q => if q.formOk then some q else none
    | none => none) else none

end State

/-! ### Transports -/

/-- DTLS_HANDSHAKE: a session opens for the tenant whose key the certificate has (R302, R305). -/
def dtlsHandshake (keyDigest : Nat) (s : State) : State :=
  if !s.mode.coresRun then s
  else match s.freeSession with
    | none => s.emit (.alert 0 false)
    | some x =>
      match (List.range 1024).find? fun t => s.rdB (R.te_ENABLE t) && s.rd (R.te_CERT_KEY t) == keyDigest && keyDigest != 0 with
      | none => s.emit (.alert x true)
      | some t => s.openSession x t 1

/-- The CAN FD frames that carry a message (R304): segments of up to 63 octets behind the octet of FIRST, LAST and the
sequence number, padded with zero octets to the smallest data length of CAN FD that holds them. -/
def canSegments (m : List Byte) : List (List Byte) :=
  let n := (m.length + 62) / 63
  (List.range n).map fun k =>
    let part := (m.drop (63 * k)).take 63
    let body := natLE 1 (128 * ofBool (k == 0) + 64 * ofBool (k + 1 == n) + k % 64) ++ part
    let size := ((List.range 9 ++ [12, 16, 20, 24, 32, 48, 64]).find? fun l => body.length ≤ l).getD 64
    body ++ List.replicate (size - body.length) 0#8

/-- A whole message arrives on the CAN FD port: on its session, which opens if it must (R304, R305). -/
def canMessage (m : List Byte) (s : State) : State :=
  let u (at_ n : Nat) : Nat := leNat ((m.drop at_).take n)
  if !(s.mode.coresRun || s.mode.bootFailed) then s
  else
    let remote := if bitAt (u 10 1) 2 then some (u 11 1) else none
    let run (x : Nat) (v : State) : State :=
      let v := v.touch x
      let q := State.messageReq m
      let other := if q.isSome && bitAt (u 10 1) 2 && u 11 1 != v.ownAddr && v.mode.base != .boot then some (u 11 1) else none
      (v.serveInOrder ⟨⟨x, v.sessionTenant x, u 2 2, remote⟩, u 1 1, q, other⟩).thenHeld s
    match (List.range 64).find? fun x => s.rd (R.se_S_TRANSPORT x) == 2 with
    | some x => run x s
    | none =>
      match s.freeSession with
      | some x => run x (s.openSession x (if s.canOwner then 0 else 0xFFFF) 2)
      | none => s.sendAnswers ⟨0, none, u 2 2, remote⟩ (u 1 1) (answer 0x4001)

/-- CAN_SEGMENT_RX: a segment of a message; one out of sequence discards it (R304). -/
def canSegmentRx (first last : Bool) (seq : Nat) (octets : List Byte) (s : State) : State :=
  let got := if first then some octets else match s.canIn with
    | some (n, l) => if seq == n then some (l ++ octets) else none
    | none => none
  match got with
  | none => s.putCanIn none
  | some l =>
    if last then canMessage (trimMessage l) (s.putCanIn none)
    else s.putCanIn (some ((seq + 1) % 64, l))

/-- CAN_BUS_OFF: the CAN FD session is lost (R305). -/
def canBusOff (s : State) : State :=
  match (List.range 64).find? fun x => s.rd (R.se_S_TRANSPORT x) == 2 with
  | some x => (s.loseSession x).thenHeld s
  | none => s

/-- DTLS_ASSOCIATION_END: the session is lost (R305). -/
def dtlsAssociationEnd (x : Nat) (s : State) : State :=
  if s.rd (R.se_S_TRANSPORT x) == 1 then (s.loseSession x).thenHeld s else s

/-- SESSION_TIMEOUT: no message for SESSION_TIMEOUT seconds (R305). -/
def sessionTimeout (x : Nat) (s : State) : State :=
  if s.sessionOpen x && s.rd R.ad_SESSION_TIMEOUT * edgesPerSec ≤ s.time.edge - (s.session x).lastRx then
    (s.loseSession x).thenHeld s
  else s

/-- RELAYED_ADP_RX: a frame of CLASS 1 from a hub, its relay prefix and its message: a request for this hub is checked against its own tenant entry and answered through the gateway; a
response goes to the session that asked (R303). -/
def relayedAdpRx (bundle origin tenant gwSession : Nat) (m : List Byte) (s : State) : State :=
  let u (at_ n : Nat) : Nat := leNat ((m.drop at_).take n)
  if !s.mode.coresRun || s.rd (R.bu_BUNDLE_STATE bundle) != 2 then s
  else if bitAt (u 10 1) 0 then
    match s.forwarded.find? fun e => e.session == gwSession && e.tag == u 2 2 && e.typ == u 1 1 with
    | none => s
    | some e =>
      let more := bitAt (u 10 1) 1
      let v := if more then s else s.putForwarded (s.forwarded.filter (· != e))
      (v.reply ⟨gwSession, none, u 2 2, some e.hub⟩ (u 1 1) [(u 6 2, more, m.drop 12)]).thenHeld s
  else
    let key := 256 + 128 * (origin % 256) + 64 * (bundle % 2) + gwSession % 64
    let w : Who := ⟨key, some tenant, u 2 2, some (u 11 1)⟩
    if !(tenant < 1024 && s.rdB (R.te_ENABLE tenant)) then
      s.sendAnswers w (u 1 1) (answer (if (State.messageReq m).isSome then 0x1003 else 0x2004))
    else (s.serveInOrder ⟨w, u 1 1, State.messageReq m, none⟩).thenHeld s

/-- REMOTE_ANSWER_TIMEOUT: no answer came back within 1 s (R303). -/
def remoteAnswerTimeout (session tag : Nat) (s : State) : State :=
  match s.forwarded.find? fun e => e.session == session && e.tag == tag && edgesPerSec ≤ s.time.edge - e.at_ with
  | none => s
  | some e =>
    ((s.putForwarded (s.forwarded.filter (· != e))).reply ⟨session, none, tag, some e.hub⟩ e.typ (answer 0x7121)).thenHeld s

/-- BLOCK_TRANSFER_TIMEOUT: the next segment has not come within 1 s (R299). -/
def blockTransferTimeout (session tag : Nat) (s : State) : State :=
  s.endXfers session fun t => t.tags.head? == some tag && edgesPerSec ≤ s.time.edge - t.at_

/-! ### Events of clauses -/

/-- SCHEDULED_CLAUSE_INSTANT: a scheduled clause's writes take effect (R313). -/
def scheduledClauseInstant (c : Nat) (s : State) : State :=
  if s.rd (R.cs_CL_STATE c) == 2 && t64Past (s.rd (R.cs_WHEN c)) s.now then
    ((s.runScheduled c).afterJump s.now).thenHeld s
  else s

/-- CLAUSE_LEASE_EXPIRY: an open clause is rolled back; a chain clause until its order to go ahead (R314, R317). -/
def clauseLeaseExpiry (c : Nat) (s : State) : State :=
  let st := s.rd (R.cs_CL_STATE c)
  let bound := (s.clause c).lease != 0 && ticksOfT96 (s.rd (R.cs_LEASE_END c)) ≤ s.now
  if bound && (st == 1 || ((st == 3 || st == 4) && s.coordinates c)) then (s.rollBack c 0x5124).thenHeld s else s

/-- CHAIN_LOCK_BACKOFF_EXPIRY: after at least 1 ms a chain clause starts again from the lowest member (R316). -/
def chainLockBackoffExpiry (c : Nat) (s : State) : State :=
  let x := s.clause c
  match x.chain with
  | none => s
  | some k =>
    if k.backoff && edgesPerSec ≤ 1000 * (s.time.edge - k.since) then
      ((s.setClause c { x with chain := some { k with backoff := false } }).chainGo c).thenHeld s
    else s

/-- CHAIN_LOCK_WAIT_TIMEOUT: an item held by a clause that is not a chain clause was waited for 100 ms (R316). -/
def chainLockWaitTimeout (c : Nat) (s : State) : State :=
  let x := s.clause c
  let plain := (s.holders c x.waitItems).any fun h => (s.clause h).chain.isNone
  if x.waitItems == [] || !plain || 10 * (s.time.edge - x.waitSince) < edgesPerSec then s
  else if s.coordinates c then (s.chainOpenFails c 0x5121).thenHeld s
  else match x.chain with
    | none => s
    | some k => (s.dropSlot c false).emit (.chainReply k.coordinator k.coordClause .lock 0x5121)

/-- The slot of a chain clause's part on this member. -/
def State.memberSlot (s : State) (coordinator coordClause : Nat) : Option Nat :=
  State.clauseIds.find? fun c => s.clauseUsed c && s.rd (R.cs_CL_SESSION c) == 0xFFFF
    && (match (s.clause c).chain with
      | some k => k.coordinator == coordinator && k.coordClause == coordClause
      | none => false)

/-- CHAIN_MEMBER_LOCK_REQUEST: a coordinator asks for this hub's items, as one local clause (R316). -/
def chainMemberLockRequest (coordinator coordClause : Nat) (items : List LockItem) (s : State) : State :=
  let say (s : State) (code : Nat) : State := s.emit (.chainReply coordinator coordClause .lock code)
  let regs := s.localItems items
  let absent := (items.filter fun i => i.hub == s.ownAddr).any fun i => (entryAt s.part i.idx i.sub).isNone
  if (s.memberSlot coordinator coordClause).isSome then s
  else if absent then say s 0x2001
  else match s.freeClauseSlot with
    | none => say s 0x4121
    | some c =>
      let k : Chain := ⟨coordinator, coordClause, [], 0, false, 0, none, 0⟩
      let s := s.takeSlot c 0xFFFF 0xFFFF 3 { Clause.init with chain := some k }
      match s.tryLock c regs with
      | (0, s) => say (s.wr (R.cs_CL_STATE c) 1) 0
      | (1, s) => s.grantWaiting 64
      | (_, s) => say (s.dropSlot c false) 0x5001

/-- CHAIN_MEMBER_ADMIT_REQUEST: a member runs R313's tests on its part (R317). -/
def chainMemberAdmitRequest (coordinator coordClause whn : Nat) (s : State) : State :=
  let say (s : State) (code : Nat) : State := s.emit (.chainReply coordinator coordClause .testAll code)
  match s.memberSlot coordinator coordClause with
  | none => say s 0x3121
  | some c =>
    if s.rd (R.cs_CL_STATE c) != 1 then say s 0x3121
    else
      let code := s.testClause c
      if code != 0 then say (s.countRefusal code) code
      else say ((s.wr (R.cs_CL_STATE c) 4).wr (R.cs_WHEN c) whn) 0

/-- CHAIN_GO_AHEAD: an admitted part becomes scheduled; an order after the part was abandoned is refused (R317). -/
def chainGoAhead (coordinator coordClause : Nat) (s : State) : State :=
  let say (s : State) (code : Nat) : State := s.emit (.chainReply coordinator coordClause .goAhead code)
  match s.memberSlot coordinator coordClause with
  | none => say s 0x3121
  | some c => if s.rd (R.cs_CL_STATE c) == 4 then say (s.wr (R.cs_CL_STATE c) 2) 0 else say s 0x3121

/-- CHAIN_MEMBER_DEADLINE: a part still in state 4 at WHEN − 1 ms is abandoned and counted (R317). -/
def chainMemberDeadline (coordinator coordClause : Nat) (s : State) : State :=
  match s.memberSlot coordinator coordClause with
  | none => s
  | some c =>
    if s.rd (R.cs_CL_STATE c) == 4 && t64Diff (s.rd (R.cs_WHEN c)) s.now ≤ 1000000 * ticksPerNs then
      ((s.count (R.cs_CHAIN_ORPHANS c) 1).endClause c false).thenHeld s
    else s

/-- CHAIN_MEMBER_ABANDON: the coordinator abandons this hub's part (R314, R316, R317). -/
def chainMemberAbandon (coordinator coordClause : Nat) (s : State) : State :=
  match s.memberSlot coordinator coordClause with
  | none => s
  | some c => ((s.endClause c false).thenHeld s).emit (.chainReply coordinator coordClause .abandon 0)

/-- A member did not confirm the order to go ahead: the commit is answered, once, with the first such member (R317). -/
def State.goAheadFails (s : State) (c hub : Nat) : State :=
  let told := (((s.clause c).chain.map (·.members)).getD []).any fun m => m.2 == .gone
  let s := s.setMember c hub .gone
  if told then s else s.reply (s.clauseWho c) 0x07 [(0x7121, false, commitBody 0 hub)]

/-- A member's answer to an order (R316, R317). -/
def memberAnswers (c member : Nat) (order : ChainOrder) (status : Nat) (s : State) : State :=
  match (s.clause c).chain with
  | none => s
  | some k =>
    let st := s.rd (R.cs_CL_STATE c)
    let now := (k.members.find? fun m => m.1 == member).map (·.2)
    if !s.coordinates c || k.backoff then s
    else match order with
      | .lock =>
        if st != 3 || (now != some .waiting && now != some .locked) then s
        else if status == 0 then (if now == some .waiting then (s.setMember c member .locked).chainGo c else s)
        else if status == 0x5001 then s.chainBackoff c
        else s.chainOpenFails c status
      | .testAll =>
        if st != 4 || now != some .locked then s
        else if status == 0 then (s.setMember c member .admitted).chainPhase2 c
        else s.chainRefused c status member
      | .goAhead =>
        if st != 2 || now != some .admitted then s
        else if status != 0 then s.goAheadFails c member
        else
          let s := s.setMember c member .confirmed
          let all := ((s.clause c).chain.map (·.members)).getD []
          if all.all fun m => m.2 == .confirmed then
            s.reply (s.clauseWho c) 0x07
              [(0, false, commitBody (t96OfTicks ((s.now : Int) + t64Diff k.whn s.now).toNat) 0)]
          else s
      | .abandon => s

/-- CHAIN_MEMBER_ANSWER: a member answers an order (R316, R317). -/
def chainMemberAnswer (c member : Nat) (order : ChainOrder) (status : Nat) (s : State) : State :=
  (memberAnswers c member order status s).thenHeld s

/-- CHAIN_PHASE1_TIMEOUT: a member did not answer within 100 ms (R317). -/
def chainPhase1Timeout (c member : Nat) (s : State) : State :=
  match (s.clause c).chain with
  | none => s
  | some k =>
    let now := (k.members.find? fun m => m.1 == member).map (·.2)
    if !s.coordinates c || 10 * (s.time.edge - k.since) < edgesPerSec then s
    else if s.rd (R.cs_CL_STATE c) == 4 && now == some .locked then (s.chainRefused c 0x7121 member).thenHeld s
    else if s.rd (R.cs_CL_STATE c) == 2 && now == some .admitted then (s.goAheadFails c member).thenHeld s
    else s

/-- CHAIN_GO_AHEAD_DEADLINE: phase 1 has not completed by WHEN − 2 ms (R317). -/
def chainGoAheadDeadline (c : Nat) (s : State) : State :=
  match (s.clause c).chain with
  | none => s
  | some k =>
    if s.coordinates c && s.rd (R.cs_CL_STATE c) == 4 && t64Diff k.whn s.now ≤ 2000000 * ticksPerNs then
      (s.chainRefused c 0x7121 (((k.members.find? fun m => m.2 != .admitted).map (·.1)).getD s.ownAddr)).thenHeld s
    else s

end Sys2Proof.Machine
end

