-- ==== Sys2Proof/Machine/Commands.lean ====
section
/-! DEFINITION. The meaning of every command of the table, one definition each: a request is served by the checks of
R301 (`State.serve`), an event has its own unit's effect. Every command answers a next state. -/

namespace Sys2Proof.Machine

/-- The outcome of a command. -/
abbrev Res := Host.Outcome State Fault Refusal

/-- The index of an entry of an instance, or one that no hub has where the part lacks the instance (R3, R297). -/
def State.indexOf (s : State) (g : Grp) (i : Nat) : Nat := if instFitted s.part g i then g.base + i else 0xFFFF

/-- The index of front die d, 1 to 7 (R4). -/
def State.dieIndex (s : State) (d : Nat) : Nat := if d == 0 then 0xFFFF else s.indexOf .die (d - 1)

/-! ### Dictionary and clauses (chapter 12) -/

/-- ADP_READ (R299): A READ request returns the value of an entry, or the value staged in the named clause, after the
checks of R301. -/
def execAdpRead (h : Hdr) (idx sub clause : Nat) (s : State) : Res :=
  .next (s.serve h (.read idx sub clause))

/-- ADP_WRITE (R301): A WRITE request to an entry that has no row of its own is checked in order and then takes
effect, or is staged in its clause. -/
def execAdpWrite (h : Hdr) (idx sub clause : Nat) (value : List Byte) (s : State) : Res :=
  .next (s.serve h (.write idx sub clause value))

/-- BLOCK_READ (R299): A BLOCK-READ returns part of a domain from OFFSET, in one or more responses with MORE set on
all but the last. -/
def execBlockRead (h : Hdr) (idx sub clause offset length : Nat) (s : State) : Res :=
  .next (s.serve h (.blockRead idx sub clause offset length))

/-- BLOCK_WRITE (R299): A BLOCK-WRITE segment is appended to a domain transfer, which takes effect or is staged only
when its last segment arrives. -/
def execBlockWrite (h : Hdr) (idx sub clause offset : Nat) (data : List Byte) (more : Bool) (s : State) : Res :=
  .next (s.serve h (.blockWrite idx sub clause offset data more))

/-- BLOCK_TRANSFER_TIMEOUT (R299): A block transfer whose next segment has not arrived within 1 s is discarded, so a
half-written domain is never applied. -/
def execBlockTransferTimeout (session tag : Nat) (s : State) : Res :=
  .next (blockTransferTimeout session tag s)

/-- WALK (R397): A WALK returns up to MAX capability records from INDEX:SUB and names the record that follows. -/
def execWalk (h : Hdr) (idx sub max : Nat) (s : State) : Res :=
  .next (s.serve h (.walk idx sub max))

/-- CLAUSE_OPEN (R310): A CLAUSE-OPEN takes all of its locks at once or none, and returns a clause number and its
lease end. -/
def execClauseOpen (h : Hdr) (lease : Nat) (chain : Bool) (items : List LockItem) (s : State) : Res :=
  .next (s.serve h (.clauseOpen lease chain items))

/-- CLAUSE_COMMIT (R312): A CLAUSE-COMMIT with WHEN 0 tests every staged write as one configuration, and on success
applies them all at one instant and releases the locks. -/
def execClauseCommit (h : Hdr) (clause : Nat) (s : State) : Res :=
  .next (s.serve h (.clauseCommit clause 0))

/-- CLAUSE_COMMIT_AT (R313): A CLAUSE-COMMIT with a WHEN other than 0 runs the tests at once, reserves capacity and
schedules the clause. -/
def execClauseCommitAt (h : Hdr) (clause whn : Nat) (s : State) : Res :=
  .next (s.serve h (.clauseCommit clause whn))

/-- SCHEDULED_CLAUSE_INSTANT (R313): At the first main-clock edge at or after WHEN, a scheduled clause's writes take
effect and its locks are released. -/
def execScheduledClauseInstant (clause : Nat) (s : State) : Res :=
  .next (scheduledClauseInstant clause s)

/-- CLAUSE_ABANDON (R314): A CLAUSE-ABANDON discards an open or scheduled clause's staged writes, releases its locks
and any reserved capacity. -/
def execClauseAbandon (h : Hdr) (clause : Nat) (s : State) : Res :=
  .next (s.serve h (.clauseAbandon clause))

/-- CLAUSE_LEASE_EXPIRY (R314): When an open clause's lease expires, the hub rolls it back. -/
def execClauseLeaseExpiry (clause : Nat) (s : State) : Res :=
  .next (clauseLeaseExpiry clause s)

/-- CHAIN_LOCK_BACKOFF_EXPIRY (R316): After a random 1 to 8 ms backoff, a chain clause that yielded starts taking its
locks again from the lowest member. -/
def execChainLockBackoffExpiry (clause : Nat) (s : State) : Res :=
  .next (chainLockBackoffExpiry clause s)

/-- CHAIN_LOCK_WAIT_TIMEOUT (R316): An item held by a clause that is not a chain clause and still locked after 100 ms
fails CLAUSE-OPEN with 0x5121. -/
def execChainLockWaitTimeout (clause : Nat) (s : State) : Res :=
  .next (chainLockWaitTimeout clause s)

/-- CHAIN_MEMBER_ADMIT_REQUEST (R317): A member receiving a phase-1 request tests its part of a chain clause, reserves
capacity and goes to CL_STATE 4, or refuses. -/
def execChainMemberAdmitRequest (coordinator coordClause whn : Nat) (s : State) : Res :=
  .next (chainMemberAdmitRequest coordinator coordClause whn s)

/-- CHAIN_PHASE1_TIMEOUT (R317): If a member does not answer phase 1 within 100 ms, the coordinator abandons the
clause on every member and answers 0x7121. -/
def execChainPhase1Timeout (clause member : Nat) (s : State) : Res :=
  .next (chainPhase1Timeout clause member s)

/-- CHAIN_GO_AHEAD (R317): A member receiving the order to go ahead schedules its part, or refuses it if it has
already abandoned that part. -/
def execChainGoAhead (coordinator coordClause : Nat) (s : State) : Res :=
  .next (chainGoAhead coordinator coordClause s)

/-- CHAIN_GO_AHEAD_DEADLINE (R317): At WHEN − 2 ms, a coordinator whose phase 1 has not completed abandons the clause
on every member and answers 0x7121. -/
def execChainGoAheadDeadline (clause : Nat) (s : State) : Res :=
  .next (chainGoAheadDeadline clause s)

/-- CHAIN_MEMBER_DEADLINE (R317): A member still in state 4 at WHEN − 1 ms abandons its part and increments
CHAIN_ORPHANS. -/
def execChainMemberDeadline (coordinator coordClause : Nat) (s : State) : Res :=
  .next (chainMemberDeadline coordinator coordClause s)

/-- SUBSCRIBE (R318): A SUBSCRIBE makes the session the consumer of a CONSUMER 2 queue, or adds credit to an existing
subscription. -/
def execSubscribe (h : Hdr) (queue credit : Nat) (s : State) : Res :=
  .next (s.serve h (.subscribe queue credit))

/-- UNSUBSCRIBE (R318): An UNSUBSCRIBE ends the session's subscription to a queue. -/
def execUnsubscribe (h : Hdr) (queue : Nat) (s : State) : Res :=
  .next (s.serve h (.unsubscribe queue))

/-- ABORT_CAPTURE (R196): An ABORT of KIND 1 closes the channel's capture within 2 µs, with ABORTED set, and leaves
the channel idle. -/
def execAbortCapture (h : Hdr) (channel : Nat) (s : State) : Res :=
  .next (s.serve h (.abort 1 channel))

/-- ABORT_TDR (R89): An ABORT of KIND 2 ends a reflectometry run within 10 µs with TDR_STATE 4 and keeps the previous
events. -/
def execAbortTdr (h : Hdr) (channel : Nat) (s : State) : Res :=
  .next (s.serve h (.abort 2 channel))

/-- ABORT_PATH (R174): An ABORT of KIND 3 ends a Lehr path within 10 µs with an END block and clears ENABLE in the
committed configuration. -/
def execAbortPath (h : Hdr) (path : Nat) (s : State) : Res :=
  .next (s.serve h (.abort 3 path))

/-- ABORT_TENANT_PATHS (R174): An ABORT of KIND 4 ends every Lehr path of the tenant as for a single path. -/
def execAbortTenantPaths (h : Hdr) (s : State) : Res :=
  .next (s.serve h (.abort 4 0))

/-- ABORT_FRIT_JOB (R244): An ABORT of KIND 5 ends a Frit job within 50 µs with JOB_STATE 6, or cancels it before
start. -/
def execAbortFritJob (h : Hdr) (slot : Nat) (s : State) : Res :=
  .next (s.serve h (.abort 5 slot))

/-- ABORT_DRAM_TRANSFER (R319): An ABORT of KIND 6 ends a window BLOCK-READ or BLOCK-WRITE of the session within 100
µs, whose pending request is answered 0x3124. -/
def execAbortDramTransfer (h : Hdr) (xferTag : Nat) (s : State) : Res :=
  .next (s.serve h (.abort 6 xferTag))

/-- ABORT_CLAUSE (R319): An ABORT of KIND 7 ends an open or scheduled clause as CLAUSE-ABANDON does. -/
def execAbortClause (h : Hdr) (clause : Nat) (s : State) : Res :=
  .next (s.serve h (.abort 7 clause))

/-- ABORT_BLOCK_TRANSFER (R319): An ABORT of KIND 8 ends any other block transfer of the session within 1 ms. -/
def execAbortBlockTransfer (h : Hdr) (xferTag : Nat) (s : State) : Res :=
  .next (s.serve h (.abort 8 xferTag))

/-- ABORT_ALL (R319): An ABORT of KIND 9 ends every job of the tenant, or of the hub for the Owner, within 2 ms. -/
def execAbortAll (h : Hdr) (s : State) : Res :=
  .next (s.serve h (.abort 9 0))

/-- DTLS_HANDSHAKE (R302): A DTLS handshake opens a session for the enabled tenant whose CERT_KEY matches the
certificate's key digest, or is ended with an alert. -/
def execDtlsHandshake (keyDigest : Nat) (s : State) : Res :=
  .next (dtlsHandshake keyDigest s)

/-- CAN_SEGMENT_RX (R304): A CAN FD segment is added to the message in flight, which is discarded if a segment is out
of sequence and served when its last segment arrives. -/
def execCanSegmentRx (first last : Bool) (seq : Nat) (octets : List Byte) (s : State) : Res :=
  .next (canSegmentRx first last seq octets s)

/-- CAN_BUS_OFF (R305): The CAN FD controller going bus-off declares the service-port session lost. -/
def execCanBusOff (s : State) : Res :=
  .next (canBusOff s)

/-- SESSION_TIMEOUT (R305): A session with no message for SESSION_TIMEOUT is declared lost, with its subscriptions
ended. -/
def execSessionTimeout (session : Nat) (s : State) : Res :=
  .next (sessionTimeout session s)

/-- RELAYED_ADP_RX (R303): A CLASS 1 frame with an ADP message arrives, and the message is forwarded by the gateway or
checked and served by the target hub. -/
def execRelayedAdpRx (bundle origin tenant gwSession : Nat) (message : List Byte) (s : State) : Res :=
  .next (relayedAdpRx bundle origin tenant gwSession message s)

/-- REMOTE_ANSWER_TIMEOUT (R303): A gateway that gets no answer to a forwarded request within 1 s answers 0x7121. -/
def execRemoteAnswerTimeout (session tag : Nat) (s : State) : Res :=
  .next (remoteAnswerTimeout session tag s)

/-! ### Time (chapter 2) -/

/-- TIME_MEASUREMENT (R396): A measurement from a source arrives, enters the loop when it is within the step
threshold, or is judged under the step rules. -/
def execTimeMeasurement (source : Nat) (offset : Int) (s : State) : Res :=
  .next ((timeMeasurement source offset s).jumpClauses s)

/-- SOURCE_QUALIFIED (R38): A source that has delivered measurements without interruption for 10 s qualifies and may
be selected, or may set an UNSET hub time. -/
def execSourceQualified (source : Nat) (s : State) : Res :=
  .next ((sourceQualified source s).jumpClauses s)

/-- SOURCE_DISQUALIFIED (R38): A source that misses three measurement intervals is disqualified, and the next
qualified source is selected or the state goes to HOLDOVER. -/
def execSourceDisqualified (source : Nat) (s : State) : Res :=
  .next ((sourceDisqualified source s).jumpClauses s)

/-- LOCK_WINDOW_ELAPSED (R36): When |OFFSET| has stayed below LOCK_WINDOW for 1 s, the time state goes from ACQUIRING
to LOCKED. -/
def execLockWindowElapsed (s : State) : Res :=
  .next (lockWindowElapsed s)

/-- FREQ_LIMIT_CLEAR (R35): After 10 s following a selected source with its correction inside ±100 ppm, STATE_FLAGS
bit 3 clears. -/
def execFreqLimitClear (s : State) : Res :=
  .next (freqLimitClear s)

/-- SET_TIME (R37): A write of a valid T96 value to SET_TIME while UNSET sets hub time and moves the state to
ACQUIRING or HOLDOVER. -/
def execSetTime (h : Hdr) (clause : Nat) (value : List Byte) (s : State) : Res :=
  .next (s.serve h (.write (s.indexOf .time 0) 0x13 clause value))

/-- ACCEPT_STEP (R40): A write of ACCEPT_STEP within 100 ns of the pending step applies it, records it in the audit
trail, and moves the state to ACQUIRING. -/
def execAcceptStep (h : Hdr) (clause : Nat) (value : List Byte) (s : State) : Res :=
  .next (s.serve h (.write (s.indexOf .time 0) 0x12 clause value))

/-- REFCLK_LOST (R44): Loss of REFCLK holds the PLL's oscillator word, sets STATE_FLAGS bit 2, and moves an ACQUIRING
or LOCKED hub to HOLDOVER. -/
def execRefclkLost (s : State) : Res :=
  .next (refclkLost s)

/-- REFCLK_RELOCK (R44): When the PLL relocks to REFCLK, STATE_FLAGS bit 2 clears and the exit rules of Table 2-1
apply. -/
def execRefclkRelock (s : State) : Res :=
  .next (refclkBack s)

/-- BEACON (R47): A beacon control block is checked, timestamped and used to compute the link delay and offset, and a
measurement for the selected direction. -/
def execBeacon (dir lane : Nat) (payload : Block) (rx : Nat) (s : State) : Res :=
  .next ((beacon dir lane payload rx s).jumpClauses s)

/-- BEACON_TX (R48): At each beacon interval of BEACON_RATE, the hub sends a beacon on every working lane with its own
HOPS and times. -/
def execBeaconTx (s : State) : Res :=
  .next (beaconTx s)

/-- PTP_MESSAGE_RX (R50): A PTP message received on an enabled port is timestamped and processed by the port's state
machine. -/
def execPtpMessageRx (port domain : Nat) (msg : PtpMsg) (rx : Int) (s : State) : Res :=
  .next ((ptpMessageRx port domain msg rx s).jumpClauses s)

/-- PTP_MESSAGE_TX (R51): At its logged interval, an enabled PTP port sends Sync, Announce or delay messages, with
one-step fields written as the frame passes. -/
def execPtpMessageTx (port : Nat) (kind : PtpTx) (tx : Int) (s : State) : Res :=
  .next (ptpMessageTx port kind tx s)

/-- TIME_TRIGGER_FIRE (R58): A time trigger fires on the first edge at or after TARGET, passes its event to the
matrix, and advances TARGET by PERIOD or clears ENABLE. -/
def execTimeTriggerFire (k : Nat) (s : State) : Res :=
  .next (timeTriggerFire k s)

/-- PPS_OUT_EDGE (R59): At each whole hub second plus PPS_OUT_OFFSET, PPS_OUT rises if its qualifying condition holds.
-/
def execPpsOutEdge (s : State) : Res :=
  .next (ppsOutEdge s)

/-- PPS_OUT_WIDTH_END (R59): PPS_OUT falls when PPS_OUT_WIDTH has elapsed. -/
def execPpsOutWidthEnd (s : State) : Res :=
  .next (ppsOutWidthEnd s)

/-- PPS_IN_EDGE (R60): A rising edge on PPS_IN is timestamped and taken as the nearest whole hub second, as a
measurement. -/
def execPpsInEdge (at_ : Nat) (s : State) : Res :=
  .next ((ppsInEdge at_ s).jumpClauses s)

/-- LAUNCH_TIME_REACHED (R56): A held frame with LAUNCH_EN set starts at LAUNCH_T64 and reaches the medium boundary
within one transfer word. -/
def execLaunchTimeReached (port route : Nat) (s : State) : Res :=
  .next (launchTimeReached port route s)

/-- PORT_FRAME_TX (R57): A port starts the head frame of a queue once it has room, credit and no held frame in the
way. -/
def execPortFrameTx (port route : Nat) (s : State) : Res :=
  .next (portFrameTx port route s)

/-- TXTS_POP (R53): A write of 1 to TXTS_POP removes the oldest transmit timestamp entry, and has no effect on an
empty queue. -/
def execTxtsPop (h : Hdr) (mac clause : Nat) (value : List Byte) (s : State) : Res :=
  .next (s.serve h (.write (s.indexOf .ptp mac) 0x14 clause value))

/-- TXTS_STICKY_CLR (R54): A write of 1 to TXTS_STICKY_CLR clears the timestamp overflow flag. -/
def execTxtsStickyClr (h : Hdr) (mac clause : Nat) (value : List Byte) (s : State) : Res :=
  .next (s.serve h (.write (s.indexOf .ptp mac) 0x17 clause value))

/-! ### The hub (chapter 1) -/

/-- FLIT_RX (R15): A die-link flit is received and CRC-checked, and is either accepted into the elastic buffer or
discarded with a replay request. -/
def execFlitRx (die : Nat) (toHub : Bool) (flit : Flit) (s : State) : Res :=
  .next (flitRx die toHub flit s)

/-- LINK_REPLAY_REQUEST (R15): A replay request on the link-control wires makes the transmitter resend from the failed
flit, in order. -/
def execLinkReplayRequest (die : Nat) (toHub : Bool) (seq : Nat) (s : State) : Res :=
  .next (linkReplayRequest die toHub seq s)

/-- LINK_RETRAIN_DONE (R16): Die-link training completes, and traffic held in FIFOs and buffers resumes. -/
def execLinkRetrainDone (die : Nat) (s : State) : Res :=
  .next (linkRetrainDone die s)

/-- LINK_REPLAY_WINDOW (R16): At the end of each 1 ms window, a link with more than one flit in 64 replayed is
reported as degraded and a wire check starts. -/
def execLinkReplayWindow (die : Nat) (s : State) : Res :=
  .next (linkReplayWindow die s)

/-- SIDEBAND_REQUEST (R19): A side raises its sideband request wire to start a transfer, and a collision lets the hub
die proceed while the front die withdraws. -/
def execSidebandRequest (die : Nat) (hub front : Option SbMsg) (early : Bool) (s : State) : Res :=
  .next (sidebandRequest die hub front early s)

/-- SIDEBAND_BACKOFF_EXPIRY (R19): 64 sideband cycles after the hub die's transfer ends, the front die raises its
request again. -/
def execSidebandBackoffExpiry (die : Nat) (s : State) : Res :=
  .next (sidebandBackoffExpiry die s)

/-- FABRIC_PARITY_ERROR (R21): A fabric word failing parity is discarded and retried once, and is poisoned if it fails
again. -/
def execFabricParityError (port dest : Nat) (again : Bool) (s : State) : Res :=
  .next (fabricParityError port dest again s)

/-- SLIP_LIMIT_SHED (R28): When a front die's lag exceeds its slip limit for a slip-limit interval, the die sheds its
next step. -/
def execSlipLimitShed (die lagNs : Nat) (s : State) : Res :=
  .next (slipLimitShed die lagNs s)

/-- SHED_RESTORE (R29): When the lag has stayed below half the slip limit for 1 s, the die restores its last shed
step, one step per second. -/
def execShedRestore (die lagNs : Nat) (s : State) : Res :=
  .next (shedRestore die lagNs s)

/-- EBUF_PEAK_CLR (R27): A write of 1 to EBUF_PEAK_CLR clears the elastic buffer's peak fill. -/
def execEbufPeakClr (h : Hdr) (die clause : Nat) (value : List Byte) (s : State) : Res :=
  .next (s.serve h (.write (s.dieIndex die) 0x0C clause value))

/-! ### Channels and excitation (chapter 3) -/

/-- STAGE_CHANGE_DONE (R68): An input stage, gain or TIA change completes, and valid samples resume. -/
def execStageChangeDone (n : Nat) (s : State) : Res :=
  .next (stageChangeDone n s)

/-- INPUT_OVER_RANGE (R67): A channel input outside its range or common-mode range is marked over-range and flagged in
CH_STATUS. -/
def execInputOverRange (n : Nat) (range commonMode tia : Bool) (s : State) : Res :=
  .next (inputOverRange n range commonMode tia s)

/-- TERMINATION_OVERVOLTAGE (R71): More than ±3.5 V across a 50 Ω termination opens it within 10 ns and sets CH_STATUS
bit 3. -/
def execTerminationOvervoltage (n : Nat) (s : State) : Res :=
  .next (terminationOvervoltage n s)

/-- TERMINATION_RECLOSE (R71): After the voltage has stayed within ±3.0 V for 1 ms, the termination closes again. -/
def execTerminationReclose (n : Nat) (s : State) : Res :=
  .next (terminationReclose n s)

/-- EXC_SENSE_LOOP_FAULT (R74): An open sense input is detected within 100 µs, and the driver falls back to its own
balls and sets EXC_STATUS bit 2. -/
def execExcSenseLoopFault (q : Nat) (s : State) : Res :=
  .next (excSenseLoopFault q s)

/-- EXC_CURRENT_LIMIT (R76): A driver reaching its current limit or compliance holds there and sets EXC_STATUS bit 1
and the channels' excitation-fault bit. -/
def execExcCurrentLimit (q : Nat) (a b : Bool) (s : State) : Res :=
  .next (excCurrentLimit q a b s)

/-- VIN_FALL_CLAMP (R75): A VIN fall below EXC_VOLT + 300 mV clamps the driver and flags the quad's samples with
excitation fault. -/
def execVinFallClamp (q vinMv : Nat) (s : State) : Res :=
  .next (vinFallClamp q vinMv s)

/-- VIN_RECOVERED (R75): After VIN has recovered for 10 ms, a clamped driver returns to its setting and the bits
clear. -/
def execVinRecovered (q vinMv : Nat) (s : State) : Res :=
  .next (vinRecovered q vinMv s)

/-- PWM_RISING_EDGE (R77): At each PWM rising edge, the pulsed driver switches on and any pending excitation change
takes effect. -/
def execPwmRisingEdge (q : Nat) (s : State) : Res :=
  .next (pwmRisingEdge q s)

/-- PWM_FALLING_EDGE (R77): At PWM_WIDTH after the rising edge, or at the end of a stretched burst, the driver
switches off. -/
def execPwmFallingEdge (q : Nat) (s : State) : Res :=
  .next (pwmFallingEdge q s)

/-- OW_SLOT_DUE (R83): At each OW_PERIOD after the commit, a diagnostic slot falls due and waits for a gap long enough
to take it. -/
def execOwSlotDue (n : Nat) (s : State) : Res :=
  .next (owSlotDue n s)

/-- OW_NOW (R83): A write of 1 to OW_NOW makes one diagnostic slot due on the channel. -/
def execOwNow (h : Hdr) (n clause : Nat) (value : List Byte) (s : State) : Res :=
  .next (s.serve h (.write (s.indexOf .channel n) 0x0C clause value))

/-- OW_SLOT_START (R84): A due slot starts in a suitable gap, withholds samples and applies the test current. -/
def execOwSlotStart (n : Nat) (s : State) : Res :=
  .next (owSlotStart n s)

/-- OW_SLOT_END (R85): At slot length L, OW_DELTA and OW_RESULT are posted and samples pass to the Gob again. -/
def execOwSlotEnd (n : Nat) (deltaUv : Int) (overRange : Bool) (s : State) : Res :=
  .next (owSlotEnd n deltaUv overRange s)

/-- TDR_START (R89): A write of 1 to TDR_START starts a reflectometry run, or waits for a slot to end, or is refused.
-/
def execTdrStart (h : Hdr) (n clause : Nat) (value : List Byte) (s : State) : Res :=
  .next (s.serve h (.write (s.indexOf .channel n) 0x15 clause value))

/-- TDR_NO_EDGE (R89): If no edge returns within 20 ns of launch, the run ends with TDR_STATE 3. -/
def execTdrNoEdge (n : Nat) (s : State) : Res :=
  .next (tdrNoEdge n s)

/-- TDR_RUN_END (R87): A reflectometry run completes, its events and end delay are posted, and the input stage is
restored. -/
def execTdrRunEnd (n : Nat) (points : List LeadPoint) (s : State) : Res :=
  .next (tdrRunEnd n points s)

/-! ### Conversion (chapter 4) -/

/-- BURST_START_EVENT (R96): A quad's timer or PWM start event fixes the burst's first conversion, or defers,
stretches or skips it. -/
def execBurstStartEvent (q : Nat) (s : State) : Res :=
  .next (burstStartEvent q s)

/-- SLICE_WAKE (R96): 2 µs before each burst's first conversion, the slice and input stage wake and load their
calibration. -/
def execSliceWake (q : Nat) (s : State) : Res :=
  .next (sliceWake q s)

/-- BURST_END (R96): The last sample of a burst is taken, the Gob posts the burst value, and the slice sleeps within 1
µs. -/
def execBurstEnd (q : Nat) (sums : List BurstSum) (s : State) : Res :=
  .next (burstEnd q sums s)

/-- BANK_READY_AT (R103): At READY_AT, 25 ms after buffer enable, the bank goes to on or standby and deferred starts
proceed. -/
def execBankReadyAt (b : Nat) (s : State) : Res :=
  .next (bankReadyAt b s)

/-- REF_BUFFER_TIMEOUT (R104): A buffer not settled 100 ms after enable puts the bank in fault and raises 0x7031. -/
def execRefBufferTimeout (b : Nat) (s : State) : Res :=
  .next (refBufferTimeout b s)

/-- REF_SUPERVISION_AVERAGE (R105): At the end of each 1 s average, the reference disagreements are updated and
warning or suspect flags set. -/
def execRefSupervisionAverage (d a b x : Nat) (s : State) : Res :=
  .next (refSupervisionAverage d a b x s)

/-- REF_FLAG_CLEAR (R105): A reference flag clears after its disagreement has stayed below the lower threshold for 60
s. -/
def execRefFlagClear (d : Nat) (suspect : Bool) (s : State) : Res :=
  .next (refFlagClear d suspect s)

/-- REF_RECAL (R109): A write of 1 to REF_RECAL starts measuring REF-A and REF-B against REFX, or is refused. -/
def execRefRecal (h : Hdr) (d clause : Nat) (value : List Byte) (s : State) : Res :=
  .next (s.serve h (.write (s.dieIndex d) 0x19 clause value))

/-- REF_RECAL_DONE (R109): Within 2 s, the references' corrections are set, the disagreements zeroed and REF_STATE
bits 0 to 5 cleared. -/
def execRefRecalDone (d a b x : Nat) (s : State) : Res :=
  .next (refRecalDone d a b x s)

/-- CAL_NOW (R112): A write of 1 to CAL_NOW starts recalibrating every slice of the bank by substitution, or is
refused. -/
def execCalNow (h : Hdr) (b clause : Nat) (value : List Byte) (s : State) : Res :=
  .next (s.serve h (.write (s.indexOf .bank b) 0x09 clause value))

/-- CAL_NOW_DONE (R112): The bank recalibration completes, and CAL_STATE reads done or done with quads skipped. -/
def execCalNowDone (b : Nat) (s : State) : Res :=
  .next (calNowDone b s)

/-- BACKGROUND_TRACKING_CYCLE (R110): At each 1 s step of the 5 s cycle, the spare slice shadow-converts a working
slice or calibrates itself, and corrections are applied. -/
def execBackgroundTrackingCycle (q slice : Nat) (offset gain skew drift : Int) (converged : Bool) (s : State) : Res :=
  .next (backgroundTrackingCycle q slice offset gain skew drift converged s)

/-- BANK_CONVERSION_STOP (R115): At the end of the current burst or conversion cycle, a gating bank stops converting
and closes runs, slots and segments. -/
def execBankConversionStop (b : Nat) (s : State) : Res :=
  .next (bankConversionStop b s)

/-- BANK_DRAIN_DONE (R115): After the last END flit and up to 5 ms more, the bank is unpowered and its stream capacity
released. -/
def execBankDrainDone (b : Nat) (s : State) : Res :=
  .next (bankDrainDone b s)

/-! ### The Gob (chapter 5) -/

/-- GOB_OUTPUT (R123): When a stage's decimation count reaches Dk, it produces an averaged output, which at the last
stage becomes a value word. -/
def execGobOutput (n : Nat) (input other : Int) (marks : Marks) (pos : Nat) (s : State) : Res :=
  .next (gobOutput n input other marks pos s)

/-- COARSE_VALUE_PUBLISH (R137): After COARSE_LEN valid samples following a change, the coarse value is published and
held samples are replaced. -/
def execCoarseValuePublish (n : Nat) (s : State) : Res :=
  .next (coarseValuePublish n s)

/-- COARSE_BLOCK_END (R139): At the end of each block of COARSE_LEN valid samples, or each burst value, step detection
compares consecutive means. -/
def execCoarseBlockEnd (n : Nat) (s : State) : Res :=
  .next (coarseBlockEnd n s)

/-- SHADOW_SUM_RESTART (R143): Every n inputs, a stage's shadow sum replaces its running sum, and a mismatch raises an
integrity event. -/
def execShadowSumRestart (n stage : Nat) (mismatch : Bool) (s : State) : Res :=
  .next (shadowSumRestart n stage mismatch s)

/-- GOB_FLUSH_INTERVAL (R13): A Gob flit whose oldest word has waited the flush interval is sent with fewer than 30
words. -/
def execGobFlushInterval (n : Nat) (s : State) : Res :=
  .next (gobFlushInterval n s)

/-- MAINS_CROSSING (R134): A positive-going mains crossing updates MAINS_FREQ and the tracked stage lengths. -/
def execMainsCrossing (d : Nat) (mean : Int) (s : State) : Res :=
  .next (mainsCrossing d mean s)

/-- MAINS_MISSED_CYCLES (R135): A sense signal out of range or missing three cycles sets MAINS_STATE 3 and holds the
tracked lengths. -/
def execMainsMissedCycles (d : Nat) (s : State) : Res :=
  .next (mainsMissedCycles d s)

/-! ### The Lehr (chapter 6) -/

/-- LEHR_ROUND (R150): Every 16,384 main-clock periods, the Lehr visits the enabled paths in path order and computes
every output whose inputs are present. -/
def execLehrRound (mismatchLane : Option Nat) (s : State) : Res :=
  .next (lehrRound mismatchLane s)

/-- LEHR_BLOCK_MAXAGE (R170): A Lehr block whose first word has waited BLOCK_MAXAGE is closed, sealed if SEAL, and
written to its queue. -/
def execLehrBlockMaxage (p : Nat) (s : State) : Res :=
  .next (lehrBlockMaxage p s)

/-- PATH_SOURCE_START (R159): A START flit on a path's source stream starts the path again, with BSEQ from 0. -/
def execPathSourceStart (p : Nat) (s : State) : Res :=
  .next (pathSourceStart p s)

/-- PATH_SOURCE_END (R159): An END flit on a path's source stream makes the path produce its covered outputs, close
with END and wait in state 1. -/
def execPathSourceEnd (p : Nat) (s : State) : Res :=
  .next (pathSourceEnd p s)

/-! ### Punty and the trigger matrix (chapter 7) -/

/-- DETECTOR_FIRE (R181): A channel detector fires when its quantity crosses LEVEL_A as TRIG_TYPE and POL require,
with hysteresis. -/
def execDetectorFire (n : Nat) (x0 x1 : Int) (t0 t1 : Nat) (s : State) : Res :=
  .next (detectorFire n x0 x1 t0 t1 s)

/-- TRIG_INPUT_EDGE (R184): An edge on a TRIG input selected by TRIG_EDGE is timestamped and passed to the matrix. -/
def execTrigInputEdge (k : Nat) (rising : Bool) (at_ : Nat) (s : State) : Res :=
  .next (trigInputEdge k rising at_ s)

/-- ILINE_EDGE (R185): A falling edge on an enabled instrument line that the hub is not driving is timestamped as an
event. -/
def execIlineEdge (l : Nat) (s : State) : Res :=
  .next (ilineEdge l s)

/-- ILINE_PULSE_END (R185): After ILINE_PULSE ns, the hub releases the instrument lines driven by a firing. -/
def execIlinePulseEnd (lines : Nat) (s : State) : Res :=
  .next (ilinePulseEnd lines s)

/-- MATRIX_EVENT (R188): An event reaching the trigger matrix is kept and tested for coincidence against each output's
sources. -/
def execMatrixEvent (src : TrigSrc) (time : Nat) (late : Bool) (s : State) : Res :=
  .next (matrixEvent src time late s)

/-- MATRIX_EVENT_EXPIRY (R188): An event held by the matrix is dropped WINDOW + 100 µs after its arrival. -/
def execMatrixEventExpiry (output : Nat) (s : State) : Res :=
  .next (matrixEventExpiry output s)

/-- MATRIX_HOLDOFF_END (R188): HOLDOFF µs after firing, a matrix output takes events again. -/
def execMatrixHoldoffEnd (output : Nat) (s : State) : Res :=
  .next (matrixHoldoffEnd output s)

/-- REMOTE_TRIGGER (R187): A remote trigger block is checked, deduplicated, delivered to matching matrix outputs and
relayed. -/
def execRemoteTrigger (dir lane : Nat) (payload : Block) (s : State) : Res :=
  .next (remoteTrigger dir lane payload s)

/-- SEGMENT_COMPLETE (R193): The last sample of a segment is written, its header and CRC formed, space checked and its
descriptor posted. -/
def execSegmentComplete (n : Nat) (samples : List Sample) (s : State) : Res :=
  .next (segmentComplete n samples s)

/-- SEGMENT_REARM (R193): Within 1 µs of a segment's last sample, the channel re-arms per ARM_MODE, or goes idle, and
records its arming instant. -/
def execSegmentRearm (n : Nat) (s : State) : Res :=
  .next (segmentRearm n s)

/-- ARM (R192): A write of 1 to ARM arms an idle channel within 2 µs, or is deferred or refused. -/
def execArm (h : Hdr) (n clause : Nat) (value : List Byte) (s : State) : Res :=
  .next (s.serve h (.write (s.indexOf .punty n) 0x14 clause value))

/-- DISARM (R192): A write of 1 to DISARM returns an armed channel to idle, or lets a capture complete first. -/
def execDisarm (h : Hdr) (n clause : Nat) (value : List Byte) (s : State) : Res :=
  .next (s.serve h (.write (s.indexOf .punty n) 0x15 clause value))

/-- FORCE (R189): A write of 1 to FORCE gives the channel a trigger at the hub time at which it is served. -/
def execForce (h : Hdr) (n clause : Nat) (value : List Byte) (s : State) : Res :=
  .next (s.serve h (.write (s.indexOf .punty n) 0x16 clause value))

/-- OVF_RESUME_REARM (R198): A stopped channel with OVF_RESUME true re-arms once all its outstanding segments have
drained. -/
def execOvfResumeRearm (n : Nat) (s : State) : Res :=
  .next (ovfResumeRearm n s)

/-- COLLECTOR_PASS (R199): The collector takes each channel's oldest completed segment to its archive and posts a
segment record to SEG_QUEUE. -/
def execCollectorPass (d : Nat) (s : State) : Res :=
  .next (collectorPass d s)

/-! ### Queues (chapter 8) -/

/-- FRAME_ENQUEUE (R210): A producer writes the last cell of a frame into a queue, drawing cells from reserve, pool or
spill form. -/
def execFrameEnqueue (q ftype src : Nat) (payload : List Byte) (ref : Option Nat) (s : State) : Res :=
  .next (frameEnqueue q ftype src payload ref s)

/-- SPILL_HEAD_REFILL (R216): When a spilled queue's head falls to 8 cells, cells return from the spill region in
order. -/
def execSpillHeadRefill (q : Nat) (s : State) : Res :=
  .next (spillHeadRefill q s)

/-- FRAME_IN (R227): A FRAME_IN domain is checked and queued as a tenant frame, or refused. -/
def execFrameIn (h : Hdr) (q clause : Nat) (octets : List Byte) (s : State) : Res :=
  .next (s.serve h (.blockWrite (s.indexOf .queue q) 0x14 clause 0 octets false))

/-- FRAME_POP (R221): A write of the head frame's FSEQ to FRAME_POP removes it, and any other value is refused. -/
def execFramePop (h : Hdr) (q clause : Nat) (value : List Byte) (s : State) : Res :=
  .next (s.serve h (.write (s.indexOf .queue q) 0x13 clause value))

/-- HW_CONSUMER_START (R222): A hardware consumer starts on a frame once CT_CELLS of its cells, or the whole frame,
are present. -/
def execHwConsumerStart (q : Nat) (check : CellCheck) (s : State) : Res :=
  .next (hwConsumerStart q check s)

/-! ### Frit (chapter 9) -/

/-- FRIT_BLOCK_DONE (R239): A stream context ends a coded block after BLOCK_N samples or a boundary, and queues it as
a frame of FTYPE 0x5. -/
def execFritBlockDone (c : Nat) (s : State) : Res :=
  .next (fritBlockDone c s)

/-- FRIT_BLOCK_MAXAGE (R237): A Frit block whose age reaches BLOCK_MAXAGE is ended and coded. -/
def execFritBlockMaxage (c : Nat) (s : State) : Res :=
  .next (fritBlockMaxage c s)

/-- FLUSH (R237): A write of 1 to FLUSH ends the context's open block. -/
def execFlush (h : Hdr) (c clause : Nat) (value : List Byte) (s : State) : Res :=
  .next (s.serve h (.write (s.indexOf .fritCtx c) 0x0B clause value))

/-- SUBMIT (R241): A write of 1 to SUBMIT queues a Frit job, or is refused while the slot is queued or running. -/
def execSubmit (h : Hdr) (j clause : Nat) (value : List Byte) (s : State) : Res :=
  .next (s.serve h (.write (s.indexOf .fritJob j) 0x07 clause value))

/-- FRIT_JOB_START (R241): A queued job starts when its context is free and engine time remains. -/
def execFritJobStart (j : Nat) (s : State) : Res :=
  .next (fritJobStart j s)

/-- FRIT_JOB_BLOCK (R242): A job writes one whole coded block, stopping or failing when output space runs out,
stopping at a freeze, or finishing. -/
def execFritJobBlock (j : Nat) (s : State) : Res :=
  .next (fritJobBlock j s)

/-- CONTINUE (R242): A write of 1 to CONTINUE resumes a job stopped for output space or a freeze. -/
def execContinue (h : Hdr) (j clause : Nat) (value : List Byte) (s : State) : Res :=
  .next (s.serve h (.write (s.indexOf .fritJob j) 0x08 clause value))

/-! ### DRAM (chapter 10) -/

/-- DRAM_REQUEST (R254): A DRAM request enters its channel's read or write queue, or is held at the fabric, in a
bucket or through self-refresh exit. -/
def execDramRequest (ch port : Nat) (write : Bool) (addr : Nat) (data : List Byte) (tenant : Nat) (reserved : Bool)
    (s : State) : Res :=
  .next (dramRequest ch port write addr data tenant reserved s)

/-- URGENCY_LEVEL_CHANGE (R255): A client port's oldest request crosses 50, 75 or 100 % of LAT_TARGET and its urgency
level rises. -/
def execUrgencyLevelChange (port ageNs : Nat) (s : State) : Res :=
  .next (urgencyLevelChange port ageNs s)

/-- DRAM_ACCESS_COMPLETE (R261): A DRAM burst completes, with its data word checked and corrected, or an uncorrectable
error found. -/
def execDramAccessComplete (ch : Nat) (isWrite : Bool) (check : WordCheck) (syndrome : Nat) (s : State) : Res :=
  .next (dramAccessComplete ch isWrite check syndrome s)

/-- WRITE_CRC_ERROR (R262): A device reporting a write CRC error has the write repeated, and a fourth failure freezes
the controllers. -/
def execWriteCrcError (ch : Nat) (s : State) : Res :=
  .next (writeCrcError ch s)

/-- REFRESH_DUE (R256): A bank index owing a same-bank refresh is refreshed, forcibly once its deadline passes. -/
def execRefreshDue (ch bankIndex : Nat) (idle : Bool) (s : State) : Res :=
  .next (refreshDue ch bankIndex idle s)

/-- PATROL_SCRUB (R262): The patrol scrub reads each burst once per SCRUB_PERIOD and writes back corrected ones. -/
def execPatrolScrub (ch addr : Nat) (check : WordCheck) (syndrome : Nat) (s : State) : Res :=
  .next (patrolScrub ch addr check syndrome s)

/-- ODECC_HOURLY (R261): Every hour, the DDR5 on-die ECC counts are read into ODECC_COUNT. -/
def execOdeccHourly (ch count : Nat) (s : State) : Res :=
  .next (odeccHourly ch count s)

/-- SELF_REFRESH_IDLE (R260): A channel with SR_AUTO true and no request for SR_IDLE µs enters self-refresh. -/
def execSelfRefreshIdle (ch : Nat) (s : State) : Res :=
  .next (selfRefreshIdle ch s)

/-- DIAG_READ (R267): A write of 1 to DIAG_READ reads the burst at DIAG_ADDR without correction into DIAG_DATA while
frozen. -/
def execDiagRead (h : Hdr) (clause : Nat) (value : List Byte) (s : State) : Res :=
  .next (s.serve h (.write (s.indexOf .freeze 0) 0x0F clause value))

/-- RELEASE_RESUME (R268): RELEASE 1 ends a freeze, answers the failed request as uncorrectable and marks its
allocation not intact. -/
def execReleaseResume (h : Hdr) (clause : Nat) (s : State) : Res :=
  .next (s.serve h (.write (s.indexOf .freeze 0) 0x11 clause [1#8]))

/-- RELEASE_DISCARD (R268): RELEASE 2 ends a freeze, discards queued writes, marks their allocations not intact and
retrains the channels. -/
def execReleaseDiscard (h : Hdr) (clause : Nat) (s : State) : Res :=
  .next (s.serve h (.write (s.indexOf .freeze 0) 0x11 clause [2#8]))

/-- DRAM_TRAINING_DONE (R248): Training of a DRAM channel ends in service at some rate, or out of service with 0x7102.
-/
def execDramTrainingDone (ch : Nat) (passed : Bool) (pprLeft : Nat) (s : State) : Res :=
  .next (dramTrainingDone ch passed pprLeft s)

/-- PPR_NOW (R352): A write of a controller number to PPR_NOW starts soft repair of its candidate rows, or is refused.
-/
def execPprNow (h : Hdr) (clause : Nat) (value : List Byte) (s : State) : Res :=
  .next (s.serve h (.write (s.indexOf .cullet 0) 0x03 clause value))

/-- PPR_ROW_DONE (R264): A soft repair of one row completes, its data written back and its bank released. -/
def execPprRowDone (ch : Nat) (s : State) : Res :=
  .next (pprRowDone ch s)

/-! ### Lanes and Breimlink (chapter 11) -/

/-- HUNT_WINDOW (R274): An unlocked receiver tests a 260-bit window and slips one bit on an invalid header, declaring
lock after 128 valid headers. -/
def execHuntWindow (lane : Nat) (line : List Bool) (s : State) : Res :=
  .next (huntWindow lane line s)

/-- DATA_BLOCK (R281): A data block is received on a locked lane as part of a frame. -/
def execDataBlock (lane : Nat) (line : List Bool) (s : State) : Res :=
  .next (dataBlock lane line s)

/-- IDLE_ENTER (R277): An IDLE_ENTER block puts the lane into electrical idle within 16 UI. -/
def execIdleEnter (lane : Nat) (payload : Block) (s : State) : Res :=
  .next (idleEnter lane payload s)

/-- TRAIN (R276): A TRAIN block carries the peer's address, direction, position, mode and state during training. -/
def execTrain (lane : Nat) (payload : Block) (s : State) : Res :=
  .next (train lane payload s)

/-- FULL_TRAINING_DONE (R276): A bundle's training completes and the bundle goes into service, or into wiring fault or
address conflict. -/
def execFullTrainingDone (bundle : Nat) (eyes : List Nat) (s : State) : Res :=
  .next (fullTrainingDone bundle eyes s)

/-- ACK (R283): An ACK block frees covered frames from the replay buffer, grants credit and updates the working lanes.
-/
def execAck (bundle lane : Nat) (payload : Block) (s : State) : Res :=
  .next (ack bundle lane payload s)

/-- NAK (R283): A NAK block makes the transmitter stomp any frame in progress and resend from NAK_LSEQ in order. -/
def execNak (bundle lane : Nat) (payload : Block) (s : State) : Res :=
  .next (nak bundle lane payload s)

/-- FILL (R275): A FILL block is received when nothing else is due. -/
def execFill (lane : Nat) (payload : Block) (s : State) : Res :=
  .next (fill lane payload s)

/-- SOF (R281): An SOF block starts a frame, and a frame for another hub is relayed cut-through or buffered. -/
def execSof (bundle lane : Nat) (payload : Block) (s : State) : Res :=
  .next (sof bundle lane payload s)

/-- EOF (R282): An EOF block completes a frame, which is accepted with ACK, discarded with NAK, or discarded for
STOMP. -/
def execEof (bundle lane : Nat) (payload : Block) (s : State) : Res :=
  .next (eof bundle lane payload s)

/-- TRAINING_BURST (R277): A training burst ends a lane's idle and aligns the receiver, and wakes a dormant hub. -/
def execTrainingBurst (lane : Nat) (s : State) : Res :=
  .next (trainingBurst lane s)

/-- IDLE_EXIT_LOCK_TIMEOUT (R277): A receiver not in lock 2 µs after a training burst trains the lane in full. -/
def execIdleExitLockTimeout (lane : Nat) (s : State) : Res :=
  .next (idleExitLockTimeout lane s)

/-- EYE_ALARM_TIMEOUT (R278): A lane below EYE_ALARM for 10 ms goes out of service and a spare stands in if free. -/
def execEyeAlarmTimeout (lane : Nat) (s : State) : Res :=
  .next (eyeAlarmTimeout lane s)

/-- ACK_INTERVAL (R282): A receiver sends ACK at least every 10 µs. -/
def execAckInterval (bundle : Nat) (s : State) : Res :=
  .next (ackInterval bundle s)

/-- RESEND_TIMEOUT (R283): With frames outstanding and no ACK advance for 100 µs, the transmitter resends them,
retraining after 16 sends. -/
def execResendTimeout (bundle : Nat) (s : State) : Res :=
  .next (resendTimeout bundle s)

/-- BUNDLE_DOWN_TIMEOUT (R283): A bundle not back in service 10 ms after leaving it, or retrained three times in 10 s,
is declared down. -/
def execBundleDownTimeout (bundle : Nat) (s : State) : Res :=
  .next (bundleDownTimeout bundle s)

/-- REORDER_HOLD_EXPIRY (R286): A frame held for a missing RSEQ beyond REORDER_HOLD is delivered and the gap counted.
-/
def execReorderHoldExpiry (origin route : Nat) (s : State) : Res :=
  .next (reorderHoldExpiry origin route s)

/-- RELAY_LOAD_MEASURE (R287): Each second, relay load is measured and BFLAGS bit 0 set when it exceeds RELAY_RESERVE.
-/
def execRelayLoadMeasure (bundle load : Nat) (s : State) : Res :=
  .next (relayLoadMeasure bundle load s)

/-- ETHERNET_FRAME_RX (R291): A received Ethernet frame is taken for PTP, ADP, ARP or neighbour solicitation, or
discarded and counted. -/
def execEthernetFrameRx (mac : Nat) (fcsOk : Bool) (kind : EthKind) (s : State) : Res :=
  .next (ethernetFrameRx mac fcsOk kind s)

/-- INJECTION_PERMIT_EXPIRY (R294): When PERMIT_UNTIL passes, active injection rules in Acquire stop. -/
def execInjectionPermitExpiry (s : State) : Res :=
  .next (injectionPermitExpiry s)

/-- LANE_RESTORE (R349): A write of a lane index to LANE_RESTORE returns the repaired lane to service and puts the
spare in standby. -/
def execLaneRestore (h : Hdr) (clause : Nat) (value : List Byte) (s : State) : Res :=
  .next (s.serve h (.write (s.indexOf .cullet 0) 0x0D clause value))

/-! ### Modes, power and package (chapters 13 and 16) -/

/-- VIN_POWER_ON (R323): VIN rising through 2.7 V starts the cold start in Boot. -/
def execVinPowerOn (s : State) : Res :=
  .next (vinPowerOn s)

/-- RST_N_LOW (R390): RST_N low resets every island except the Ampoule, after completing any MRAM copy write. -/
def execRstNLow (s : State) : Res :=
  .next (rstNLow s)

/-- RST_N_RELEASE (R389): Release of RST_N starts Boot. -/
def execRstNRelease (s : State) : Res :=
  .next (rstNRelease s)

/-- BROWN_OUT (R391): VIN below 2.55 V for 10 µs turns off excitation and resets the hub as under RST_N. -/
def execBrownOut (below2300 : Bool) (s : State) : Res :=
  .next (brownOut below2300 s)

/-- BOOT_IMAGE_VERIFIED (R326): Image verification ends and the hub goes to Calibrate, Commission or Safe, or stays in
Boot. -/
def execBootImageVerified (slotAOk slotBOk : Bool) (s : State) : Res :=
  .next (bootImageVerified slotAOk slotBOk s)

/-- CALIBRATE_DONE (R321): When every powered bank is ready and every configured lane trained, the hub leaves
Calibrate for Acquire. -/
def execCalibrateDone (s : State) : Res :=
  .next (calibrateDone s)

/-- MODE_REQ_ACQUIRE (R322): MODE_REQ 1 commits everything written in Commission and goes to Calibrate, or wakes a
dormant hub. -/
def execModeReqAcquire (h : Hdr) (clause : Nat) (s : State) : Res :=
  .next (s.serve h (.write (s.indexOf .modes 0) 0x03 clause [1#8]))

/-- MODE_REQ_COMMISSION (R322): MODE_REQ 2 takes the hub from Acquire to Commission. -/
def execModeReqCommission (h : Hdr) (clause : Nat) (s : State) : Res :=
  .next (s.serve h (.write (s.indexOf .modes 0) 0x03 clause [2#8]))

/-- MODE_REQ_TEST (R322): MODE_REQ 3 takes the hub from Acquire or Commission to Test. -/
def execModeReqTest (h : Hdr) (clause : Nat) (s : State) : Res :=
  .next (s.serve h (.write (s.indexOf .modes 0) 0x03 clause [3#8]))

/-- MODE_REQ_LEAVE_TEST (R322): MODE_REQ 4 takes the hub from Test to Calibrate. -/
def execModeReqLeaveTest (h : Hdr) (clause : Nat) (s : State) : Res :=
  .next (s.serve h (.write (s.indexOf .modes 0) 0x03 clause [4#8]))

/-- MODE_REQ_SAFE (R332): MODE_REQ 5 enters Safe at once with cause 0x0000. -/
def execModeReqSafe (h : Hdr) (clause : Nat) (s : State) : Res :=
  .next (s.serve h (.write (s.indexOf .modes 0) 0x03 clause [5#8]))

/-- MODE_REQ_LEAVE_SAFE (R333): MODE_REQ 6 leaves Safe through Calibrate once the cause has cleared. -/
def execModeReqLeaveSafe (h : Hdr) (clause : Nat) (s : State) : Res :=
  .next (s.serve h (.write (s.indexOf .modes 0) 0x03 clause [6#8]))

/-- MODE_REQ_DORMANT (R328): MODE_REQ 7 gates every bank and ends paths, then waits for lane queues to empty. -/
def execModeReqDormant (h : Hdr) (clause : Nat) (s : State) : Res :=
  .next (s.serve h (.write (s.indexOf .modes 0) 0x03 clause [7#8]))

/-- DORMANT_LANES_IDLE (R328): Once every CONSUMER 1 queue is empty, the hub idles its Breimlink lanes and places DRAM
in self-refresh. -/
def execDormantLanesIdle (s : State) : Res :=
  .next (dormantLanesIdle s)

/-- WAKE_PIN (R329): A falling edge on WAKE ends Dormant and brings the hub to Acquire through Calibrate. -/
def execWakePin (s : State) : Res :=
  .next (wakePin s)

/-- WAKE_AT (R329): Hub time reaching WAKE_AT ends Dormant. -/
def execWakeAt (s : State) : Res :=
  .next (wakeAt s)

/-- TJ_THROTTLE_STEP (R331): A die at TJ_THROTTLE has its throttleable islands slowed by one eighth. -/
def execTjThrottleStep (die : Nat) (tj : Int) (s : State) : Res :=
  .next (tjThrottleStep die tj s)

/-- THROTTLE_RESTORE (R331): After each second with the die 3 °C below TJ_THROTTLE, one throttle step is restored. -/
def execThrottleRestore (die : Nat) (tj : Int) (s : State) : Res :=
  .next (throttleRestore die tj s)

/-- VIN_CURRENT_LIMIT (R331): VIN current reaching 22 A throttles every throttleable island and sets P_FLAGS bit 1. -/
def execVinCurrentLimit (s : State) : Res :=
  .next (vinCurrentLimit s)

/-- VIN_CURRENT_SUSTAINED (R332): VIN current at 22 A for 100 ms despite throttling enters Safe with cause 0x7135. -/
def execVinCurrentSustained (s : State) : Res :=
  .next (vinCurrentSustained s)

/-- TJ_LIMIT (R332): A junction at 115 °C, or at 110 °C for 10 s, enters Safe with cause 0x7134. -/
def execTjLimit (die : Nat) (tj : Int) (tenSeconds : Bool) (s : State) : Res :=
  .next (tjLimit die tj tenSeconds s)

/-- FW_ACTIVATE_NOW (R327): FW_ACTIVATE 1 starts a hitless firmware handover core by core using the spare core. -/
def execFwActivateNow (h : Hdr) (clause : Nat) (s : State) : Res :=
  .next (s.serve h (.write (s.indexOf .fw 0) 0x06 clause [1#8]))

/-- FW_ACTIVATE_NEXT_START (R327): FW_ACTIVATE 2 names a verified image to activate at the next cold start. -/
def execFwActivateNextStart (h : Hdr) (clause : Nat) (s : State) : Res :=
  .next (s.serve h (.write (s.indexOf .fw 0) 0x06 clause [2#8]))

/-- CORE_HANDOVER_DONE (R327): A core handover completes, and the next core is moved, or the slot made active, or the
old image restored on failure. -/
def execCoreHandoverDone (passed : Bool) (s : State) : Res :=
  .next (coreHandoverDone passed s)

/-- VDDQ_TIMEOUT (R386): VDDQ not in range 100 ms after DRAM training was due raises 0x7161 and leaves every
controller out of service. -/
def execVddqTimeout (s : State) : Res :=
  .next (vddqTimeout s)

/-- JTAG_INSTRUCTION (R392): A boundary-scan instruction is loaded, with driving instructions turned to BYPASS unless
RST_N is low and the Ampoule unsealed. -/
def execJtagInstruction (i : JtagInstr) (s : State) : Res :=
  .next (jtagInstruction i s)

/-! ### Endurance (chapter 14) -/

/-- SLICE_HARD_FAULT (R345): A slice self-check finding a hard fault withholds its samples and brings in the spare at
once. -/
def execSliceHardFault (n : Nat) (s : State) : Res :=
  .next (sliceHardFault n s)

/-- SUBST_REQ_MOVE (R344): A write of 0 to 3 to SUBST_REQ starts moving that channel to the quad's spare slice, or is
refused. -/
def execSubstReqMove (h : Hdr) (q c clause : Nat) (s : State) : Res :=
  .next (s.serve h (.write (s.indexOf .sliceSpare q) 0x01 clause (natLE 1 c)))

/-- SUBST_REQ_RESTORE (R347): A write of 0x0F to SUBST_REQ moves the channel back to its own slice, or is refused. -/
def execSubstReqRestore (h : Hdr) (q clause : Nat) (s : State) : Res :=
  .next (s.serve h (.write (s.indexOf .sliceSpare q) 0x01 clause [15#8]))

/-- SUBST_SHADOW_END (R344): After SHADOW_LEN samples or SHADOW_BURSTS bursts, the spare is matched to the working
slice. -/
def execSubstShadowEnd (q : Nat) (s : State) : Res :=
  .next (substShadowEnd q s)

/-- SUBST_MATCH_DONE (R344): When matching completes, the Gob fades from the old slice to the spare. -/
def execSubstMatchDone (q : Nat) (s : State) : Res :=
  .next (substMatchDone q s)

/-- SUBST_FADE_END (R344): At the end of the fade, the spare serves the channel and the working slice is released. -/
def execSubstFadeEnd (q : Nat) (s : State) : Res :=
  .next (substFadeEnd q s)

/-- CORE_WATCHDOG_MISS (R350): A management core missing 10 watchdog answers is taken out of service and the spare
core takes over. -/
def execCoreWatchdogMiss (core : Nat) (s : State) : Res :=
  .next (coreWatchdogMiss core s)

/-- SRAM_ROW_REMAP (R351): An SRAM row reaching 4 corrected errors in 24 h is copied to a spare row and remapped. -/
def execSramRowRemap (mem : SramKind) (s : State) : Res :=
  .next (sramRowRemap mem s)

/-- AGEING_MEASUREMENT (R342): Each hour, ring oscillators update AGE_PPM, logging a warning or slowing the die for
good at 50,000 ppm. -/
def execAgeingMeasurement (d ppm : Nat) (s : State) : Res :=
  .next (ageingMeasurement d ppm s)

/-! ### The Ampoule (chapter 15) -/

/-- SEAL_LOOP_SAMPLE (R364): Every 10 ms the Ampoule samples the seal loop and changes its state after three
consistent samples, writing a notice. -/
def execSealLoopSample (ohms : Nat) (s : State) : Res :=
  .next (sealLoopSample ohms s)

/-- SEAL (R365): A write of 1 to SEAL checks the sealing conditions, freezes the legal entries and generates a key, or
is refused. -/
def execSeal (h : Hdr) (clause : Nat) (value : List Byte) (s : State) : Res :=
  .next (s.serve h (.write (s.indexOf .amp 0) 0x03 clause value))

/-- SEALING_DONE (R365): Sealing completes with the checksum computed, a change entry written and the copy port
opened. -/
def execSealingDone (s : State) : Res :=
  .next (sealingDone s)

/-- UNSEAL (R368): A write of 1 to UNSEAL with the loop open zeroises the key and releases the frozen entries. -/
def execUnseal (h : Hdr) (clause : Nat) (value : List Byte) (s : State) : Res :=
  .next (s.serve h (.write (s.indexOf .amp 0) 0x04 clause value))

/-- PROG_ACTIVATE (R362): A write of 1 to PROG_ACTIVATE starts a verified program and records a change entry. -/
def execProgActivate (h : Hdr) (clause : Nat) (value : List Byte) (s : State) : Res :=
  .next (s.serve h (.write (s.indexOf .ampProg 0) 0x04 clause value))

/-- LEGAL_BLOCK_COPY (R374): A copy of a legal path block reaches the Ampoule and is passed to the legally relevant
program. -/
def execLegalBlockCopy (p : Nat) (block : List Nat) (s : State) : Res :=
  .next (legalBlockCopy p block s)

/-- LEGAL_NOTICE (R375): A legal notice from the hub is written to the audit trail and may set or clear a die's
suspect latch. -/
def execLegalNotice (n : Notice) (s : State) : Res :=
  .next (legalNotice n s)

/-- LEGAL_MISSING_TIMEOUT (R376): A legal block not arrived by its deadline marks its instants missing and writes a
notice. -/
def execLegalMissingTimeout (p : Nat) (s : State) : Res :=
  .next (legalMissingTimeout p s)

/-- AMP_WATCHDOG_MISS (R377): An Ampoule processor missing its watchdog for 100 ms is restarted, or held in fault
after three restarts in an hour. -/
def execAmpWatchdogMiss (s : State) : Res :=
  .next (ampWatchdogMiss s)

/-- AMP_RESTART (R377): A write of 1 to AMP_RESTART lets a failed Ampoule run again. -/
def execAmpRestart (h : Hdr) (clause : Nat) (value : List Byte) (s : State) : Res :=
  .next (s.serve h (.write (s.indexOf .amp 0) 0x0A clause value))

/-- AMP_TIME_UPDATE (R357): Every 10 ms, hub time is passed to the Ampoule for audit entries. -/
def execAmpTimeUpdate (s : State) : Res :=
  .next (ampTimeUpdate s)

/-- AUDIT_SEL (R372): A write of an ENO to AUDIT_SEL selects an audit entry for the session, or is refused if not
held. -/
def execAuditSel (h : Hdr) (clause : Nat) (value : List Byte) (s : State) : Res :=
  .next (s.serve h (.write (s.indexOf .audit 0) 0x02 clause value))

/-- LREC_POP (R378): A write of the head record's RNUM to LREC_POP removes it from the legal output queue. -/
def execLrecPop (h : Hdr) (clause : Nat) (value : List Byte) (s : State) : Res :=
  .next (s.serve h (.write (s.indexOf .lrec 0) 0x03 clause value))

/-! ### Rows the table adds at its end -/

/-- DTLS_ASSOCIATION_END (R305): The end of a session's DTLS association declares the session lost, rolls back its
open clauses and ends its subscriptions. -/
def execDtlsAssociationEnd (session : Nat) (s : State) : Res :=
  .next (dtlsAssociationEnd session s)

/-- CHAIN_MEMBER_LOCK_REQUEST (R316): A member receives the coordinator's request to take its items of a chain clause
as a local clause, and grants the locks, or reports a conflict. -/
def execChainMemberLockRequest (coordinator coordClause : Nat) (items : List LockItem) (s : State) : Res :=
  .next (chainMemberLockRequest coordinator coordClause items s)

/-- CHAIN_MEMBER_ANSWER (R317): The coordinator receives a member's answer to a lock, admit or go-ahead order. It
proceeds to the next member, sends the go-ahead, or answers the commit once every member has confirmed. -/
def execChainMemberAnswer (clause member : Nat) (order : ChainOrder) (status : Nat) (s : State) : Res :=
  .next (chainMemberAnswer clause member order status s)

/-- CHAIN_MEMBER_ABANDON (R317): A member receives the coordinator's order to abandon its part of a chain clause,
releases its locks and reserved capacity, and frees the clause slot. -/
def execChainMemberAbandon (coordinator coordClause : Nat) (s : State) : Res :=
  .next (chainMemberAbandon coordinator coordClause s)

/-- UNSEALING_DONE (R368): Within 50 ms of UNSEAL, the key is zeroised, the entries are released, the copy port is
closed, and AMP_STATE goes from 4 to 1. -/
def execUnsealingDone (s : State) : Res :=
  .next (unsealingDone s)

/-- AMPOULE_RESTART_COMPLETE (R377): A restarted Ampoule processor runs again within 200 ms, leaves AMP_STATE 5, and
marks records that meet the outage as MISSING. -/
def execAmpouleRestartComplete (s : State) : Res :=
  .next (ampouleRestartComplete s)

/-- SIDEBAND_TRANSFER_END (R19): A sideband transfer ends at the receiver: its CRC-16 is checked, the write or status
it carries is applied, or a failed transfer is repeated. -/
def execSidebandTransferEnd (die : Nat) (crcOk : Bool) (s : State) : Res :=
  .next (sidebandTransferEnd die crcOk s)

/-- MAC_LINK_CHANGE (R290): An Ethernet MAC's link goes up or down and LINK changes accordingly. -/
def execMacLinkChange (mac : Nat) (up : Bool) (s : State) : Res :=
  .next (macLinkChange mac up s)

end Sys2Proof.Machine
end

