-- ==== Sys2Proof/Machine/Dispatch.lean ====
section
/-! DEFINITION. One arm for each command of the table (R1), each a direct call of its meaning. -/

namespace Sys2Proof.Machine

def exec (i : Instr) (s : State) : Host.Outcome State Fault Refusal :=
  match i with
  | .adpRead h idx sub clause => Sys2Proof.Machine.execAdpRead h idx sub clause s
  | .adpWrite h idx sub clause value => Sys2Proof.Machine.execAdpWrite h idx sub clause value s
  | .blockRead h idx sub clause offset length => Sys2Proof.Machine.execBlockRead h idx sub clause offset length s
  | .blockWrite h idx sub clause offset data more => Sys2Proof.Machine.execBlockWrite h idx sub clause offset data more s
  | .blockTransferTimeout session tag => Sys2Proof.Machine.execBlockTransferTimeout session tag s
  | .walk h idx sub max => Sys2Proof.Machine.execWalk h idx sub max s
  | .clauseOpen h lease chain items => Sys2Proof.Machine.execClauseOpen h lease chain items s
  | .clauseCommit h clause => Sys2Proof.Machine.execClauseCommit h clause s
  | .clauseCommitAt h clause whn => Sys2Proof.Machine.execClauseCommitAt h clause whn s
  | .scheduledClauseInstant clause => Sys2Proof.Machine.execScheduledClauseInstant clause s
  | .clauseAbandon h clause => Sys2Proof.Machine.execClauseAbandon h clause s
  | .clauseLeaseExpiry clause => Sys2Proof.Machine.execClauseLeaseExpiry clause s
  | .chainLockBackoffExpiry clause => Sys2Proof.Machine.execChainLockBackoffExpiry clause s
  | .chainLockWaitTimeout clause => Sys2Proof.Machine.execChainLockWaitTimeout clause s
  | .chainMemberAdmitRequest coordinator coordClause whn => Sys2Proof.Machine.execChainMemberAdmitRequest coordinator coordClause whn s
  | .chainPhase1Timeout clause member => Sys2Proof.Machine.execChainPhase1Timeout clause member s
  | .chainGoAhead coordinator coordClause => Sys2Proof.Machine.execChainGoAhead coordinator coordClause s
  | .chainGoAheadDeadline clause => Sys2Proof.Machine.execChainGoAheadDeadline clause s
  | .chainMemberDeadline coordinator coordClause => Sys2Proof.Machine.execChainMemberDeadline coordinator coordClause s
  | .subscribe h queue credit => Sys2Proof.Machine.execSubscribe h queue credit s
  | .unsubscribe h queue => Sys2Proof.Machine.execUnsubscribe h queue s
  | .abortCapture h channel => Sys2Proof.Machine.execAbortCapture h channel s
  | .abortTdr h channel => Sys2Proof.Machine.execAbortTdr h channel s
  | .abortPath h path => Sys2Proof.Machine.execAbortPath h path s
  | .abortTenantPaths h => Sys2Proof.Machine.execAbortTenantPaths h s
  | .abortFritJob h slot => Sys2Proof.Machine.execAbortFritJob h slot s
  | .abortDramTransfer h xferTag => Sys2Proof.Machine.execAbortDramTransfer h xferTag s
  | .abortClause h clause => Sys2Proof.Machine.execAbortClause h clause s
  | .abortBlockTransfer h xferTag => Sys2Proof.Machine.execAbortBlockTransfer h xferTag s
  | .abortAll h => Sys2Proof.Machine.execAbortAll h s
  | .dtlsHandshake keyDigest => Sys2Proof.Machine.execDtlsHandshake keyDigest s
  | .canSegmentRx first last seq octets => Sys2Proof.Machine.execCanSegmentRx first last seq octets s
  | .canBusOff => Sys2Proof.Machine.execCanBusOff s
  | .sessionTimeout session => Sys2Proof.Machine.execSessionTimeout session s
  | .relayedAdpRx bundle origin tenant gwSession message => Sys2Proof.Machine.execRelayedAdpRx bundle origin tenant gwSession message s
  | .remoteAnswerTimeout session tag => Sys2Proof.Machine.execRemoteAnswerTimeout session tag s
  | .timeMeasurement source offset => Sys2Proof.Machine.execTimeMeasurement source offset s
  | .sourceQualified source => Sys2Proof.Machine.execSourceQualified source s
  | .sourceDisqualified source => Sys2Proof.Machine.execSourceDisqualified source s
  | .lockWindowElapsed => Sys2Proof.Machine.execLockWindowElapsed s
  | .freqLimitClear => Sys2Proof.Machine.execFreqLimitClear s
  | .setTime h clause value => Sys2Proof.Machine.execSetTime h clause value s
  | .acceptStep h clause value => Sys2Proof.Machine.execAcceptStep h clause value s
  | .refclkLost => Sys2Proof.Machine.execRefclkLost s
  | .refclkRelock => Sys2Proof.Machine.execRefclkRelock s
  | .beacon dir lane payload rx => Sys2Proof.Machine.execBeacon dir lane payload rx s
  | .beaconTx => Sys2Proof.Machine.execBeaconTx s
  | .ptpMessageRx port domain msg rx => Sys2Proof.Machine.execPtpMessageRx port domain msg rx s
  | .ptpMessageTx port kind tx => Sys2Proof.Machine.execPtpMessageTx port kind tx s
  | .timeTriggerFire k => Sys2Proof.Machine.execTimeTriggerFire k s
  | .ppsOutEdge => Sys2Proof.Machine.execPpsOutEdge s
  | .ppsOutWidthEnd => Sys2Proof.Machine.execPpsOutWidthEnd s
  | .ppsInEdge at_ => Sys2Proof.Machine.execPpsInEdge at_ s
  | .launchTimeReached port route => Sys2Proof.Machine.execLaunchTimeReached port route s
  | .portFrameTx port route => Sys2Proof.Machine.execPortFrameTx port route s
  | .txtsPop h mac clause value => Sys2Proof.Machine.execTxtsPop h mac clause value s
  | .txtsStickyClr h mac clause value => Sys2Proof.Machine.execTxtsStickyClr h mac clause value s
  | .flitRx die toHub flit => Sys2Proof.Machine.execFlitRx die toHub flit s
  | .linkReplayRequest die toHub seq => Sys2Proof.Machine.execLinkReplayRequest die toHub seq s
  | .linkRetrainDone die => Sys2Proof.Machine.execLinkRetrainDone die s
  | .linkReplayWindow die => Sys2Proof.Machine.execLinkReplayWindow die s
  | .sidebandRequest die hub front early => Sys2Proof.Machine.execSidebandRequest die hub front early s
  | .sidebandBackoffExpiry die => Sys2Proof.Machine.execSidebandBackoffExpiry die s
  | .fabricParityError port dest again => Sys2Proof.Machine.execFabricParityError port dest again s
  | .slipLimitShed die lagNs => Sys2Proof.Machine.execSlipLimitShed die lagNs s
  | .shedRestore die lagNs => Sys2Proof.Machine.execShedRestore die lagNs s
  | .ebufPeakClr h die clause value => Sys2Proof.Machine.execEbufPeakClr h die clause value s
  | .stageChangeDone n => Sys2Proof.Machine.execStageChangeDone n s
  | .inputOverRange n range commonMode tia => Sys2Proof.Machine.execInputOverRange n range commonMode tia s
  | .terminationOvervoltage n => Sys2Proof.Machine.execTerminationOvervoltage n s
  | .terminationReclose n => Sys2Proof.Machine.execTerminationReclose n s
  | .excSenseLoopFault q => Sys2Proof.Machine.execExcSenseLoopFault q s
  | .excCurrentLimit q a b => Sys2Proof.Machine.execExcCurrentLimit q a b s
  | .vinFallClamp q vinMv => Sys2Proof.Machine.execVinFallClamp q vinMv s
  | .vinRecovered q vinMv => Sys2Proof.Machine.execVinRecovered q vinMv s
  | .pwmRisingEdge q => Sys2Proof.Machine.execPwmRisingEdge q s
  | .pwmFallingEdge q => Sys2Proof.Machine.execPwmFallingEdge q s
  | .owSlotDue n => Sys2Proof.Machine.execOwSlotDue n s
  | .owNow h n clause value => Sys2Proof.Machine.execOwNow h n clause value s
  | .owSlotStart n => Sys2Proof.Machine.execOwSlotStart n s
  | .owSlotEnd n deltaUv overRange => Sys2Proof.Machine.execOwSlotEnd n deltaUv overRange s
  | .tdrStart h n clause value => Sys2Proof.Machine.execTdrStart h n clause value s
  | .tdrNoEdge n => Sys2Proof.Machine.execTdrNoEdge n s
  | .tdrRunEnd n points => Sys2Proof.Machine.execTdrRunEnd n points s
  | .burstStartEvent q => Sys2Proof.Machine.execBurstStartEvent q s
  | .sliceWake q => Sys2Proof.Machine.execSliceWake q s
  | .burstEnd q sums => Sys2Proof.Machine.execBurstEnd q sums s
  | .bankReadyAt b => Sys2Proof.Machine.execBankReadyAt b s
  | .refBufferTimeout b => Sys2Proof.Machine.execRefBufferTimeout b s
  | .refSupervisionAverage d a b x => Sys2Proof.Machine.execRefSupervisionAverage d a b x s
  | .refFlagClear d suspect => Sys2Proof.Machine.execRefFlagClear d suspect s
  | .refRecal h d clause value => Sys2Proof.Machine.execRefRecal h d clause value s
  | .refRecalDone d a b x => Sys2Proof.Machine.execRefRecalDone d a b x s
  | .calNow h b clause value => Sys2Proof.Machine.execCalNow h b clause value s
  | .calNowDone b => Sys2Proof.Machine.execCalNowDone b s
  | .backgroundTrackingCycle q slice offset gain skew drift converged => Sys2Proof.Machine.execBackgroundTrackingCycle q slice offset gain skew drift converged s
  | .bankConversionStop b => Sys2Proof.Machine.execBankConversionStop b s
  | .bankDrainDone b => Sys2Proof.Machine.execBankDrainDone b s
  | .gobOutput n input other marks pos => Sys2Proof.Machine.execGobOutput n input other marks pos s
  | .coarseValuePublish n => Sys2Proof.Machine.execCoarseValuePublish n s
  | .coarseBlockEnd n => Sys2Proof.Machine.execCoarseBlockEnd n s
  | .shadowSumRestart n stage mismatch => Sys2Proof.Machine.execShadowSumRestart n stage mismatch s
  | .gobFlushInterval n => Sys2Proof.Machine.execGobFlushInterval n s
  | .mainsCrossing d mean => Sys2Proof.Machine.execMainsCrossing d mean s
  | .mainsMissedCycles d => Sys2Proof.Machine.execMainsMissedCycles d s
  | .lehrRound mismatchLane => Sys2Proof.Machine.execLehrRound mismatchLane s
  | .lehrBlockMaxage p => Sys2Proof.Machine.execLehrBlockMaxage p s
  | .pathSourceStart p => Sys2Proof.Machine.execPathSourceStart p s
  | .pathSourceEnd p => Sys2Proof.Machine.execPathSourceEnd p s
  | .detectorFire n x0 x1 t0 t1 => Sys2Proof.Machine.execDetectorFire n x0 x1 t0 t1 s
  | .trigInputEdge k rising at_ => Sys2Proof.Machine.execTrigInputEdge k rising at_ s
  | .ilineEdge l => Sys2Proof.Machine.execIlineEdge l s
  | .ilinePulseEnd lines => Sys2Proof.Machine.execIlinePulseEnd lines s
  | .matrixEvent src time late => Sys2Proof.Machine.execMatrixEvent src time late s
  | .matrixEventExpiry output => Sys2Proof.Machine.execMatrixEventExpiry output s
  | .matrixHoldoffEnd output => Sys2Proof.Machine.execMatrixHoldoffEnd output s
  | .remoteTrigger dir lane payload => Sys2Proof.Machine.execRemoteTrigger dir lane payload s
  | .segmentComplete n samples => Sys2Proof.Machine.execSegmentComplete n samples s
  | .segmentRearm n => Sys2Proof.Machine.execSegmentRearm n s
  | .arm h n clause value => Sys2Proof.Machine.execArm h n clause value s
  | .disarm h n clause value => Sys2Proof.Machine.execDisarm h n clause value s
  | .force h n clause value => Sys2Proof.Machine.execForce h n clause value s
  | .ovfResumeRearm n => Sys2Proof.Machine.execOvfResumeRearm n s
  | .collectorPass d => Sys2Proof.Machine.execCollectorPass d s
  | .frameEnqueue q ftype src payload ref => Sys2Proof.Machine.execFrameEnqueue q ftype src payload ref s
  | .spillHeadRefill q => Sys2Proof.Machine.execSpillHeadRefill q s
  | .frameIn h q clause octets => Sys2Proof.Machine.execFrameIn h q clause octets s
  | .framePop h q clause value => Sys2Proof.Machine.execFramePop h q clause value s
  | .hwConsumerStart q check => Sys2Proof.Machine.execHwConsumerStart q check s
  | .fritBlockDone c => Sys2Proof.Machine.execFritBlockDone c s
  | .fritBlockMaxage c => Sys2Proof.Machine.execFritBlockMaxage c s
  | .flush h c clause value => Sys2Proof.Machine.execFlush h c clause value s
  | .submit h j clause value => Sys2Proof.Machine.execSubmit h j clause value s
  | .fritJobStart j => Sys2Proof.Machine.execFritJobStart j s
  | .fritJobBlock j => Sys2Proof.Machine.execFritJobBlock j s
  | .continue_ h j clause value => Sys2Proof.Machine.execContinue h j clause value s
  | .dramRequest ch port write addr data tenant reserved => Sys2Proof.Machine.execDramRequest ch port write addr data tenant reserved s
  | .urgencyLevelChange port ageNs => Sys2Proof.Machine.execUrgencyLevelChange port ageNs s
  | .dramAccessComplete ch isWrite check syndrome => Sys2Proof.Machine.execDramAccessComplete ch isWrite check syndrome s
  | .writeCrcError ch => Sys2Proof.Machine.execWriteCrcError ch s
  | .refreshDue ch bankIndex idle => Sys2Proof.Machine.execRefreshDue ch bankIndex idle s
  | .patrolScrub ch addr check syndrome => Sys2Proof.Machine.execPatrolScrub ch addr check syndrome s
  | .odeccHourly ch count => Sys2Proof.Machine.execOdeccHourly ch count s
  | .selfRefreshIdle ch => Sys2Proof.Machine.execSelfRefreshIdle ch s
  | .diagRead h clause value => Sys2Proof.Machine.execDiagRead h clause value s
  | .releaseResume h clause => Sys2Proof.Machine.execReleaseResume h clause s
  | .releaseDiscard h clause => Sys2Proof.Machine.execReleaseDiscard h clause s
  | .dramTrainingDone ch passed pprLeft => Sys2Proof.Machine.execDramTrainingDone ch passed pprLeft s
  | .pprNow h clause value => Sys2Proof.Machine.execPprNow h clause value s
  | .pprRowDone ch => Sys2Proof.Machine.execPprRowDone ch s
  | .huntWindow lane line => Sys2Proof.Machine.execHuntWindow lane line s
  | .dataBlock lane line => Sys2Proof.Machine.execDataBlock lane line s
  | .idleEnter lane payload => Sys2Proof.Machine.execIdleEnter lane payload s
  | .train lane payload => Sys2Proof.Machine.execTrain lane payload s
  | .fullTrainingDone bundle eyes => Sys2Proof.Machine.execFullTrainingDone bundle eyes s
  | .ack bundle lane payload => Sys2Proof.Machine.execAck bundle lane payload s
  | .nak bundle lane payload => Sys2Proof.Machine.execNak bundle lane payload s
  | .fill lane payload => Sys2Proof.Machine.execFill lane payload s
  | .sof bundle lane payload => Sys2Proof.Machine.execSof bundle lane payload s
  | .eof bundle lane payload => Sys2Proof.Machine.execEof bundle lane payload s
  | .trainingBurst lane => Sys2Proof.Machine.execTrainingBurst lane s
  | .idleExitLockTimeout lane => Sys2Proof.Machine.execIdleExitLockTimeout lane s
  | .eyeAlarmTimeout lane => Sys2Proof.Machine.execEyeAlarmTimeout lane s
  | .ackInterval bundle => Sys2Proof.Machine.execAckInterval bundle s
  | .resendTimeout bundle => Sys2Proof.Machine.execResendTimeout bundle s
  | .bundleDownTimeout bundle => Sys2Proof.Machine.execBundleDownTimeout bundle s
  | .reorderHoldExpiry origin route => Sys2Proof.Machine.execReorderHoldExpiry origin route s
  | .relayLoadMeasure bundle load => Sys2Proof.Machine.execRelayLoadMeasure bundle load s
  | .ethernetFrameRx mac fcsOk kind => Sys2Proof.Machine.execEthernetFrameRx mac fcsOk kind s
  | .injectionPermitExpiry => Sys2Proof.Machine.execInjectionPermitExpiry s
  | .laneRestore h clause value => Sys2Proof.Machine.execLaneRestore h clause value s
  | .vinPowerOn => Sys2Proof.Machine.execVinPowerOn s
  | .rstNLow => Sys2Proof.Machine.execRstNLow s
  | .rstNRelease => Sys2Proof.Machine.execRstNRelease s
  | .brownOut below2300 => Sys2Proof.Machine.execBrownOut below2300 s
  | .bootImageVerified slotAOk slotBOk => Sys2Proof.Machine.execBootImageVerified slotAOk slotBOk s
  | .calibrateDone => Sys2Proof.Machine.execCalibrateDone s
  | .modeReqAcquire h clause => Sys2Proof.Machine.execModeReqAcquire h clause s
  | .modeReqCommission h clause => Sys2Proof.Machine.execModeReqCommission h clause s
  | .modeReqTest h clause => Sys2Proof.Machine.execModeReqTest h clause s
  | .modeReqLeaveTest h clause => Sys2Proof.Machine.execModeReqLeaveTest h clause s
  | .modeReqSafe h clause => Sys2Proof.Machine.execModeReqSafe h clause s
  | .modeReqLeaveSafe h clause => Sys2Proof.Machine.execModeReqLeaveSafe h clause s
  | .modeReqDormant h clause => Sys2Proof.Machine.execModeReqDormant h clause s
  | .dormantLanesIdle => Sys2Proof.Machine.execDormantLanesIdle s
  | .wakePin => Sys2Proof.Machine.execWakePin s
  | .wakeAt => Sys2Proof.Machine.execWakeAt s
  | .tjThrottleStep die tj => Sys2Proof.Machine.execTjThrottleStep die tj s
  | .throttleRestore die tj => Sys2Proof.Machine.execThrottleRestore die tj s
  | .vinCurrentLimit => Sys2Proof.Machine.execVinCurrentLimit s
  | .vinCurrentSustained => Sys2Proof.Machine.execVinCurrentSustained s
  | .tjLimit die tj tenSeconds => Sys2Proof.Machine.execTjLimit die tj tenSeconds s
  | .fwActivateNow h clause => Sys2Proof.Machine.execFwActivateNow h clause s
  | .fwActivateNextStart h clause => Sys2Proof.Machine.execFwActivateNextStart h clause s
  | .coreHandoverDone passed => Sys2Proof.Machine.execCoreHandoverDone passed s
  | .vddqTimeout => Sys2Proof.Machine.execVddqTimeout s
  | .jtagInstruction instr => Sys2Proof.Machine.execJtagInstruction instr s
  | .sliceHardFault n => Sys2Proof.Machine.execSliceHardFault n s
  | .substReqMove h q c clause => Sys2Proof.Machine.execSubstReqMove h q c clause s
  | .substReqRestore h q clause => Sys2Proof.Machine.execSubstReqRestore h q clause s
  | .substShadowEnd q => Sys2Proof.Machine.execSubstShadowEnd q s
  | .substMatchDone q => Sys2Proof.Machine.execSubstMatchDone q s
  | .substFadeEnd q => Sys2Proof.Machine.execSubstFadeEnd q s
  | .coreWatchdogMiss core => Sys2Proof.Machine.execCoreWatchdogMiss core s
  | .sramRowRemap mem => Sys2Proof.Machine.execSramRowRemap mem s
  | .ageingMeasurement d ppm => Sys2Proof.Machine.execAgeingMeasurement d ppm s
  | .sealLoopSample ohms => Sys2Proof.Machine.execSealLoopSample ohms s
  | .seal h clause value => Sys2Proof.Machine.execSeal h clause value s
  | .sealingDone => Sys2Proof.Machine.execSealingDone s
  | .unseal h clause value => Sys2Proof.Machine.execUnseal h clause value s
  | .progActivate h clause value => Sys2Proof.Machine.execProgActivate h clause value s
  | .legalBlockCopy p block => Sys2Proof.Machine.execLegalBlockCopy p block s
  | .legalNotice n => Sys2Proof.Machine.execLegalNotice n s
  | .legalMissingTimeout p => Sys2Proof.Machine.execLegalMissingTimeout p s
  | .ampWatchdogMiss => Sys2Proof.Machine.execAmpWatchdogMiss s
  | .ampRestart h clause value => Sys2Proof.Machine.execAmpRestart h clause value s
  | .ampTimeUpdate => Sys2Proof.Machine.execAmpTimeUpdate s
  | .auditSel h clause value => Sys2Proof.Machine.execAuditSel h clause value s
  | .lrecPop h clause value => Sys2Proof.Machine.execLrecPop h clause value s
  | .dtlsAssociationEnd session => Sys2Proof.Machine.execDtlsAssociationEnd session s
  | .chainMemberLockRequest coordinator coordClause items => Sys2Proof.Machine.execChainMemberLockRequest coordinator coordClause items s
  | .chainMemberAnswer clause member order status => Sys2Proof.Machine.execChainMemberAnswer clause member order status s
  | .chainMemberAbandon coordinator coordClause => Sys2Proof.Machine.execChainMemberAbandon coordinator coordClause s
  | .unsealingDone => Sys2Proof.Machine.execUnsealingDone s
  | .ampouleRestartComplete => Sys2Proof.Machine.execAmpouleRestartComplete s
  | .sidebandTransferEnd die crcOk => Sys2Proof.Machine.execSidebandTransferEnd die crcOk s
  | .macLinkChange mac up => Sys2Proof.Machine.execMacLinkChange mac up s

end Sys2Proof.Machine
end

