-- ==== Sys2Proof/Safety.lean ====
section
/-! DEFINITION. The terms the statements use: the canonical form that makes equal registers, domains and memories equal
data; what a command leaves of the registers; and when a request of the Owner is served. -/

namespace Sys2Proof.Machine

/-- A register file and the domains in canonical form. -/
def filesWf (regs : RegFile) (doms : DomFile) : Bool :=
  alWf Reg.code dfltOf regs && alWf Reg.code (fun _ => []) doms

/-- The register file, the domains, DRAM and both copies of the configuration in MRAM are in canonical form. -/
def State.canonical (s : State) : Bool :=
  filesWf s.regs s.doms && Memory.wf s.dram.mem && filesWf s.mram.copyA.regs s.mram.copyA.doms
    && filesWf s.mram.copyB.regs s.mram.copyB.doms

/-- A step that goes on to a state. -/
def stepsTo (s t : State) : Prop := step s = .next t

/-- What a register reads after some registers have been given values and every other one kept. -/
def State.after (s : State) : List (Reg × Nat) → Reg → Nat
  | [], r => s.rd r
  | e :: l, r => if r = e.1 then e.2 else s.after l r

/-- The registers of `t` are those of `s` but for the ones listed, which have the values listed. -/
def Sets (s t : State) (l : List (Reg × Nat)) : Prop := ∀ r, t.rd r = s.after l r

/-- Every register is the same in two states but for the ones listed. -/
def RegsBut (s t : State) (l : List Reg) : Prop := ∀ r, r ∉ l → t.rd r = s.rd r

/-- What a counter reads after n more (R6; log entry 3 beyond its width). -/
def State.counted (s : State) (r : Reg) (n : Nat) : Nat :=
  if s.rd r + n < 2 ^ regBits r then s.rd r + n else Config.counterAfterMax r.code (s.rd r + n) % 2 ^ regBits r

/-- What one integrity event sets: its record in the ring, and EVT_SEQ (R340). -/
def State.logged (s : State) (check inst kind : Nat) : List (Reg × Nat) :=
  [(R.ev_EVENT (s.rd R.ig_EVT_SEQ % 64 + 1), eventRecord (s.rd R.ig_EVT_SEQ) (t64OfTicks s.now) check inst kind),
   (R.ig_EVT_SEQ, s.counted R.ig_EVT_SEQ 1)]

/-- The fields of the state. -/
inductive Field where
  | part | regs | doms | time | sessions | clauses | lastClause | canIn | forwarded | held | queues | dram | links
  | chans | quads | dieRefs | spares | paths | lehr | caps | segments | matrix | ctxs | jobs | lanes | mode
  | mram | cores | amp | poisoned | out | freeCount | pending
  deriving DecidableEq, Repr

/-- A field is the same in two states. -/
def State.same (s t : State) : Field → Prop
  | .part => t.part = s.part
  | .regs => t.regs = s.regs
  | .doms => t.doms = s.doms
  | .time => t.time = s.time
  | .sessions => t.sessions = s.sessions
  | .clauses => t.clauses = s.clauses
  | .lastClause => t.lastClause = s.lastClause
  | .canIn => t.canIn = s.canIn
  | .forwarded => t.forwarded = s.forwarded
  | .held => t.held = s.held
  | .queues => t.queues = s.queues
  | .dram => t.dram = s.dram
  | .links => t.links = s.links
  | .chans => t.chans = s.chans
  | .quads => t.quads = s.quads
  | .dieRefs => t.dieRefs = s.dieRefs
  | .spares => t.spares = s.spares
  | .paths => t.paths = s.paths
  | .lehr => t.lehr = s.lehr
  | .caps => t.caps = s.caps
  | .segments => t.segments = s.segments
  | .matrix => t.matrix = s.matrix
  | .ctxs => t.ctxs = s.ctxs
  | .jobs => t.jobs = s.jobs
  | .lanes => t.lanes = s.lanes
  | .mode => t.mode = s.mode
  | .mram => t.mram = s.mram
  | .cores => t.cores = s.cores
  | .amp => t.amp = s.amp
  | .poisoned => t.poisoned = s.poisoned
  | .out => t.out = s.out
  | .freeCount => t.freeCount = s.freeCount
  | .pending => t.pending = s.pending

/-- The fields of a request lie in the widths that Table 12-4 gives them. -/
def Req.wf : Req → Bool
  | .read i s c => i < 65536 && s < 256 && c < 256
  | .write i s c _ => i < 65536 && s < 256 && c < 256
  | .blockRead i s c o l => i < 65536 && s < 256 && c < 256 && o < 2 ^ 32 && l < 2 ^ 32
  | .blockWrite i s c o _ _ => i < 65536 && s < 256 && c < 256 && o < 2 ^ 32
  | .walk i s m => i < 65536 && s < 256 && m < 256
  | .clauseOpen l _ items => l < 2 ^ 32 && items.length < 256 && items.all fun x => x.idx < 65536 && x.sub < 256 && x.hub < 256
  | .clauseCommit c w => c < 256 && w < 2 ^ 64
  | .clauseAbandon c => c < 256
  | .subscribe q n => q < 65536 && n < 65536
  | .unsubscribe q => q < 65536
  | .abort k i => k < 256 && i < 65536

/-- Every field is the same in two states but for the ones listed. -/
structure Keeps (s t : State) (changed : List Field) : Prop where
  same : ∀ f, f ∉ changed → s.same t f

/-- A request of TYPE `typ` from the Owner, for this hub, on an open session of a running hub, that waits behind none and
repeats none of the sixteen requests answered last (R298 to R302). -/
structure OwnerAsks (s : State) (h : Hdr) (typ : Nat) : Prop where
  running : s.mode.coresRun = true
  started : s.mode.base ≠ .boot
  form : h.formOk = true
  here : h.remote = false
  hub : h.hub = 0
  opened : s.sessionOpen h.session = true
  standing : (s.session h.session).withdrawn = false
  owner : s.sessionTenant h.session = some 0
  ready : s.held = []
  answered : s.awaits h.session = false
  fresh : (s.session h.session).store.find? (fun e => e.typ == typ && e.tag == h.tag) = none

/-- No clause locks an entry, no bank that is being gated fences it, and the die that holds it can be reached (R30, R301
steps 7 and 9). -/
abbrev State.free_ (s : State) (r : Reg) : Prop := s.lockHolder r = none ∧ s.fenced r = false ∧ s.reachCode r = 0

/-- The words of the segment that was posted last. -/
def State.newestWords (s : State) : List Nat := ((s.segments.getLast?).map Segment.words).getD []

/-- No error injection rule is set, and none holds a unit (R293). -/
abbrev State.noInjection (s : State) : Prop := s.insts .injRule 0x01 = [] ∧ s.lanes.injHeld = [] ∧ s.lanes.injDelayed = []

/-- Is an output the coded bits of a block on a lane. -/
def Out.isLine : Out → Bool
  | .line _ _ => true
  | _ => false

/-- What has left the hub beside the coded bits on its lanes. -/
def State.said (s : State) : List Out := s.out.filter fun o => !o.isLine

/-- The response to a request on its session, with STATUS 0x0000 (Table 12-4). -/
def done (h : Hdr) (typ : Nat) (body : List Byte) : Out := .adp none h.session typ h.tag 0 false body

/-- A request of TYPE `typ` is answered with STATUS 0x0000 and a body: the registers listed are set, the session's
S_LAST_RX shows when the request came, and what is listed leaves the hub before the response. -/
def AnsweredWith (s t : State) (h : Hdr) (typ : Nat) (sets : List (Reg × Nat)) (outs : List Out) (body : List Byte) : Prop :=
  Sets s t (sets ++ [(R.se_S_LAST_RX h.session, s.now96)]) ∧ t.out = s.out ++ outs ++ [done h typ body]

/-- The same with no body. -/
def Served (s t : State) (h : Hdr) (typ : Nat) (sets : List (Reg × Nat)) (outs : List Out) : Prop :=
  AnsweredWith s t h typ sets outs []

/-- What is left when a request of TYPE `typ` from the Owner took the state `s` to `u`: its answers go out and are kept, and
what a jump of hub time makes due has run (R300, R313). -/
def State.answered (u s : State) (h : Hdr) (typ : Nat) (l : Answers) : State :=
  (u.reply ⟨h.session, some 0, h.tag, none⟩ typ l).afterJump s.now

/-- A request of TYPE `typ` is answered with a status other than 0x0000 and does nothing else (R301). -/
def Refused (s t : State) (h : Hdr) (typ code : Nat) : Prop :=
  Sets s t [(R.se_S_LAST_RX h.session, s.now96)] ∧ t.out = s.out ++ [.adp none h.session typ h.tag code false []]
    ∧ Keeps s t [.regs, .sessions, .out]

end Sys2Proof.Machine
end

