-- ==== Sys2Proof/Certificates/Slice0/Obligations.lean ====
section
/-! DEFINITION. The statements for the provers: what a step is, the encodings, the invariants, and for every family of
commands what each of them does. -/

open Sys2Proof Sys2Proof.Machine

/-- A step takes the command at the front of the queue and is exec of it with the queue's rest; every command answers
a next state. With nothing waiting one main-clock edge passes: a running time counter advances by INCR (R31; the edge
on an empty queue is the model's choice, log entry 47), and a unit whose DELAY has passed leaves, and nothing else
changes (R293; log entry 144). -/
def Obligations.StepRunsTheFront : Prop :=
  (∀ (s : State) (c : Instr) (l : List Instr), s.pending = c :: l → step s = exec c { s with pending := l }) ∧
  (∀ (s : State) (c : Instr), ∃ t, exec c s = .next t) ∧
  (∀ (s : State), s.pending = [] → s.time.running = true →
    ∃ t, step s = .next t ∧ t.time.ticks * 2 ^ 32 + t.time.frac = s.time.ticks * 2 ^ 32 + s.time.frac + s.rd R.tm_INCR
      ∧ t.time.frac < 2 ^ 32 ∧ t.time.edge = s.time.edge + 1 ∧ Keeps s t [.time, .lanes, .out]) ∧
  (∀ (s : State), s.pending = [] → s.time.running = true → (∀ e ∈ s.lanes.injDelayed, s.time.edge + 1 < e.1) →
    ∃ t, step s = .next t ∧ Keeps s t [.time]) ∧
  (∀ (s : State) (e : Nat) (o : Out), s.pending = [] → s.time.running = true → s.lanes.injDelayed = [(e, o)] →
    e ≤ s.time.edge + 1 → ∃ t, step s = .next t ∧ t.lanes.injDelayed = [] ∧ s.out.length < t.out.length
      ∧ Keeps s t [.time, .lanes, .out]) ∧
  (∀ (s : State), s.pending = [] → s.time.running = false → step s = .next s)

/-- R5: one tick is 2^-16 ns and a main-clock period is 40,000 ticks: after reset INCR is 40,000 ticks, and a step of
a running counter with that INCR and an empty queue advances hub time by exactly 40,000 ticks. -/
def Obligations.TickAndMainClock : Prop :=
  ticksPerNs = 2 ^ 16 ∧ State.reset.rd R.tm_INCR = 40000 * 2 ^ 32 ∧
  (∀ s : State, s.pending = [] → s.time.running = true → s.rd R.tm_INCR = 40000 * 2 ^ 32 → s.time.frac < 2 ^ 32 →
    ∃ t, step s = .next t ∧ t.time.ticks = s.time.ticks + 40000 ∧ t.time.frac = s.time.frac)

/-- R6: a T96 holds seconds in [95:48], nanoseconds in [45:16] and ticks of a nanosecond in [15:0], [47:46] zero:
every value in that form maps to one instant and back. A value with bits [47:46] or with nanoseconds of 1,000,000,000
or more is refused with 0x2021 in any entry that takes a T96, and so by a write of SET_TIME. -/
def Obligations.T96Values : Prop :=
  (∀ sec ns frac : Nat, ns < 1000000000 → frac < 65536 → sec < 2 ^ 48 →
    t96Valid (sec * 2 ^ 48 + ns * 2 ^ 16 + frac) = true
      ∧ ticksOfT96 (sec * 2 ^ 48 + ns * 2 ^ 16 + frac) = (sec * 1000000000 + ns) * 65536 + frac
      ∧ t96OfTicks ((sec * 1000000000 + ns) * 65536 + frac) = sec * 2 ^ 48 + ns * 2 ^ 16 + frac) ∧
  (∀ (w : Row) (v : Nat), w.ty = .t96 → v < 2 ^ 96 → 1000000000 ≤ v / 2 ^ 16 % 2 ^ 32 →
    decodeVal w (natLE 12 v) = .error 0x2021) ∧
  (∀ (s : State) (h : Hdr) (v : Nat), OwnerAsks s h 0x02 → s.part.fronts ≤ 7 → s.free_ R.tm_SET_TIME → v < 2 ^ 96 →
    1000000000 ≤ v / 2 ^ 16 % 2 ^ 32 →
    ∃ t, exec (.setTime h 0 (natLE 12 v)) s = .next t ∧ Refused s t h 0x02 0x2021)

/-- R7: a T64 is the low 64 bits of the tick count and wraps every 2^48 ns. A target within 2^47 ns of the present is
past exactly when it is at or before it; one more than 2^47 ns in the future is taken as past. -/
def Obligations.T64Targets : Prop :=
  (∀ n : Nat, t64OfTicks n = n % 2 ^ 64 ∧ t64OfTicks (n + 2 ^ 48 * ticksPerNs) = t64OfTicks n) ∧
  (∀ (now target : Nat), (target : Int) - now < 2 ^ 63 → -2 ^ 63 < (target : Int) - now →
    t64Diff (t64OfTicks target) now = (target : Int) - now ∧ (t64Past (t64OfTicks target) now = true ↔ target ≤ now)) ∧
  (∀ now k : Nat, 2 ^ 47 * ticksPerNs < k → k < 2 ^ 48 * ticksPerNs → t64Past (t64OfTicks (now + k)) now = true)

/-- Decode and encode agree (Table 12-4, R298, R299): the octets of every request whose fields lie in the widths of
Table 12-4 are read as that request, and the whole message of Table 12-3 that carries it as the request with its
header. -/
def Obligations.RequestRoundTrip : Prop :=
  (∀ q : Req, q.wf = true → parseReq q.typ q.more q.body = some q) ∧
  (∀ (q : Req) (tag : Nat), q.wf = true → q.formOk = true → tag < 65536 → q.body.length ≤ 16372 →
    State.messageReq (adpMessage q.typ tag 0 0 false q.more false 0 q.body) = some q)

/-- Every step keeps the form of the state: the register file, the domains, DRAM and both copies of the configuration
in MRAM stay in canonical form, so that equal contents are equal data; the part does not change, and of the queue only
the front is taken. -/
def Obligations.StepKeepsForm : Prop :=
  ∀ s t : State, s.canonical = true → step s = .next t → t.canonical = true ∧ t.part = s.part ∧ t.pending = s.pending.tail

/-- The state after reset has that form, an empty queue, and the values the manual gives: Boot, TIME_STATE 0 and INCR
of an unsteered counter (R31, R36, R321). INCR and the flags are the defaults of Table 2-5. -/
def Obligations.ResetState : Prop :=
  State.reset.canonical = true ∧ State.reset.pending = [] ∧ State.reset.mode.base = .boot ∧ State.reset.rd R.tm_TIME_STATE = 0 ∧
    State.reset.rd R.tm_INCR = 40000 * 2 ^ 32 ∧ State.reset.rd R.tm_STATE_FLAGS = 2 ∧ State.reset.dram.mem = []

/-- R369: EVENT_COUNT never falls: no command and no clock edge lowers it, from any state in which it is in its range
of 32 bits and no clause stages it; and such a state is left in such a state. -/
def Obligations.EventCountNeverFalls : Prop :=
  ∀ s t : State, s.rd R.am_EVENT_COUNT < 2 ^ 32 → (∀ c, ∀ e ∈ (s.clause c).staged, e.1 ≠ R.am_EVENT_COUNT) → step s = .next t →
    s.rd R.am_EVENT_COUNT ≤ t.rd R.am_EVENT_COUNT ∧ t.rd R.am_EVENT_COUNT < 2 ^ 32
      ∧ ∀ c, ∀ e ∈ (t.clause c).staged, e.1 ≠ R.am_EVENT_COUNT

/-- R14, R15, R27: a receiver at either end of a die link takes a flit whose check holds under the next number, if the
hub die has room for it, and at the hub die its words enter the die's elastic buffer, whose fill decides the credit; a
flit that fails is discarded, counted, and asked for again by its number; those of the first sending that still come
are discarded and not counted. A request for replay sends the failed flit and every later one again, in order, and
counts them. The link of a die that is off goes down with the last flit that the die sent. R14, R16, R22, R348: when
training ends both directions count from 0 again, the flits not yet taken go out under their new numbers, what a
transmitter held follows, and LINK_STATE says that the link works, or is down where its die is off. A window with no
more than one flit in 64 replayed marks nothing; one with more marks the link degraded and writes an integrity event.
The numbers of link streams, and what a receiver does with flits behind a failed one, are the model's choices (log
entries 20 and 134). -/
def Obligations.DieLinkFlits : Prop :=
  (∀ (s : State) (d : Nat) (b : Bool) (f : Flit), s.linkUp d = true →
    (s.linkDir d b).rxWait = false ∨ (s.linkDir d b).replaying = true →
    flitOk f (s.linkDir d b).rxSeq = true → b = false ∨ (4 ≤ flitType f ∧ s.rd (R.di_DIE_STATE (d - 1)) ≠ 0) →
    exec (.flitRx d b f) s = .next ((s.setLink d { s.link d with windowFlits := (s.link d).windowFlits + 1 }).setLinkDir d b
      { s.linkDir d b with rxSeq := ((s.linkDir d b).rxSeq + 1) % 4096, rxWait := false, replaying := false, behind := 0, fails := 0 })) ∧
  (∀ (s : State) (d : Nat) (f : Flit), s.linkUp d = true → (s.linkDir d true).rxWait = false ∨ (s.linkDir d true).replaying = true →
    flitOk f (s.linkDir d true).rxSeq = true → flitType f ≤ 3 → s.ebufOctets d + 4 * flitCount f ≤ 1048576 →
    ∃ t, exec (.flitRx d true f) s = .next t ∧ (t.linkDir d true).rxSeq = ((s.linkDir d true).rxSeq + 1) % 4096
      ∧ (t.linkDir d true).rxWait = false
      ∧ (t.link d).ebuf = (s.link d).ebuf ++ [⟨flitType f, flitStream f, flitStart f, flitEnd f, flitData f⟩]
      ∧ t.rd (R.di_EBUF_FILL (d - 1)) = s.ebufOctets d + 4 * flitCount f
      ∧ (t.link d).creditHeld = decide (917504 < s.ebufOctets d + 4 * flitCount f)
      ∧ t.rd (R.di_EBUF_PEAK (d - 1)) = max (s.rd (R.di_EBUF_PEAK (d - 1))) (s.ebufOctets d + 4 * flitCount f)
      ∧ (∀ k, k ≠ d → t.link k = s.link k)) ∧
  (∀ (s : State) (d : Nat) (f : Flit), s.linkUp d = true → (s.linkDir d true).rxWait = false ∨ (s.linkDir d true).replaying = true →
    flitOk f (s.linkDir d true).rxSeq = true → flitType f ≤ 3 → s.ebufOctets d + 4 * flitCount f ≤ 917504 →
    (s.link d).creditHeld = false → s.rd (R.di_DIE_STATE (d - 1)) ≠ 0 →
    ∃ t, exec (.flitRx d true f) s = .next t ∧ RegsBut s t [R.di_EBUF_FILL (d - 1), R.di_EBUF_PEAK (d - 1)]
      ∧ Keeps s t [.regs, .links]) ∧
  (∀ (s : State) (d : Nat) (b : Bool) (f : Flit), s.linkUp d = true → (s.linkDir d b).rxWait = false →
    (s.linkDir d b).replaying = false → flitOk f (s.linkDir d b).rxSeq = false →
    ∃ t, exec (.flitRx d b f) s = .next t
      ∧ Sets s t [(if b then R.di_CRC_ERR_IN (d - 1) else R.di_CRC_ERR_OUT (d - 1),
          s.counted (if b then R.di_CRC_ERR_IN (d - 1) else R.di_CRC_ERR_OUT (d - 1)) 1)]
      ∧ t.linkDir d b = { s.linkDir d b with rxWait := true, behind := 0, fails := 0 } ∧ t.linkDir d (!b) = s.linkDir d (!b)
      ∧ (t.link d).windowFlits = (s.link d).windowFlits + 1
      ∧ (∀ k, k ≠ d → t.link k = s.link k) ∧ t.out = s.out ++ [.replayRequest d b (s.linkDir d b).rxSeq]
      ∧ Keeps s t [.regs, .links, .out]) ∧
  (∀ (s : State) (d seq n : Nat) (b : Bool), s.linkUp d = true → s.noInjection → 1 ≤ n → n ≤ (s.linkDir d b).history.length →
    ((s.linkDir d b).txSeq + 4096 - seq % 4096) % 4096 = n →
    ∃ t, exec (.linkReplayRequest d b seq) s = .next t
      ∧ Sets s t [(R.di_REPLAYS (d - 1), s.counted (R.di_REPLAYS (d - 1)) n)]
      ∧ t.linkDir d b = { s.linkDir d b with
          replaying := (s.linkDir d b).rxWait, behind := n - 1 - (s.linkDir d b).behind } ∧ t.linkDir d (!b) = s.linkDir d (!b)
      ∧ (t.link d).windowReplays = (s.link d).windowReplays + n
      ∧ t.out = s.out ++ (lastN n (s.linkDir d b).history).map (Out.flit d b) ∧ Keeps s t [.regs, .links, .out]) ∧
  (∀ (s : State) (d : Nat) (b : Bool) (f : Flit), s.linkUp d = true → (s.linkDir d b).rxWait = true →
    (s.linkDir d b).replaying = true → 1 ≤ (s.linkDir d b).behind → flitOk f (s.linkDir d b).rxSeq = false →
    exec (.flitRx d b f) s = .next ((s.setLink d { s.link d with windowFlits := (s.link d).windowFlits + 1 }).setLinkDir d b
      { s.linkDir d b with behind := (s.linkDir d b).behind - 1 })) ∧
  (∀ (s : State) (d : Nat) (f : Flit), s.linkUp d = true → (s.linkDir d true).rxWait = false → s.rd (R.di_DIE_STATE (d - 1)) = 0 →
    flitOk f (s.linkDir d true).rxSeq = true → s.ebufOctets d + 4 * flitCount f ≤ 1048576 →
    (s.linkDir d true).held = [] → ((s.linkDir d true).rxSeq + 1) % 4096 = (s.linkDir d true).txSeq →
    ∃ t, exec (.flitRx d true f) s = .next t ∧ t.rd (R.di_LINK_STATE (d - 1)) = 0) ∧
  (∀ (s : State) (d : Nat), 1 ≤ d → d ≤ s.part.fronts → s.rd (R.di_LINK_STATE (d - 1)) = 1 ∨ s.rd (R.di_LINK_STATE (d - 1)) = 4 →
    s.rd (R.di_DIE_STATE (d - 1)) ≠ 3 → (∀ b, (s.linkDir d b).txSeq = (s.linkDir d b).rxSeq) → (∀ b, (s.linkDir d b).held = []) →
    ∃ t, exec (.linkRetrainDone d) s = .next t
      ∧ Sets s t [(R.di_LINK_STATE (d - 1), if s.rd (R.di_DIE_STATE (d - 1)) = 0 then 0 else s.linkUpState d)]
      ∧ (∀ b, t.linkDir d b = LinkDir.init) ∧ (t.link d).downSince = none ∧ (∀ k, k ≠ d → t.link k = s.link k)
      ∧ Keeps s t [.regs, .links]) ∧
  (∀ (s : State) (d : Nat) (f : Flit), 1 ≤ d → d ≤ s.part.fronts →
    s.rd (R.di_LINK_STATE (d - 1)) = 1 ∨ s.rd (R.di_LINK_STATE (d - 1)) = 4 → s.rd (R.di_DIE_STATE (d - 1)) ≠ 3 →
    s.noInjection → (s.linkDir d true).txSeq = ((s.linkDir d true).rxSeq + 1) % 4096 → (s.linkDir d true).rxSeq < 4096 →
    (s.linkDir d true).history.getLast? = some f → (∀ b, (s.linkDir d b).held = []) →
    (s.linkDir d false).txSeq = (s.linkDir d false).rxSeq →
    ∃ t, exec (.linkRetrainDone d) s = .next t ∧ t.out = s.out ++ [.flit d true (reseal f 0)]
      ∧ (t.linkDir d true).rxSeq = 0 ∧ (t.linkDir d true).txSeq = 1 ∧ (t.linkDir d true).history = [reseal f 0]
      ∧ Sets s t [(R.di_LINK_STATE (d - 1), s.linkUpState d)] ∧ Keeps s t [.regs, .links, .out]) ∧
  (∀ (s : State) (d : Nat), 64 * (s.link d).windowReplays ≤ (s.link d).windowFlits →
    exec (.linkReplayWindow d) s = .next (s.setLink d { s.link d with
      windowFlits := 0, windowReplays := 0, degraded := false })) ∧
  (∀ (s : State) (d : Nat), (s.link d).windowFlits < 64 * (s.link d).windowReplays → s.rd R.ig_EVT_SEQ + 4 < 2 ^ 32 →
    ∃ t, exec (.linkReplayWindow d) s = .next t ∧ (t.link d).degraded = true ∧ (t.link d).windowFlits = 0
      ∧ (t.link d).windowReplays = 0 ∧ s.rd R.ig_EVT_SEQ < t.rd R.ig_EVT_SEQ
      ∧ t.rd (R.ev_EVENT (s.rd R.ig_EVT_SEQ % 64 + 1)) = eventRecord (s.rd R.ig_EVT_SEQ) (t64OfTicks s.now) 1 d 2
      ∧ (∀ k, k ≠ d → t.link k = s.link k) ∧ Keeps s t [.regs, .links, .freeCount])

/-- R19: a side starts a transfer on the idle wires; when both ask in one cycle, or the hub die before the front die's
first data cycle, the hub die proceeds and the collision is counted, and the front die proceeds when its backoff has
passed, with no collision. A good transfer is delivered and ends; a failed one stays and is repeated. A write of the
hub die to an entry behind a fence does not start (R115). The target of a transfer is INDEX x 256 + SUB, the model's
choice (log entry 33). -/
def Obligations.Sideband : Prop :=
  (∀ (s : State) (d : Nat) (m : SbMsg) (e : Bool), (s.link d).sbPhase = .idle → (s.link d).sbHub = [] → (s.link d).sbFront = [] →
    s.sbFenced m = true →
    ∃ t, exec (.sidebandRequest d (some m) none e) s = .next t ∧ t.link d = s.link d ∧ Keeps s t [.links]) ∧
  (∀ (s : State) (d : Nat) (m : SbMsg) (e : Bool), (s.link d).sbPhase = .idle → (s.link d).sbHub = [] → (s.link d).sbFront = [] →
    s.sbFenced m = false →
    exec (.sidebandRequest d (some m) none e) s = .next (s.setLink d { s.link d with sbPhase := .hub, sbHub := [m] })) ∧
  (∀ (s : State) (d : Nat) (m : SbMsg) (e : Bool), (s.link d).sbPhase = .idle → (s.link d).sbHub = [] → (s.link d).sbFront = [] →
    exec (.sidebandRequest d none (some m) e) s = .next (s.setLink d { s.link d with sbPhase := .front, sbFront := [m] })) ∧
  (∀ (s : State) (d : Nat) (m n : SbMsg) (e : Bool), (s.link d).sbPhase = .idle → (s.link d).sbHub = [] → (s.link d).sbFront = [] →
    s.sbFenced m = false →
    ∃ t, exec (.sidebandRequest d (some m) (some n) e) s = .next t
      ∧ t.link d = { s.link d with sbPhase := .hub, sbWithdrawn := true, sbHub := [m], sbFront := [n] }
      ∧ Sets s t [(R.di_SB_COLLISIONS (d - 1), s.counted (R.di_SB_COLLISIONS (d - 1)) 1)] ∧ Keeps s t [.regs, .links]) ∧
  (∀ (s : State) (d : Nat) (m : SbMsg), (s.link d).sbPhase = .front → (s.link d).sbHub = [] →
    s.sbFenced m = false →
    ∃ t, exec (.sidebandRequest d (some m) none true) s = .next t
      ∧ t.link d = { s.link d with sbPhase := .hub, sbWithdrawn := true, sbHub := [m] }
      ∧ Sets s t [(R.di_SB_COLLISIONS (d - 1), s.counted (R.di_SB_COLLISIONS (d - 1)) 1)] ∧ Keeps s t [.regs, .links]) ∧
  (∀ (s : State) (d : Nat), (s.link d).sbPhase = .backoff →
    exec (.sidebandBackoffExpiry d) s = .next (s.setLink d { s.link d with sbPhase := .retry })) ∧
  (∀ (s : State) (d : Nat) (m : SbMsg), (s.link d).sbPhase = .retry → s.sbFenced m = false →
    exec (.sidebandRequest d (some m) none true) s = .next (s.setLink d { s.link d with sbHub := (s.link d).sbHub ++ [m] })) ∧
  (∀ (s : State) (d : Nat) (m : SbMsg) (l : List SbMsg), (s.link d).sbPhase = .hub → (s.link d).sbHub = m :: l →
    exec (.sidebandTransferEnd d false) s = .next (s.emit (.sideband d m.target m.data))) ∧
  (∀ (s : State) (d : Nat) (m : SbMsg), (s.link d).sbPhase = .hub → (s.link d).sbWithdrawn = false → (s.link d).sbHub = [m] →
    (s.link d).sbFront = [] →
    exec (.sidebandTransferEnd d true) s = .next (((s.emit (.sideband d m.target m.data)).setLink d
      { s.link d with sbPhase := .idle, sbHub := [] }).sidebandApply d m.target m.data)) ∧
  (∀ (s : State) (d : Nat) (m : SbMsg), (s.link d).sbPhase = .front ∨ (s.link d).sbPhase = .retry → (s.link d).sbFront = [m] → (s.link d).sbHub = [] →
    exec (.sidebandTransferEnd d true) s = .next (((s.emit (.sideband d m.target m.data)).setLink d
      { s.link d with sbPhase := .idle, sbFront := [] }).sidebandApply d m.target m.data)) ∧
  (∀ (s : State) (d v : Nat), (s.link d).sbPhase = .hub → (s.link d).sbWithdrawn = false → 1 ≤ d → d ≤ s.part.fronts → d ≤ 7 →
    (s.link d).sbHub = [⟨(Grp.die.base + (d - 1)) * 256 + (R.di_SLIP_LIMIT 0).sub, natLE 4 v⟩] → (s.link d).sbFront = [] →
    v < 2 ^ 32 →
    ∃ t, exec (.sidebandTransferEnd d true) s = .next t ∧ (t.link d).sbPhase = .idle ∧ (t.link d).sbHub = []
      ∧ Sets s t [(R.di_SLIP_LIMIT (d - 1), v)] ∧ Keeps s t [.regs, .links, .out])

/-- R21, R27, R28, R29, R337: a fabric word that fails its parity once is sent again and only counted; one that fails
again is counted as poisoned, logged and raised as 0x7141, and spoils what takes it (a controller's next write, R337).
A die whose lag exceeds its slip limit takes the next step of R28 (a step that finds nothing to stop shows in
SHED_LEVEL and SHED_EVENTS alone); one that lags less than half of it takes the last step back. EBUF_PEAK_CLR clears
EBUF_PEAK. The load of a fabric port that is counted is the model's choice (log entry 37). -/
def Obligations.FabricAndShedding : Prop :=
  (∀ (s : State) (port dest : Nat), ∃ t, exec (.fabricParityError port dest false) s = .next t
    ∧ Sets s t [(R.ig_FABRIC_PARITY, s.counted R.ig_FABRIC_PARITY 1)] ∧ Keeps s t [.regs]) ∧
  (∀ (s : State) (port dest : Nat), dest ≠ 12 ∨ 7 ≤ port → dest < 7 ∨ 10 < dest →
    ∃ t, exec (.fabricParityError port dest true) s = .next t
      ∧ t.rd R.ig_FABRIC_PARITY = s.counted R.ig_FABRIC_PARITY 1 ∧ t.rd R.ig_FABRIC_POISON = s.counted R.ig_FABRIC_POISON 1
      ∧ t.rd (R.ev_EVENT (s.rd R.ig_EVT_SEQ % 64 + 1)) = eventRecord (s.rd R.ig_EVT_SEQ) (t64OfTicks s.now) 3 dest 1
      ∧ t.rd R.ig_EVT_SEQ = s.counted R.ig_EVT_SEQ 1 ∧ t.out = s.out ++ [.raised 0x7141 dest]
      ∧ t.poisoned = (s.poisoned || dest == 14)
      ∧ RegsBut s t [R.ig_FABRIC_PARITY, R.ig_FABRIC_POISON, R.ig_EVT_SEQ, R.ev_EVENT (s.rd R.ig_EVT_SEQ % 64 + 1)]
      ∧ Keeps s t [.regs, .out, .poisoned]) ∧
  (∀ (s : State) (port c : Nat), c < 4 →
    ∃ t, exec (.fabricParityError port (7 + c) true) s = .next t
      ∧ t.dramCh c = { s.dramCh c with poisoned := true } ∧ (∀ k, k ≠ c → t.dramCh k = s.dramCh k)
      ∧ t.out = s.out ++ [.raised 0x7141 (7 + c)] ∧ t.rd R.ig_FABRIC_POISON = s.counted R.ig_FABRIC_POISON 1
      ∧ RegsBut s t [R.ig_FABRIC_PARITY, R.ig_FABRIC_POISON, R.ig_EVT_SEQ, R.ev_EVENT (s.rd R.ig_EVT_SEQ % 64 + 1)]
      ∧ Keeps s t [.regs, .dram, .out]) ∧
  (∀ (s : State) (port : Nat) (e : FlitRec) (l : List FlitRec), port < 7 → (s.link (port + 1)).ebuf = e :: l →
    ∃ t, exec (.fabricParityError port 12 true) s = .next t
      ∧ (t.link (port + 1)).ebuf = { e with words := poisonWords e.words } :: l
      ∧ t.rd R.ig_FABRIC_POISON = s.counted R.ig_FABRIC_POISON 1 ∧ t.poisoned = s.poisoned) ∧
  (∀ (s : State) (d lag : Nat), s.rd (R.di_SLIP_LIMIT (d - 1)) < lag → s.rd (R.di_SHED_LEVEL (d - 1)) < 3 →
    exec (.slipLimitShed d lag) s = .next (((s.showLag d lag).shedStep d (s.rd (R.di_SHED_LEVEL (d - 1)) + 1)).count
      (R.di_SHED_EVENTS (d - 1)) 1)) ∧
  (∀ (s : State) (d lag : Nat), 2 * lag < s.rd (R.di_SLIP_LIMIT (d - 1)) → s.rd (R.di_SHED_LEVEL (d - 1)) ≠ 0 →
    exec (.shedRestore d lag) s = .next ((s.showLag d lag).unshedStep d (s.rd (R.di_SHED_LEVEL (d - 1))))) ∧
  (∀ (s : State) (d lag : Nat), s.rd (R.di_SLIP_LIMIT (d - 1)) < lag → lag < 2 ^ 32 → s.rd (R.di_SHED_LEVEL (d - 1)) = 0 →
    s.rawChannels d = [] →
    ∃ t, exec (.slipLimitShed d lag) s = .next t
      ∧ Sets s t [(R.di_LAG (d - 1), lag), (R.di_SHED_LEVEL (d - 1), 1),
          (R.di_SHED_EVENTS (d - 1), s.counted (R.di_SHED_EVENTS (d - 1)) 1)] ∧ Keeps s t [.regs]) ∧
  (∀ (s : State) (d lag : Nat), 2 * lag < s.rd (R.di_SLIP_LIMIT (d - 1)) → lag < 2 ^ 32 →
    s.rd (R.di_SHED_LEVEL (d - 1)) = 1 → s.rawChannels d = [] →
    ∃ t, exec (.shedRestore d lag) s = .next t
      ∧ Sets s t [(R.di_LAG (d - 1), lag), (R.di_SHED_LEVEL (d - 1), 0)] ∧ Keeps s t [.regs]) ∧
  (∀ (s : State) (h : Hdr) (d : Nat), OwnerAsks s h 0x02 → 1 ≤ d → d ≤ s.part.fronts → d ≤ 7 →
    s.free_ (R.di_EBUF_PEAK_CLR (d - 1)) →
    ∃ t, exec (.ebufPeakClr h d 0 [1#8]) s = .next t ∧ Served s t h 0x02 [(R.di_EBUF_PEAK (d - 1), 0)] []
      ∧ Keeps s t [.regs, .sessions, .out])

/-- R35, R36, R44, Table 2-1: what ends ACQUIRING, the frequency limit and the loss of REFCLK, and what follows when
it is back. LOCK_WINDOW_ELAPSED takes an ACQUIRING hub inside its window to LOCKED; FREQ_LIMIT_CLEAR clears
STATE_FLAGS bit 3; REFCLK_LOST sets bit 2 and takes ACQUIRING and LOCKED to HOLDOVER at the present time;
REFCLK_RELOCK clears bit 2 and takes HOLDOVER to ACQUIRING where the selected source is inside the step threshold and
no step is pending. PPS_OUT goes low where its condition ends. -/
def Obligations.TimeStateChanges : Prop :=
  (∀ s : State, s.rd R.tm_TIME_STATE = 1 → (s.rdI R.tm_OFFSET 64).natAbs < s.rd R.tm_LOCK_WINDOW * ticksPerNs →
    ∃ t, exec .lockWindowElapsed s = .next t ∧ Sets s t [(R.tm_TIME_STATE, 2)] ∧ Keeps s t [.regs, .time, .out]
      ∧ t.time.ticks = s.time.ticks) ∧
  (∀ s : State, s.rd R.tm_SRC_SELECTED ≠ 0 → s.time.integ.natAbs < 100000000 →
    ∃ t, exec .freqLimitClear s = .next t
      ∧ Sets s t [(R.tm_STATE_FLAGS, putBit (s.rd R.tm_STATE_FLAGS) 3 false)] ∧ Keeps s t [.regs]) ∧
  (∀ s : State, s.rd R.tm_TIME_STATE = 1 ∨ s.rd R.tm_TIME_STATE = 2 →
    ∃ t, exec .refclkLost s = .next t ∧ t.rd R.tm_TIME_STATE = 3 ∧ t.rd R.tm_HOLDOVER_SINCE = s.now96
      ∧ t.rd R.cb_REFCLK_OK = 0 ∧ bitAt (t.rd R.tm_STATE_FLAGS) 2 = true
      ∧ RegsBut s t [R.tm_TIME_STATE, R.tm_HOLDOVER_SINCE, R.cb_REFCLK_OK, R.tm_STATE_FLAGS, R.tm_FREQ_ADJ, R.tm_INCR]
      ∧ Keeps s t [.regs, .time, .mode, .out] ∧ t.time.ticks = s.time.ticks) ∧
  (∀ s : State, s.rd R.tm_TIME_STATE = 0 ∨ s.rd R.tm_TIME_STATE = 3 →
    ∃ t, exec .refclkLost s = .next t ∧ t.mode.refclk = false
      ∧ Sets s t [(R.cb_REFCLK_OK, 0), (R.tm_STATE_FLAGS, putBit (s.rd R.tm_STATE_FLAGS) 2 true)] ∧ Keeps s t [.regs, .mode]) ∧
  (∀ s : State,
    ∃ t, exec .refclkRelock s = .next t ∧ t.mode.refclk = true
      ∧ Sets s t ((if s.rd R.tm_TIME_STATE = 3 ∧ s.rd R.tm_SRC_SELECTED ≠ 0 ∧ s.stepPending = false
            ∧ s.withinStep (s.source (s.rd R.tm_SRC_SELECTED)).offset = true then [(R.tm_TIME_STATE, 1)] else [])
          ++ [(R.cb_REFCLK_OK, 1), (R.tm_STATE_FLAGS, putBit (s.rd R.tm_STATE_FLAGS) 2 false)])
      ∧ Keeps s t [.regs, .time, .mode, .out] ∧ t.time.ticks = s.time.ticks)

/-- R38, R39, R60: a measurement of a source that is not selected is noted and steers nothing; one of the selected
source above the step threshold is discarded until STEP_PERSIST have come in a row, and the last of them is refused:
its offset stands in PENDING_STEP, STATE_FLAGS bit 0 is set, STEP_REFUSED counts and the hub enters HOLDOVER; one
within the threshold enters the loop and takes HOLDOVER to ACQUIRING (one that asks for no more than ±100 ppm).
PPS_IN_EDGE shows the edge in PPS_IN_LAST and counts it, and is a measurement of source 6. R38: a source that may
qualify and stands first in SRC_PRIORITY is qualified and selected, whatever was selected before (with hub time set,
and an offset that asks for no more than ±100 ppm); a selected source that is disqualified while no other is qualified
leaves none selected and takes ACQUIRING and LOCKED to HOLDOVER. STATE_FLAGS bit 1 shows which. Breimlink is
disqualified once both its directions are lost (R48). The sampled form of the loop is the model's choice (log entry
4). -/
def Obligations.Measurements : Prop :=
  (∀ (s : State) (c : Nat) (off : Int), 1 ≤ c → c ≤ 6 → s.rd R.tm_SRC_SELECTED ≠ c →
    ∃ t, exec (.timeMeasurement c off) s = .next t
      ∧ t.source c = { s.source c with seen := true, offset := off, last := s.time.edge }
      ∧ (∀ k, k ≠ c → t.source k = s.source k)
      ∧ RegsBut s t [R.bl_SEL_DIR, R.bl_HOPS, R.bl_GM_ADDR] ∧ Keeps s t [.regs, .time] ∧ t.time.ticks = s.time.ticks) ∧
  (∀ (s : State) (c : Nat) (off : Int), 1 ≤ c → c ≤ 6 → s.rd R.tm_SRC_SELECTED = c → s.refclkLostNow = false →
    s.rd R.tm_TIME_STATE = 1 ∨ s.rd R.tm_TIME_STATE = 2 → s.stepPending = false → s.withinStep off = false →
    ∃ t, exec (.timeMeasurement c off) s = .next t ∧ t.time.ticks = s.time.ticks ∧
      (if s.time.run + 1 < s.rd R.tm_STEP_PERSIST then
        t.time.run = s.time.run + 1 ∧ RegsBut s t [R.bl_SEL_DIR, R.bl_HOPS, R.bl_GM_ADDR]
      else
        t.time.run = 0 ∧ t.rd R.tm_TIME_STATE = 3 ∧ t.rd R.tm_PENDING_STEP = ofSigned 64 off
          ∧ bitAt (t.rd R.tm_STATE_FLAGS) 0 = true ∧ t.rd R.tm_STEP_REFUSED = s.counted R.tm_STEP_REFUSED 1
          ∧ t.rd R.tm_HOLDOVER_SINCE = s.now96)) ∧
  (∀ (s : State) (c : Nat) (off : Int), 1 ≤ c → c ≤ 6 → s.rd R.tm_SRC_SELECTED = c → s.refclkLostNow = false →
    1 ≤ s.rd R.tm_TIME_STATE → s.rd R.tm_TIME_STATE ≤ 3 → s.stepPending = false → s.withinStep off = true →
    (s.loopWant off).natAbs ≤ 100000000 →
    ∃ t, exec (.timeMeasurement c off) s = .next t ∧ t.time.ticks = s.time.ticks ∧ t.time.run = 0
      ∧ t.rd R.tm_TIME_STATE = (if s.rd R.tm_TIME_STATE = 3 then 1 else s.rd R.tm_TIME_STATE)
      ∧ t.rd R.tm_OFFSET = ofSigned 64 (s.loopFiltered off) ∧ t.time.integ = s.loopWant off
      ∧ RegsBut s t [R.tm_TIME_STATE, R.tm_OFFSET, R.tm_FREQ_ADJ, R.tm_INCR, R.tm_STATE_FLAGS, R.tm_OUTLIERS,
          R.bl_SEL_DIR, R.bl_HOPS, R.bl_GM_ADDR] ∧ Keeps s t [.regs, .time, .out]) ∧
  (∀ (s : State) (p : Nat), s.rd R.la_PPS_IN_EN ≠ 0 → s.rd R.tm_SRC_SELECTED ≠ 6 →
    ∃ t, exec (.ppsInEdge p) s = .next t ∧ t.rd R.la_PPS_IN_LAST = t96OfTicks p
      ∧ t.rd R.la_PPS_IN_COUNT = s.counted R.la_PPS_IN_COUNT 1 ∧ t.time.lastPps = lastN 4 (s.time.lastPps ++ [p])
      ∧ RegsBut s t [R.la_PPS_IN_LAST, R.la_PPS_IN_COUNT, R.bl_SEL_DIR, R.bl_HOPS, R.bl_GM_ADDR]
      ∧ Keeps s t [.regs, .time] ∧ t.time.ticks = s.time.ticks) ∧
  (∀ (s u : State) (p : Nat) (x : Int), s.rd R.la_PPS_IN_EN ≠ 0 → x = (p : Int) - s.rdI R.la_PPS_IN_OFFSET 32 →
    u = ((s.wr R.la_PPS_IN_LAST (t96OfTicks p)).count R.la_PPS_IN_COUNT 1).putTime
      { s.time with lastPps := lastN 4 (s.time.lastPps ++ [p]) } →
    exec (.ppsInEdge p) s
      = .next ((u.measure 6 ((2 * x + ticksPerSec) / (2 * ticksPerSec) * ticksPerSec - x)).jumpClauses s)) ∧
  (∀ (s : State) (c : Nat), 1 ≤ c → c ≤ 7 → s.mayQualify c = true → s.rd R.tm_TIME_STATE ≠ 0 →
    (priorityList (s.rd R.tm_SRC_PRIORITY)).head? = some c →
    s.rd R.tm_SRC_SELECTED = c ∨ ((s.wr R.tm_SRC_SELECTED c).loopWant (s.source c).offset).natAbs ≤ 100000000 →
    ∃ t, exec (.sourceQualified c) s = .next t ∧ (t.source c).qualified = true ∧ t.rd R.tm_SRC_SELECTED = c
      ∧ bitAt (t.rd R.tm_STATE_FLAGS) 1 = false ∧ t.time.ticks = s.time.ticks) ∧
  (∀ (s : State) (c : Nat), 2 ≤ c → c ≤ 7 → exec (.sourceDisqualified c) s = .next ((s.disqualify c).jumpClauses s)) ∧
  (∀ s : State, s.bestDir < 2 → (s.loseDir s.bestDir).bestDir < 2 →
    exec (.sourceDisqualified 1) s = .next (s.loseDir s.bestDir)) ∧
  (∀ (s : State) (c : Nat), 1 ≤ c → c ≤ 7 → c ≠ 1 ∨ 2 ≤ s.bestDir → s.rd R.tm_SRC_SELECTED = c →
    s.rd R.tm_TIME_STATE = 1 ∨ s.rd R.tm_TIME_STATE = 2 →
    (∀ k ∈ priorityList (s.rd R.tm_SRC_PRIORITY), k ≠ c → (s.source k).qualified = false) →
    ∃ t, exec (.sourceDisqualified c) s = .next t ∧ (t.source c).qualified = false ∧ t.rd R.tm_SRC_SELECTED = 0
      ∧ t.rd R.tm_TIME_STATE = 3 ∧ bitAt (t.rd R.tm_STATE_FLAGS) 1 = true ∧ t.rd R.tm_HOLDOVER_SINCE = s.now96
      ∧ t.time.ticks = s.time.ticks)

/-- R37, R40, R41, R42, R53, R54: the actions on hub time and on the transmit timestamps. With hub time UNSET a valid
SET_TIME sets it, goes to ACQUIRING where a source is qualified, and is noticed (Table 15-4); ACCEPT_STEP of a value
within 100 ns of PENDING_STEP applies the pending step, clears STATE_FLAGS bit 0, counts and goes to ACQUIRING.
TXTS_POP drops the oldest entry of a MAC's queue, and TXTS_STICKY_CLR clears the flag. (The frames are for a hub on
which no time trigger, path, capture or scheduled clause stands by and PPS_OUT is low, so that nothing else follows
the jump.) -/
def Obligations.TimeActions : Prop :=
  (∀ (s : State) (h : Hdr) (v : Nat), OwnerAsks s h 0x02 → s.part.fronts ≤ 7 → s.free_ R.tm_SET_TIME →
    v < 2 ^ 96 → t96Valid v = true → s.rd R.tm_TIME_STATE = 0 →
    exec (.setTime h 0 (natLE 12 v)) s = .next ((((s.touch h.session).setHubTime ((ticksOfT96 v : Int) - s.now) 0).settleDir).answered
      s h 0x02 (answer 0))) ∧
  (∀ (s : State) (h : Hdr) (v : Nat), OwnerAsks s h 0x02 → s.part.fronts ≤ 7 → s.free_ R.tm_SET_TIME →
    v < 2 ^ 96 → t96Valid v = true → s.rd R.tm_TIME_STATE = 0 → s.rd R.tm_SRC_SELECTED ≠ 0 → s.refclkLostNow = false →
    s.part.amp = true → (∀ k, s.rd (R.tr_ENABLE k) = 0) → s.time.ppsHigh = false → (∀ e ∈ s.paths, e.2.live = false) →
    s.capChannels = [] →
    (∀ c, s.rd (R.cs_CL_STATE c) ≠ 2) →
    ∃ t, exec (.setTime h 0 (natLE 12 v)) s = .next t ∧ t.time.ticks = ticksOfT96 v ∧ t.rd R.tm_TIME_STATE = 1
      ∧ t.out = s.out ++ [.notice (.timeSet 0 (ticksOfT96 v)), done h 0x02 []]
      ∧ RegsBut s t [R.tm_TIME_STATE, R.bl_SEL_DIR, R.bl_HOPS, R.bl_GM_ADDR, R.se_S_LAST_RX h.session]
      ∧ Keeps s t [.regs, .time, .sessions, .out]) ∧
  (∀ (s u : State) (h : Hdr) (v : Nat), OwnerAsks s h 0x02 → s.part.fronts ≤ 7 → s.free_ R.tm_ACCEPT_STEP →
    v < 2 ^ 64 → s.stepPending = true → (toSigned 64 v - s.rdI R.tm_PENDING_STEP 64).natAbs ≤ 6553600 →
    s.withinStep (s.rdI R.tm_PENDING_STEP 64) = false →
    u = (((s.touch h.session).wrBit R.tm_STATE_FLAGS 0 false).jumpTime (s.rdI R.tm_PENDING_STEP 64) 2).count
      R.tm_STEPS_ACCEPTED 1 →
    exec (.acceptStep h 0 (natLE 8 v)) s
      = .next (((let w := u.legalNotice (.stepAccepted 0 s.now (toSigned 64 v) (s.rdI R.tm_PENDING_STEP 64));
          if w.refclkLostNow then w else w.setTimeState 1).settleDir).answered s h 0x02 (answer 0))) ∧
  (∀ (s : State) (h : Hdr) (v : Nat), OwnerAsks s h 0x02 → s.part.fronts ≤ 7 → s.free_ R.tm_ACCEPT_STEP →
    v < 2 ^ 64 → s.stepPending = true → s.refclkLostNow = false → (toSigned 64 v - s.rdI R.tm_PENDING_STEP 64).natAbs ≤ 6553600 →
    s.withinStep (s.rdI R.tm_PENDING_STEP 64) = false → 0 ≤ (s.now : Int) + s.rdI R.tm_PENDING_STEP 64 →
    s.part.amp = true → (∀ k, s.rd (R.tr_ENABLE k) = 0) → s.time.ppsHigh = false → (∀ e ∈ s.paths, e.2.live = false) →
    s.capChannels = [] →
    (∀ c, s.rd (R.cs_CL_STATE c) ≠ 2) →
    ∃ t, exec (.acceptStep h 0 (natLE 8 v)) s = .next t
      ∧ (t.time.ticks : Int) = s.now + s.rdI R.tm_PENDING_STEP 64
      ∧ t.rd R.tm_TIME_STATE = 1 ∧ t.rd R.tm_STEPS_ACCEPTED = s.counted R.tm_STEPS_ACCEPTED 1
      ∧ t.rd R.tm_STATE_FLAGS = putBit (s.rd R.tm_STATE_FLAGS) 0 false
      ∧ RegsBut s t [R.tm_TIME_STATE, R.tm_STEPS_ACCEPTED, R.tm_STATE_FLAGS, R.bl_SEL_DIR, R.bl_HOPS, R.bl_GM_ADDR,
          R.se_S_LAST_RX h.session]
      ∧ t.out = s.out ++ [.notice (.stepAccepted 0 s.now (toSigned 64 v) (s.rdI R.tm_PENDING_STEP 64)), done h 0x02 []]
      ∧ Keeps s t [.regs, .time, .sessions, .out]) ∧
  (∀ (s : State) (h : Hdr) (m : Nat), OwnerAsks s h 0x02 → m < 4 → s.part.fronts ≤ 7 → s.free_ (R.pt_TXTS_POP m) →
    ∃ t, exec (.txtsPop h m 0 [1#8]) s = .next t ∧ (t.ptp m).stamps = (s.ptp m).stamps.drop 1
      ∧ (∀ k, k ≠ m → t.ptp k = s.ptp k) ∧ t.time.ticks = s.time.ticks
      ∧ Served s t h 0x02 [] [] ∧ Keeps s t [.regs, .time, .sessions, .out]) ∧
  (∀ (s : State) (h : Hdr) (m : Nat), OwnerAsks s h 0x02 → m < 4 → s.part.fronts ≤ 7 →
    s.free_ (R.pt_TXTS_STICKY_CLR m) →
    ∃ t, exec (.txtsStickyClr h m 0 [1#8]) s = .next t ∧ Served s t h 0x02 [(R.pt_TXTS_STICKY m, 0)] []
      ∧ Keeps s t [.regs, .sessions, .out])

/-- R46, R47, R48, R275: a block that breaks Table 2-2 counts in BEACON_ERR (and as a control block in CTL_ERR where
it breaks R275) and does nothing else, once its lane has heard it; a beacon counts in BEACONS_RX, and on the first
working lane of its direction its hops, grandmaster, time and number are kept; where it answers a beacon this hub sent
and is not of the direction in use, DELAY and OFFSET of its direction are those of R47. BEACON_TX sends one beacon on
every working lane of each direction that has one, coded on each lane for itself. -/
def Obligations.Beacons : Prop :=
  (∀ (s u : State) (dir lane rx : Nat) (p : Block), dir < 2 → beaconOk p = false → u = s.heard lane p →
    ∃ t, exec (.beacon dir lane p rx) s = .next t
      ∧ Sets u t ([(R.bl_BEACON_ERR, u.counted R.bl_BEACON_ERR 1)]
          ++ if ctlOk 0x0B namedBeacon p = true then [] else [(R.lx_CTL_ERR, u.counted R.lx_CTL_ERR 1)]) ∧ Keeps u t [.regs]) ∧
  (∀ (s u : State) (dir lane rx : Nat) (p : Block), dir < 2 → beaconOk p = true → u = s.heard lane p →
    ((u.lanesOf dir).map u.servingLane).find? u.laneLocked = some lane →
    (u.linkTime dir).txTimes.find? (fun e => e.1 == field p.toNat 47 32) = none →
    ∃ t, exec (.beacon dir lane p rx) s = .next t ∧ t.rd R.bl_BEACONS_RX = u.counted R.bl_BEACONS_RX 1
      ∧ (t.linkTime dir).hops = field p.toNat 239 232 ∧ (t.linkTime dir).gm = field p.toNat 247 240
      ∧ (t.linkTime dir).timeValid = bitAt p.toNat 231 ∧ (t.linkTime dir).rxSeq = field p.toNat 223 208
      ∧ (t.linkTime dir).rxTime = rx
      ∧ RegsBut u t [R.bl_BEACONS_RX, R.bl_SEL_DIR, R.bl_HOPS, R.bl_GM_ADDR] ∧ Keeps u t [.regs, .time]
      ∧ t.time.ticks = u.time.ticks) ∧
  (∀ (s u : State) (lane rx : Nat) (p : Block) (e : Nat × Nat), beaconOk p = true → u = s.heard lane p →
    ((u.lanesOf 1).map u.servingLane).find? u.laneLocked = some lane →
    (u.linkTime 1).txTimes.find? (fun x => x.1 == field p.toNat 47 32) = some e →
    u.dirValid 0 = true → (u.linkTime 0).hops < field p.toNat 239 232 →
    ∃ t, exec (.beacon 1 lane p rx) s = .next t
      ∧ t.rd R.bl_DELAY_E = (((rx : Int) - ticksOfT96 (field p.toNat 207 112) + t64Diff (field p.toNat 111 48) e.2) / 2).toNat
      ∧ t.rd R.bl_OFFSET_E = ofSigned 64 ((ticksOfT96 (field p.toNat 207 112) : Int)
          + ((rx : Int) - ticksOfT96 (field p.toNat 207 112) + t64Diff (field p.toNat 111 48) e.2) / 2
          + u.rdI R.bl_ASYM_E 32 - rx)
      ∧ RegsBut u t [R.bl_BEACONS_RX, R.bl_DELAY_E, R.bl_OFFSET_E, R.bl_SEL_DIR, R.bl_HOPS, R.bl_GM_ADDR]
      ∧ Keeps u t [.regs, .time]) ∧
  (∀ (s v : State) (tai : Bool) (d : Nat) (p : Block), v = s.settleDir → d < 2 →
    tai = (if s.rd R.tm_SRC_SELECTED = 1 then (s.linkTime (s.rd R.bl_SEL_DIR)).tai else decide (2 ≤ s.rd R.tm_SRC_SELECTED ∧ s.rd R.tm_SRC_SELECTED ≤ 6)) →
    p = beaconBlock (v.rd R.bl_GM_ADDR) (v.rd R.bl_HOPS) (decide (s.rd R.tm_TIME_STATE = 1 ∨ s.rd R.tm_TIME_STATE = 2)) (decide (s.rd R.tm_TIME_STATE = 3)) tai (s.linkTime d).txSeq s.now96 (t64OfTicks (s.linkTime d).rxTime) (s.linkTime d).rxSeq →
    ∃ t, exec .beaconTx s = .next t
      ∧ (if s.workingLanes d = 0 then t.linkTime d = s.linkTime d
         else (t.linkTime d).txSeq = ((s.linkTime d).txSeq + 1) % 65536
          ∧ (t.linkTime d).txTimes = lastN 16 ((s.linkTime d).txTimes ++ [((s.linkTime d).txSeq, s.now)])
          ∧ Out.beacon d p ∈ t.out ∧ ∀ l ∈ s.workLanes d, Out.line l (codeLine (s.lane l).tx 9 p).1 ∈ t.out)
      ∧ t.out.length = s.out.length + (if s.workingLanes 0 = 0 then 0 else 1 + s.workingLanes 0)
          + (if s.workingLanes 1 = 0 then 0 else 1 + s.workingLanes 1)
      ∧ (∀ l, l ∉ s.workLanes 0 → l ∉ s.workLanes 1 → t.lane l = s.lane l) ∧ (∀ b, t.bundle b = s.bundle b)
      ∧ RegsBut s t [R.bl_SEL_DIR, R.bl_HOPS, R.bl_GM_ADDR] ∧ Keeps s t [.regs, .time, .lanes, .out]
      ∧ t.time.ticks = s.time.ticks)

/-- R50, R51, R52, Table 2-6: what an enabled PTP port does with messages of its domain. A master answers a delay
request with its own timestamp at the medium boundary and its correctionField; a slave takes the mean path delay from
the answer to its request; a port whose ROLE is slave goes to SLAVE at an announce and shows its parent. A master with
STEP_MODE 1 sends Sync with its time as it passes, with STEP_MODE 0 a Sync and a Follow_Up; a slave keeps the time of
the delay request it sends. The best-master comparison and the port states at ENABLE are presumed (log entries 11 and
62). -/
def Obligations.PtpPorts : Prop :=
  (∀ (s : State) (m seq : Nat) (rx c : Int), s.rd (R.pt_ENABLE m) ≠ 0 → s.rd (R.pt_PORT_STATE m) = 6 →
    s.rd (R.pt_DELAY_MECH m) ≠ 1 →
    exec (.ptpMessageRx m (s.rd (R.pt_DOMAIN m)) (.delayReq seq c) rx) s
      = .next (s.emitMac m (.ptp m .delayResp (seq % 65536) (rx - s.rd (R.pt_RX_LAT m)) c
          (s.ptpUdp m (rx - s.rd (R.pt_RX_LAT m)) c) none))) ∧
  (∀ (s : State) (m : Nat) (r c rx : Int), s.rd (R.pt_ENABLE m) ≠ 0 → s.rd (R.pt_PORT_STATE m) = 9 →
    s.rd (R.pt_DELAY_MECH m) = 0 →
    exec (.ptpMessageRx m (s.rd (R.pt_DOMAIN m)) (.delayResp (s.ptp m).txReq r c) rx) s
      = .next ((s.setPtp m { s.ptp m with t4 := r - c }).wr (R.pt_MEAN_DELAY m)
          (((s.ptp m).t2 - (s.ptp m).t1 + (r - c - (s.ptp m).t3)) / 2).toNat)) ∧
  (∀ (s : State) (m : Nat) (a : Announced) (rx : Int), m < 4 → s.rd (R.pt_ENABLE m) ≠ 0 → s.rd (R.pt_ROLE m) = 2 →
    (s.ptp m).best = none →
    ∃ t, exec (.ptpMessageRx m (s.rd (R.pt_DOMAIN m)) (.announce a) rx) s = .next t ∧ t.rd (R.pt_PORT_STATE m) = 9
      ∧ t.rd (R.pt_PARENT_ID m) = a.sender % 2 ^ 80
      ∧ t.ptp m = { s.ptp m with best := some a, lastAnnounce := s.time.edge } ∧ (∀ k, k ≠ m → t.ptp k = s.ptp k)
      ∧ RegsBut s t ([0, 1, 2, 3].flatMap fun k => [R.pt_PORT_STATE k, R.pt_PARENT_ID k]) ∧ Keeps s t [.regs, .time]) ∧
  (∀ (s : State) (m d : Nat) (x : PtpMsg) (rx : Int), d ≠ s.rd (R.pt_DOMAIN m) → exec (.ptpMessageRx m d x rx) s = .next s) ∧
  (∀ (s : State) (m : Nat) (tx : Int), s.rd (R.pt_ENABLE m) ≠ 0 → s.rd (R.pt_PORT_STATE m) = 6 →
    exec (.ptpMessageTx m .sync tx) s = .next
      (let u := s.setPtp m { s.ptp m with txSync := ((s.ptp m).txSync + 1) % 65536 };
       let n := (s.ptp m).txSync % 65536;
       if s.rd (R.pt_STEP_MODE m) = 1 then u.emitMac m (.ptp m .sync n (tx + s.rd (R.pt_TX_LAT m)) 0
           (s.ptpUdp m (tx + s.rd (R.pt_TX_LAT m)) 0) none)
       else (u.emitMac m (.ptp m .sync n 0 0 (s.ptpUdp m 0 0) none)).emitMac m
         (.ptp m .followUp n (tx + s.rd (R.pt_TX_LAT m)) 0 (s.ptpUdp m (tx + s.rd (R.pt_TX_LAT m)) 0) none))) ∧
  (∀ (s : State) (m : Nat) (tx : Int), s.rd (R.pt_ENABLE m) ≠ 0 → s.rd (R.pt_PORT_STATE m) = 6 → s.announceTimeout m = false →
    exec (.ptpMessageTx m .announce tx) s = .next
      (let u := s.setPtp m { s.ptp m with txAnnounce := ((s.ptp m).txAnnounce + 1) % 65536 };
       u.emitMac m (.ptp m .announce ((s.ptp m).txAnnounce % 65536) (tx + s.rd (R.pt_TX_LAT m)) 0
        (s.ptpUdp m (tx + s.rd (R.pt_TX_LAT m)) 0) (some (u.announced m))))) ∧
  (∀ (s : State) (m : Nat) (tx : Int), s.rd (R.pt_ENABLE m) ≠ 0 → s.rd (R.pt_PORT_STATE m) = 9 →
    s.rd (R.pt_DELAY_MECH m) = 0 →
    exec (.ptpMessageTx m .delayReq tx) s
      = .next ((s.setPtp m { s.ptp m with
            t3 := tx + s.rd (R.pt_TX_LAT m), txReq := ((s.ptp m).txReq + 1) % 65536 }).emitMac m
          (.ptp m .delayReq (((s.ptp m).txReq + 1) % 65536) (tx + s.rd (R.pt_TX_LAT m)) 0
            (s.ptpUdp m (tx + s.rd (R.pt_TX_LAT m)) 0) none)))

/-- R58, R59: a time trigger that is enabled and due fires on the first edge at or after TARGET, passes its event to
the matrix with the time TARGET names, counts in FIRED, and clears ENABLE (PERIOD 0) or moves TARGET on by PERIOD; one
whose time was passed over fires late, at the present time. PPS_OUT rises on the first edge at or after its second
where its condition holds, and falls when its width has passed. R55, R56, R57: a port with room starts the head frame
of its queue, which takes the next RSEQ of its route and leaves the queue (a segment record gives its archive place
free, R199; on a bundle in its turn, R287); one with LAUNCH_EN whose time has not come is held at the port instead. A
held frame whose time has come starts. (The frames are for an Ethernet port, no injection rule, and a queue that is
neither frozen nor spilled.) -/
def Obligations.TriggersAndLaunch : Prop :=
  (∀ (s : State) (k : Nat), s.rd (R.tr_ENABLE k) ≠ 0 →
    t64Diff (s.rd (R.tr_TARGET k)) s.now ≤ 0 → -((s.rd R.tm_INCR : Int) / 2 ^ 32) ≤ t64Diff (s.rd (R.tr_TARGET k)) s.now →
    (s.rd (R.tr_PERIOD k) = 0 ∨ (-t64Diff (s.rd (R.tr_TARGET k)) s.now).toNat < s.rd (R.tr_PERIOD k)) →
    ∃ t, exec (.timeTriggerFire k) s = .next t
      ∧ Sets s t ((R.tr_FIRED k, s.counted (R.tr_FIRED k) 1) ::
          (if s.rd (R.tr_PERIOD k) = 0 then [(R.tr_ENABLE k, 0)]
           else [(R.tr_TARGET k, (s.rd (R.tr_TARGET k) + s.rd (R.tr_PERIOD k)) % 2 ^ 64)]))
      ∧ t.out = s.out ++ [.event (.timer k) (s.now - (-t64Diff (s.rd (R.tr_TARGET k)) s.now).toNat) false]
      ∧ Keeps s t [.regs, .out]) ∧
  (∀ (s : State) (k : Nat), s.rd (R.tr_ENABLE k) ≠ 0 → s.rd (R.tr_PERIOD k) = 0 → t64Past (s.rd (R.tr_TARGET k)) s.now = true →
    t64Diff (s.rd (R.tr_TARGET k)) s.now < -((s.rd R.tm_INCR : Int) / 2 ^ 32) →
    ∃ t, exec (.timeTriggerFire k) s = .next t
      ∧ Sets s t [(R.tr_FIRED k, s.counted (R.tr_FIRED k) 1), (R.tr_LATE k, s.counted (R.tr_LATE k) 1), (R.tr_ENABLE k, 0)]
      ∧ t.out = s.out ++ [.event (.timer k) s.now true] ∧ Keeps s t [.regs, .out]) ∧
  (∀ s : State, s.ppsQualified = true → s.time.ppsHigh = false →
    ((s.now : Int) - s.rdI R.la_PPS_OUT_OFFSET 32) % (ticksPerSec : Nat) ≤ s.rd R.tm_INCR / 2 ^ 32 →
    ∃ t, exec .ppsOutEdge s = .next t
      ∧ t.time = { s.time with ppsHigh := true, ppsFall := s.now + s.rd R.la_PPS_OUT_WIDTH * ticksPerNs } ∧ t.out = s.out ++ [.pin 1 true]
      ∧ Keeps s t [.time, .out]) ∧
  (∀ s : State, s.time.ppsHigh = true → s.time.ppsFall ≤ s.now →
    ∃ t, exec .ppsOutWidthEnd s = .next t ∧ t.time = { s.time with ppsHigh := false } ∧ t.out = s.out ++ [.pin 1 false]
      ∧ Keeps s t [.time, .out]) ∧
  (∀ (s : State) (port r : Nat) (f : Frame), s.routeHead r = some f → s.routeFeeds r port = true →
    (s.lanes.portHeld.any fun e => e.2.1 == r) = false → launchEn f.launch = true → 0 < t64Diff (launchTime f.launch) s.now →
    exec (.portFrameTx port r) s
      = .next (s.putLanes { s.lanes with portHeld := s.lanes.portHeld ++ [(port, r, f)] })) ∧
  (∀ (s : State) (port r : Nat) (f : Frame), s.routeHead r = some f → s.routeFeeds r port = true →
    (s.lanes.portHeld.any fun e => e.2.1 == r) = false → launchEn f.launch = false →
    s.portRoom port (20 + f.payload.length) = true → s.heldInWay port (20 + f.payload.length) = false → (port < 2 → s.shareTurn port r = true) →
    exec (.portFrameTx port r) s = .next (s.sendRoute r port f false)) ∧
  (∀ (s : State) (port r : Nat) (f g : Frame) (e : Nat × Nat × Frame),
    (s.lanes.portHeld.find? fun x => x.1 == port && x.2.1 == r) = some e → e.2.2 = f →
    t64Past (launchTime f.launch) (s.now + s.txLat port) = true → s.portRoom port (20 + f.payload.length) = true →
    s.routeHead r = some g → g.fseq = f.fseq →
    s.routeFeeds r port = true →
    exec (.launchTimeReached port r) s = .next ((s.putLanes { s.lanes with
      portHeld := s.lanes.portHeld.filter fun x => !(x.1 == port && x.2.1 == r) }).sendRoute r port f false)) ∧
  (∀ (s : State) (port r q : Nat) (f : Frame) (rest : List Frame), 4 ≤ port → port ≤ 7 → s.routeFeeds r port = true →
    s.rd (R.ro_QUEUE r) = q → q < 8192 → s.rd (R.qu_CONSUMER q) = 1 → s.rd (R.qu_QSTATE q) = 1 →
    (s.queue q).frames = f :: rest → (s.queue q).spillCells = 0 → s.lanes.portHeld = [] → launchEn f.launch = false →
    launchTs f.launch = false → s.rd (R.ma_LINK (port - 4)) = 1 →
    tabGet 0 s.lanes.paused (port - 4) ≤ s.time.edge → s.noInjection →
    ∃ t, exec (.portFrameTx port r) s = .next t
      ∧ Sets s t [(R.ro_RSEQ r, (s.rd (R.ro_RSEQ r) + 1) % 65536),
          (R.ma_TX_FRAMES (port - 4), s.counted (R.ma_TX_FRAMES (port - 4)) 1),
          (R.qu_FRAMES_OUT q, s.counted (R.qu_FRAMES_OUT q) 1)]
      ∧ t.out = s.out ++ [.eth (port - 4) r false (s.ethHead r (port - 4) (streamFrame (s.rd R.lx_CHAIN_ADDR) q { f with late := false }))
          (streamFrame (s.rd R.lx_CHAIN_ADDR) q { f with late := false })]
      ∧ (t.queue q).frames = rest ∧ (∀ k, k ≠ q → t.queue k = s.queue k)
      ∧ Keeps s t (if f.ftype = 2 then [.regs, .queues, .dram, .out] else [.regs, .queues, .out])) ∧
  (∀ (s : State) (port r q : Nat) (f : Frame) (rest : List Frame), 4 ≤ port → port ≤ 7 → s.routeFeeds r port = true →
    s.rd (R.ro_QUEUE r) = q → q < 8192 → s.rd (R.qu_CONSUMER q) = 1 → s.rd (R.qu_QSTATE q) = 1 →
    (s.queue q).frames = f :: rest → (s.queue q).spillCells = 0 → s.lanes.portHeld = [(port, r, f)] →
    launchTs f.launch = false → t64Past (launchTime f.launch) (s.now + s.txLat port) = true →
    s.rd (R.ma_LINK (port - 4)) = 1 → tabGet 0 s.lanes.paused (port - 4) ≤ s.time.edge → s.noInjection →
    ∃ t, exec (.launchTimeReached port r) s = .next t ∧ t.lanes.portHeld = []
      ∧ Sets s t [(R.ro_RSEQ r, (s.rd (R.ro_RSEQ r) + 1) % 65536),
          (R.ma_TX_FRAMES (port - 4), s.counted (R.ma_TX_FRAMES (port - 4)) 1),
          (R.qu_FRAMES_OUT q, s.counted (R.qu_FRAMES_OUT q) 1)]
      ∧ t.out = s.out ++ [.eth (port - 4) r false (s.ethHead r (port - 4) (streamFrame (s.rd R.lx_CHAIN_ADDR) q { f with late := false }))
          (streamFrame (s.rd R.lx_CHAIN_ADDR) q { f with late := false })]
      ∧ (t.queue q).frames = rest ∧ Keeps s t (if f.ftype = 2 then [.regs, .queues, .dram, .lanes, .out] else [.regs, .queues, .lanes, .out]))

/-- R67, R68, R70, R71, R82, R137: when a stage change is done samples pass again and the coarse value is awaited;
CH_STATUS shows the detectors of an input as they stand; a 50 Ω termination opens on overvoltage and closes again. -/
def Obligations.InputStage : Prop :=
  (∀ (s : State) (n : Nat), (s.chan n).changing = true →
    exec (.stageChangeDone n) s = .next ((s.setChan n { s.chan n with changing := false }).resumeIf n)) ∧
  (∀ (s : State) (n : Nat), (s.chan n).changing = true → bitAt (s.rd (R.ch_CH_STATUS n)) 5 = false →
    bitAt (s.rd (R.ch_CH_STATUS n)) 6 = false → (s.chan n).faultEnd = none → (s.chan n).hold = .change → s.rd (R.pu_CAP_ENABLE n) = 0 →
    ∃ t, exec (.stageChangeDone n) s = .next t ∧ (t.chan n).changing = false ∧ (t.chan n).hold = .none
      ∧ (t.chan n).held = (if (s.chan n).held = 1 then 1 else 2) ∧ (∀ k, k ≠ n → t.chan k = s.chan k)
      ∧ Sets s t [(R.ch_GOB_STATUS n, putBit (s.rd (R.ch_GOB_STATUS n)) 2 true)] ∧ Keeps s t [.regs, .chans]) ∧
  (∀ (s : State) (n : Nat) (range cm tia : Bool), s.rd (R.ch_STAGE n) ≠ 0 →
    ∃ t, exec (.inputOverRange n range cm tia) s = .next t
      ∧ Sets s t [(R.ch_CH_STATUS n, putBit (putBit (putBit (putBit (s.rd (R.ch_CH_STATUS n)) 0 range)
          1 (range && s.rd (R.ch_BURNOUT n) != 0)) 7 (cm && s.rd (R.ch_STAGE n) == 1)) 8 (tia && s.rd (R.ch_STAGE n) == 3))]
      ∧ Keeps s t [.regs]) ∧
  (∀ (s : State) (n : Nat), s.rd (R.ch_STAGE n) = 2 →
    exec (.terminationOvervoltage n) s = .next (s.wr (R.ch_CH_STATUS n) (putBit (s.rd (R.ch_CH_STATUS n)) 3 true))) ∧
  (∀ (s : State) (n : Nat),
    exec (.terminationReclose n) s = .next (s.wr (R.ch_CH_STATUS n) (putBit (s.rd (R.ch_CH_STATUS n)) 3 false)))

/-- R74, R75, R76, R77, R79, R91, R100: a lost sense loop and a current limit show in EXC_STATUS, a source's limit and
a clamp also as excitation fault on the channels concerned; a clamped driver recovers when VIN does; a pulsed driver,
whose new setting takes effect there, switches on at the rising edge of its schedule and off PWM_WIDTH later, after a
stretched burst at its end. The channels that EXC_MODE 2 and 3 put in fault are the model's choice (log entry 151). -/
def Obligations.Excitation : Prop :=
  (∀ (s : State) (q : Nat), (s.quad q).exc.mode = 1 →
    exec (.excSenseLoopFault q) s = .next (s.wr (R.qd_EXC_STATUS q) (putBit (s.rd (R.qd_EXC_STATUS q)) 2 true))) ∧
  (∀ (s : State) (q : Nat) (a b : Bool), (s.quad q).driverOn = true → (a || b) = true →
    ∃ t, exec (.excCurrentLimit q a b) s = .next t
      ∧ Sets s t ((R.qd_EXC_STATUS q, putBit (s.rd (R.qd_EXC_STATUS q)) 1 true) ::
          ((if (s.quad q).exc.mode < 2 then []
            else if (s.quad q).exc.mode = 4 then (if a then [4 * q, 4 * q + 1] else []) ++ (if b then [4 * q + 2, 4 * q + 3] else [])
            else [4 * q, 4 * q + 1, 4 * q + 2, 4 * q + 3]).map fun n =>
              (R.ch_CH_STATUS n, putBit (s.rd (R.ch_CH_STATUS n)) 4 true)))
      ∧ Keeps s t [.regs]) ∧
  (∀ (s : State) (q mv : Nat), (s.quad q).exc.mode = 1 → mv < (s.quad q).exc.volt + 300 →
    ∃ t, exec (.vinFallClamp q mv) s = .next t ∧ t.mode = { s.mode with vin := mv }
      ∧ Sets s t ((R.qd_EXC_STATUS q, putBit (s.rd (R.qd_EXC_STATUS q)) 3 true) ::
          (chansOfQuad q).map fun n => (R.ch_CH_STATUS n, putBit (s.rd (R.ch_CH_STATUS n)) 4 true))
      ∧ Keeps s t [.regs, .mode]) ∧
  (∀ (s : State) (q mv : Nat), bitAt (s.rd (R.qd_EXC_STATUS q)) 3 = true → (s.quad q).exc.volt + 300 ≤ mv →
    ∃ t, exec (.vinRecovered q mv) s = .next t ∧ t.mode = { s.mode with vin := mv }
      ∧ Sets s t ((R.qd_EXC_STATUS q, putBit (s.rd (R.qd_EXC_STATUS q)) 3 false) ::
          (chansOfQuad q).map fun n => (R.ch_CH_STATUS n, putBit (s.rd (R.ch_CH_STATUS n)) 4 false))
      ∧ Keeps s t [.regs, .mode]) ∧
  (∀ (s : State) (q : Nat), (s.quad q).exc.pulsed = true → s.onEvent (s.quad q).exc.period (s.quad q).exc.phase = true →
    (s.quad q).pendingExc = false → (s.quad q).exc.mode ≠ 0 → bitAt (s.rd (R.qd_EXC_STATUS q)) 5 = false →
    s.rd (R.bk_BANK_STATE (q / 8)) ≠ 0 →
    ∃ t, exec (.pwmRisingEdge q) s = .next t
      ∧ t.quad q = { s.quad q with
          driverOn := true, measured := if (s.quad q).driverOn then some s.freeCount else (s.quad q).measured,
          rise := some (s.time.edge, s.eventTime (s.quad q).exc.period (s.quad q).exc.phase + (s.quad q).exc.width * ticksPerNs) }
      ∧ (∀ k, k ≠ q → t.quad k = s.quad k)
      ∧ Sets s t [(R.qd_EXC_STATUS q, putBit (if (s.quad q).stretchTo.isNone then putBit (s.rd (R.qd_EXC_STATUS q)) 4 false
          else s.rd (R.qd_EXC_STATUS q)) 0 true)] ∧ Keeps s t [.regs, .quads]) ∧
  (∀ (s u v : State) (q : Nat), (s.quad q).exc.pulsed = true → s.onEvent (s.quad q).exc.period (s.quad q).exc.phase = true →
    (s.quad q).pendingExc = true → s.rd (R.bk_BANK_STATE (q / 8)) ≠ 0 →
    v = (if (s.quad q).stretchTo.isNone then s.wr (R.qd_EXC_STATUS q) (putBit (s.rd (R.qd_EXC_STATUS q)) 4 false)
      else s).excTakesEffect q →
    u = v.setQuad q { v.quad q with
      rise := (if (v.quad q).exc.pulsed then some (v.time.edge,
          s.eventTime (s.quad q).exc.period (s.quad q).exc.phase + (v.quad q).exc.width * ticksPerNs) else none) } →
    exec (.pwmRisingEdge q) s
      = .next (u.setDriver q ((u.quad q).exc.mode != 0 && !bitAt (u.rd (R.qd_EXC_STATUS q)) 5))) ∧
  (∀ (s : State) (q : Nat), (s.quad q).exc.pulsed = true → s.rd (R.bk_BANK_STATE (q / 8)) ≠ 0 →
    (match (s.quad q).stretchTo, (s.quad q).rise with
      | some p, _ => decide (p ≤ s.time.edge * 256)
      | none, some r => s.nearEdge (s.fallTime r) || decide (s.fallTime r * 2 ^ 32 ≤ s.counter)
      | none, none => s.onEvent (s.quad q).exc.period ((s.quad q).exc.phase + (s.quad q).exc.width)) = true →
    ∃ t, exec (.pwmFallingEdge q) s = .next t
      ∧ t.quad q = { s.quad q with
          stretchTo := none, driverOn := false,
          measured := if (s.quad q).driverOn then some s.freeCount else (s.quad q).measured }
      ∧ (∀ k, k ≠ q → t.quad k = s.quad k)
      ∧ Sets s t [(R.qd_EXC_STATUS q, putBit (s.rd (R.qd_EXC_STATUS q)) 0 false)] ∧ Keeps s t [.regs, .quads])

/-- R83, R84, R85, R116, R138: a diagnostic slot falls due by OW_PERIOD or OW_NOW, starts on a converting channel that
has room for it by withholding its samples, and ends by posting OW_DELTA and OW_RESULT and letting samples pass, or
with the reflectometry run that follows. (The frames are for a channel without capture and with no run to follow.) -/
def Obligations.DiagnosticSlots : Prop :=
  (∀ (s : State) (n : Nat), s.rd (R.ch_STAGE n) = 1 → s.rd (R.ch_OW_PERIOD n) ≠ 0 → s.rd (R.ch_OW_CURRENT n) ≠ 0 →
    (s.chan n).owBase + s.rd (R.ch_OW_PERIOD n) * 1638400000 ≤ s.time.edge →
    exec (.owSlotDue n) s = .next (s.setChan n { s.chan n with
      owDue := true,
      owBase := s.time.edge - (s.time.edge - (s.chan n).owBase) % (s.rd (R.ch_OW_PERIOD n) * 1638400000) })) ∧
  (∀ (s : State) (h : Hdr) (n : Nat), OwnerAsks s h 0x02 → s.part.fronts ≤ 7 → n < 128 * s.part.fronts →
    s.free_ (R.ch_OW_NOW n) → s.rd (R.ch_LEGAL n) = 0 → s.rd (R.bk_BANK_STATE (n / 32)) ≠ 0 →
    ∃ t, exec (.owNow h n 0 [1#8]) s = .next t ∧ Served s t h 0x02 [] []
      ∧ t.chan n = { s.chan n with owNow := (s.chan n).owNow + 1 }
      ∧ (∀ k, k ≠ n → t.chan k = s.chan k) ∧ Keeps s t [.regs, .sessions, .chans, .out]) ∧
  (∀ (s : State) (n : Nat), (s.chan n).owDue = true ∨ 0 < (s.chan n).owNow → s.rd (R.ch_STAGE n) = 1 →
    s.rd (R.ch_OW_CURRENT n) ≠ 0 → bitAt (s.rd (R.ch_CONV_STATUS n)) 0 = true → s.slotFits n = true →
    bitAt (s.rd (R.ch_CH_STATUS n)) 5 = false → bitAt (s.rd (R.ch_CH_STATUS n)) 6 = false →
    exec (.owSlotStart n) s = .next ((s.setChan n { s.chan n with
      owDue := false, owNow := if (s.chan n).owDue then (s.chan n).owNow else (s.chan n).owNow - 1 }).withhold n .slot 5)) ∧
  (∀ (s : State) (n : Nat), (s.chan n).owDue = true → s.rd (R.ch_STAGE n) = 1 → s.rd (R.ch_OW_CURRENT n) ≠ 0 →
    bitAt (s.rd (R.ch_CONV_STATUS n)) 0 = true → s.rd (R.ch_CONV_MODE n) = 0 → bitAt (s.rd (R.ch_CH_STATUS n)) 5 = false →
    bitAt (s.rd (R.ch_CH_STATUS n)) 6 = false → (s.chan n).hold = .none → s.rd (R.pu_CAP_ENABLE n) = 0 →
    ∃ t, exec (.owSlotStart n) s = .next t ∧ t.chan n = { s.chan n with owDue := false, hold := .slot }
      ∧ Sets s t [(R.ch_CH_STATUS n, putBit (s.rd (R.ch_CH_STATUS n)) 5 true),
          (R.ch_GOB_STATUS n, putBit (s.rd (R.ch_GOB_STATUS n)) 1 true)] ∧ Keeps s t [.regs, .chans]) ∧
  (∀ (s u : State) (n : Nat) (uv : Int) (over_ found : Bool), bitAt (s.rd (R.ch_CH_STATUS n)) 5 = true →
    found = (over_ || decide ((s.rd (R.ch_OW_THRESHOLD n) : Int) < uv.natAbs)) →
    u = ((((s.wr (R.ch_OW_DELTA n) (ofSigned 32 uv)).wr (R.ch_OW_RESULT n) (if found then 2 else 1)).wr (R.ch_CH_STATUS n)
      (putBit (s.rd (R.ch_CH_STATUS n)) 2 found)).wr (R.ch_CH_STATUS n)
      (putBit (putBit (s.rd (R.ch_CH_STATUS n)) 2 found) 5 false)).resumeIf n →
    exec (.owSlotEnd n uv over_) s = .next (if (u.chan n).tdrPending || (found && u.rd (R.ch_TDR_AUTO n) != 0
      && u.rd (R.ch_LEGAL n) == 0) then u.beginTdr n else u)) ∧
  (∀ (s : State) (n : Nat) (uv : Int) (over_ : Bool), bitAt (s.rd (R.ch_CH_STATUS n)) 5 = true →
    bitAt (s.rd (R.ch_CH_STATUS n)) 6 = false → (s.chan n).changing = false → (s.chan n).faultEnd = none → (s.chan n).hold = .slot →
    (s.chan n).held = 0 → (s.chan n).tdrPending = false → s.rd (R.ch_TDR_AUTO n) = 0 → s.rd (R.pu_CAP_ENABLE n) = 0 →
    ∃ t, exec (.owSlotEnd n uv over_) s = .next t
      ∧ Sets s t [(R.ch_OW_DELTA n, ofSigned 32 uv),
          (R.ch_OW_RESULT n, if over_ || (s.rd (R.ch_OW_THRESHOLD n) : Int) < uv.natAbs then 2 else 1),
          (R.ch_CH_STATUS n, putBit (putBit (s.rd (R.ch_CH_STATUS n)) 2
            (over_ || (s.rd (R.ch_OW_THRESHOLD n) : Int) < uv.natAbs)) 5 false),
          (R.ch_GOB_STATUS n, putBit (s.rd (R.ch_GOB_STATUS n)) 2 true)]
      ∧ (t.chan n).hold = .none ∧ (t.chan n).held = 2 ∧ (∀ k, k ≠ n → t.chan k = s.chan k) ∧ Keeps s t [.regs, .chans])

/-- R86, R87, R88, R89: TDR_START starts a run on a channel whose bank is on, after a diagnostic slot that stands; a
run ends with TDR_STATE 3 where no edge returns, and with 2 where the lead is scanned: the events of the points,
nearest first, no more than eight, are posted as Table 3-7 words (state 5 when there are more), and the end delay is
half the longest round trip. An ABORT ends it with TDR_STATE 4. (The frames are for a channel without capture and in
no other change.) The classes of the events are the model's choice (log entry 27). -/
def Obligations.Reflectometry : Prop :=
  (∀ (s : State) (h : Hdr) (n : Nat), OwnerAsks s h 0x02 → s.part.fronts ≤ 7 → n < 128 * s.part.fronts →
    s.free_ (R.ch_TDR_START n) → s.rd (R.ch_STAGE n) = 1 ∨ s.rd (R.ch_STAGE n) = 2 → s.rd (R.ch_LEGAL n) = 0 →
    bitAt (s.rd (R.ch_CH_STATUS n)) 6 = false → s.rd (R.bk_BANK_STATE (n / 32)) ≠ 0 →
    exec (.tdrStart h n 0 [1#8]) s = .next ((if bitAt (s.rd (R.ch_CH_STATUS n)) 5 then
        (s.touch h.session).setChan n { s.chan n with tdrPending := true }
      else (s.touch h.session).beginTdr n).answered s h 0x02 (answer 0))) ∧
  (∀ (s : State) (h : Hdr) (n : Nat), OwnerAsks s h 0x02 → s.part.fronts ≤ 7 → n < 128 * s.part.fronts →
    s.free_ (R.ch_TDR_START n) → s.rd (R.ch_STAGE n) = 1 ∨ s.rd (R.ch_STAGE n) = 2 → s.rd (R.ch_LEGAL n) = 0 →
    bitAt (s.rd (R.ch_CH_STATUS n)) 5 = false → bitAt (s.rd (R.ch_CH_STATUS n)) 6 = false →
    s.rd (R.bk_BANK_STATE (n / 32)) ≠ 0 → (s.chan n).hold = .none → s.rd (R.pu_CAP_ENABLE n) = 0 →
    ∃ t, exec (.tdrStart h n 0 [1#8]) s = .next t
      ∧ Served s t h 0x02 [(R.ch_TDR_STATE n, 1), (R.ch_CH_STATUS n, putBit (s.rd (R.ch_CH_STATUS n)) 6 true),
          (R.ch_GOB_STATUS n, putBit (s.rd (R.ch_GOB_STATUS n)) 1 true)] []
      ∧ (t.chan n).hold = .run ∧ Keeps s t [.regs, .sessions, .chans, .out]) ∧
  (∀ (s : State) (n : Nat), bitAt (s.rd (R.ch_CH_STATUS n)) 6 = true → exec (.tdrNoEdge n) s = .next (s.endTdr n 3)) ∧
  (∀ (s : State) (n : Nat), bitAt (s.rd (R.ch_CH_STATUS n)) 5 = false → bitAt (s.rd (R.ch_CH_STATUS n)) 6 = true →
    (s.chan n).changing = false → (s.chan n).faultEnd = none → (s.chan n).hold = .run → s.rd (R.pu_CAP_ENABLE n) = 0 →
    ∃ t, exec (.tdrNoEdge n) s = .next t
      ∧ Sets s t [(R.ch_TDR_STATE n, 3), (R.ch_TDR_TIME n, s.now96),
          (R.ch_CH_STATUS n, putBit (s.rd (R.ch_CH_STATUS n)) 6 false),
          (R.ch_GOB_STATUS n, putBit (s.rd (R.ch_GOB_STATUS n)) 2 true)]
      ∧ (t.chan n).hold = .none ∧ Keeps s t [.regs, .chans]) ∧
  (∀ (s : State) (n : Nat) (l : List LeadPoint) (e : List (Nat × Nat)), bitAt (s.rd (R.ch_CH_STATUS n)) 5 = false →
    bitAt (s.rd (R.ch_CH_STATUS n)) 6 = true → (s.chan n).changing = false → (s.chan n).faultEnd = none → (s.chan n).hold = .run →
    s.rd (R.pu_CAP_ENABLE n) = 0 →
    e = tdrEvents (s.rd (R.ch_TDR_VOP n)) (sortPoints (l.filter fun p => s.rd (R.ch_TDR_THRESHOLD n) < p.change.natAbs)) →
    ∃ t, exec (.tdrRunEnd n l) s = .next t
      ∧ Sets s t [(R.ch_TDR_STATE n, if 8 < e.length then 5 else 2), (R.ch_TDR_TIME n, s.now96),
          (R.ch_TDR_EVENTS n, (e.take 8).length), (R.ch_TDR_EVENT n, leNat ((e.take 8).flatMap fun x => natLE 8 x.2)),
          (R.ch_TDR_END_DELAY n, (e.getLast?.map (·.1)).getD 0 / 2 % 2 ^ 32),
          (R.ch_CH_STATUS n, putBit (s.rd (R.ch_CH_STATUS n)) 6 false),
          (R.ch_GOB_STATUS n, putBit (s.rd (R.ch_GOB_STATUS n)) 2 true)]
      ∧ (t.chan n).hold = .none ∧ Keeps s t [.regs, .chans]) ∧
  (∀ (vop : Nat) (p : LeadPoint), 16384 ≤ p.rho →
    tdrEvents vop [p] = [(p.roundTrip, roundNear (vop * p.roundTrip) (2 * 65536000) % 2 ^ 32 * 2 ^ 32
      + ofSigned 16 p.rho * 65536 + 1 * 4096)]) ∧
  (∀ (s : State) (h : Hdr) (n : Nat), OwnerAsks s h 0x0B → s.part.fronts ≤ 7 → n < 128 * s.part.fronts →
    exec (.abortTdr h n) s = .next (((s.touch h.session).abortOneTdr n).answered s h 0x0B [(0, false, natLE 12 s.now96)])) ∧
  (∀ (s : State) (h : Hdr) (n : Nat), OwnerAsks s h 0x0B → s.part.fronts ≤ 7 → n < 128 * s.part.fronts →
    bitAt (s.rd (R.ch_CH_STATUS n)) 5 = false → bitAt (s.rd (R.ch_CH_STATUS n)) 6 = true →
    (s.chan n).changing = false → (s.chan n).faultEnd = none → (s.chan n).hold = .run → s.rd (R.pu_CAP_ENABLE n) = 0 →
    ∃ t, exec (.abortTdr h n) s = .next t
      ∧ AnsweredWith s t h 0x0B [(R.ch_TDR_STATE n, 4), (R.ch_TDR_TIME n, s.now96),
          (R.ch_CH_STATUS n, putBit (s.rd (R.ch_CH_STATUS n)) 6 false),
          (R.ch_GOB_STATUS n, putBit (s.rd (R.ch_GOB_STATUS n)) 2 true)] [] (natLE 12 s.now96)
      ∧ (t.chan n).hold = .none ∧ Keeps s t [.regs, .sessions, .chans, .out])

/-- R96, R100, R124, R125: a start event of a quad on its schedule, whose bank is on, fixes the first conversion at
START_DELAY from its main-clock edge, or is skipped while a burst runs; the slices of its converting burst channels
wake; at the end of the burst the burst values of its channels reach their Gobs (that of one channel without a stage
is shown in full), SAMPLES counts BURST_N, BURSTS counts and the quad is free for the next burst. -/
def Obligations.Bursts : Prop :=
  (∀ (s : State) (q : Nat), s.burstsLive q = true → s.startDue q = true →
    s.rd (R.bk_BANK_STATE (q / 8)) = 3 → (s.quad q).burstRunning = false →
    exec (.burstStartEvent q) s = .next ((s.setQuad q { s.quad q with
      burstRunning := true, burstEdge := s.time.edge + s.rd (R.qd_START_DELAY q), burstN := s.rd (R.qd_BURST_N q),
      burstCode := s.rd (R.qd_BURST_RATE q), inHand := s.burstChans q }).wr (R.qd_NEXT_START q)
        (t64OfTicks (s.timeOfEdge (s.time.edge + s.rd (R.qd_START_DELAY q)))))) ∧
  (∀ (s : State) (q : Nat), s.burstsLive q = true → s.startDue q = true →
    (s.quad q).burstRunning = true → exec (.burstStartEvent q) s = .next (s.skipBurst q)) ∧
  (∀ (s : State) (q : Nat), s.rd (R.qd_START_SRC q) ≠ 0 →
    ∃ t, exec (.sliceWake q) s = .next t
      ∧ (∀ n, n ∈ chansOfQuad q → s.rd (R.ch_CONV_MODE n) = 1 → s.rd (R.ch_STAGE n) ≠ 0 → s.converting n = true →
          t.chan n = { s.chan n with awake := true })
      ∧ (∀ n, n ∉ chansOfQuad q → t.chan n = s.chan n) ∧ Keeps s t [.chans]) ∧
  (∀ (s u v : State) (q : Nat) (l : List BurstSum), (s.quad q).burstRunning = true →
    s.burstPos q ((s.quad q).burstN - 1) ≤ s.time.edge * 256 →
    u = s.each (l.filter fun x => ((s.quad q).inHand.filter s.converting).contains x.chan
      && x.samples.length == (s.quad q).burstN) (burstValue q) →
    v = u.each ((s.quad q).inHand.filter s.converting) (fun u n => u.wrBit (R.ch_CONV_STATUS n) 1 false) →
    exec (.burstEnd q l) s = .next ((((v.setQuad q { v.quad q with
      burstRunning := false, deferred := false, inHand := [],
      swapped := if 3 ≤ (v.quad q).exc.mode then !(v.quad q).swapped else (v.quad q).swapped }).count
        (R.qd_BURSTS q) 1).each ((s.quad q).inHand.filter s.converting) State.settleConversion).settleSwitch (q / 8) false)) ∧
  (∀ (s : State) (q n k : Nat) (l : List Sample) (o : List Int), (s.quad q).burstRunning = true →
    (s.quad q).burstN = k → 1 ≤ k → l.length = k → s.burstPos q (k - 1) ≤ s.time.edge * 256 →
    (s.quad q).inHand.filter s.converting = [n] → s.rd (R.bk_BANK_STATE (bankOfChan n)) = 3 → s.rd (R.ch_STAGE n) ≠ 0 →
    (s.spare (quadOf n)).lost = [] → (s.chan n).hold = .none → (s.chan n).held = 0 →
    s.rd (R.ch_STAGES n) = 0 → s.rd (R.ch_RAW_FWD n) = 0 → s.rd (R.pu_CAP_ENABLE n) = 0 → (s.chan n).faultEnd = none →
    quadOf n = q → (s.spare q).phase = 0 → (s.dieRef (q / 8 / 4 + 1)).switching = [] → s.rd (R.ch_SAMPLES n) + k < 2 ^ regBits (R.ch_SAMPLES n) →
    (s.quad q).exc.mode ≤ 2 →
    ∃ t, exec (.burstEnd q [⟨n, l, o⟩]) s = .next t
      ∧ Sets s t [(R.ch_SAMPLES n, s.rd (R.ch_SAMPLES n) + k),
          (R.ch_CONV_STATUS n, putBit (putBit (s.rd (R.ch_CONV_STATUS n)) 1 false) 6 false), (R.qd_BURSTS q, s.counted (R.qd_BURSTS q) 1)]
      ∧ t.quad q = { s.quad q with burstRunning := false, deferred := false, inHand := [] }
      ∧ (t.chan n).recent = ((quotient (s.calibrate n ((l.map fun y => codeOf y.value).foldl (· + ·) 0) ((o.map codeOf).foldl (· + ·) 0) k
            (s.chan n).chopNeg) k,
          marksAll (l.map fun y => s.sampleMarks n y (codeOf y.value))) :: (s.chan n).recent).take (s.rd (R.ch_COARSE_LEN n))
      ∧ (∀ k, k ≠ n → t.chan k = s.chan k) ∧ Keeps s t [.regs, .chans, .quads])

/-- R103, R104, R110, R115, R117: at READY_AT a bank goes to on or standby with its slices calibrated, their gain from
MRAM; a buffer that does not settle puts it in fault and raises 0x7031; a gating bank stops converting once no burst
is in hand; drained, it is off, and with the last bank of a die that powers down the die is. (The frames are for a
bank none of whose channels converts, is captured or is under test.) -/
def Obligations.Banks : Prop :=
  (∀ (s : State) (b : Nat), s.rd (R.bk_BANK_STATE b) = 1 → ticksOfT96 (s.rd (R.bk_READY_AT b)) ≤ s.now →
    exec (.bankReadyAt b) s = .next ((((s.wr (R.bk_BANK_STATE b) (if s.rd (R.bk_BANK_POWER b) = 2 then 3 else 2)).calibrated
      (chansOfBank b)).sparesCalibrated (State.quadsOfBank b)).each (chansOfBank b) State.settleConversion)) ∧
  (∀ (s : State) (b : Nat), s.rd (R.bk_BANK_STATE b) = 1 → ticksOfT96 (s.rd (R.bk_READY_AT b)) ≤ s.now →
    s.rd (R.bk_BANK_POWER b) = 2 → (∀ n ∈ chansOfBank b, s.rd (R.ch_STAGE n) = 0 ∧ s.converting n = false) →
    ∃ t, exec (.bankReadyAt b) s = .next t ∧ t.rd (R.bk_BANK_STATE b) = 3
      ∧ (∀ n ∈ chansOfBank b, t.rd (R.ch_CAL_TIME n) = s.now96 ∧ t.rd (R.ch_CAL_DRIFT n) = 0
          ∧ t.rd (R.ch_CAL_GAIN n) = ofSigned 32 (Config.factoryGain (quadOf n) (s.rd (R.ch_SLICE n)))
          ∧ bitAt (t.rd (R.ch_CONV_STATUS n)) 6 = false)
      ∧ RegsBut s t (R.bk_BANK_STATE b :: (chansOfBank b).flatMap fun n =>
          [R.ch_CAL_TIME n, R.ch_CAL_DRIFT n, R.ch_CAL_OFFSET n, R.ch_CAL_GAIN n, R.ch_CAL_SKEW n, R.ch_CONV_STATUS n])
      ∧ Keeps s t [.regs, .chans, .spares, .freeCount]) ∧
  (∀ (s : State) (b : Nat), 1 ≤ s.rd (R.bk_BANK_STATE b) → s.rd (R.bk_BANK_STATE b) ≤ 3 →
    exec (.refBufferTimeout b) s
      = .next ((((s.wr (R.bk_BANK_STATE b) 6).dropBursts b).each (chansOfBank b) State.settleConversion).emit (.raised 0x7031 b))) ∧
  (∀ (s : State) (b : Nat), 1 ≤ s.rd (R.bk_BANK_STATE b) → s.rd (R.bk_BANK_STATE b) ≤ 3 →
    (∀ n ∈ chansOfBank b, s.converting n = false) →
    ∃ t, exec (.refBufferTimeout b) s = .next t ∧ t.rd (R.bk_BANK_STATE b) = 6 ∧ t.out = s.out ++ [.raised 0x7031 b]
      ∧ RegsBut s t (R.bk_BANK_STATE b :: (chansOfBank b).map R.ch_CONV_STATUS) ∧ Keeps s t [.regs, .chans, .quads, .out]) ∧
  (∀ (s u : State) (b : Nat), s.rd (R.bk_BANK_STATE b) = 4 → (State.quadsOfBank b).any s.burstBegun = false →
    u = (s.each (State.quadsOfBank b) State.abandonSubst).dropBursts b →
    exec (.bankConversionStop b) s = .next (((if u.rd (R.bk_CAL_STATE b) = 1 then u.wr (R.bk_CAL_STATE b) 0 else u).stopBank b).wr
      (R.bk_BANK_STATE b) 5)) ∧
  (∀ (s : State) (b : Nat), s.rd (R.bk_BANK_STATE b) = 4 → (State.quadsOfBank b).any s.burstBegun = true →
    exec (.bankConversionStop b) s = .next s) ∧
  (∀ (s : State) (b : Nat), s.rd (R.bk_BANK_STATE b) = 4 → (State.quadsOfBank b).any s.burstBegun = false →
    (∀ n ∈ chansOfBank b, s.converting n = false ∧ bitAt (s.rd (R.ch_CH_STATUS n)) 5 = false
      ∧ bitAt (s.rd (R.ch_CH_STATUS n)) 6 = false ∧ s.rd (R.pu_CAP_ENABLE n) = 0) →
    (∀ q ∈ State.quadsOfBank b, (s.spare q).phase = 0) →
    ∃ t, exec (.bankConversionStop b) s = .next t ∧ t.rd (R.bk_BANK_STATE b) = 5
      ∧ (∀ n ∈ chansOfBank b, t.rd (R.ch_CONV_STATUS n) = putBit (putBit (putBit (s.rd (R.ch_CONV_STATUS n)) 0 false)
          1 false) 6 true ∧ (t.chan n).owDue = false ∧ (t.chan n).tdrPending = false)
      ∧ (∀ q ∈ State.quadsOfBank b, (t.quad q).burstRunning = false)
      ∧ RegsBut s t (R.bk_BANK_STATE b :: R.bk_CAL_STATE b :: (chansOfBank b).flatMap fun n => [R.ch_CONV_STATUS n, R.ch_GOB_STATUS n])
      ∧ Keeps s t [.regs, .chans, .quads]) ∧
  (∀ (s u : State) (b : Nat), s.rd (R.bk_BANK_STATE b) = 5 → u = (s.wr (R.bk_BANK_STATE b) 0).settleDrain (b / 4 + 1) →
    exec (.bankDrainDone b) s = .next ((if u.rd (R.di_DIE_STATE (b / 4)) == 2 && ((List.range 4).all fun j =>
        (s.wr (R.bk_BANK_STATE b) 0).rd (R.bk_BANK_STATE (4 * (b / 4) + j)) == 0) then
      (u.wr (R.di_DIE_STATE (b / 4)) 0).settleLink (b / 4 + 1) else u).commandBank b)) ∧
  (∀ (s : State) (b : Nat), s.rd (R.bk_BANK_STATE b) = 5 → s.rd (R.di_DIE_STATE (b / 4)) = 2 →
    (s.link (b / 4 + 1)).drainOpen = false → s.uplinkBusy (b / 4 + 1) = false →
    (∀ j, j < 4 → 4 * (b / 4) + j ≠ b → s.rd (R.bk_BANK_STATE (4 * (b / 4) + j)) = 0) →
    ∃ t, exec (.bankDrainDone b) s = .next t
      ∧ Sets s t [(R.bk_BANK_STATE b, 0), (R.di_DIE_STATE (b / 4), 0), (R.di_LINK_STATE (b / 4), 0)]
      ∧ Keeps s t [.regs])

/-- R105, R106, R108, R109: a disagreement of more than 50 ppm warns, one of more than 200 ppm also makes the
reference suspect, on REF_STATE and on CONV_STATUS of the die's channels; a flag clears when the disagreements have
stayed low; recalibration against REFX records both references, zeroes the disagreements and clears the flags. (The
frames of the first two are for a die without REFX.) What the flags of switched banks do is the model's choice (log
entry 28). -/
def Obligations.References : Prop :=
  (∀ (s : State) (d a b x : Nat),
    ∃ t, exec (.refSupervisionAverage d a b x) s = .next t
      ∧ t.rd (R.di_DIS_AB (d - 1)) = ofSigned 32 (disagreement a b (s.recorded d).1 (s.recorded d).2)
      ∧ (s.rd (R.di_REFX_PRESENT (d - 1)) ≠ 0 →
          t.rd (R.di_DIS_AX (d - 1)) = ofSigned 32 (disagreement a x (s.recorded d).1 (s.rd (R.di_REF_RECAL_V (d - 1)) * 1000))
          ∧ t.rd (R.di_DIS_BX (d - 1)) = ofSigned 32 (disagreement b x (s.recorded d).2 (s.rd (R.di_REF_RECAL_V (d - 1)) * 1000)))) ∧
  (∀ (s : State) (d a b x : Nat) (ab : Int), s.rd (R.di_REFX_PRESENT (d - 1)) = 0 →
    s.rd (R.di_REF_STATE (d - 1)) = 0 → (s.dieRef d).heldBanks = [] → ab = disagreement a b (s.recorded d).1 (s.recorded d).2 →
    5000 < ab.natAbs → ab.natAbs ≤ 20000 →
    ∃ t, exec (.refSupervisionAverage d a b x) s = .next t
      ∧ Sets s t ([(R.di_DIS_AB (d - 1), ofSigned 32 ab), (R.di_REF_STATE (d - 1), 1),
          (R.di_REF_WARNINGS (d - 1), s.counted (R.di_REF_WARNINGS (d - 1)) 1)] ++ (chansOfDie d).map fun n =>
            (R.ch_CONV_STATUS n, putBit (putBit (s.rd (R.ch_CONV_STATUS n)) 2 true) 3 false))
      ∧ Keeps s t [.regs]) ∧
  (∀ (s : State) (d a b x : Nat) (ab : Int), s.rd (R.di_REFX_PRESENT (d - 1)) = 0 →
    s.rd (R.di_REF_STATE (d - 1)) = 0 → (s.dieRef d).heldBanks = [] → ab = disagreement a b (s.recorded d).1 (s.recorded d).2 →
    20000 < ab.natAbs → ab.natAbs < 2 ^ 31 →
    ∃ t, exec (.refSupervisionAverage d a b x) s = .next t
      ∧ Sets s t ([(R.di_DIS_AB (d - 1), ofSigned 32 ab), (R.di_REF_STATE (d - 1), 3),
          (R.di_REF_WARNINGS (d - 1), s.counted (R.di_REF_WARNINGS (d - 1)) 1)] ++ (chansOfDie d).map fun n =>
            (R.ch_CONV_STATUS n, putBit (putBit (s.rd (R.ch_CONV_STATUS n)) 2 true) 3 true))
      ∧ t.out = s.out ++ (if (chansOfDie d).any (fun n => s.rd (R.ch_LEGAL n) != 0 && !bitAt (s.rd (R.ch_CONV_STATUS n)) 3) then
          [.notice (.refSuspect d)] else []) ∧ Keeps s t [.regs, .out]) ∧
  (∀ (s : State) (d : Nat) (b : Bool), (s.dieRef d).recalBusy = false → (s.refDis d).all (fun x => decide (x.natAbs < if b then 16000 else 4000)) = true →
    ∃ t, exec (.refFlagClear d b) s = .next t
      ∧ t.rd (R.di_REF_STATE (d - 1)) = (if b then putBit (s.rd (R.di_REF_STATE (d - 1))) 1 false
          else s.rd (R.di_REF_STATE (d - 1)) / 64 % 2 * 64 + ofBool (bitAt (s.rd (R.di_REF_STATE (d - 1))) 1) * 2)
      ∧ RegsBut s t (R.di_REF_STATE (d - 1) :: (chansOfDie d).map R.ch_CONV_STATUS) ∧ Keeps s t [.regs, .dieRefs]) ∧
  (∀ (s : State) (d : Nat), s.rd (R.di_REFX_PRESENT (d - 1)) = 0 → s.rd (R.di_REF_STATE (d - 1)) = 1 →
    (s.rdI (R.di_DIS_AB (d - 1)) 32).natAbs < 4000 → (s.dieRef d).heldBanks = [] → (s.dieRef d).recalBusy = false →
    ∃ t, exec (.refFlagClear d false) s = .next t
      ∧ Sets s t ((R.di_REF_STATE (d - 1), 0) :: (chansOfDie d).map fun n =>
          (R.ch_CONV_STATUS n, putBit (putBit (s.rd (R.ch_CONV_STATUS n)) 2 false) 3 false)) ∧ Keeps s t [.regs, .dieRefs]) ∧
  (∀ (s : State) (h : Hdr) (d : Nat), OwnerAsks s h 0x02 → s.part.fronts ≤ 7 → 1 ≤ d → d ≤ s.part.fronts →
    s.free_ (R.di_REF_RECAL (d - 1)) → s.rd (R.di_REFX_PRESENT (d - 1)) = 1 →
    bitAt (s.rd (R.di_REF_STATE (d - 1))) 6 = false →
    ∃ t, exec (.refRecal h d 0 [1#8]) s = .next t ∧ Served s t h 0x02 [] []
      ∧ t.dieRef d = { s.dieRef d with recalBusy := true } ∧ Keeps s t [.regs, .sessions, .dieRefs, .out]) ∧
  (∀ (s : State) (d a b x : Nat), (s.dieRef d).recalBusy = true → x ≠ 0 →
    ∃ t, exec (.refRecalDone d a b x) s = .next t
      ∧ t.rd (R.di_DIS_AB (d - 1)) = 0 ∧ t.rd (R.di_DIS_AX (d - 1)) = 0 ∧ t.rd (R.di_DIS_BX (d - 1)) = 0
      ∧ t.rd (R.di_REF_STATE (d - 1)) = s.rd (R.di_REF_STATE (d - 1)) / 64 * 64
      ∧ t.rd (R.di_REF_RECAL_TIME (d - 1)) = s.now96 ∧ (t.dieRef d).recalBusy = false
      ∧ (t.dieRef d).recA = (roundEven (a * (s.rd (R.di_REF_RECAL_V (d - 1)) * 1000) : Nat) x).toNat
      ∧ (t.dieRef d).recB = (roundEven (b * (s.rd (R.di_REF_RECAL_V (d - 1)) * 1000) : Nat) x).toNat
      ∧ t.out = s.out ++ (if s.dieLegal d then [.notice (.recalibrated d (s.rd (R.di_REF_RECAL_V (d - 1))))] else [])
      ∧ RegsBut s t ([R.di_DIS_AB (d - 1), R.di_DIS_AX (d - 1), R.di_DIS_BX (d - 1), R.di_REF_STATE (d - 1),
          R.di_REF_RECAL_TIME (d - 1)] ++ (chansOfDie d).map R.ch_CONV_STATUS)
      ∧ Keeps s t [.regs, .dieRefs, .out])

/-- R110, R112, R341: CAL_NOW starts a run on a bank that is on, beginning with slice 0 of every quad that is free;
when the run is done on every quad CAL_STATE says so (3 where quads were skipped), and slices calibrated in burst gaps
are dated. A step of the background cycle moves a slice's words towards what was measured, by no more than the step of
R110, and judges the slice. -/
def Obligations.Calibration : Prop :=
  (∀ (s : State) (h : Hdr) (b : Nat), OwnerAsks s h 0x02 → s.part.fronts ≤ 7 → b < 4 * s.part.fronts →
    s.free_ (R.bk_CAL_NOW b) → s.rd (R.bk_BANK_STATE b) = 3 → s.bankLegal b = false →
    (∀ q ∈ State.quadsOfBank b, s.rd (R.ss_SUBST_STATE q) ≠ 0) →
    ∃ t, exec (.calNow h b 0 [1#8]) s = .next t ∧ Served s t h 0x02 [(R.bk_CAL_STATE b, 1)] []
      ∧ Keeps s t [.regs, .sessions, .out]) ∧
  (∀ (s : State) (h : Hdr) (b : Nat), OwnerAsks s h 0x02 → s.part.fronts ≤ 7 → b < 4 * s.part.fronts →
    s.free_ (R.bk_CAL_NOW b) → s.rd (R.bk_BANK_STATE b) = 3 → s.bankLegal b = false →
    ∃ t, exec (.calNow h b 0 [1#8]) s = .next t ∧ t.rd (R.bk_CAL_STATE b) = 1
      ∧ t.out = s.out ++ [done h 0x02 []]
      ∧ (∀ q ∈ State.quadsOfBank b, s.rd (R.ss_SUBST_STATE q) = 0 → t.rd (R.ss_SUBST_STATE q) = 1
          ∧ t.rd (R.ss_SUBST_CAUSE q) = 4 ∧ (t.spare q).moving = 0 ∧ (t.spare q).phase = 1)
      ∧ Keeps s t [.regs, .sessions, .spares, .out]) ∧
  (∀ (s : State) (b : Nat), s.rd (R.bk_CAL_STATE b) = 1 → (State.quadsOfBank b).any s.calBusy = true →
    exec (.calNowDone b) s = .next s) ∧
  (∀ (s : State) (b : Nat), s.rd (R.bk_CAL_STATE b) = 1 → (State.quadsOfBank b).any s.calBusy = false →
    ∃ t, exec (.calNowDone b) s = .next t
      ∧ t.rd (R.bk_CAL_STATE b) = (if (State.quadsOfBank b).any s.calSkips then 3 else 2)
      ∧ (∀ q ∈ State.quadsOfBank b, s.calSkips q = false → s.calRan q = false → ∀ n ∈ chansOfQuad q,
          t.rd (R.ch_CAL_TIME n) = s.now96 ∧ t.rd (R.ch_CAL_DRIFT n) = 0)
      ∧ RegsBut s t (R.bk_CAL_STATE b :: (chansOfBank b).flatMap fun n => [R.ch_CAL_TIME n, R.ch_CAL_DRIFT n,
          R.ch_CAL_OFFSET n, R.ch_CAL_GAIN n, R.ch_CAL_SKEW n])
      ∧ Keeps s t [.regs, .chans, .spares, .freeCount]) ∧
  (∀ (s : State) (q c : Nat) (off gain skew drift : Int) (ok_ : Bool), s.rd (R.bk_BANK_STATE (q / 8)) = 3 → c ≤ 4 →
    ∃ t, exec (.backgroundTrackingCycle q c off gain skew drift ok_) s = .next t
      ∧ (ok_ = true → tabGet 0 (t.spare q).failsInRow c = 0)
      ∧ (ok_ = false → tabGet 0 (t.spare q).failsInRow c = tabGet 0 (s.spare q).failsInRow c + 1)
      ∧ (c = 4 → ok_ = true → s.spareServes q = false → (s.spare q).phase = 0 → (t.spare q).calOffset = off ∧ (t.spare q).calGain = gain ∧ (t.spare q).calSkew = skew)) ∧
  (∀ (s : State) (q c : Nat) (off gain skew drift : Int), s.rd (R.bk_BANK_STATE (q / 8)) = 3 → c < 4 →
    (s.spare q).phase = 0 → s.spareServes q = false → s.rd (R.ch_SLICE (4 * q + c)) = c → drift.natAbs ≤ s.rd R.cu_DRIFT_LIMIT → drift.natAbs < 2 ^ 32 →
    (toSigned 32 (ofSigned 32 (State.stepTowards (s.rdI (R.ch_CAL_OFFSET (4 * q + c)) 32) off 4096))
      - (s.chan (4 * q + c)).calBase).natAbs ≤ s.rd R.cu_OFFSET_LIMIT * 65536 →
    ∃ t, exec (.backgroundTrackingCycle q c off gain skew drift true) s = .next t
      ∧ Sets s t [(R.ch_CAL_OFFSET (4 * q + c),
            ofSigned 32 (State.stepTowards (s.rdI (R.ch_CAL_OFFSET (4 * q + c)) 32) off 4096)),
          (R.ch_CAL_GAIN (4 * q + c), ofSigned 32 (State.stepTowards (s.rdI (R.ch_CAL_GAIN (4 * q + c)) 32) gain 1000)),
          (R.ch_CAL_SKEW (4 * q + c), ofSigned 16 (State.trimSkew skew)), (R.ch_CAL_DRIFT (4 * q + c), drift.natAbs),
          (R.ss_SLICE_HEALTH q, putBit (s.rd (R.ss_SLICE_HEALTH q)) c false)]
      ∧ Keeps s t [.regs, .spares])

/-- R344, R347: SUBST_REQ starts moving a channel to the spare slice, or back; the shadow, the match and the fade
follow, and at the end of the fade the spare serves the channel. -/
def Obligations.Substitution : Prop :=
  (∀ (s : State) (h : Hdr) (q c : Nat), OwnerAsks s h 0x02 → s.part.fronts ≤ 7 → q < 32 * s.part.fronts → c ≤ 3 →
    s.free_ (R.ss_SUBST_REQ q) → s.quadLegal q = false → (s.spare q).phase = 0 → s.rd (R.bk_CAL_STATE (q / 8)) ≠ 1 →
    s.rd (R.bk_BANK_STATE (q / 8)) = 3 → s.rd (R.ss_SUBST_STATE q) = 0 → bitAt (s.rd (R.ss_SLICE_HEALTH q)) 4 = false →
    ∃ t, exec (.substReqMove h q c 0) s = .next t
      ∧ Served s t h 0x02 ([(R.ss_SUBST_STATE q, 1), (R.ss_SUBST_CAUSE q, 1)] ++ s.logged 11 (4 * q + c) 3) []
      ∧ t.spare q = { s.spare q with moving := c, restoring := false, phase := 1, done := 0 }
      ∧ Keeps s t [.regs, .sessions, .spares, .out]) ∧
  (∀ (s : State) (h : Hdr) (q : Nat), OwnerAsks s h 0x02 → s.part.fronts ≤ 7 → q < 32 * s.part.fronts →
    s.free_ (R.ss_SUBST_REQ q) → s.quadLegal q = false → (s.spare q).phase = 0 → s.rd (R.bk_CAL_STATE (q / 8)) ≠ 1 →
    s.rd (R.bk_BANK_STATE (q / 8)) = 3 → s.rd (R.ss_SUBST_STATE q) = 4 →
    bitAt (s.rd (R.ss_SLICE_HEALTH q)) (s.rd (R.ss_SPARE_FOR q)) = false →
    ∃ t, exec (.substReqRestore h q 0) s = .next t
      ∧ Served s t h 0x02 ([(R.ss_SUBST_STATE q, 5)] ++ s.logged 11 (4 * q + (s.spare q).moving) 3) []
      ∧ t.spare q = { s.spare q with restoring := true, phase := 1, done := 0 } ∧ Keeps s t [.regs, .sessions, .spares, .out]) ∧
  (∀ (s : State) (q : Nat), (s.spare q).phase = 1 → s.substEnough q (s.rd R.cu_SHADOW_LEN) (s.rd R.cu_SHADOW_BURSTS) = true →
    exec (.substShadowEnd q) s = .next ((s.setSpare q { s.spare q with phase := 2 }).wr (R.ss_SUBST_STATE q)
      (if (s.spare q).restoring then 5 else 2))) ∧
  (∀ (s : State) (q : Nat), (s.spare q).phase = 2 → ((s.spare q).restoring = true → s.rd (R.ss_SUBST_CAUSE q) ≠ 4) →
    ∃ t, exec (.substMatchDone q) s = .next t
      ∧ t.spare q = { s.spare q with
          phase := 3, done := 0, newOffset := Config.matchedCal 0 s.freeCount, newGain := Config.matchedCal 1 s.freeCount,
          newSkew := Config.matchedCal 2 s.freeCount }
      ∧ (∀ k, k ≠ q → t.spare k = s.spare k)
      ∧ Sets s t [(R.ss_SUBST_STATE q, if (s.spare q).restoring then 5 else 3)] ∧ Keeps s t [.regs, .spares, .freeCount]) ∧
  (∀ (s : State) (q : Nat), (s.spare q).phase = 2 → (s.spare q).restoring = true → s.rd (R.ss_SUBST_CAUSE q) = 4 →
    exec (.substMatchDone q) s = .next ((s.bump.setSpare q { s.spare q with phase := 3, done := 0 }).wr (R.ss_SUBST_STATE q) 5)) ∧
  (∀ (s : State) (q : Nat), (s.spare q).phase = 3 → s.substEnough q (s.rd R.cu_FADE_LEN) (s.rd R.cu_FADE_BURSTS) = true →
    exec (.substFadeEnd q) s = .next (s.fadeDone q)) ∧
  (∀ (s : State) (q n : Nat), (s.spare q).phase = 3 → s.substEnough q (s.rd R.cu_FADE_LEN) (s.rd R.cu_FADE_BURSTS) = true → (s.spare q).restoring = false → s.rd (R.ss_SUBST_CAUSE q) ≠ 4 →
    (s.spare q).moving < 4 → n = 4 * q + (s.spare q).moving → s.rd (R.ch_LEGAL n) = 0 →
    ∃ t, exec (.substFadeEnd q) s = .next t ∧ t.rd (R.ss_SUBST_STATE q) = 4 ∧ t.rd (R.ss_SPARE_FOR q) = (s.spare q).moving
      ∧ t.rd (R.ss_SUBST_TIME q) = s.now96 ∧ t.rd (R.ch_SLICE n) = 4 ∧ bitAt (t.rd (R.ch_CONV_STATUS n)) 5 = true
      ∧ t.rd R.cu_SUBSTITUTIONS = s.counted R.cu_SUBSTITUTIONS 1 ∧ t.rd R.cu_SLICE_SPARES = s.rd R.cu_SLICE_SPARES - 1
      ∧ (t.spare q).phase = 0 ∧ t.rd (R.ch_CAL_OFFSET n) = ofSigned 32 (s.spare q).newOffset
      ∧ RegsBut s t ([R.ss_SUBST_STATE q, R.ss_SPARE_FOR q, R.ss_SUBST_TIME q, R.ch_SLICE n, R.cu_SUBSTITUTIONS,
          R.cu_SLICE_SPARES, R.ch_CAL_OFFSET n, R.ch_CAL_GAIN n, R.ch_CAL_SKEW n] ++ (s.logged 11 n 4).map (·.1)
          ++ (chansOfQuad q).map R.ch_CONV_STATUS)
      ∧ Keeps s t [.regs, .spares, .freeCount])

/-- R342, R345, R350, R351: a slice that fails hard is replaced by the spare at once, with the calibration of the
spare's last background cycle, and where the spare serves another the channel is lost; a core that misses 10 watchdog
answers is taken over by the spare core; an SRAM row is remapped to a spare row; an ageing measurement shows AGE_PPM
with its rate, and the first of a die, which has none, is logged when it passes AGE_WARN. The 5 µs that a hard fault
withholds samples for are the model's choice (log entry 116). -/
def Obligations.SparesInUse : Prop :=
  (∀ (s : State) (n q : Nat), quadOf n = q → s.rd (R.ch_SLICE n) ≠ 4 → s.spareServes q = false →
    bitAt (s.rd (R.ss_SLICE_HEALTH q)) 4 = false → (s.spare q).lost.contains (n % 4) = false →
    ∃ t, exec (.sliceHardFault n) s = .next t ∧ t.rd (R.ch_SLICE n) = 4 ∧ t.rd (R.ss_SUBST_STATE q) = 4
      ∧ t.rd (R.ss_SUBST_CAUSE q) = 3 ∧ t.rd (R.ss_SPARE_FOR q) = n % 4 ∧ bitAt (t.rd (R.ss_SLICE_HEALTH q)) (n % 4) = true
      ∧ t.rd (R.ch_CAL_OFFSET n) = ofSigned 32 (s.spare q).calOffset ∧ t.rd (R.ch_CAL_GAIN n) = ofSigned 32 (s.spare q).calGain
      ∧ t.rd (R.ch_CAL_SKEW n) = ofSigned 16 (State.trimSkew (s.spare q).calSkew)
      ∧ t.rd R.cu_SUBSTITUTIONS = s.counted R.cu_SUBSTITUTIONS 1 ∧ Keeps s t [.regs, .spares, .chans, .caps, .out]) ∧
  (∀ (s : State) (n q : Nat), quadOf n = q → s.rd (R.ch_SLICE n) ≠ 4 → s.spareServes q = true →
    (s.spare q).lost.contains (n % 4) = false →
    exec (.sliceHardFault n) s = .next (((s.wr (R.ss_SLICE_HEALTH q) (putBit (s.rd (R.ss_SLICE_HEALTH q)) (n % 4) true)).logEvent
      10 n 1).loseChannel n)) ∧
  (∀ (s : State) (core : Nat), s.cores.out.contains core = false → tabGet 0 s.cores.misses core + 1 < 10 →
    exec (.coreWatchdogMiss core) s = .next (s.putCores { s.cores with
      misses := tabPut 0 core (tabGet 0 s.cores.misses core + 1) s.cores.misses })) ∧
  (∀ (s : State) (core : Nat), s.cores.out.contains core = false → tabGet 0 s.cores.misses core = 9 →
    s.cores.spareUsed = false →
    exec (.coreWatchdogMiss core) s = .next ((((((s.putCores ⟨s.cores.out ++ [core], true, tabPut 0 core 0 s.cores.misses⟩).logEvent
      11 core 7).logEvent 11 core 3).extendLeases).logEvent 11 core 4).count R.cu_SUBSTITUTIONS 1)) ∧
  (∀ (s : State) (k : Nat), tabGet 0 s.mode.rowsUsed 0 = k → k < 384 →
    exec (.sramRowRemap .queueCells) s = .next ((((((s.count R.ig_QCELL_CE 4).logEvent 4 0 2).putMode { s.mode with
      rowsUsed := tabPut 0 0 (k + 1) s.mode.rowsUsed }).wr R.cu_ROW_SPARES
      (s.rd R.cu_ROW_SPARES - 1)).count R.cu_SUBSTITUTIONS 1).logEvent 4 0 3 |>.logEvent 4 0 4)) ∧
  (∀ (s : State) (d k : Nat), 1 ≤ d → d ≤ s.part.fronts → tabGet 0 s.mode.rowsUsed d = k → k < 512 →
    exec (.sramRowRemap (.frontDie d)) s = .next ((((((s.count R.ig_FSRAM_CE 4).logEvent 2 d 2).putMode { s.mode with
      rowsUsed := tabPut 0 d (k + 1) s.mode.rowsUsed }).wr R.cu_ROW_SPARES
      (s.rd R.cu_ROW_SPARES - 1)).count R.cu_SUBSTITUTIONS 1).logEvent 2 d 3 |>.logEvent 2 d 4)) ∧
  (∀ (s : State) (d : Nat), 1 ≤ d → d ≤ s.part.fronts → 512 ≤ tabGet 0 s.mode.rowsUsed d →
    exec (.sramRowRemap (.frontDie d)) s = .next (((s.count R.ig_FSRAM_CE 4).logEvent 2 d 2).logEvent 2 d 6)) ∧
  (∀ (s : State) (d ppm rate : Nat) (l : List Nat), l = lastN 1001 (tabGet [] s.mode.ages d ++ [ppm]) →
    rate = (if l.length - 1 = 0 then 0 else roundNear ((ppm - l.headD 0) * 1000) (l.length - 1)) →
    ∃ t, exec (.ageingMeasurement d ppm) s = .next t ∧ t.rd (R.ag_AGE_PPM d) = ppm ∧ t.rd (R.ag_AGE_TIME d) = s.now96
      ∧ t.rd (R.ag_AGE_RATE d) = rate
      ∧ t.rd (R.ag_LIFE_LEFT d) = (if rate = 0 then 0xFFFFFFFF else min ((50000 - ppm) * 1000 / rate) 0xFFFFFFFF)
      ∧ tabGet [] t.mode.ages d = l) ∧
  (∀ (s : State) (d ppm : Nat), tabGet [] s.mode.ages d = [] → ppm ≤ 50000 →
    ∃ t, exec (.ageingMeasurement d ppm) s = .next t
      ∧ Sets s t ([(R.ag_AGE_PPM d, ppm), (R.ag_AGE_TIME d, s.now96), (R.ag_AGE_RATE d, 0), (R.ag_LIFE_LEFT d, 0xFFFFFFFF)]
          ++ (if s.rd (R.ag_AGE_PPM d) ≤ s.rd (R.ag_AGE_WARN d) ∧ s.rd (R.ag_AGE_WARN d) < ppm then s.logged 10 d 2 else []))
      ∧ t.mode = { s.mode with ages := tabPut [] d [ppm] s.mode.ages } ∧ Keeps s t [.regs, .mode])

/-- R13, R94, R95, R123, R124, R137, R138, R139, R140, R143: what a slice took on an edge of its grid is counted,
forwarded raw, seen at tap 0 and enters the Gob (with one stage of length 1 and decimation 1 its calibrated value is
LAST_VALUE); after COARSE_LEN valid samples the coarse value is their mean rounded to even, saturated, at the mean of
their positions; block means apart by more than STEP_DETECT publish the later one and count; a shadow sum that differs
is counted and logged. The words that have waited the flush interval leave in one flit, or wait while the link carries
none. (The frames are for a channel that no path reads and nothing captures.) R134, R135: an upward crossing of the
mains sense signal through its mean is placed between the two outputs around it; the first begins the measurement;
later ones give MAINS_FREQ in µHz from the span of the averaged cycles, and MAINS_STATE 2 once MAINS_AVG good cycles
have passed; one out of the range, or three missed cycles, hold the tracked lengths in MAINS_STATE 3. The instants of
values, the missing samples at a stream's start, and what WITHHELD and a fill take are the model's choices (log
entries 21, 22, 154 and 155). -/
def Obligations.GobOutputs : Prop :=
  (∀ (s u w : State) (n pos : Nat) (input other : Int) (m : Marks) (r : State × Sample), s.converting n = true →
    s.isBurst n = false → s.inBurst n = false → pos % convSpacing (s.rd (R.ch_CONV_RATE n)) = 0 → u = s.settleFault n pos →
    r = u.sliceSample n ⟨input, m⟩ pos →
    w = ((r.1.gobTake n ⟨u.calibrate n (codeOf input) (codeOf other) 1 (u.chan n).chopNeg, pos * 65536,
      pos * 65536, r.2.marks⟩).substCount n).cycleTick n →
    exec (.gobOutput n input other m pos) s = .next (w.settleSwitch (bankOfChan n) ((w.chan n).cycle == 0))) ∧
  (∀ (s : State) (n pos : Nat) (input other : Int) (m : Marks), s.converting n = true → s.isBurst n = false →
    s.inBurst n = false → s.rd (R.di_MAINS_SENSE (dieOf n - 1)) ≠ n →
    pos % convSpacing (s.rd (R.ch_CONV_RATE n)) = 0 → (s.chan n).faultEnd = none → (s.spare (quadOf n)).phase = 0 →
    (s.dieRef (bankOfChan n / 4 + 1)).switching = [] → s.rd (R.ch_STAGES n) = 1 → s.rd ⟨.channel, n, 0x29⟩ = 256 →
    s.rd ⟨.channel, n, 0x2A⟩ = 1 → s.rd (R.ch_TRACK_STAGE n) = 0 → s.rd (R.ch_RAW_FWD n) = 0 →
    s.rd (R.pu_CAP_ENABLE n) = 0 → (s.chan n).chopNeg = false → (s.chan n).hold = .none → (s.chan n).held = 0 →
    s.pathsOf n = [] → s.pathReads n = false → (s.chan n).counts = [0, 0, 0, 0] → (s.chan n).lines = [[], [], [], []] →
    ∃ t, exec (.gobOutput n input other m pos) s = .next t ∧ t.rd (R.ch_SAMPLES n) = s.counted (R.ch_SAMPLES n) 1
      ∧ t.rd (R.ch_LAST_VALUE n)
          = ofSigned 32 (gobValue (quotient (s.calibrate n (codeOf input) (codeOf other) 1 false) 1)).1
      ∧ RegsBut s t [R.ch_SAMPLES n, R.ch_LAST_VALUE n, R.ch_GOB_STATUS n] ∧ (∀ k, k ≠ n → t.chan k = s.chan k)
      ∧ Keeps s t [.regs, .chans]) ∧
  (∀ (s : State) (n : Nat), (s.chan n).held ≠ 0 → (s.chan n).hold = .none → s.blockNeed n ≤ (s.chan n).block.n →
    1 ≤ (s.chan n).block.n → exec (.coarseValuePublish n) s = .next (s.publishCoarse n)) ∧
  (∀ (s : State) (n : Nat) (v : Int), (s.chan n).held = 2 → (s.chan n).hold = .none → s.blockNeed n ≤ (s.chan n).block.n →
    1 ≤ (s.chan n).block.n → s.pathsOf n = [] → s.pathReads n = false →
    v = quotient (s.chan n).block.sum (s.chan n).block.n →
    ∃ t, exec (.coarseValuePublish n) s = .next t
      ∧ Sets s t [(R.ch_COARSE_VALUE n, ofSigned 32 (clampInt (-8388608) 8388607 (roundEven v valueUnit))),
          (R.ch_COARSE_TIME n, t96OfTicks (s.ballTime n
            (roundEven (s.chan n).block.pos ((s.chan n).block.n * 65536)).toNat)),
          (R.ch_GOB_STATUS n, putBit (s.rd (R.ch_GOB_STATUS n)) 2 false)]
      ∧ (t.chan n).held = 0 ∧ (t.chan n).coarseMean = v ∧ (t.chan n).coarseMarks = (s.chan n).block.marks ∧ (∀ k, k ≠ n → t.chan k = s.chan k)
      ∧ Keeps s t [.regs, .chans]) ∧
  (∀ (s : State) (n : Nat) (v : Int), (s.chan n).held = 1 → (s.chan n).hold = .none → s.blockNeed n ≤ (s.chan n).block.n →
    1 ≤ (s.chan n).block.n → s.pathsOf n = [] → s.pathReads n = false → s.rd (R.ch_STAGES n) = 0 →
    v = quotient (s.chan n).block.sum (s.chan n).block.n →
    ∃ t, exec (.coarseValuePublish n) s = .next t
      ∧ t.rd (R.ch_COARSE_VALUE n) = ofSigned 32 (clampInt (-8388608) 8388607 (roundEven v valueUnit))
      ∧ t.rd (R.ch_WITHHELD n) = s.counted (R.ch_WITHHELD n) ((s.chan n).heldIn.filter fun e => e.2 != .valid && e.2 != .restart).length
      ∧ RegsBut s t [R.ch_COARSE_VALUE n, R.ch_COARSE_TIME n, R.ch_GOB_STATUS n, R.ch_WITHHELD n]
      ∧ (t.chan n).held = 0 ∧ (t.chan n).heldIn = [] ∧ (t.chan n).coarseMean = v ∧ (t.chan n).coarseMarks = (s.chan n).block.marks ∧ Keeps s t [.regs, .chans]) ∧
  (∀ (s : State) (n : Nat) (b : GobBlock) (l : List GobBlock), (s.chan n).detDone = b :: l →
    bitAt (s.rd (R.ch_GOB_STATUS n)) 1 = false → (s.chan n).hold = .none →
    exec (.coarseBlockEnd n) s = .next ((s.setChan n { s.chan n with detDone := l }).stepDetect n b)) ∧
  (∀ (s : State) (n q : Nat) (b : GobBlock) (l : List GobBlock) (p : Int), (s.chan n).detDone = b :: l →
    bitAt (s.rd (R.ch_GOB_STATUS n)) 1 = false → (s.chan n).hold = .none → (s.chan n).prevMean = some (p, q) →
    ((s.rd (R.ch_STEP_DETECT n) * valueUnit * q * b.n : Nat) : Int) < ((b.sum * q - p * b.n).natAbs : Int) →
    s.pathsOf n = [] → s.pathReads n = false →
    ∃ t, exec (.coarseBlockEnd n) s = .next t
      ∧ Sets s t [(R.ch_COARSE_VALUE n, ofSigned 32 (clampInt (-8388608) 8388607
            (roundEven (quotient b.sum b.n) valueUnit))),
          (R.ch_COARSE_TIME n, t96OfTicks (s.ballTime n (roundEven b.pos (b.n * 65536)).toNat)),
          (R.ch_STEPS_DETECTED n, s.counted (R.ch_STEPS_DETECTED n) 1),
          (R.ch_GOB_STATUS n, putBit (s.rd (R.ch_GOB_STATUS n)) 1 true)]
      ∧ (t.chan n).prevMean = some (b.sum, b.n) ∧ (t.chan n).detDone = l ∧ Keeps s t [.regs, .chans]) ∧
  (∀ (s : State) (n q : Nat) (b : GobBlock) (l : List GobBlock) (p : Int), (s.chan n).detDone = b :: l →
    bitAt (s.rd (R.ch_GOB_STATUS n)) 1 = false → (s.chan n).hold = .none → (s.chan n).prevMean = some (p, q) →
    ((b.sum * q - p * b.n).natAbs : Int) ≤ ((s.rd (R.ch_STEP_DETECT n) * valueUnit * q * b.n : Nat) : Int) →
    exec (.coarseBlockEnd n) s
      = .next (s.setChan n { s.chan n with detDone := l, prevMean := some (b.sum, b.n) })) ∧
  (∀ (s : State) (n st : Nat),
    ∃ t, exec (.shadowSumRestart n st true) s = .next t
      ∧ Sets s t ([(R.ch_SUM_MISMATCH n, s.counted (R.ch_SUM_MISMATCH n) 1),
          (R.ig_GOB_MISMATCH, s.counted R.ig_GOB_MISMATCH 1),
          (R.ch_GOB_STATUS n, putBit (s.rd (R.ch_GOB_STATUS n)) 5 true)] ++ s.logged 9 n 1) ∧ Keeps s t [.regs]) ∧
  (∀ (s : State) (n : Nat), exec (.gobFlushInterval n) s = .next ((s.flushWords n).flushRaw n)) ∧
  (∀ (s : State) (n : Nat), (s.chan n).tailWords ≠ [] → (s.chan n).rawWords = [] → s.noInjection →
    s.linkUp (dieOf n) = true → (s.link (dieOf n)).creditHeld = false → (s.link (dieOf n)).up.held = [] →
    ∃ t, exec (.gobFlushInterval n) s = .next t
      ∧ t.out = s.out ++ [.flit (dieOf n) true (mkFlit 2 (gobStream n) (!(s.chan n).streamOpen) false (s.chan n).tailWords
          (s.link (dieOf n)).up.txSeq)]
      ∧ t.chan n = { s.chan n with tailWords := [], streamOpen := true }
      ∧ (t.link (dieOf n)).up.txSeq = ((s.link (dieOf n)).up.txSeq + 1) % 4096 ∧ Keeps s t [.links, .chans, .out]) ∧
  (∀ (s : State) (n : Nat), (s.chan n).tailWords ≠ [] → (s.chan n).rawWords = [] → s.linkUp (dieOf n) = false →
    ∃ t, exec (.gobFlushInterval n) s = .next t
      ∧ t.link (dieOf n) = { s.link (dieOf n) with up := { (s.link (dieOf n)).up with
          held := (s.link (dieOf n)).up.held ++ [⟨2, gobStream n, !(s.chan n).streamOpen, false, (s.chan n).tailWords⟩] } }
      ∧ t.chan n = { s.chan n with tailWords := [], streamOpen := true } ∧ Keeps s t [.links, .chans]) ∧
  (∀ (s : State) (d n p0 p1 : Nat) (mean v0 v1 : Int) (l : List (Int × Nat)), s.rd (R.di_MAINS_SENSE (d - 1)) = n → n ≠ 0xFFFF →
    (s.dieRef d).sense = (v1, p1) :: (v0, p0) :: l → v0 < mean → mean ≤ v1 →
    s.crossingPos d mean = some ((p0 * (v1 - mean) + p1 * (mean - v0)) / ((v1 - v0) * 65536)).toNat) ∧
  (∀ (s : State) (d : Nat) (mean : Int), s.crossingPos d mean = none → exec (.mainsCrossing d mean) s = .next s) ∧
  (∀ (s : State) (d pos : Nat) (mean : Int), s.crossingPos d mean = some pos → (s.dieRef d).mainsTimes = [] →
    ∃ t, exec (.mainsCrossing d mean) s = .next t
      ∧ Sets s t [(R.di_MAINS_STATE (d - 1),
          if s.rd (R.di_MAINS_STATE (d - 1)) = 0 then 1 else s.rd (R.di_MAINS_STATE (d - 1)))]
      ∧ t.dieRef d = { s.dieRef d with
          mainsTimes := [pos], goodCycles := (s.dieRef d).goodCycles + 1, sense := (s.dieRef d).sense.take 1 }
      ∧ Keeps s t [.regs, .dieRefs]) ∧
  (∀ (s : State) (d pos freq : Nat) (mean : Int) (l : List Nat), s.crossingPos d mean = some pos →
    l = lastN (s.rd (R.di_MAINS_AVG (d - 1)) + 1) ((s.dieRef d).mainsTimes ++ [pos]) → 2 ≤ l.length →
    l.headD 0 < l.getLastD 0 →
    freq = (l.length - 1) * 1638400000 * 256 * 1000000 / (l.getLastD 0 - l.headD 0) →
    (mainsRange (s.rd (R.di_MAINS_NOMINAL (d - 1)))).1 ≤ freq → freq ≤ (mainsRange (s.rd (R.di_MAINS_NOMINAL (d - 1)))).2 →
    ∃ t, exec (.mainsCrossing d mean) s = .next t
      ∧ Sets s t [(R.di_MAINS_FREQ (d - 1), freq),
          (R.di_MAINS_STATE (d - 1),
            if s.rd (R.di_MAINS_AVG (d - 1)) ≤ (s.dieRef d).goodCycles ∨ s.rd (R.di_MAINS_STATE (d - 1)) = 2 then 2
            else if s.rd (R.di_MAINS_STATE (d - 1)) = 0 then 1 else s.rd (R.di_MAINS_STATE (d - 1)))]
      ∧ (t.dieRef d).mainsTimes = l ∧ (t.dieRef d).goodCycles = (s.dieRef d).goodCycles + 1
      ∧ Keeps s t [.regs, .dieRefs]) ∧
  (∀ (s : State) (d pos freq : Nat) (mean : Int) (l : List Nat), s.crossingPos d mean = some pos →
    l = lastN (s.rd (R.di_MAINS_AVG (d - 1)) + 1) ((s.dieRef d).mainsTimes ++ [pos]) → 2 ≤ l.length →
    l.headD 0 < l.getLastD 0 →
    freq = (l.length - 1) * 1638400000 * 256 * 1000000 / (l.getLastD 0 - l.headD 0) →
    freq < (mainsRange (s.rd (R.di_MAINS_NOMINAL (d - 1)))).1 ∨ (mainsRange (s.rd (R.di_MAINS_NOMINAL (d - 1)))).2 < freq →
    ∃ t, exec (.mainsCrossing d mean) s = .next t ∧ Sets s t [(R.di_MAINS_STATE (d - 1), 3)]
      ∧ t.dieRef d = { s.dieRef d with mainsTimes := [], goodCycles := 0, sense := (s.dieRef d).sense.take 1 } ∧ Keeps s t [.regs, .dieRefs]) ∧
  (∀ (s : State) (d : Nat), s.rd (R.di_MAINS_STATE (d - 1)) = 1 ∨ s.rd (R.di_MAINS_STATE (d - 1)) = 2 →
    ∃ t, exec (.mainsMissedCycles d) s = .next t ∧ Sets s t [(R.di_MAINS_STATE (d - 1), 3)]
      ∧ t.dieRef d = { s.dieRef d with mainsTimes := [], goodCycles := 0 } ∧ Keeps s t [.regs, .dieRefs])

/-- R149, R150, R172, R173, R26: each round the Lehr takes what the front dies sent and gives every running path its
turn; a lane lost that leaves less than the admitted cost leads to Safe. The elastic buffers are empty after a round.
A residue mismatch is counted and computed again, the third of a lane within 1 s brings a spare lane into its place. A
running path whose next input has not come by its bound is late, PATH_STATE 5. (The frames are for rounds in which no
link's credit changes.) R159, R170, R175: the open block of a path closes when it is old enough, with the SEAL that it
opened with; START of its source begins the path again and END ends its stream with what the inputs cover, the last
block with END. What the die's elastic buffer holds is read first. -/
def Obligations.LehrRounds : Prop :=
  (∀ (s : State) (lane : Option Nat) (r : State × Bool), r = lehrRoundStep lane s →
    exec (.lehrRound lane) s = .next (if r.2 && r.1.mode.base != .safe then r.1.safeFor 0x7061 else r.1)) ∧
  (∀ (s : State), s.part.fronts ≤ 7 → s.paths = [] → (∀ d, (s.link d).creditHeld = false) →
    ∃ t, exec (.lehrRound none) s = .next t
      ∧ (∀ d, 1 ≤ d → d ≤ s.part.fronts → t.link d = { s.link d with ebuf := [] } ∧ t.rd (R.di_EBUF_FILL (d - 1)) = 0)
      ∧ RegsBut s t ((List.range s.part.fronts).map R.di_EBUF_FILL) ∧ Keeps s t [.regs, .links, .lehr]) ∧
  (∀ (s : State) (lane : Nat), s.paths = [] → (∀ d, (s.link d).creditHeld = false ∧ (s.link d).ebuf = []) →
    (∀ d, s.rd (R.di_EBUF_FILL d) = 0) → tabGet [] s.lehr.mismatches lane = [] →
    ∃ t, exec (.lehrRound (some lane)) s = .next t ∧ Sets s t [(R.le_RESIDUE_RETRIES, s.counted R.le_RESIDUE_RETRIES 1)]
      ∧ t.lehr = { s.lehr with mismatches := tabPut [] lane [s.time.edge] s.lehr.mismatches, carry := [] }
      ∧ (∀ d, t.link d = s.link d) ∧ Keeps s t [.regs, .links, .lehr]) ∧
  (∀ (s : State) (lane a b : Nat), s.paths = [] → (∀ d, (s.link d).creditHeld = false ∧ (s.link d).ebuf = []) →
    (∀ d, s.rd (R.di_EBUF_FILL d) = 0) →
    tabGet [] s.lehr.mismatches lane = [a, b] → s.time.edge < a + edgesPerSec → s.time.edge < b + edgesPerSec →
    0 < s.rd R.le_LANE_SPARES → s.rd R.ig_EVT_SEQ + 4 < 2 ^ 32 →
    ∃ t, exec (.lehrRound (some lane)) s = .next t ∧ t.rd R.le_LANE_SPARES = s.rd R.le_LANE_SPARES - 1
      ∧ t.rd R.le_RESIDUE_RETRIES = s.counted R.le_RESIDUE_RETRIES 1 ∧ t.rd R.le_LANES_WORKING = s.rd R.le_LANES_WORKING
      ∧ t.rd R.le_CAPACITY = s.rd R.le_CAPACITY ∧ t.rd R.ig_EVT_SEQ = s.rd R.ig_EVT_SEQ + 2
      ∧ t.lehr = { s.lehr with mismatches := tabPut [] lane [] s.lehr.mismatches, carry := [] }
      ∧ (∀ d, t.link d = s.link d) ∧ Keeps s t [.regs, .links, .lehr]) ∧
  (∀ (s : State) (p : Nat), (∀ d, (s.link d).creditHeld = false ∧ (s.link d).ebuf = []) →
    (∀ d, s.rd (R.di_EBUF_FILL d) = 0) → s.lehr.carry = [] → s.livePathList = [p] → (s.path p).cutOff = false →
    (s.path p).live = true → (s.path p).ending = none → (s.path p).produced = true → (s.path p).inputs = [] →
    (s.path p).gaps = [] → s.pathOutput p = none → s.rd (R.pa_PATH_STATE p) = 2 →
    s.inputLate p = true →
    ∃ t, exec (.lehrRound none) s = .next t ∧ Sets s t [(R.pa_PATH_STATE p, 5)] ∧ (∀ k, t.path k = s.path k)
      ∧ (∀ d, t.link d = s.link d) ∧ t.lehr = s.lehr ∧ Keeps s t [.regs, .links, .paths]) ∧
  (∀ (s : State) (p : Nat), (∀ d, (s.link d).creditHeld = false ∧ (s.link d).ebuf = []) →
    (∀ d, s.rd (R.di_EBUF_FILL d) = 0) → s.lehr.carry = [] → s.livePathList = [p] → (s.path p).cutOff = false →
    (s.path p).live = true → (s.path p).ending = none → (s.path p).inputs = [] →
    (s.path p).gaps = [] → s.pathOutput p = none → s.rd (R.pa_PATH_STATE p) = 5 →
    s.inputLate p = false →
    ∃ t, exec (.lehrRound none) s = .next t ∧ Sets s t [(R.pa_PATH_STATE p, 2)] ∧ (∀ k, t.path k = s.path k)
      ∧ (∀ d, t.link d = s.link d) ∧ t.lehr = s.lehr ∧ Keeps s t [.regs, .links, .paths]) ∧
  (∀ (s : State) (p : Nat), (s.path p).words ≠ [] → exec (.lehrBlockMaxage p) s = .next (s.closeBlock p false)) ∧
  (∀ (s : State) (p : Nat), (s.path p).words ≠ [] → s.isLegal (s.path p).fr.source = false →
    exec (.lehrBlockMaxage p) s = .next ((s.setPath p { s.path p with
        words := [], bseq := ((s.path p).bseq + 1) % 65536, startNext := false, skipped := 0, tkind := 0,
        closed := false }).enqueue (s.path p).fr.queue
      1 p (octetsOfWords (lehrBlock p (s.path p).bseq (s.path p).tkind (s.path p).firstInstant (s.path p).skipped
        (s.path p).startNext false (s.path p).openSealed (s.path p).words)) (some (s.path p).firstInstant))) ∧
  (∀ (s : State) (p d : Nat), (s.path p).live = true → d = dieOf (s.path p).fr.source →
    ((s.link d).ebuf.any fun e => e.typ == 2 && e.stream == gobStream (s.path p).fr.source && e.start) = false →
    exec (.pathSourceStart p) s = .next ((s.readEbuf d).sourceStart p)) ∧
  (∀ (s : State) (p d : Nat), (s.path p).live = true → d = dieOf (s.path p).fr.source →
    ((s.link d).ebuf.any fun e => e.typ == 2 && e.stream == gobStream (s.path p).fr.source && e.start) = true →
    exec (.pathSourceStart p) s = .next (s.readEbuf d)) ∧
  (∀ (s : State) (p d : Nat) (again : Bool), (s.path p).live = true → (s.path p).closed = true ∨ (s.path p).produced = false →
    again = ((s.path p).restarted && !(s.path p).produced && !(s.path p).closed) → (s.path p).ending = none → d = dieOf (s.path p).fr.source → (s.link d).ebuf = [] → (s.link d).creditHeld = false →
    ∃ t, exec (.pathSourceStart p) s = .next t
      ∧ t.path p = { Path.init with
          live := true, fr := s.pathFrame p, cur := s.pathCfg p,
          nextGrid := max (gridAt (s.rd (R.pa_OUT_PERIOD p)) s.now) (gridAt (s.rd (R.pa_OUT_PERIOD p)) (s.path p).notBefore),
          firstGrid := if again then (s.path p).firstGrid else gridAt (s.rd (R.pa_OUT_PERIOD p)) s.now, restarted := again, event := (s.path p).event,
          notBefore := (s.path p).notBefore }
      ∧ (∀ k, k ≠ p → t.path k = s.path k)
      ∧ Sets s t [(R.pa_PATH_STATE p, 1), (R.pa_FADE_AT p, 0), (R.di_EBUF_FILL (d - 1), 0)] ∧ Keeps s t [.regs, .links, .paths]) ∧
  (∀ (s : State) (p : Nat), (s.path p).live = true →
    exec (.pathSourceEnd p) s = .next ((s.readEbuf (dieOf (s.path p).fr.source)).sourceEnd p)) ∧
  (∀ (s : State) (p d : Nat), (s.path p).live = true → (s.path p).closed = false → (s.path p).inputs = [] →
    (s.path p).ending = none → (s.path p).gaps = [] → s.lives p = [] →
    d = dieOf (s.path p).fr.source → (s.link d).ebuf = [] → (s.readEbuf d).pathOutput p = none →
    exec (.pathSourceEnd p) s = .next ((((((s.readEbuf d).closeBlock p true).setPath p { Path.init with
      fr := (s.path p).fr, cur := (s.path p).cur, live := true, nextGrid := (s.path p).nextGrid,
      firstGrid := (s.path p).firstGrid, closed := true, event := (s.path p).event,
      notBefore := (s.path p).notBefore }).wr (R.pa_PATH_STATE p) 1).wr (R.pa_FADE_AT p) 0).settleGob (s.path p).fr.source)) ∧
  (∀ (s : State) (p d : Nat), (s.path p).live = true → (s.path p).closed = true → d = dieOf (s.path p).fr.source →
    (s.link d).ebuf = [] → (s.link d).creditHeld = false →
    ∃ t, exec (.pathSourceEnd p) s = .next t ∧ Sets s t [(R.di_EBUF_FILL (d - 1), 0)] ∧ Keeps s t [.regs, .links])

/-- R187, R188: an event reaches the 32 outputs of the matrix in turn: one that meets an output's number of sources
fires it, one that does not is held and dropped at its expiry; at the end of HOLDOFF the output takes events again. A
remote trigger block that fails its check is counted in RT_ERR, and in CTL_ERR where it fails R275; a good one is
counted, passed to the matrix with its own time, and relayed on the other direction while its hops allow; one seen
before is counted in RT_DUP; a bundle in wiring fault or address conflict carries none (R276). A firing with REMOTE_TX
sends one block in both directions, its TAG the output's number. R181, R182, R183, R184, R185, R189: a channel
detector that is ready, or has returned since it fired last, fires where its samples cross the level that TRIG_TYPE
and POL set (types 4 and 5 on the leading crossing that has lasted as they ask): the event carries the interpolated
instant, DET_EVENTS counts, and the armed channel takes its trigger. An edge that TRIG_EDGE selects, and a falling
edge of an enabled instrument line that the hub does not drive, is counted and passed to the matrix; driven lines are
released at the end of their pulse. The grid that an event is placed on, and which events a firing takes, are the
model's choices (log entries 24 and 26). -/
def Obligations.TriggerMatrix : Prop :=
  (∀ (s : State) (src : TrigSrc) (time : Nat) (late : Bool),
    exec (.matrixEvent src time late) s = .next (s.each (List.range 32) fun s m => s.mxTake src time late m)) ∧
  (∀ (s : State) (src : TrigSrc) (time m : Nat), m < 32 → (∀ k, k < 32 → k ≠ m → field (s.rd (R.mx_MOUT k)) 75 66 = 0) →
    field (s.rd (R.mx_MOUT m)) 75 66 = 1 → State.mxSource (s.rd (R.mx_MOUT m)) m src = true →
    s.matrix.events = [] → m ∉ s.matrix.holdoff → field (s.rd (R.mx_MOUT m)) 45 36 = 0x3FF →
    field (s.rd (R.mx_MOUT m)) 25 22 = 0 → bitAt (s.rd (R.mx_MOUT m)) 78 = false → field (s.rd (R.mx_MOUT m)) 15 0 ≠ 0 →
    ∃ t, exec (.matrixEvent src time false) s = .next t
      ∧ Sets s t [(R.mx_MOUT_FIRED m, s.counted (R.mx_MOUT_FIRED m) 1)]
      ∧ t.matrix = { s.matrix with holdoff := s.matrix.holdoff ++ [m] } ∧ Keeps s t [.regs, .matrix]) ∧
  (∀ (s : State) (src : TrigSrc) (time m : Nat) (late : Bool), m < 32 →
    (∀ k, k < 32 → k ≠ m → field (s.rd (R.mx_MOUT k)) 75 66 = 0) → 2 ≤ field (s.rd (R.mx_MOUT m)) 75 66 →
    State.mxSource (s.rd (R.mx_MOUT m)) m src = true → s.matrix.events = [] → m ∉ s.matrix.holdoff →
    exec (.matrixEvent src time late) s = .next (s.putMatrix { s.matrix with events := [⟨m, src, time, late⟩] })) ∧
  (∀ (s : State) (m : Nat), exec (.matrixEventExpiry m) s
    = .next (s.putMatrix { s.matrix with events := dropFirst (fun x => x.output == m) s.matrix.events })) ∧
  (∀ (s : State) (m : Nat) (e : MxEvent) (l : List MxEvent), s.matrix.events = e :: l → e.output = m →
    exec (.matrixEventExpiry m) s = .next (s.putMatrix { s.matrix with events := l })) ∧
  (∀ (s : State) (m : Nat), exec (.matrixHoldoffEnd m) s
    = .next (s.putMatrix { s.matrix with holdoff := s.matrix.holdoff.filter (· != m) })) ∧
  (∀ (s u : State) (dir lane : Nat) (p : Block), u = s.heard lane p → field p.toNat 31 0 ≠ blockCrc p →
    ∃ t, exec (.remoteTrigger dir lane p) s = .next t
      ∧ Sets u t [(R.mx_RT_ERR, u.counted R.mx_RT_ERR 1), (R.lx_CTL_ERR, u.counted R.lx_CTL_ERR 1)] ∧ Keeps u t [.regs]) ∧
  (∀ (s u v : State) (dir lane origin hops tag seq t96 : Nat) (late : Bool) (p : Block), u = s.heard lane p →
    u.carriesNone dir = false → p = remoteBlock origin hops tag seq t96 late →
    origin < 256 → tag < 32 → seq < 65536 → t96 < 2 ^ 96 → t96Valid t96 = true → hops ≤ 127 → field p.toNat 31 0 = blockCrc p →
    (∀ e ∈ u.matrix.seen, e.1 = origin → e.2.1 = seq → e.2.2 + 1638400 ≤ u.time.edge) →
    v = ((u.putMatrix { u.matrix with seen := (u.matrix.seen.filter fun e => u.time.edge < e.2.2 + 1638400)
          ++ [(origin, seq, u.time.edge)] }).count R.mx_RT_RX 1).emit (.event (.remote tag) (ticksOfT96 t96) late) →
    exec (.remoteTrigger dir lane p) s = .next (if hops + 1 ≤ u.rd R.mx_RT_HOPS_MAX ∧ origin ≠ u.rd R.lx_CHAIN_ADDR then
        v.sendRemote (1 - dir) (remoteBlock origin (hops + 1) tag seq t96 late) else v)) ∧
  (∀ (s u : State) (dir lane origin hops tag seq t96 t0 : Nat) (late : Bool) (p : Block), u = s.heard lane p →
    u.carriesNone dir = false → p = remoteBlock origin hops tag seq t96 late →
    origin < 256 → tag < 32 → seq < 65536 → t96 < 2 ^ 96 → t96Valid t96 = true → hops ≤ 127 → field p.toNat 31 0 = blockCrc p →
    (origin, seq, t0) ∈ u.matrix.seen → u.time.edge < t0 + 1638400 →
    ∃ t, exec (.remoteTrigger dir lane p) s = .next t ∧ Sets u t [(R.mx_RT_DUP, u.counted R.mx_RT_DUP 1)] ∧ Keeps u t [.regs]) ∧
  (∀ (s : State) (dir lane origin hops tag seq t96 : Nat) (late : Bool) (p : Block), (s.heard lane p).carriesNone dir = true →
    p = remoteBlock origin hops tag seq t96 late →
    origin < 256 → tag < 32 → seq < 65536 → t96 < 2 ^ 96 → t96Valid t96 = true → hops ≤ 127 → field p.toNat 31 0 = blockCrc p →
    exec (.remoteTrigger dir lane p) s = .next (s.heard lane p)) ∧
  (∀ (s : State) (src : TrigSrc) (time m lane : Nat) (p : Block), m < 32 → (∀ k, k < 32 → k ≠ m → field (s.rd (R.mx_MOUT k)) 75 66 = 0) →
    field (s.rd (R.mx_MOUT m)) 75 66 = 1 → State.mxSource (s.rd (R.mx_MOUT m)) m src = true →
    s.matrix.events = [] → m ∉ s.matrix.holdoff → field (s.rd (R.mx_MOUT m)) 45 36 = 0x3FF →
    field (s.rd (R.mx_MOUT m)) 25 22 = 0 → bitAt (s.rd (R.mx_MOUT m)) 78 = true →
    s.carriesNone 0 = false → s.carriesNone 1 = false → s.workLanes 0 = [lane] → s.workLanes 1 = [] →
    p = remoteBlock (s.rd R.lx_CHAIN_ADDR) 0 m (s.rd R.mx_RT_SEQ) (t96OfTicks time) false →
    ∃ t, exec (.matrixEvent src time false) s = .next t
      ∧ t.out = s.out ++ [.remote 0 p, .line lane (codeLine (s.lane lane).tx 9 p).1, .remote 1 p]
      ∧ t.rd R.mx_RT_SEQ = (s.rd R.mx_RT_SEQ + 1) % 65536
      ∧ RegsBut s t [R.mx_MOUT_FIRED m, R.mx_RT_SEQ] ∧ Keeps s t [.regs, .matrix, .lanes, .out]) ∧
  (∀ (s : State) (n t0 t1 tm : Nat) (x0 x1 l y0 y1 : Int), s.rd (R.pu_CAP_ENABLE n) = 1 → (s.chan n).hold = .none →
    crossing (s.rd (R.pu_TRIG_TYPE n)) (s.rd (R.pu_POL n)) (s.rdI (R.pu_LEVEL_A n) 32) (s.rdI (R.pu_LEVEL_B n) 32) x0 x1
      = some (l, y0, y1) → s.detMayFire n x0 t0 = true →
    s.rd (R.pu_TRIG_TYPE n) < 4 ∨ s.leadFires n x0 x1 t0 t1 = true →
    tm = t0 + roundNear (crossFrac l y0 y1 * (t1 - t0)) 256 →
    exec (.detectorFire n x0 x1 t0 t1) s = .next (((((s.setCap n { s.cap n with detReady := false, firedAt := t1, lastSample := t0 }).count
      (R.pu_DET_EVENTS n) 1).emit (.event (.channel n) tm false)).trigger n tm 0 0 (crossFrac l y0 y1) false))) ∧
  (∀ (s : State) (n t0 t1 tm : Nat) (x0 x1 : Int), s.rd (R.pu_CAP_ENABLE n) = 1 → (s.chan n).hold = .none →
    s.rd (R.pu_TRIG_TYPE n) = 1 → s.rd (R.pu_POL n) = 0 → x0 < s.rdI (R.pu_LEVEL_A n) 32 →
    s.rdI (R.pu_LEVEL_A n) 32 ≤ x1 → (s.cap n).detReady = true → s.rd (R.pu_ARM_STATE n) = 2 →
    (s.cap n).trigTime = none → tm = t0 + roundNear (crossFrac (s.rdI (R.pu_LEVEL_A n) 32) x0 x1 * (t1 - t0)) 256 →
    (s.cap n).armInstant ≤ tm → (s.cap n).histFrom ≤ tm → s.trigAge n tm ≤ s.historyLen n →
    ∃ t, exec (.detectorFire n x0 x1 t0 t1) s = .next t ∧ (t.cap n).trigTime = some tm ∧ (t.cap n).detReady = false
      ∧ (t.cap n).pre = min (s.rd (R.pu_PRE n)) (min (s.historyLen n - s.trigAge n tm) ((tm - (s.cap n).histFrom) / s.tapPeriod n))
      ∧ (∀ k, k ≠ n → t.cap k = s.cap k)
      ∧ Sets s t [(R.pu_DET_EVENTS n, s.counted (R.pu_DET_EVENTS n) 1), (R.pu_ARM_STATE n, 3)]
      ∧ t.out = s.out ++ [.event (.channel n) tm false] ∧ Keeps s t [.regs, .caps, .out]) ∧
  (∀ (s : State) (n tm fr : Nat) (x0 x1 : Int) (t0 t1 : Nat), s.rd (R.pu_CAP_ENABLE n) = 1 → (s.chan n).hold = .none →
    s.rd (R.pu_TRIG_TYPE n) = 1 → s.rd (R.pu_POL n) = 0 → x0 < s.rdI (R.pu_LEVEL_A n) 32 →
    s.rdI (R.pu_LEVEL_A n) 32 ≤ x1 → (s.cap n).detReady = true → s.rd (R.pu_ARM_STATE n) = 2 →
    (s.cap n).trigTime = none → fr = crossFrac (s.rdI (R.pu_LEVEL_A n) 32) x0 x1 → tm = t0 + roundNear (fr * (t1 - t0)) 256 →
    (s.cap n).armInstant ≤ tm → (s.cap n).histFrom ≤ tm → s.historyLen n < s.trigAge n tm →
    ∃ t, exec (.detectorFire n x0 x1 t0 t1) s = .next t ∧ (t.cap n).trigTime = none
      ∧ (t.cap n).missed = min 0xFFFFFFFF ((s.cap n).missed + 1)
      ∧ Sets s t [(R.pu_DET_EVENTS n, s.counted (R.pu_DET_EVENTS n) 1),
          (R.pu_MISSED_TOTAL n, s.counted (R.pu_MISSED_TOTAL n) 1), (R.pu_LATE_TRIGGERS n, s.counted (R.pu_LATE_TRIGGERS n) 1)]
      ∧ t.out = s.out ++ [.event (.channel n) tm false] ∧ Keeps s t [.regs, .caps, .out]) ∧
  (∀ (s : State) (k at_ : Nat) (up : Bool), k < 8 →
    (if up then s.rd R.mx_TRIG_EDGE / 4 ^ k % 2 = 1 else 2 ≤ s.rd R.mx_TRIG_EDGE / 4 ^ k % 4) →
    ∃ t, exec (.trigInputEdge k up at_) s = .next t
      ∧ Sets s t [(R.mx_TRIG_COUNT k, s.counted (R.mx_TRIG_COUNT k) 1)]
      ∧ t.out = s.out ++ [.event (.trig k) at_ false] ∧ Keeps s t [.regs, .out]) ∧
  (∀ (s : State) (l : Nat), l < 4 → bitAt (s.rd R.mx_ILINE_IN) l = true → bitAt s.matrix.driven l = false →
    ∃ t, exec (.ilineEdge l) s = .next t
      ∧ Sets s t [(R.mx_ILINE_COUNT l, s.counted (R.mx_ILINE_COUNT l) 1)]
      ∧ t.out = s.out ++ [.event (.iline l) s.now false] ∧ Keeps s t [.regs, .out]) ∧
  (∀ (s : State) (lines : Nat), ∃ t, exec (.ilinePulseEnd lines) s = .next t
    ∧ (∀ l, l < 4 → bitAt t.matrix.driven l = (bitAt s.matrix.driven l && !bitAt lines l))
    ∧ t.matrix = { s.matrix with driven := t.matrix.driven }
    ∧ t.out = s.out ++ ((List.range 4).filter fun l => bitAt lines l && bitAt s.matrix.driven l).map (fun l => .pin (16 + l) true)
    ∧ Keeps s t [.matrix, .out])

/-- R193, R196, R198, R199, R201: the last sample of a segment, or an early close, posts it with its header (Table
7-7); the channel then waits to re-arm while the next can be taken, and overflows where it cannot; it re-arms as
ARM_MODE has it, once samples are not withheld, or goes to idle; the collector moves the oldest segment of each
channel to its tenant's archive, or counts a stall where there is no place; a stopped channel re-arms when its
segments have drained. R189, R192, R194, R195: ARM arms an idle channel and waits where it is stopped or re-arms,
DISARM returns an armed one to idle and stops a capturing one after its segment, FORCE gives a trigger at the present
time; writes of true outside a clause. The fit of the archive, the marker of an ARM without room and what ARM_COUNT
counts are the model's choices (log entries 25, 138 and 156). -/
def Obligations.Segments : Prop :=
  (∀ (s : State) (n : Nat) (l : List Sample), s.rd (R.pu_ARM_STATE n) = 3 →
    (s.cap n).closing ≠ 0 ∨ s.segExpected n ≤ l.length →
    ∃ t, exec (.segmentComplete n l) s = .next t
      ∧ t.rd (R.pu_SEGMENTS n) = s.counted (R.pu_SEGMENTS n) 1
      ∧ t.rd (R.pu_LAST_TRIG_TIME n) = t96OfTicks ((s.cap n).trigTime.getD 0)
      ∧ t.segments = s.segments ++ [⟨n, t.newestWords, (s.cap n).nextShared⟩]
      ∧ t.newestWords.drop 16 = segmentWords (s.cap n).cfg.tap (l.take (s.segExpected n))
      ∧ t.newestWords.getD 1 0 = (s.cap n).segNo % 2 ^ 32
      ∧ t.newestWords.getD 8 0 = (l.take (s.segExpected n)).length ∧ t.newestWords.getD 9 0 = (s.cap n).pre
      ∧ t.newestWords.getD 15 0 = crc32c (octetsOfWords (t.newestWords.take 15 ++ t.newestWords.drop 16))
      ∧ (t.cap n).segNo = ((s.cap n).segNo + 1) % 2 ^ 32 ∧ t.newestWords.getD 7 0 = (s.cap n).missedHdr ∧ (t.cap n).missed = (s.cap n).missed ∧ (∀ k, k ≠ n → t.cap k = s.cap k)
      ∧ t.rd (R.pu_SEGS_REMAINING n) = (if s.rd (R.pu_ARM_MODE n) = 2
          then s.rd (R.pu_ARM_COUNT n) - (t.cap n).taken else 0)
      ∧ RegsBut s t [R.pu_ARM_STATE n, R.pu_SEGMENTS n, R.pu_LAST_TRIG_TIME n, R.pu_SEGS_REMAINING n, R.pu_OVERFLOWS n,
          R.ri_OVERFLOW_EVENTS, R.ri_SRAM_PEAK (dieOf n), R.ri_DESC_PEAK (dieOf n)]
      ∧ Keeps s t [.regs, .caps, .segments]) ∧
  (∀ (s : State) (n : Nat) (l : List Sample), s.rd (R.pu_ARM_STATE n) = 3 → (s.cap n).closing = 0 →
    s.segExpected n ≤ l.length → s.segsOf n = [] → (s.cap n).nextShared = false → s.rd (R.pu_ARM_MODE n) ≠ 2 →
    s.sramReserved (dieOf n) + s.sharedOctets (dieOf n) + s.segOctets n ≤ 67108864 →
    ∃ t, exec (.segmentComplete n l) s = .next t ∧ t.rd (R.pu_ARM_STATE n) = 4
      ∧ bitAt (t.newestWords.getD 10 0) 0 = false ∧ t.rd (R.pu_OVERFLOWS n) = s.rd (R.pu_OVERFLOWS n)) ∧
  (∀ (s : State) (n : Nat) (l : List Sample), s.rd (R.pu_ARM_STATE n) = 3 → (s.cap n).closing = 0 →
    s.segExpected n ≤ l.length → s.segsOf n = [] → (s.cap n).nextShared = false → s.rd (R.pu_ARM_MODE n) ≠ 2 → (s.cap n).disarmNext = false →
    67108864 < s.sramReserved (dieOf n) + s.sharedOctets (dieOf n) + s.segOctets n →
    ∃ t, exec (.segmentComplete n l) s = .next t ∧ t.rd (R.pu_ARM_STATE n) = 5
      ∧ bitAt (t.newestWords.getD 10 0) 0 = true ∧ t.rd (R.pu_OVERFLOWS n) = s.counted (R.pu_OVERFLOWS n) 1
      ∧ t.rd R.ri_OVERFLOW_EVENTS = s.counted R.ri_OVERFLOW_EVENTS 1) ∧
  (∀ (s : State) (n : Nat), s.rd (R.pu_ARM_STATE n) = 4 → (s.cap n).disarmNext = true →
    exec (.segmentRearm n) s = .next (s.idleChannel n)) ∧
  (∀ (s : State) (n : Nat), s.rd (R.pu_ARM_STATE n) = 4 → (s.cap n).disarmNext = false → (s.chan n).hold = .none →
    (s.cap n).stayArmed = true ∨ (s.cap n).deferredArm = true ∨ s.rd (R.pu_ARM_MODE n) = 1
      ∨ (s.rd (R.pu_ARM_MODE n) = 2 ∧ s.rd (R.pu_SEGS_REMAINING n) ≠ 0) →
    exec (.segmentRearm n) s = .next (s.armChannel n)) ∧
  (∀ (s : State) (n : Nat), s.rd (R.pu_ARM_STATE n) = 4 → (s.cap n).disarmNext = false → s.rd (R.pu_ARM_MODE n) = 1 →
    (s.chan n).hold = .none → (s.cap n).deferredArm = false → s.shedCapture n = false →
    ∃ t, exec (.segmentRearm n) s = .next t ∧ t.rd (R.pu_ARM_STATE n) = 2 ∧ (t.cap n).armInstant = s.now
      ∧ (∀ k, k ≠ n → t.cap k = s.cap k)
      ∧ RegsBut s t [R.pu_ARM_STATE n, R.ri_SRAM_PEAK (dieOf n), R.ri_DESC_PEAK (dieOf n)] ∧ Keeps s t [.regs, .caps]) ∧
  (∀ (s : State) (n : Nat), s.rd (R.pu_ARM_STATE n) = 4 → (s.cap n).disarmNext = false → (s.chan n).hold ≠ .none →
    s.rd (R.pu_ARM_MODE n) = 1 →
    exec (.segmentRearm n) s = .next (s.setCap n { s.cap n with rearmDue := true })) ∧
  (∀ (s : State) (n : Nat), s.rd (R.pu_ARM_STATE n) = 4 → (s.cap n).stayArmed = false → (s.cap n).deferredArm = false →
    s.rd (R.pu_ARM_MODE n) = 0 →
    ∃ t, exec (.segmentRearm n) s = .next t ∧ Sets s t [(R.pu_ARM_STATE n, 1)]
      ∧ (∀ k, k ≠ n → t.cap k = s.cap k) ∧ Keeps s t [.regs, .caps]) ∧
  (∀ (s : State) (d : Nat), exec (.collectorPass d) s
    = .next (s.each ((chansOfDie d).filter fun n => s.segsOf n != []) fun s n => (s.segsOf n).head?.elim s s.collect)) ∧
  (∀ (s : State) (d n : Nat) (g : Segment) (r : Region), 1 ≤ d → s.segments = [g] → g.chan = n → dieOf n = d →
    s.frozen = false → s.regionOf (s.cap n).tenant 0 = some r → s.dram.archive = [] → 4 * g.words.length ≤ r.size →
    s.rd (R.pu_SEG_QUEUE n) = 0xFFFF → s.noInjection → g.words ≠ [] → g.words.length ≤ 30 → s.linkUp d = true →
    (s.link d).creditHeld = false → (s.link d).up.held = [] → s.rd (R.pu_CAP_ENABLE n) = 1 →
    s.rd (R.bk_BANK_STATE (bankOfChan n)) ≠ 0 → s.dram.bad = [] → (∀ c, s.rd (R.dc_CH_STATE c) ≠ 3) →
    ∃ t, exec (.collectorPass d) s = .next t ∧ t.segments = []
      ∧ t.dram.archive = [(r.base, (octetsOfWords g.words).length, 0xFFFF)]
      ∧ t.dram.mem = memWrite s.dram.mem r.base (octetsOfWords g.words)
      ∧ (∀ a, a < r.base ∨ r.base + (octetsOfWords g.words).length ≤ a → memGet t.dram.mem a = memGet s.dram.mem a)
      ∧ Sets s t [(R.ri_SEGS_DRAINED d, s.counted (R.ri_SEGS_DRAINED d) 1)]
      ∧ t.out = s.out ++ [.flit d true (mkFlit 3 drainStream (!(s.link d).drainOpen) false g.words (s.link d).up.txSeq)]
      ∧ Keeps s t [.regs, .segments, .dram, .links, .out]) ∧
  (∀ (s : State) (d n : Nat) (g : Segment), 1 ≤ d → s.segments = [g] → g.chan = n → dieOf n = d → s.frozen = false →
    s.linkUp d = true → (s.link d).creditHeld = false → s.regionOf (s.cap n).tenant 0 = none →
    ∃ t, exec (.collectorPass d) s = .next t
      ∧ Sets s t [(R.ri_ARCHIVE_STALLS, s.counted R.ri_ARCHIVE_STALLS 1)] ∧ Keeps s t [.regs]) ∧
  (∀ (s : State) (n : Nat), s.rd (R.pu_ARM_STATE n) = 5 → (s.cap n).shedStop = false → s.segsOf n = [] →
    s.rd (R.pu_OVF_RESUME n) = 1 ∨ (s.cap n).deferredArm = true → exec (.ovfResumeRearm n) s = .next (s.armChannel n)) ∧
  (∀ (s : State) (n : Nat), s.rd (R.pu_ARM_STATE n) = 5 → (s.cap n).shedStop = false → s.segsOf n = [] →
    (s.cap n).deferredArm = true → s.rd (R.pu_ARM_MODE n) = 2 → s.shedCapture n = false →
    ∃ t, exec (.ovfResumeRearm n) s = .next t ∧ t.rd (R.pu_ARM_STATE n) = 2 ∧ (t.cap n).armInstant = s.now
      ∧ t.rd (R.pu_SEGS_REMAINING n) = s.rd (R.pu_ARM_COUNT n)
      ∧ (∀ k, k ≠ n → t.cap k = s.cap k)
      ∧ RegsBut s t [R.pu_ARM_STATE n, R.pu_SEGS_REMAINING n, R.ri_SRAM_PEAK (dieOf n), R.ri_DESC_PEAK (dieOf n)]
      ∧ Keeps s t [.regs, .caps]) ∧
  (∀ (s : State) (h : Hdr) (n : Nat), OwnerAsks s h 0x02 → s.part.fronts ≤ 7 → n < 128 * s.part.fronts →
    s.free_ (R.pu_ARM n) → s.rd (R.pu_CAP_ENABLE n) = 1 → s.rd (R.bk_BANK_STATE (bankOfChan n)) ≠ 0 →
    exec (.arm h n 0 [1#8]) s = .next (((s.touch h.session).armAct n true).2.answered s h 0x02 (answer 0))) ∧
  (∀ (s : State) (h : Hdr) (n : Nat), OwnerAsks s h 0x02 → s.part.fronts ≤ 7 → n < 128 * s.part.fronts →
    s.free_ (R.pu_ARM n) → s.rd (R.pu_CAP_ENABLE n) = 1 → s.rd (R.bk_BANK_STATE (bankOfChan n)) ≠ 0 → s.rd (R.pu_ARM_STATE n) = 1 → (s.cap n).lastDisarmEdge = none →
    s.shedCapture n = false → s.segsOf n = [] →
    ∃ t, exec (.arm h n 0 [1#8]) s = .next t
      ∧ t.rd (R.pu_ARMS n) = s.counted (R.pu_ARMS n) 1 ∧ t.rd (R.pu_ARM_STATE n) = 2
      ∧ t.rd (R.pu_SEGS_REMAINING n) = (if s.rd (R.pu_ARM_MODE n) = 2 then s.rd (R.pu_ARM_COUNT n) else 0)
      ∧ RegsBut s t [R.pu_ARMS n, R.pu_ARM_STATE n, R.pu_SEGS_REMAINING n, R.ri_SRAM_PEAK (dieOf n), R.ri_DESC_PEAK (dieOf n),
          R.se_S_LAST_RX h.session]
      ∧ t.out = s.out ++ [done h 0x02 []]
      ∧ (t.cap n).armInstant = s.now ∧ (t.cap n).histFrom = s.now ∧ (t.cap n).lastArmEdge = some s.time.edge
      ∧ (∀ k, k ≠ n → t.cap k = s.cap k) ∧ Keeps s t [.regs, .sessions, .caps, .out]) ∧
  (∀ (s : State) (h : Hdr) (n : Nat), OwnerAsks s h 0x02 → s.part.fronts ≤ 7 → n < 128 * s.part.fronts →
    s.free_ (R.pu_ARM n) → s.rd (R.pu_CAP_ENABLE n) = 1 → s.rd (R.bk_BANK_STATE (bankOfChan n)) ≠ 0 → s.rd (R.pu_ARM_STATE n) = 4 ∨ s.rd (R.pu_ARM_STATE n) = 5 →
    (s.cap n).lastDisarmEdge = none →
    ∃ t, exec (.arm h n 0 [1#8]) s = .next t
      ∧ Served s t h 0x02 [(R.pu_ARMS n, s.counted (R.pu_ARMS n) 1),
          (R.pu_REARM_DEFERRED n, s.counted (R.pu_REARM_DEFERRED n) 1)] []
      ∧ t.cap n = { s.cap n with deferredArm := true, disarmNext := false }
      ∧ (∀ k, k ≠ n → t.cap k = s.cap k) ∧ Keeps s t [.regs, .sessions, .caps, .out]) ∧
  (∀ (s : State) (h : Hdr) (n : Nat), OwnerAsks s h 0x02 → s.part.fronts ≤ 7 → n < 128 * s.part.fronts →
    s.free_ (R.pu_DISARM n) → s.rd (R.bk_BANK_STATE (bankOfChan n)) ≠ 0 →
    exec (.disarm h n 0 [1#8]) s = .next (((s.touch h.session).disarmAct n true).2.answered s h 0x02 (answer 0))) ∧
  (∀ (s : State) (h : Hdr) (n : Nat), OwnerAsks s h 0x02 → s.part.fronts ≤ 7 → n < 128 * s.part.fronts →
    s.free_ (R.pu_DISARM n) → s.rd (R.bk_BANK_STATE (bankOfChan n)) ≠ 0 → s.rd (R.pu_ARM_STATE n) = 2 → (s.cap n).lastArmEdge = none →
    ∃ t, exec (.disarm h n 0 [1#8]) s = .next t
      ∧ Served s t h 0x02 [(R.pu_DISARMS n, s.counted (R.pu_DISARMS n) 1), (R.pu_ARM_STATE n, 1)] []
      ∧ (t.cap n).deferredArm = false ∧ (t.cap n).lastEnd = none ∧ (∀ k, k ≠ n → t.cap k = s.cap k)
      ∧ Keeps s t [.regs, .sessions, .caps, .out]) ∧
  (∀ (s : State) (h : Hdr) (n : Nat), OwnerAsks s h 0x02 → s.part.fronts ≤ 7 → n < 128 * s.part.fronts →
    s.free_ (R.pu_FORCE n) → s.rd (R.pu_CAP_ENABLE n) = 1 → s.rd (R.bk_BANK_STATE (bankOfChan n)) ≠ 0 → s.rd (R.pu_ARM_STATE n) ≠ 1 → s.rd (R.pu_ARM_STATE n) ≠ 6 →
    exec (.force h n 0 [1#8]) s = .next (((s.touch h.session).trigger n s.now 2 0 (s.gridFrac n s.now) false).answered s h
      0x02 (answer 0))) ∧
  (∀ (s : State) (h : Hdr) (n : Nat), OwnerAsks s h 0x02 → s.part.fronts ≤ 7 → n < 128 * s.part.fronts →
    s.free_ (R.pu_FORCE n) → s.rd (R.pu_CAP_ENABLE n) = 1 → s.rd (R.bk_BANK_STATE (bankOfChan n)) ≠ 0 → s.rd (R.pu_ARM_STATE n) = 2 → (s.cap n).trigTime = none →
    (s.chan n).hold = .none → (s.cap n).armInstant ≤ s.now → (s.cap n).histFrom ≤ s.now →
    ∃ t, exec (.force h n 0 [1#8]) s = .next t ∧ (t.cap n).trigTime = some s.now ∧ (t.cap n).tsrc = 2
      ∧ Served s t h 0x02 [(R.pu_ARM_STATE n, 3)] [] ∧ Keeps s t [.regs, .sessions, .caps, .out])

/-- R210, R211, R216, R218, R221, R222, R227, R318: a frame that fits joins the tail of its queue under the next FSEQ,
with the number of frames lost before it, and FRAMES_IN counts; through a Frit context it waits there instead, and one
that does not fit is discarded and counted; a FRAME_IN domain of its tenant does so as a frame of FTYPE 6; FRAME_POP
of the head's FSEQ removes it. A spilled queue's head is refilled to 16 cells from the spill region; a hardware
consumer starts on the head frame, whose cells are checked as they are read: one that cannot be corrected makes the
frame ABORTED. R318: SUBSCRIBE to a queue of the tenant with CONSUMER 2 gives the session credit, and UNSUBSCRIBE ends
it; a queue of another tenant answers 0x1081. (The queue holds no frame yet.) -/
def Obligations.QueueFrames : Prop :=
  (∀ (s : State) (q ft src : Nat) (pl : List Byte) (ref : Option Nat) (f : Frame), payloadOk ft pl.length = true → s.rd (R.qu_FRIT_CTX q) = 0xFFFF →
    s.poisoned = false → s.rd R.fz_FROZEN = 0 → s.rd (R.qu_QSTATE q) = 1 → (s.queue q).spillCells = 0 →
    f = { s.hubFrame q ft src pl ref with
      fseq := (s.queue q).fseq, start := (s.queue q).startNext,
      loss := decide (0 < (s.queue q).lost), discardedBefore := (s.queue q).lost, queued := t64OfTicks s.now } →
    f.cells ≤ s.cellRoom q → s.rd (R.qu_SPILL_EN q) = 0 → s.rd (R.te_RETENTION (q / 8)) ≠ 1 →
    ∃ t, exec (.frameEnqueue q ft src pl ref) s = .next t ∧ (t.queue q).frames = (s.queue q).frames ++ [f]
      ∧ (t.queue q).fseq = ((s.queue q).fseq + 1) % 65536 ∧ (t.queue q).startNext = false ∧ (t.queue q).lost = 0
      ∧ (∀ k, k ≠ q → t.queue k = s.queue k)
      ∧ Sets s t [(R.qu_FRAMES_IN q, s.counted (R.qu_FRAMES_IN q) 1),
          (R.qu_PEAK_CELLS q, max (s.rd (R.qu_PEAK_CELLS q)) (cellSum ((s.queue q).frames ++ [f])))]
      ∧ Keeps s t [.regs, .queues]) ∧
  (∀ (s : State) (h : Hdr) (q : Nat) (d : List Byte), OwnerAsks s h 0x04 → s.part.fronts ≤ 7 → q < 8 →
    s.free_ (R.qu_FRAME_IN q) → State.frameInOk d = true → s.rd R.fz_FROZEN = 0 → s.rd (R.qu_QSTATE q) = 1 →
    (s.queue q).spillCells = 0 → s.rd (R.qu_SPILL_EN q) = 0 → (d.length - 32) / 256 + 2 ≤ s.cellRoom q →
    s.usedCells 0 ≤ s.rd (R.te_CELL_QUOTA 0) → s.rd (R.te_RETENTION 0) ≠ 1 →
    (s.session h.session).xfers = [] →
    ∃ t, exec (.frameIn h q 0 d) s = .next t ∧ t.out = s.out ++ [done h 0x04 []]
      ∧ (t.queue q).frames.length = (s.queue q).frames.length + 1
      ∧ ((t.queue q).frames.getLast?).map (fun f => (f.ftype, f.fseq, f.payload, f.launch))
          = some (6, (s.queue q).fseq, d.drop 32, leNat ((d.drop 16).take 16))
      ∧ (∀ k, k ≠ q → t.queue k = s.queue k)
      ∧ RegsBut s t [R.qu_FRAMES_IN q, R.qu_PEAK_CELLS q, R.se_S_LAST_RX h.session]
      ∧ t.rd (R.qu_FRAMES_IN q) = s.counted (R.qu_FRAMES_IN q) 1 ∧ Keeps s t [.regs, .sessions, .queues, .out]) ∧
  (∀ (s : State) (h : Hdr) (q : Nat) (f : Frame) (rest : List Frame), OwnerAsks s h 0x02 → s.part.fronts ≤ 7 → q < 8 →
    s.free_ (R.qu_FRAME_POP q) → s.rd (R.qu_CONSUMER q) = 0 → s.rd (R.qu_QSTATE q) = 1 → (s.queue q).frames = f :: rest →
    f.fseq < 65536 → (s.queue q).spillCells = 0 →
    ∃ t, exec (.framePop h q 0 (natLE 2 f.fseq)) s = .next t ∧ (t.queue q).frames = rest
      ∧ (∀ k, k ≠ q → t.queue k = s.queue k)
      ∧ Served s t h 0x02 [(R.qu_FRAMES_OUT q, s.counted (R.qu_FRAMES_OUT q) 1)] []
      ∧ t.dram.mem = s.dram.mem ∧ Keeps s t [.regs, .sessions, .queues, .dram, .out]) ∧
  (∀ (s : State) (q : Nat), s.rd (R.qu_QSTATE q) = 2 → (s.queue q).headCells ≤ 8 →
    16 < (s.queue q).headCells + (s.queue q).spillCells →
    exec (.spillHeadRefill q) s = .next ((s.setQueue q { s.queue q with
      headCells := 16, spillCells := (s.queue q).spillCells - (16 - (s.queue q).headCells) }).wr (R.qu_QSTATE q) 2)) ∧
  (∀ (s : State) (q : Nat) (f : Frame) (rest : List Frame), s.rd (R.qu_CONSUMER q) = 1 ∨ s.rd (R.qu_CONSUMER q) = 3 →
    (s.queue q).frames = f :: rest → s.rd (R.qu_QSTATE q) ≠ 4 →
    exec (.hwConsumerStart q .clean) s = .next (s.setQueue q { s.queue q with frames := { f with started := true } :: rest })) ∧
  (∀ (s : State) (q ft src : Nat) (pl : List Byte) (ref : Option Nat), payloadOk ft pl.length = true → s.rd (R.qu_FRIT_CTX q) = 0xFFFF →
    s.poisoned = false → s.rd (R.qu_QSTATE q) ≠ 0 → s.frozen = false →
    s.queueFits q (s.hubFrame q ft src pl ref).cells = true →
    exec (.frameEnqueue q ft src pl ref) s = .next ((s.joinQueue q (s.hubFrame q ft src pl ref)).reclaim (q / 8))) ∧
  (∀ (s : State) (q ft src : Nat) (pl : List Byte) (ref : Option Nat), payloadOk ft pl.length = true → s.rd (R.qu_FRIT_CTX q) = 0xFFFF →
    s.poisoned = false → s.rd (R.qu_QSTATE q) ≠ 0 → s.frozen = false →
    s.queueFits q (s.hubFrame q ft src pl ref).cells = false → s.rd (R.qu_FULL_POLICY q) = 0 →
    ∃ t, exec (.frameEnqueue q ft src pl ref) s = .next t
      ∧ Sets s t [(R.qu_DISCARDED q, s.counted (R.qu_DISCARDED q) 1), (R.qu_QSTATE q, 3)]
      ∧ t.queue q = { s.queue q with fseq := ((s.queue q).fseq + 1) % 65536, lost := (s.queue q).lost + 1 }
      ∧ (∀ k, k ≠ q → t.queue k = s.queue k) ∧ Keeps s t [.regs, .queues]) ∧
  (∀ (s : State) (q ft src : Nat) (pl : List Byte) (ref : Option Nat), payloadOk ft pl.length = true → s.rd (R.qu_FRIT_CTX q) = 0xFFFF →
    s.poisoned = true → exec (.frameEnqueue q ft src pl ref) s = .next (((s.putPoisoned false).count (R.qu_ABORTED_FRAMES q) 1).offer q
      { s.hubFrame q ft src pl ref with aborted := true, cut := s.cutThroughStarts q, payload := pl.map fun _ => 0#8 }).2) ∧
  (∀ (s : State) (q ft src c : Nat) (pl : List Byte) (ref : Option Nat), payloadOk ft pl.length = true → s.rd (R.qu_FRIT_CTX q) = c → c ≠ 0xFFFF →
    s.rd (R.qu_QSTATE q) ≠ 0 → s.frameShed ft src = false →
    exec (.frameEnqueue q ft src pl ref) s = .next ((s.setCtx c { s.ctx c with bypass := false, pend := (s.ctx c).pend
      ++ [⟨ft, (s.queue q).startNext && (s.ctx c).pend == [], false, false, wordsOfOctets pl, ref⟩] }).count (R.fc_IN_OCTETS c) pl.length)) ∧
  (∀ (s : State) (h : Hdr) (q : Nat) (d : List Byte) (r : Bool × State) (f : Frame), OwnerAsks s h 0x04 → s.part.fronts ≤ 7 →
    q < 8192 → s.free_ (R.qu_FRAME_IN q) → q / 8 = 0 → State.frameInOk d = true → s.rd (R.qu_QSTATE q) ≠ 0 → s.usedCells 0 ≤ s.rd (R.te_CELL_QUOTA 0) →
    ((s.session h.session).xfers.find? fun x => x.reg == R.qu_FRAME_IN q && x.clause == 0) = none →
    f = ⟨6, 0, 0, false, false, false, false, false, false, false, 0, leNat ((d.drop 16).take 16), d.drop 32, false, 0, false⟩ →
    r = ((s.touch h.session).setSession h.session { (s.touch h.session).session h.session with
      xfers := State.otherXfers ((s.touch h.session).session h.session) (R.qu_FRAME_IN q) 0 }).offer q f → r.1 = true →
    exec (.frameIn h q 0 d) s = .next (r.2.answered s h 0x04 (answer 0))) ∧
  (∀ (s : State) (h : Hdr) (q : Nat) (f : Frame), OwnerAsks s h 0x02 → s.part.fronts ≤ 7 → q < 8192 → q / 8 = 0 →
    s.free_ (R.qu_FRAME_POP q) → s.rd (R.qu_CONSUMER q) = 0 → (s.available q).head? = some f → f.fseq < 65536 →
    exec (.framePop h q 0 (natLE 2 f.fseq)) s = .next (((s.touch h.session).popHead q).answered s h 0x02 (answer 0))) ∧
  (∀ (s : State) (q k : Nat), s.rd (R.qu_QSTATE q) ≠ 4 → (s.queue q).spillCells ≠ 0 → (s.queue q).headCells ≤ 8 →
    k = min (16 - (s.queue q).headCells) (s.queue q).spillCells →
    exec (.spillHeadRefill q) s = .next ((s.setQueue q { s.queue q with
      headCells := (s.queue q).headCells + k, spillCells := (s.queue q).spillCells - k }).settleQueue q)) ∧
  (∀ (s u : State) (q : Nat) (k : CellCheck) (f : Frame) (rest : List Frame), s.rd (R.qu_CONSUMER q) ≠ 0 → s.rd (R.qu_CONSUMER q) ≠ 2 →
    u = s.cellsRead q k → (u.queue q).frames = f :: rest → u.available q ≠ [] →
    exec (.hwConsumerStart q k) s = .next (u.setQueue q { u.queue q with frames := { f with started := true } :: rest })) ∧
  (∀ (s : State) (q : Nat) (k : CellCheck), s.rd (R.qu_CONSUMER q) = 2 →
    exec (.hwConsumerStart q k) s = .next ((s.cellsRead q k).pumpStream q)) ∧
  (∀ (s : State) (q cell : Nat) (f : Frame) (rest : List Frame), s.rd (R.qu_CONSUMER q) = 0 → (s.queue q).frames = f :: rest →
    s.available q ≠ [] → cell < f.cells →
    exec (.hwConsumerStart q (.uncorrectable cell)) s = .next ((((s.setQueue q { s.queue q with frames := { f with
      aborted := true, payload := f.payload.take (256 * cell - 32)
        ++ List.replicate (f.payload.length - (256 * cell - 32)) 0#8 } :: rest }).count
      R.ig_QCELL_UE 1).count
      (R.qu_ABORTED_FRAMES q) 1).logEvent 4 0 1)) ∧
  (∀ (s : State) (q : Nat), s.rd (R.qu_CONSUMER q) = 0 → (s.queue q).frames ≠ [] → s.available q ≠ [] →
    exec (.hwConsumerStart q .corrected) s = .next (s.count R.ig_QCELL_CE 1)) ∧
  (∀ (s : State) (q ft src : Nat) (pl : List Byte) (ref : Option Nat), payloadOk ft pl.length = false →
    exec (.frameEnqueue q ft src pl ref) s = .next s) ∧
  (∀ (s : State) (h : Hdr) (q n : Nat), OwnerAsks s h 0x09 → q < 8 → s.rd (R.qu_CONSUMER q) = 2 → s.rd (R.qu_ENABLE q) ≠ 0 →
    s.rd (R.se_S_TRANSPORT h.session) = 1 → (s.queue q).subscriber = none → (s.queue q).credit = 0 → n ≤ 1024 →
    (s.queue q).frames = [] →
    ∃ t, exec (.subscribe h q n) s = .next t ∧ Served s t h 0x09 [] []
      ∧ t.queue q = { s.queue q with subscriber := some h.session, credit := n } ∧ (∀ k, k ≠ q → t.queue k = s.queue k)
      ∧ Keeps s t [.regs, .sessions, .queues, .out]) ∧
  (∀ (s : State) (h : Hdr) (q n : Nat), OwnerAsks s h 0x09 → 8 ≤ q → q < 8192 →
    ∃ t, exec (.subscribe h q n) s = .next t ∧ Refused s t h 0x09 0x1081) ∧
  (∀ (s : State) (h : Hdr) (q : Nat), OwnerAsks s h 0x0A → q < 8 → (s.queue q).subscriber = some h.session →
    (s.queue q).frames = [] →
    ∃ t, exec (.unsubscribe h q) s = .next t ∧ Served s t h 0x0A [] []
      ∧ t.queue q = { s.queue q with subscriber := none, credit := 0, mseq := 0, sent := 0 }
      ∧ (∀ k, k ≠ q → t.queue k = s.queue k) ∧ Keeps s t [.regs, .sessions, .queues, .out]) ∧
  (∀ (s u : State) (h : Hdr) (q n : Nat), OwnerAsks s h 0x09 → u = s.touch h.session → q < 8 → s.rd (R.qu_CONSUMER q) = 2 →
    s.rd (R.qu_ENABLE q) ≠ 0 → s.rd (R.se_S_TRANSPORT h.session) = 1 →
    (s.queue q).subscriber = none ∨ (s.queue q).subscriber = some h.session →
    exec (.subscribe h q n) s = .next (((u.setQueue q { u.queue q with
      subscriber := some h.session, credit := min 1024 ((u.queue q).credit + n) }).pumpStream q).answered s h 0x09 (answer 0))) ∧
  (∀ (s : State) (h : Hdr) (q : Nat), OwnerAsks s h 0x0A → q < 8 →
    (s.queue q).subscriber = none ∨ (s.queue q).subscriber = some h.session →
    exec (.unsubscribe h q) s = .next (((s.touch h.session).endSubscription q).answered s h 0x0A (answer 0))) ∧
  (∀ (s : State) (h : Hdr) (q x : Nat), OwnerAsks s h 0x0A → q < 8 → (s.queue q).subscriber = some x → x ≠ h.session →
    ∃ t, exec (.unsubscribe h q) s = .next t ∧ Refused s t h 0x0A 0x1121)

/-- R237, R239: the block a stream context has ready after BLOCK_N samples is coded and leaves the context: its frames
and position are those after the block, and the block counts. BLOCK_MAXAGE and FLUSH code all that waits, and end the
open block of a job on a queue. The blocks that the engine may choose among are the model's choice (log entry 6). -/
def Obligations.FritBlocks : Prop :=
  (∀ (s : State) (c q pos : Nat) (i : BlockIn) (rest : List FritFrame), s.queueOfCtx c = some q →
    s.nextBlock c false = some (i, rest, pos) → s.poisoned = false →
    s.rd (R.te_RETENTION (q / 8)) ≠ 1 →
    ∃ t, exec (.fritBlockDone c) s = .next t ∧ (t.ctx c).pend = rest ∧ (t.ctx c).pos = pos
      ∧ (t.ctx c).cbseq = ((s.ctx c).cbseq + 1) % 65536 ∧ t.rd R.fe_BLOCKS = s.counted R.fe_BLOCKS 1
      ∧ (∀ k, k ≠ c → t.ctx k = s.ctx k)
      ∧ RegsBut s t [R.fc_OUT_OCTETS c, R.fc_MATCH_TILES c, R.fe_BLOCKS, R.fe_VERBATIM, R.qu_FRAMES_IN q, R.qu_PEAK_CELLS q,
          R.qu_QSTATE q, R.qu_SPILLS q, R.qu_DISCARDED q] ∧ Keeps s t [.regs, .ctxs, .queues, .freeCount]) ∧
  (∀ (s : State) (c q pos : Nat) (i : BlockIn), s.queueJobOf c = none → s.queueOfCtx c = some q →
    s.nextBlock c true = some (i, [], pos) → s.poisoned = false →
    s.rd (R.te_RETENTION (q / 8)) ≠ 1 →
    ∃ t, exec (.fritBlockMaxage c) s = .next t ∧ (t.ctx c).pend = [] ∧ (t.ctx c).pos = pos
      ∧ (t.ctx c).cbseq = ((s.ctx c).cbseq + 1) % 65536 ∧ t.rd R.fe_BLOCKS = s.counted R.fe_BLOCKS 1
      ∧ (∀ k, k ≠ c → t.ctx k = s.ctx k)
      ∧ RegsBut s t [R.fc_OUT_OCTETS c, R.fc_MATCH_TILES c, R.fe_BLOCKS, R.fe_VERBATIM, R.qu_FRAMES_IN q, R.qu_PEAK_CELLS q,
          R.qu_QSTATE q, R.qu_SPILLS q, R.qu_DISCARDED q] ∧ Keeps s t [.regs, .ctxs, .queues, .freeCount]) ∧
  (∀ (s : State) (h : Hdr) (c q pos : Nat) (i : BlockIn), OwnerAsks s h 0x02 → s.part.fronts ≤ 7 →
    s.part.frit = true → c < 64 → s.free_ (R.fc_FLUSH c) → s.rd (R.fc_TENANT c) = 0 → s.queueJobOf c = none →
    s.queueOfCtx c = some q → s.nextBlock c true = some (i, [], pos) → s.poisoned = false →
    s.rd (R.te_RETENTION (q / 8)) ≠ 1 →
    ∃ t, exec (.flush h c 0 [1#8]) s = .next t ∧ (t.ctx c).pend = [] ∧ (t.ctx c).pos = pos
      ∧ t.rd R.fe_BLOCKS = s.counted R.fe_BLOCKS 1 ∧ t.out = s.out ++ [done h 0x02 []]
      ∧ (∀ k, k ≠ c → t.ctx k = s.ctx k)
      ∧ RegsBut s t [R.fc_OUT_OCTETS c, R.fc_MATCH_TILES c, R.fe_BLOCKS, R.fe_VERBATIM, R.qu_FRAMES_IN q, R.qu_PEAK_CELLS q,
          R.qu_QSTATE q, R.qu_SPILLS q, R.qu_DISCARDED q, R.se_S_LAST_RX h.session]
      ∧ Keeps s t [.regs, .ctxs, .queues, .sessions, .freeCount, .out]) ∧
  (∀ (s : State) (c q pos : Nat) (i : BlockIn) (rest : List FritFrame), s.queueOfCtx c = some q →
    s.nextBlock c false = some (i, rest, pos) →
    ∃ t, exec (.fritBlockDone c) s = .next t ∧ (t.ctx c).pend = rest ∧ (t.ctx c).pos = pos
      ∧ (t.ctx c).cbseq = ((s.ctx c).cbseq + 1) % 65536 ∧ t.rd R.fe_BLOCKS = s.counted R.fe_BLOCKS 1
      ∧ (∀ k, k ≠ c → t.ctx k = s.ctx k)) ∧
  (∀ (s : State) (c q pos : Nat) (i : BlockIn), s.queueJobOf c = none → s.queueOfCtx c = some q →
    s.nextBlock c true = some (i, [], pos) →
    ∃ t, exec (.fritBlockMaxage c) s = .next t ∧ (t.ctx c).pend = [] ∧ (t.ctx c).pos = pos
      ∧ (t.ctx c).cbseq = ((s.ctx c).cbseq + 1) % 65536 ∧ t.rd R.fe_BLOCKS = s.counted R.fe_BLOCKS 1
      ∧ (∀ k, k ≠ c → t.ctx k = s.ctx k)) ∧
  (∀ (s : State) (h : Hdr) (c : Nat), OwnerAsks s h 0x02 → s.part.fronts ≤ 7 → s.part.frit = true → c < 64 →
    s.free_ (R.fc_FLUSH c) → s.rd (R.fc_TENANT c) = 0 →
    exec (.flush h c 0 [1#8]) s = .next (((s.touch h.session).flushCtx c).answered s h 0x02 (answer 0))) ∧
  (∀ (s : State) (c j : Nat), s.queueJobOf c = some j →
    exec (.fritBlockMaxage c) s = .next (if s.frozen = true then s else s.flushJob j (s.ctxWords c)))

/-- R241, R242, R243: SUBMIT queues a job whose context and regions its tenant holds; the first in order with a free
context starts on a free engine; a running job writes a block that fits behind what it has written and nothing else of
memory, is frozen with the controllers, and is done when its input is; CONTINUE resumes a job that stopped for output
space. The blocks that the engine may choose among are the model's choice (log entries 6 and 30). -/
def Obligations.FritJobs : Prop :=
  (∀ (s : State) (h : Hdr) (j : Nat), OwnerAsks s h 0x02 → s.part.fronts ≤ 7 → s.part.frit = true → j < 32 →
    s.free_ (R.fj_SUBMIT j) → s.jobRuns j = false → s.jobCtxCode j 0 (s.rd (R.fj_CTX j)) = 0 →
    (s.job j).abortEdge = none →
    ∃ t, exec (.submit h j 0 [1#8]) s = .next t
      ∧ Served s t h 0x02 [(R.fj_SUBMITS j, s.counted (R.fj_SUBMITS j) 1), (R.fj_JOB_STATE j, 1), (R.fj_IN_USED j, 0),
          (R.fj_OUT_USED j, 0)] []
      ∧ (t.job j).tenant = 0 ∧ (t.job j).ctx = s.rd (R.fj_CTX j) ∧ (∀ k, k ≠ j → t.job k = s.job k)
      ∧ t.ctxs = (s.clearHistory (s.rd (R.fj_CTX j))).ctxs ∧ Keeps s t [.regs, .sessions, .jobs, .ctxs, .out]) ∧
  (∀ (s : State) (j : Nat), s.jobsIn 1 = [j] → s.jobsIn 2 = [] → s.jobsIn 4 = [] → s.jobsIn 8 = [] →
    1 ≤ s.rd R.fe_ENGINES → s.jobCtxCode j (s.job j).tenant (s.job j).ctx = 0 →
    ∃ t, exec (.fritJobStart j) s = .next t
      ∧ Sets s t [(R.fj_JOB_STATE j, 2), (R.fc_CTX_STATE (s.job j).ctx, 3)]
      ∧ t.ctx (s.job j).ctx = { s.ctx (s.job j).ctx with pend := [], pos := 0 } ∧ Keeps s t [.regs, .ctxs]) ∧
  (∀ (s : State) (j : Nat), s.rd (R.fj_JOB_STATE j) = 2 → s.rd R.fz_FROZEN ≠ 0 →
    exec (.fritJobBlock j) s = .next (s.wr (R.fj_JOB_STATE j) 8)) ∧
  (∀ (s : State) (j n c : Nat) (i : BlockIn) (x : FritJob), s.rd (R.fj_JOB_STATE j) = 2 → s.rd R.fz_FROZEN = 0 →
    s.rd (R.fj_FORMAT j) ≤ 2 → (s.job j).ctx = c → s.memBlock j = some (.ok (i, n, x)) →
    s.badRead (s.rd (R.fj_IN_ADDR j) + s.rd (R.fj_IN_USED j)) n = none →
    s.badWrite (s.rd (R.fj_OUT_ADDR j) + s.rd (R.fj_OUT_USED j)) (4 * (s.codeBlock c i).words.length) = none →
    (∀ d, d < s.part.drams → s.rd (R.dc_CH_STATE d) ≠ 3) →
    s.rd (R.fj_OUT_USED j) + 4 * (s.codeBlock c i).words.length ≤ s.rd (R.fj_OUT_LEN j) →
    ∃ t, exec (.fritJobBlock j) s = .next t
      ∧ t.dram.mem = memWrite s.dram.mem (s.rd (R.fj_OUT_ADDR j) + s.rd (R.fj_OUT_USED j))
          (octetsOfWords (s.codeBlock c i).words)
      ∧ (∀ a, a < s.rd (R.fj_OUT_ADDR j) + s.rd (R.fj_OUT_USED j)
          ∨ s.rd (R.fj_OUT_ADDR j) + s.rd (R.fj_OUT_USED j) + 4 * (s.codeBlock c i).words.length ≤ a →
          memGet t.dram.mem a = memGet s.dram.mem a)
      ∧ t.rd (R.fj_IN_USED j) = s.counted (R.fj_IN_USED j) n
      ∧ t.rd (R.fj_OUT_USED j) = s.counted (R.fj_OUT_USED j) (4 * (s.codeBlock c i).words.length)
      ∧ t.rd (R.fj_JOB_STATE j) = 2 ∧ t.rd R.fe_BLOCKS = s.counted R.fe_BLOCKS 1
      ∧ t.rd (R.fc_IN_OCTETS c) = s.counted (R.fc_IN_OCTETS c) n
      ∧ RegsBut s t [R.fj_IN_USED j, R.fj_OUT_USED j, R.fc_IN_OCTETS c, R.fc_OUT_OCTETS c, R.fc_MATCH_TILES c, R.fe_BLOCKS, R.fe_VERBATIM]
      ∧ Keeps s t [.regs, .dram, .ctxs, .jobs, .freeCount]) ∧
  (∀ (s : State) (j : Nat), s.rd (R.fj_JOB_STATE j) = 2 → s.rd R.fz_FROZEN = 0 → s.rd (R.fj_FORMAT j) ≤ 2 →
    s.rd (R.fj_IN_LEN j) % 4 = 0 → s.rd (R.fj_IN_LEN j) ≤ s.rd (R.fj_IN_USED j) →
    ∃ t, exec (.fritJobBlock j) s = .next t
      ∧ Sets s t [(R.fj_JOB_STATE j, 3), (R.fj_JOB_STATUS j, 0), (R.fj_DONE_AT j, s.now96),
          (R.fc_CTX_STATE (s.job j).ctx, if s.rd (R.fc_TENANT (s.job j).ctx) = 0xFFFF then 0 else 1)] ∧ Keeps s t [.regs, .ctxs]) ∧
  (∀ (s : State) (h : Hdr) (j : Nat), OwnerAsks s h 0x02 → s.part.fronts ≤ 7 → s.part.frit = true → j < 32 →
    s.free_ (R.fj_CONTINUE j) → s.rd (R.fj_JOB_STATE j) = 4 → (s.job j).tenant = 0 →
    s.jobCtxCode j 0 (s.job j).ctx = 0 →
    ∃ t, exec (.continue_ h j 0 [1#8]) s = .next t
      ∧ Served s t h 0x02 [(R.fj_JOB_STATE j, 2), (R.fj_OUT_USED j, 0)] [] ∧ Keeps s t [.regs, .sessions, .out]) ∧
  (∀ (s : State) (h : Hdr) (j : Nat), OwnerAsks s h 0x02 → s.part.fronts ≤ 7 → s.part.frit = true → j < 32 →
    s.free_ (R.fj_SUBMIT j) → s.rd (R.fj_JOB_STATE j) ≠ 1 → s.rd (R.fj_JOB_STATE j) ≠ 2 →
    s.jobRuns j = false ∨ (s.job j).tenant = 0 → s.jobCtxCode j 0 (s.rd (R.fj_CTX j)) = 0 →
    exec (.submit h j 0 [1#8]) s = .next (((s.touch h.session).submitAct j 0 true).2.answered s h 0x02 (answer 0))) ∧
  (∀ (s : State) (j c : Nat), j < 32 → s.rd (R.fj_JOB_STATE j) = 1 → (s.job j).ctx = c → s.jobCtxCode j (s.job j).tenant c = 0 →
    (∀ i ∈ s.jobsIn 1, i ≠ j → (s.job j).order < (s.job i).order) →
    (∀ k ∈ s.jobsIn 2 ++ s.jobsIn 4 ++ s.jobsIn 8, (s.job k).ctx ≠ c) →
    (s.jobsIn 2).length < s.rd R.fe_ENGINES →
    ∃ t, exec (.fritJobStart j) s = .next t
      ∧ Sets s t [(R.fj_JOB_STATE j, 2), (R.fc_CTX_STATE c, 3)]
      ∧ t.ctx c = { s.ctx c with pend := [], pos := 0 }
      ∧ (∀ k, k ≠ c → t.ctx k = s.ctx k) ∧ Keeps s t [.regs, .ctxs]) ∧
  (∀ (s : State) (j n : Nat) (i : BlockIn) (x : FritJob), s.rd (R.fj_JOB_STATE j) = 2 → s.frozen = false →
    s.rd (R.fj_FORMAT j) ≤ 2 → s.memBlock j = some (.ok (i, n, x)) →
    exec (.fritJobBlock j) s = .next (match s.badRead (s.rd (R.fj_IN_ADDR j) + s.rd (R.fj_IN_USED j)) n with
      | some b => s.jobFreeze j b 1
      | none => (s.jobAccess j (s.rd (R.fj_IN_ADDR j) + s.rd (R.fj_IN_USED j)) n).writeBlock j i n x [] 0)) ∧
  (∀ (s u : State) (j n c : Nat) (i : BlockIn) (x : FritJob), s.rd (R.fj_JOB_STATE j) = 2 → s.frozen = false →
    s.rd (R.fj_FORMAT j) ≤ 2 → (s.job j).ctx = c → s.badRead (s.rd (R.fj_IN_ADDR j) + s.rd (R.fj_IN_USED j)) n = none →
    u = s.jobAccess j (s.rd (R.fj_IN_ADDR j) + s.rd (R.fj_IN_USED j)) n → s.memBlock j = some (.ok (i, n, x)) → s.mode.base = .acquire →
    s.rd (R.fj_OUT_LEN j) < s.rd (R.fj_OUT_USED j) + 4 * (s.codeBlock c i).words.length →
    exec (.fritJobBlock j) s = .next ((u.setJob j { u.job j with
      outs := (s.rd (R.fj_OUT_ADDR j), s.rd (R.fj_OUT_LEN j)) :: (u.job j).outs }).wr
      (R.fj_JOB_STATE j) 4)) ∧
  (∀ (s : State) (j code : Nat), s.rd (R.fj_JOB_STATE j) = 2 → s.frozen = false →
    s.rd (R.fj_FORMAT j) ≤ 2 → s.memBlock j = some (.error code) →
    ∃ t, exec (.fritJobBlock j) s = .next t
      ∧ Sets s t [(R.fj_JOB_STATE j, 5), (R.fj_JOB_STATUS j, code), (R.fj_DONE_AT j, s.now96),
          (R.fc_CTX_STATE (s.job j).ctx, if s.rd (R.fc_TENANT (s.job j).ctx) = 0xFFFF then 0 else 1)] ∧ Keeps s t [.regs, .ctxs]) ∧
  (∀ (s u : State) (j c pos : Nat) (f : FritFrame) (l rest : List FritFrame) (i : BlockIn), s.rd (R.fj_JOB_STATE j) = 2 →
    s.frozen = false → s.rd (R.fj_FORMAT j) = 3 → (s.job j).ctx = c →
    u = s.takeQueueFrames j (s.queue (s.rd (R.fj_IN_ADDR j) % 8192)).frames.length →
    (u.ctx c).pend = f :: l → f.ftype = 1 ∨ f.ftype = 3 ∨ f.ftype = 4 →
    u.nextBlock c (u.queueInputEnds j) = some (i, rest, pos) →
    exec (.fritJobBlock j) s = .next ((u.beginFrame c).writeBlock j i (l.length + 1 - rest.length) (u.job j) rest pos)) ∧
  (∀ (s : State) (h : Hdr) (j : Nat), OwnerAsks s h 0x02 → s.part.fronts ≤ 7 → s.part.frit = true → j < 32 →
    s.free_ (R.fj_CONTINUE j) → s.rd (R.fj_JOB_STATE j) = 8 → (s.job j).tenant = 0 →
    s.jobCtxCode j 0 (s.job j).ctx = 0 → s.jobIntact j = true →
    ∃ t, exec (.continue_ h j 0 [1#8]) s = .next t
      ∧ Served s t h 0x02 [(R.fj_JOB_STATE j, 2)] [] ∧ Keeps s t [.regs, .sessions, .out]) ∧
  (∀ (s : State) (h : Hdr) (j : Nat), OwnerAsks s h 0x02 → s.part.fronts ≤ 7 → s.part.frit = true → j < 32 →
    s.free_ (R.fj_CONTINUE j) → s.rd (R.fj_JOB_STATE j) = 8 → (s.job j).tenant = 0 →
    s.jobCtxCode j 0 (s.job j).ctx = 0 → s.jobIntact j = false →
    exec (.continue_ h j 0 [1#8]) s = .next (((s.touch h.session).endJob j 5 0x7091).answered s h 0x02 (answer 0))) ∧
  (∀ (s : State) (j : Nat), s.jobsIn 1 = [j] → s.jobsIn 2 = [] → s.jobsIn 4 = [] → s.jobsIn 8 = [] →
    1 ≤ s.rd R.fe_ENGINES → s.jobCtxCode j (s.job j).tenant (s.job j).ctx ≠ 0 →
    exec (.fritJobStart j) s = .next (s.cancelJob j 5 (s.jobCtxCode j (s.job j).tenant (s.job j).ctx)))

/-- R254, R255, R258, R262, R337: a request of a reserved port enters its channel's read or write queue; the age of a
port's oldest request sets its urgency; a completed write stores its data at its address and changes no other octet, a
completed read answers with what memory holds, and a corrected one is written back; a write whose CRC fails is tried
again and counted. What an octet of DRAM reads that nothing has written is the model's choice (log entry 19), and the
DRAM configuration that the boot image names is free (log entry 18). -/
def Obligations.DramAccess : Prop :=
  (∀ (s : State) (c port addr tenant : Nat), (s.dramMap addr).map (·.1) = some c → s.part.portFitted port = true →
    s.rd (R.dc_CH_STATE c) = 2 → s.dram.portHeld = [] → addr % 64 = 0 →
    (s.dramCh c).repairing = none → (s.dramCh c).writes.find? (fun w => burstOf w.addr == burstOf addr) = none →
    (s.dramCh c).reads.length < 64 →
    exec (.dramRequest c port false addr [] tenant true) s = .next (s.setDramCh c { s.dramCh c with
      reads := (s.dramCh c).reads ++ [⟨port, addr, [], 0xFFFF, .read, s.time.edge⟩] })) ∧
  (∀ (s : State) (c port addr tenant : Nat) (data : List Byte), (s.dramMap addr).map (·.1) = some c →
    s.part.portFitted port = true →
    s.rd (R.dc_CH_STATE c) = 2 → s.dram.portHeld = [] → (s.dramCh c).repairing = none → ((s.dramCh c).writes.any fun w => burstOf w.addr == burstOf addr) = false →
    (s.dramCh c).writes.length < 64 → data.length = 64 → addr % 64 = 0 → (s.dramCh c).poisoned = false →
    ∃ t, exec (.dramRequest c port true addr data tenant true) s = .next t
      ∧ (t.dramCh c).writes = (s.dramCh c).writes ++ [⟨port, addr, data, 0xFFFF, .write, s.time.edge⟩]
      ∧ (t.dramCh c).drain = ((s.dramCh c).drain || decide (47 ≤ (s.dramCh c).writes.length))
      ∧ (∀ k, k ≠ c → t.dramCh k = s.dramCh k) ∧ t.dram.mem = s.dram.mem ∧ Keeps s t [.dram]) ∧
  (∀ (s : State) (port age : Nat), s.rd (R.dp_LAT_TARGET port) ≤ age → s.rd (R.dp_URGENCY port) ≠ 3 →
    ∃ t, exec (.urgencyLevelChange port age) s = .next t
      ∧ Sets s t [(R.dp_URGENCY port, 3), (R.dp_LEVEL3_EVENTS port, s.counted (R.dp_LEVEL3_EVENTS port) 1)]
      ∧ Keeps s t [.regs]) ∧
  (∀ (s : State) (c : Nat) (r : DramReq), s.nextReq c = some (r, true) → s.rd (R.dc_CH_STATE c) = 2 → s.rd R.fz_FROZEN = 0 →
    s.dram.portHeld = [] → s.dram.bad = [] →
    ∃ t, exec (.dramAccessComplete c true .clean 0) s = .next t ∧ t.dram.mem = memWrite s.dram.mem r.addr r.data
      ∧ (∀ a, a < r.addr ∨ r.addr + r.data.length ≤ a → memGet t.dram.mem a = memGet s.dram.mem a)
      ∧ (t.dramCh c).writes = dropFirst (fun w => w == r) (s.dramCh c).writes
      ∧ RegsBut s t [R.dp_MAX_LATENCY r.port, R.dp_URGENCY r.port, R.dp_LEVEL3_EVENTS r.port] ∧ Keeps s t [.regs, .dram]) ∧
  (∀ (s : State) (c : Nat) (r : DramReq), s.nextReq c = some (r, false) → s.rd (R.dc_CH_STATE c) = 2 → s.rd R.fz_FROZEN = 0 →
    s.dram.portHeld = [] → s.dram.bad = [] →
    ∃ t, exec (.dramAccessComplete c false .clean 0) s = .next t
      ∧ t.out = s.out ++ [.dramRead r.port r.addr (memRead s.dram.mem r.addr 64) true] ∧ t.dram.mem = s.dram.mem
      ∧ (t.dramCh c).reads = dropFirst (fun w => w == r) (s.dramCh c).reads
      ∧ RegsBut s t [R.dp_MAX_LATENCY r.port, R.dp_URGENCY r.port, R.dp_LEVEL3_EVENTS r.port]
      ∧ Keeps s t [.regs, .dram, .out]) ∧
  (∀ (s : State) (c : Nat) (r : DramReq), s.nextReq c = some (r, true) → s.rd (R.dc_CH_STATE c) = 2 → s.rd R.fz_FROZEN = 0 → s.triesOf c r < 3 →
    exec (.writeCrcError c) s = .next ((s.setDramCh c { s.dramCh c with
      wcrc := (s.dramCh c).wcrc.filter (fun e => e.1 != r) ++ [(r, s.triesOf c r + 1)] }).count
      (R.dc_WCRC_RETRY c) 1)) ∧
  (∀ (s : State) (c port addr tenant : Nat) (write : Bool) (data : List Byte) (v u : State) (r : DramReq),
    (s.dramMap addr).map (·.1) = some c → s.part.portFitted port = true → burstOk write addr data.length = true →
    s.rd (R.dc_CH_STATE c) ≠ 0 → s.rd (R.dc_CH_STATE c) ≠ 5 →
    v = (if write = true ∧ (s.dramCh c).poisoned = true then s.setDramCh c { s.dramCh c with
      poisoned := false, poisonBursts := (s.dramCh c).poisonBursts ++ [burstOf addr] } else s) →
    u = (if s.rd (R.dc_CH_STATE c) = 3 ∧ s.frozen = false then v.wr (R.dc_CH_STATE c) 2 else v).releaseHeld c →
    r = ⟨port, addr, data, 0xFFFF,
      if !write then .read else if data.length < 64 then .readModifyWrite else .write, s.time.edge⟩ →
    u.waitsBefore c r = false → u.roomFor c r = true →
    exec (.dramRequest c port write addr data tenant true) s = .next (u.queueReq c r)) ∧
  (∀ (s : State) (c port addr tenant : Nat) (write : Bool) (data : List Byte) (v u : State) (r : DramReq),
    (s.dramMap addr).map (·.1) = some c → s.part.portFitted port = true → burstOk write addr data.length = true →
    s.rd (R.dc_CH_STATE c) ≠ 0 → s.rd (R.dc_CH_STATE c) ≠ 5 →
    v = (if write = true ∧ (s.dramCh c).poisoned = true then s.setDramCh c { s.dramCh c with
      poisoned := false, poisonBursts := (s.dramCh c).poisonBursts ++ [burstOf addr] } else s) →
    u = (if s.rd (R.dc_CH_STATE c) = 3 ∧ s.frozen = false then v.wr (R.dc_CH_STATE c) 2 else v).releaseHeld c →
    r = ⟨port, addr, data, tenant,
      if !write then .read else if data.length < 64 then .readModifyWrite else .write, s.time.edge⟩ → tenant ≠ 0xFFFF →
    u.waitsBefore c r = false → u.roomFor c r = true → u.bucketHas tenant = true →
    exec (.dramRequest c port write addr data tenant false) s = .next ((u.charge tenant).queueReq c r)) ∧
  (∀ (s : State) (c port addr tenant : Nat) (write : Bool) (data : List Byte) (v u : State) (r : DramReq),
    (s.dramMap addr).map (·.1) = some c → s.part.portFitted port = true → burstOk write addr data.length = true →
    s.rd (R.dc_CH_STATE c) ≠ 0 → s.rd (R.dc_CH_STATE c) ≠ 5 →
    v = (if write = true ∧ (s.dramCh c).poisoned = true then s.setDramCh c { s.dramCh c with
      poisoned := false, poisonBursts := (s.dramCh c).poisonBursts ++ [burstOf addr] } else s) →
    u = (if s.rd (R.dc_CH_STATE c) = 3 ∧ s.frozen = false then v.wr (R.dc_CH_STATE c) 2 else v).releaseHeld c →
    r = ⟨port, addr, data, tenant,
      if !write then .read else if data.length < 64 then .readModifyWrite else .write, s.time.edge⟩ → tenant ≠ 0xFFFF →
    u.waitsBefore c r = true ∨ u.roomFor c r = false ∨ u.bucketHas tenant = false →
    exec (.dramRequest c port write addr data tenant false) s = .next (u.putDram { u.dram with portHeld := u.dram.portHeld ++ [(c, r)] })) ∧
  (∀ (s : State) (port age : Nat),
    exec (.urgencyLevelChange port age) s = .next (s.setUrgency port (s.urgencyOf port age))) ∧
  (∀ (s u : State) (c sy : Nat) (r : DramReq) (w : Bool), s.nextReq c = some (r, w) → s.chCompletes c = true →
    readsDevices r = false ∨ checkCan s r.addr .clean = true → u = (s.takeReq c r w).portDone r →
    exec (.dramAccessComplete c w .clean sy) s = .next ((if w then writeDevices u c r
      else u.emit (.dramRead r.port r.addr (memRead u.dram.mem r.addr 64) true)).releaseHeld c)) ∧
  (∀ (s u : State) (c sy : Nat) (r : DramReq) (w : Bool), s.nextReq c = some (r, w) → s.chCompletes c = true →
    readsDevices r = false ∨ checkCan s r.addr .corrected = true → u = ((s.takeReq c r w).portDone r).corrected c r.addr →
    exec (.dramAccessComplete c w .corrected sy) s = .next ((if w then writeDevices u c r
      else (u.emit (.dramRead r.port r.addr (memRead u.dram.mem r.addr 64) true)).writeBack c r.port r.addr).releaseHeld c)) ∧
  (∀ (s : State) (c : Nat) (r : DramReq), s.nextReq c = some (r, true) → s.chServes c = true →
    3 ≤ s.triesOf c r →
    exec (.writeCrcError c) s = .next ((s.takeReq c r true).freeze c r.addr 3 (cmdCode r.cmd) r.port r.tenant 0 (some r)))

/-- R247, R248, R256, R260 to R264, R352: refreshes owed are issued into idle banks, or forced; a scrubbed burst that
was corrected counts and is written back; ODECC_COUNT shows the on-die count; an idle channel enters self-refresh; a
trained channel is in service at the rate tried; PPR_NOW starts the repair of the first candidate row, which ends with
one PPR_LEFT fewer. -/
def Obligations.DramUpkeep : Prop :=
  (∀ (s : State) (c b : Nat), s.rd (R.dc_CH_STATE c) = 2 ∨ s.rd (R.dc_CH_STATE c) = 4 →
    exec (.refreshDue c b true) s = .next (s.setDramCh c { s.dramCh c with owed := tabPut 0 b 0 (s.dramCh c).owed })) ∧
  (∀ (s : State) (c b : Nat), s.rd (R.dc_CH_STATE c) = 2 ∨ s.rd (R.dc_CH_STATE c) = 4 → 3 ≤ tabGet 0 (s.dramCh c).owed b →
    exec (.refreshDue c b false) s = .next ((s.setDramCh c { s.dramCh c with
      owed := tabPut 0 b (tabGet 0 (s.dramCh c).owed b) (s.dramCh c).owed }).count (R.dc_REF_FORCED c) 1)) ∧
  (∀ (s : State) (c addr sy : Nat), (s.dramMap addr).map (·.1) = some c → s.rd (R.dc_CH_STATE c) = 2 → s.rd R.fz_FROZEN = 0 → 2 ≤ s.rd R.ds_PPR_THRESHOLD →
    (s.dramCh c).rowErrors = [] → (s.dramCh c).writes = [] → (s.dramCh c).repairing = none → s.dram.bad = [] →
    ∃ t, exec (.patrolScrub c addr .corrected sy) s = .next t
      ∧ Sets s t [(R.dc_CE_COUNT c, s.counted (R.dc_CE_COUNT c) 1)]
      ∧ t.dramCh c = { s.dramCh c with rowErrors := tabPut [] (s.rowOf c addr) [s.time.edge] [], writes := [⟨0, 64 * burstOf addr, memRead s.dram.mem (64 * burstOf addr) 64, 0xFFFF, .writeBack, s.time.edge⟩] }
      ∧ t.dram.mem = s.dram.mem ∧ Keeps s t [.regs, .dram]) ∧
  (∀ (s : State) (c n : Nat), exec (.odeccHourly c n) s = .next (s.wr (R.dc_ODECC_COUNT c) (n % 2 ^ 32))) ∧
  (∀ (s : State) (c : Nat), s.rd R.ds_SR_AUTO = 1 ∨ s.mode.base = .dormant → s.rd (R.dc_CH_STATE c) = 2 → s.rd R.fz_FROZEN = 0 →
    s.chIdle c = true →
    exec (.selfRefreshIdle c) s = .next ((s.wr (R.dc_CH_STATE c) 3).count (R.dc_SR_ENTRIES c) 1)) ∧
  (∀ (s : State) (c n : Nat), s.rd (R.dc_CH_STATE c) = 1 → s.chCapacity ≠ 0 →
    ∃ t, exec (.dramTrainingDone c true n) s = .next t
      ∧ Sets s t [(R.dc_TRAINED_RATE c, (trainingRates s.dram.rate).getD (s.dramCh c).trainFails 4800),
          (R.dc_CH_STATE c, 2), (R.dc_PPR_LEFT c, n % 65536)]
      ∧ t.dramCh c = { s.dramCh c with trainFails := 0 } ∧ Keeps s t [.regs, .dram]) ∧
  (∀ (s : State) (h : Hdr) (c row : Nat) (rest : List Nat), OwnerAsks s h 0x02 → s.part.fronts ≤ 7 → c < s.part.drams →
    s.free_ R.cu_PPR_NOW → s.rd R.fz_FROZEN = 0 → (s.dramCh c).candidates = row :: rest → (s.dramCh c).repairing = none →
    (s.dramCh c).reads = [] → (s.dramCh c).writes = [] → s.rd (R.dc_PPR_LEFT c) ≠ 0 →
    ∃ t, exec (.pprNow h 0 (natLE 1 c)) s = .next t ∧ Served s t h 0x02 [] []
      ∧ t.dramCh c = { s.dramCh c with repairing := some row } ∧ Keeps s t [.regs, .sessions, .dram, .out]) ∧
  (∀ (s : State) (c row : Nat), (s.dramCh c).repairing = some row → (s.dramCh c).candidates = [row] →
    (s.dramCh c).heldReqs = [] → s.dram.portHeld = [] →
    ∃ t, exec (.pprRowDone c) s = .next t
      ∧ Sets s t [(R.dc_PPR_LEFT c, s.rd (R.dc_PPR_LEFT c) - 1), (R.dc_PPR_CANDIDATES c, 0),
          (R.cu_SUBSTITUTIONS, s.counted R.cu_SUBSTITUTIONS 1)]
      ∧ (t.dramCh c).repairing = none ∧ (t.dramCh c).candidates = [] ∧ (t.dramCh c).softRows = (s.dramCh c).softRows ++ [row]
      ∧ t.dram.mem = s.dram.mem ∧ Keeps s t [.regs, .dram]) ∧
  (∀ (s : State) (c b : Nat), s.rd (R.dc_CH_STATE c) = 2 ∨ s.rd (R.dc_CH_STATE c) = 4 → tabGet 0 (s.dramCh c).owed b < 3 →
    exec (.refreshDue c b false) s = .next (s.setDramCh c { s.dramCh c with
      owed := tabPut 0 b (tabGet 0 (s.dramCh c).owed b + 1) (s.dramCh c).owed })) ∧
  (∀ (s : State) (c addr w sy : Nat), (s.dramMap addr).map (·.1) = some c → s.chServes c = true →
    (s.dramCh c).repairing = none → s.dram.bad.contains (burstOf addr) = false → exec (.patrolScrub c addr .clean sy) s = .next s
    ∧ exec (.patrolScrub c addr .corrected sy) s = .next ((s.corrected c addr).writeBack c 0 addr)
    ∧ exec (.patrolScrub c addr (.doubleBit w) sy) s = .next (s.freeze c (64 * burstOf addr + 8 * w) 1 5 0 0xFFFF sy none)
    ∧ exec (.patrolScrub c addr (.addressCrc w) sy) s = .next (s.freeze c (64 * burstOf addr + 8 * w) 2 5 0 0xFFFF sy none)) ∧
  (∀ (s : State) (c n : Nat), s.rd (R.dc_CH_STATE c) = 1 → s.chCapacity ≠ 0 →
    (s.dramCh c).trainFails + 1 < (trainingRates s.dram.rate).length →
    exec (.dramTrainingDone c false n) s = .next (s.setDramCh c { s.dramCh c with trainFails := (s.dramCh c).trainFails + 1 })) ∧
  (∀ (s u : State) (c n : Nat) (p : Bool), s.rd (R.dc_CH_STATE c) = 1 →
    s.chCapacity = 0 ∨ (p = false ∧ (trainingRates s.dram.rate).length ≤ (s.dramCh c).trainFails + 1) →
    u = ((s.wr (R.dc_CH_STATE c) 5).wr (R.dc_TRAINED_RATE c) 0).raise 0x7102 c →
    exec (.dramTrainingDone c p n) s = .next (if u.chSetNow.contains c then u.enterSafe 0x7102 else u)) ∧
  (∀ (s : State) (h : Hdr) (c : Nat), OwnerAsks s h 0x02 → s.part.fronts ≤ 7 → c < s.part.drams → s.part.drams ≤ 4 →
    s.free_ R.cu_PPR_NOW → s.frozen = false → (s.dramCh c).candidates = [] ∨ s.rd (R.dc_PPR_LEFT c) ≠ 0 →
    exec (.pprNow h 0 (natLE 1 c)) s = .next (((s.touch h.session).startRepair c).answered s h 0x02 (answer 0))) ∧
  (∀ (s : State) (c row : Nat), (s.dramCh c).repairing = some row →
    ∃ t, exec (.pprRowDone c) s = .next t ∧ t.rd (R.dc_PPR_LEFT c) = s.rd (R.dc_PPR_LEFT c) - 1
      ∧ t.rd R.cu_SUBSTITUTIONS = s.counted R.cu_SUBSTITUTIONS 1
      ∧ (t.dramCh c).candidates = (s.dramCh c).candidates.filter (fun x => decide (x ≠ row))
      ∧ t.rd (R.dc_PPR_CANDIDATES c) = ((s.dramCh c).candidates.filter fun x => decide (x ≠ row)).length
      ∧ (t.dramCh c).repairing ≠ some row ∧ t.dram.mem = s.dram.mem ∧ Keeps s t [.regs, .dram, .out])

/-- R265, R266, R267, R268: an uncorrectable read freezes the controllers with a capture of where and how, and raises
0x7101; a diagnostic read shows the 64 octets at DIAG_ADDR as they stand, with the check octets of their words;
RELEASE answers the failed request as uncorrectable, marks its allocation not intact and ends the freeze, resuming the
channels (1) or discarding the queued writes and retraining (2). (No queue is in spill form.) The order of the check
octets is the model's choice (log entry 141), and SECDED is free (log entry 12). -/
def Obligations.DramFreeze : Prop :=
  (∀ (s : State) (c w : Nat) (r : DramReq), s.nextReq c = some (r, false) → s.rd (R.dc_CH_STATE c) = 2 → s.rd R.fz_FROZEN = 0 →
    s.queues = [] → s.part.drams ≤ 4 → c < s.part.drams →
    ∃ t, exec (.dramAccessComplete c false (.doubleBit w) 7) s = .next t ∧ t.rd R.fz_FROZEN = 1 ∧ t.rd R.fz_F_TIME = s.now96
      ∧ t.rd R.fz_F_KIND = 1 ∧ t.rd R.fz_F_ADDR = 64 * burstOf r.addr + 8 * w ∧ t.rd R.fz_F_CMD = cmdCode r.cmd ∧ t.rd R.fz_F_PORT = r.port
      ∧ t.rd R.fz_F_TENANT = r.tenant ∧ t.rd R.fz_F_SYNDROME = 7 ∧ t.rd (R.dc_UE_COUNT c) = s.counted (R.dc_UE_COUNT c) 1
      ∧ t.rd (R.dc_CH_STATE c) = 4 ∧ t.dram.failed = some r ∧ t.dram.mem = s.dram.mem
      ∧ t.out = s.out ++ [.raised 0x7101 c] ∧ Keeps s t [.regs, .dram, .out]) ∧
  (∀ (s : State) (h : Hdr), OwnerAsks s h 0x02 → s.part.fronts ≤ 7 → s.free_ R.fz_DIAG_READ → s.rd R.fz_FROZEN = 1 →
    s.rd R.fz_DIAG_ENABLE = 1 →
    ∃ t, exec (.diagRead h 0 [1#8]) s = .next t
      ∧ t.rd R.fz_DIAG_DATA = leNat (memRead s.dram.mem (s.rd R.fz_DIAG_ADDR) 64
          ++ State.burstChecks (s.rd R.fz_DIAG_ADDR) (memRead s.dram.mem (s.rd R.fz_DIAG_ADDR) 64))
      ∧ RegsBut s t [R.fz_DIAG_DATA, R.se_S_LAST_RX h.session] ∧ t.out = s.out ++ [done h 0x02 []]
      ∧ Keeps s t [.regs, .sessions, .out]) ∧
  (∀ (s : State) (h : Hdr) (r : DramReq), OwnerAsks s h 0x02 → s.part.fronts ≤ 7 → s.free_ R.fz_RELEASE →
    s.rd R.fz_FROZEN = 1 → s.dram.failed = some r → s.queues = [] → s.part.drams ≤ 4 →
    ∃ t, exec (.releaseResume h 0) s = .next t ∧ t.rd R.fz_FROZEN = 0
      ∧ (∀ c, c < s.part.drams → t.rd (R.dc_CH_STATE c) = if s.rd (R.dc_CH_STATE c) = 4
          ∨ (s.rd (R.dc_CH_STATE c) = 3 ∧ ¬(s.mode.base = .dormant ∧ s.chIdle c = true)) then 2 else s.rd (R.dc_CH_STATE c))
      ∧ t.out = s.out ++ [.dramRead r.port r.addr [] false, done h 0x02 []] ∧ t.dram.failed = none
      ∧ t.dram.regions = s.dram.regions.map (fun x => if x.base ≤ s.rd R.fz_F_ADDR ∧ s.rd R.fz_F_ADDR < x.base + x.size then
          { x with intact := false } else x)
      ∧ t.dram.mem = s.dram.mem ∧ t.dram.chans = s.dram.chans
      ∧ RegsBut s t ([R.fz_FROZEN, R.se_S_LAST_RX h.session] ++ (List.range 4).map R.dc_CH_STATE)
      ∧ Keeps s t [.regs, .sessions, .dram, .out]) ∧
  (∀ (s : State) (h : Hdr) (r : DramReq), OwnerAsks s h 0x02 → s.part.fronts ≤ 7 → s.free_ R.fz_RELEASE →
    s.rd R.fz_FROZEN = 1 → s.dram.failed = some r → s.queues = [] → s.part.drams ≤ 4 →
    ∃ t, exec (.releaseDiscard h 0) s = .next t ∧ t.rd R.fz_FROZEN = 0
      ∧ (∀ c, c < s.part.drams → (t.rd (R.dc_CH_STATE c) = if s.rd (R.dc_CH_STATE c) = 4 ∨ s.rd (R.dc_CH_STATE c) = 3 then 1 else s.rd (R.dc_CH_STATE c))
          ∧ (t.dramCh c).writes = [] ∧ (t.dramCh c).reads = (s.dramCh c).reads)
      ∧ t.out = s.out ++ [.dramRead r.port r.addr [] false, done h 0x02 []] ∧ t.dram.failed = none ∧ t.dram.mem = s.dram.mem
      ∧ RegsBut s t ([R.fz_FROZEN, R.se_S_LAST_RX h.session] ++ (List.range 4).map R.dc_CH_STATE)
      ∧ Keeps s t [.regs, .sessions, .dram, .out]) ∧
  (∀ (s : State) (c sy : Nat) (r : DramReq) (w : Bool) (k : WordCheck), s.nextReq c = some (r, w) → checkKind k ≠ 0 →
    s.chServes c = true → readsDevices r = false ∨ checkCan s r.addr k = true →
    exec (.dramAccessComplete c w k sy) s = .next ((s.takeReq c r w).freeze c (64 * burstOf r.addr + 8 * checkWord k) (checkKind k) (cmdCode r.cmd) r.port
      r.tenant sy (some r))) ∧
  (∀ (s : State) (c sy : Nat) (r : DramReq) (k : WordCheck), s.nextReq c = some (r, false) → checkKind k ≠ 0 →
    s.rd R.fz_FROZEN = 1 → s.rd (R.dc_CH_STATE c) = 4 → s.rd R.fz_F_TIME = s.now96 → s.rd R.fz_F_LOC / 2 ^ 56 ≠ c →
    readsDevices r = false ∨ checkCan s r.addr k = true →
    ∃ t, exec (.dramAccessComplete c false k sy) s = .next t
      ∧ Sets s t [(R.dc_UE_COUNT c, s.counted (R.dc_UE_COUNT c) 1), (R.fz_FREEZE_EXTRA, s.counted R.fz_FREEZE_EXTRA 1)]
      ∧ Keeps s t [.regs]) ∧
  (∀ (s : State) (c sy : Nat) (w : Bool) (k : WordCheck), s.rd R.fz_FROZEN = 1 →
    s.rd R.fz_F_TIME ≠ s.now96 ∨ (s.rd R.fz_F_LOC / 2 ^ 56 = c ∧ checkKind k ≠ 0) →
    exec (.dramAccessComplete c w k sy) s = .next s) ∧
  (∀ (s : State) (h : Hdr), OwnerAsks s h 0x02 → s.part.fronts ≤ 7 → s.free_ R.fz_RELEASE → s.rd R.fz_FROZEN = 1 →
    exec (.releaseResume h 0) s = .next (((((s.touch h.session).answerFailed).markLost (s.rd R.fz_F_ADDR)).thaw 2).answered s h
      0x02 (answer 0))) ∧
  (∀ (s u : State) (h : Hdr), OwnerAsks s h 0x02 → s.part.fronts ≤ 7 → s.free_ R.fz_RELEASE → s.rd R.fz_FROZEN = 1 →
    u = (((s.touch h.session).answerFailed).markLost (s.rd R.fz_F_ADDR)).each (List.range s.part.drams) (fun s c =>
      let v := s.each (s.dramCh c).writes (fun s w => s.markLost w.addr);
      v.setDramCh c { v.dramCh c with writes := [], drain := false, trainFails := 0, wcrc := [], poisonBursts := (v.dramCh c).poisonBursts.filter fun b => !(v.dramCh c).writes.any fun w => burstOf w.addr == b }) →
    exec (.releaseDiscard h 0) s = .next ((u.thaw 1).answered s h 0x02 (answer 0)))

/-- R272, R273, R274, R275, R276, R277: what a lane's coder puts on the line, a receiver in step with it reads back; a
receiver that hunts counts valid headers and declares lock at the 128th, and slips one bit at an invalid one; removed
bits that were not the complement are counted and make the header invalid; a data block of a locked lane joins its
bundle's frame; every block on a locked lane enters its header window; an IDLE_ENTER block idles the lane, a TRAIN
block tells what the peer is, a FILL block nothing; a control block that fails its check is counted in CTL_ERR and has
no other effect. The lane of a control block is the model's choice (log entry 143). -/
def Obligations.LaneBlocks : Prop :=
  (∀ (x : LineEnd) (hd : Nat) (p : Block), x.run < 36 → hd < 16 → readLine x (codeLine x hd p).1 = some ((codeLine x hd p).2, hd, p, 0)) ∧
  (∀ (s : State) (l hd : Nat) (i : List Bool) (e : LineEnd) (p : Block), s.rd (R.ln_LANE_STATE l) = 2 ∨ s.rd (R.ln_LANE_STATE l) = 3 →
    readLine (s.lane l).rx i = some (e, hd, p, 0) → hd = 6 ∨ hd = 9 → (s.lane l).good < 127 →
    exec (.huntWindow l i) s = .next (s.setLane l { s.lane l with rx := e, good := (s.lane l).good + 1 })) ∧
  (∀ (s : State) (l hd : Nat) (i : List Bool) (e : LineEnd) (p : Block), s.rd (R.ln_LANE_STATE l) = 2 ∨ s.rd (R.ln_LANE_STATE l) = 3 →
    readLine (s.lane l).rx i = some (e, hd, p, 0) → hd ≠ 6 → hd ≠ 9 →
    exec (.huntWindow l i) s = .next (s.setLane l { s.lane l with rx := e, good := 0, slip := ((s.lane l).slip + 1) % 260 })) ∧
  (∀ (s : State) (l hd n : Nat) (i : List Bool) (e : LineEnd) (p : Block), s.rd (R.ln_LANE_STATE l) = 2 ∨ s.rd (R.ln_LANE_STATE l) = 3 →
    readLine (s.lane l).rx i = some (e, hd, p, n + 1) →
    exec (.huntWindow l i) s = .next ((s.count (R.ln_RUN_ERR l) (n + 1)).setLane l { s.lane l with rx := e, good := 0, slip := ((s.lane l).slip + 1) % 260 })) ∧
  (∀ (s : State) (l hd b : Nat) (i : List Bool) (e : LineEnd) (p : Block), s.rd (R.ln_LANE_STATE l) = 3 →
    readLine (s.lane l).rx i = some (e, hd, p, 0) → hd = 6 ∨ hd = 9 →
    127 ≤ (s.lane l).good → s.bundleOf l = b → s.rd (R.bu_BUNDLE_STATE b) ≠ 2 →
    ∃ t, exec (.huntWindow l i) s = .next t ∧ t.rd (R.ln_LANE_STATE l) = 4
      ∧ t.lane l = { s.lane l with rx := e, good := 0, recent := [] } ∧ (∀ k, k ≠ l → t.lane k = s.lane k)
      ∧ RegsBut s t [R.ln_LANE_STATE l, R.bu_WORKING b, R.bu_BFLAGS b] ∧ Keeps s t [.regs, .lanes]) ∧
  (∀ (s u : State) (l hd : Nat) (i : List Bool) (e : LineEnd) (p : Block), s.rd (R.ln_LANE_STATE l) = 2 ∨ s.rd (R.ln_LANE_STATE l) = 3 →
    readLine (s.lane l).rx i = some (e, hd, p, 0) → hd = 6 ∨ hd = 9 → 127 ≤ (s.lane l).good →
    u = (s.setLane l { s.lane l with rx := e, good := 0, recent := [] }).wr (R.ln_LANE_STATE l) 4 →
    exec (.huntWindow l i) s = .next ((if s.rd (R.ln_LANE_STATE l) = 2 then sayReady l u else u).laneChanged l)) ∧
  (∀ (s : State) (l : Nat) (i : List Bool), readLine (s.lane l).rx i = none →
    exec (.huntWindow l i) s = .next s ∧ exec (.dataBlock l i) s = .next s) ∧
  (∀ (s : State) (l b : Nat) (i : List Bool) (e : LineEnd) (p : Block) (f : RxFrame), s.laneLocked l = true → s.bundleOf l = b → b < 2 →
    readLine (s.lane l).rx i = some (e, 6, p, 0) →
    (s.bundle b).cur = some f → ((lastN 128 ((s.lane l).recent ++ [false])).filter id).length < 24 →
    ∃ t, exec (.dataBlock l i) s = .next t
      ∧ t.bundle b = { s.bundle b with cur := some { f with octets := f.octets ++ blockOctets p, blocks := f.blocks + 1 } }
      ∧ t.lane l = { s.lane l with rx := e, recent := lastN 128 ((s.lane l).recent ++ [false]) }
      ∧ (∀ k, k ≠ l → t.lane k = s.lane k) ∧ Keeps s t [.lanes]) ∧
  (∀ (s : State) (l b : Nat) (i : List Bool) (e : LineEnd) (p : Block) (f : RxFrame), s.laneLocked l = true → s.bundleOf l = b → b < 2 →
    readLine (s.lane l).rx i = some (e, 6, p, 0) → (s.bundle b).cur = some f →
    exec (.dataBlock l i) s = .next (((s.setLane l { s.lane l with rx := e }).setBundle b { s.bundle b with cur := some { f with
      octets := f.octets ++ blockOctets p, blocks := f.blocks + 1, badHeader := f.badHeader } }).laneHeader l true)) ∧
  (∀ (s : State) (l b hd : Nat) (i : List Bool) (e : LineEnd) (p : Block) (f : RxFrame), s.laneLocked l = true → s.bundleOf l = b → b < 2 →
    readLine (s.lane l).rx i = some (e, hd, p, 0) → (s.bundle b).cur = some f → hd ≠ 6 → hd ≠ 9 →
    exec (.dataBlock l i) s = .next (((s.setLane l { s.lane l with rx := e }).setBundle b { s.bundle b with cur := some { f with
      octets := f.octets ++ blockOctets p, blocks := f.blocks + 1, badHeader := true } }).laneHeader l false)) ∧
  (∀ (s : State) (l hd b n : Nat) (i : List Bool) (e : LineEnd) (p : Block) (f : RxFrame), s.laneLocked l = true → s.bundleOf l = b → b < 2 →
    readLine (s.lane l).rx i = some (e, hd, p, n + 1) → (s.bundle b).cur = some f →
    exec (.dataBlock l i) s = .next ((((s.count (R.ln_RUN_ERR l) (n + 1)).setLane l { s.lane l with rx := e }).setBundle b { s.bundle b with cur := some { f with
      octets := f.octets ++ blockOctets p, blocks := f.blocks + 1, badHeader := true } }).laneHeader l false)) ∧
  (∀ (s : State) (l : Nat) (i : List Bool) (e : LineEnd) (p : Block), s.laneLocked l = true → readLine (s.lane l).rx i = some (e, 9, p, 0) →
    exec (.dataBlock l i) s = .next ((s.setLane l { s.lane l with rx := e }).laneHeader l true)) ∧
  (∀ (s u : State) (l b : Nat) (p : Block), u = s.heard l p → l < 16 → ctlOk 0x01 0 p = true → u.bundleOf l = b → u.rd (R.bu_BUNDLE_STATE b) ≠ 2 →
    ∃ t, exec (.idleEnter l p) s = .next t ∧ t.rd (R.ln_LANE_STATE l) = 1
      ∧ t.lane l = { u.lane l with idle := true, idleSince := u.time.edge, idleTj := u.hubTj } ∧ (∀ k, k ≠ l → t.lane k = u.lane k)
      ∧ RegsBut u t [R.ln_LANE_STATE l, R.bu_WORKING b, R.bu_BFLAGS b] ∧ Keeps u t [.regs, .lanes]) ∧
  (∀ (s u : State) (l : Nat) (p : Block), u = s.heard l p → l < 16 → ctlOk 0x02 namedTrain p = true →
    exec (.train l p) s = .next (u.setLane l { u.lane l with
      peerAddr := field p.toNat 247 240, peerDir := field p.toNat 239 238, peerMode := field p.toNat 231 224,
      trainState := field p.toNat 223 216 })) ∧
  (∀ (s u : State) (l : Nat) (p : Block), u = s.heard l p →
    exec (.fill l p) s = .next (if ctlOk 0x05 0 p then u else u.count R.lx_CTL_ERR 1)) ∧
  (∀ (s : State) (l : Nat) (p : Block), ctlOk 0x05 0 p = true → s.laneLocked l = false → exec (.fill l p) s = .next s) ∧
  (∀ (s : State) (l : Nat) (p : Block), ctlOk 0x05 0 p = true → s.laneLocked l = true →
    ((lastN 128 ((s.lane l).recent ++ [false])).filter id).length < 24 →
    exec (.fill l p) s = .next (s.setLane l { s.lane l with
      rx := (codeLine (s.lane l).rx 9 p).2, recent := lastN 128 ((s.lane l).recent ++ [false]) })) ∧
  (∀ (s u : State) (l : Nat) (p : Block), u = s.heard l p → ctlOk 0x01 0 p = true →
    exec (.idleEnter l p) s = .next (((u.setLane l { u.lane l with idle := true, idleSince := u.time.edge, idleTj := u.hubTj }).wr (R.ln_LANE_STATE l)
      (if 16 ≤ l ∧ (u.lane l).standIn = none then 7 else 1)).laneChanged l)) ∧
  (∀ (s : State) (l : Nat) (p : Block), ctlOk 0x01 0 p = false → exec (.idleEnter l p) s = .next ((s.heard l p).count R.lx_CTL_ERR 1)) ∧
  (∀ (s : State) (l : Nat) (p : Block), ctlOk 0x02 namedTrain p = false → exec (.train l p) s = .next ((s.heard l p).count R.lx_CTL_ERR 1)) ∧
  (∀ (s u v : State) (l place : Nat) (p : Block), v = s.heard l p → 16 ≤ l → ctlOk 0x02 namedTrain p = true → field p.toNat 239 238 ≤ 1 →
    u = v.setLane l { v.lane l with
      peerAddr := field p.toNat 247 240, peerDir := field p.toNat 239 238, peerMode := field p.toNat 231 224,
      trainState := field p.toNat 223 216 } →
    (v.lanesOf (1 - field p.toNat 239 238))[field p.toNat 237 236]? = some place → v.freeSpare place = some l →
    v.servingLane place = place → exec (.train l p) s = .next (u.standIn l place))

/-- R276, R277, R278, R279, R292, R349: a training burst ends a lane's idle and aligns its receiver; a receiver not in
lock after it, or idle too long, trains in full; a lane in eye alarm goes out of service and a free spare stands in
for it and trains; LANE_RESTORE trains the repaired lane; a bundle all of whose live lanes have trained goes into
service with a proper peer, sends its replay buffer again, and goes into address conflict or wiring fault where the
peer says so; one with a lane that has not trained stays as it is. -/
def Obligations.LaneTraining : Prop :=
  (∀ (s : State) (l : Nat), s.mode.base = .acquire → (s.lane l).idle = true →
    s.idleStale l = false →
    exec (.trainingBurst l) s = .next ((s.setLane l { s.lane l with idle := false, good := 127, recent := [] }).wr
      (R.ln_LANE_STATE l) 3)) ∧
  (∀ (s : State) (l b : Nat), s.rd (R.ln_LANE_STATE l) = 3 → s.bundleOf l = b → s.rd (R.bu_BUNDLE_STATE b) ≠ 2 → (s.lane l).txIdle = false →
    ∃ t, exec (.idleExitLockTimeout l) s = .next t ∧ t.rd (R.ln_LANE_STATE l) = 2
      ∧ t.rd (R.ln_TRAININGS l) = s.counted (R.ln_TRAININGS l) 1
      ∧ t.lane l = { s.lane l with good := 0, recent := [], idle := false, trainState := 0, tx := (t.lane l).tx }
      ∧ t.out = s.out ++ (if b < 2 then [.line l (codeLine (s.lane l).tx 9 (s.trainBlock l 1)).1] else [])
      ∧ RegsBut s t [R.ln_LANE_STATE l, R.ln_TRAININGS l, R.bu_WORKING b, R.bu_BFLAGS b] ∧ Keeps s t [.regs, .lanes, .out]) ∧
  (∀ (s : State) (l k b : Nat), s.rd (R.ln_LANE_STATE l) = 4 ∨ s.rd (R.ln_LANE_STATE l) = 5 → l < 16 →
    s.rd (R.ln_MODE l) = 1 ∨ s.rd (R.ln_MODE l) = 2 →
    (s.lane l).standIn = none → s.freeSpare l = some k → s.rd (R.ln_BUNDLE l) = b → s.rd (R.bu_BUNDLE_STATE b) ≠ 2 →
    s.rd R.ig_EVT_SEQ + 4 < 2 ^ 32 →
    ∃ t, exec (.eyeAlarmTimeout l) s = .next t ∧ t.rd (R.ln_LANE_STATE l) = 6 ∧ t.rd (R.ln_LANE_STATE k) = 2
      ∧ (t.lane k).standIn = some l ∧ t.rd (R.ln_TRAININGS k) = s.counted (R.ln_TRAININGS k) 1
      ∧ t.rd R.cu_SUBSTITUTIONS = s.counted R.cu_SUBSTITUTIONS 1
      ∧ t.rd (R.ev_EVENT (s.rd R.ig_EVT_SEQ % 64 + 1)) = eventRecord (s.rd R.ig_EVT_SEQ) (t64OfTicks s.now) 6 l 7
      ∧ ((s.lane k).txIdle = true → Out.line k burstBits ∈ t.out)
      ∧ Keeps s t [.regs, .lanes, .out]) ∧
  (∀ (s : State) (h : Hdr) (l b : Nat), OwnerAsks s h 0x02 → s.part.fronts ≤ 7 → l < 16 → s.free_ R.cu_LANE_RESTORE →
    s.servingLane l = l → s.rd (R.ln_LANE_STATE l) = 6 → s.bundleOf l = b → s.rd (R.bu_BUNDLE_STATE b) ≠ 2 → (s.lane l).txIdle = false →
    ∃ t, exec (.laneRestore h 0 (natLE 1 l)) s = .next t ∧ t.rd (R.ln_LANE_STATE l) = 2
      ∧ t.rd (R.ln_TRAININGS l) = s.counted (R.ln_TRAININGS l) 1 ∧ t.said = s.said ++ [done h 0x02 []]
      ∧ RegsBut s t [R.ln_LANE_STATE l, R.ln_TRAININGS l, R.bu_WORKING b, R.bu_BFLAGS b, R.se_S_LAST_RX h.session]
      ∧ Keeps s t [.regs, .sessions, .lanes, .out]) ∧
  (∀ (s : State) (b l e : Nat), b < 2 → s.lanesOf b = [l] → s.servingLane l = l → trained s l e = true →
    s.rd (R.bu_BUNDLE_STATE b) = 1 ∨ s.rd (R.bu_BUNDLE_STATE b) = 3 ∨ s.rd (R.bu_BUNDLE_STATE b) = 4 →
    (s.lane l).peerAddr ≠ s.rd R.lx_CHAIN_ADDR →
    (s.lane l).peerDir ≠ b → s.rd (R.bu_MIN_LANES b) ≤ 1 → (s.bundle b).replay = [] → (s.bundle b).relay = [] →
    ∃ t, exec (.fullTrainingDone b [e]) s = .next t ∧ t.rd (R.bu_BUNDLE_STATE b) = 2
      ∧ t.rd (R.bu_PEER_ADDR b) = (s.lane l).peerAddr ∧ t.rd (R.bu_WORKING b) = 1 ∧ (t.bundle b).leftServiceAt = none
      ∧ (∀ k, t.lane k = s.lane k)
      ∧ RegsBut s t [R.bu_BUNDLE_STATE b, R.bu_PEER_ADDR b, R.bu_WORKING b, R.bu_BFLAGS b]
      ∧ Keeps s t [.regs, .lanes]) ∧
  (∀ (s : State) (b l e : Nat), b < 2 → s.lanesOf b = [l] → s.servingLane l = l → trained s l e = true → s.rd (R.bu_MIN_LANES b) ≤ 1 →
    s.rd (R.bu_BUNDLE_STATE b) = 1 → (s.lane l).peerAddr = s.rd R.lx_CHAIN_ADDR ∨ (s.lane l).peerDir = b →
    ∃ t, exec (.fullTrainingDone b [e]) s = .next t
      ∧ Sets s t [(R.bu_BUNDLE_STATE b, if (s.lane l).peerAddr = s.rd R.lx_CHAIN_ADDR then 6 else 5), (R.bu_PEER_ADDR b, (s.lane l).peerAddr)]
      ∧ t.out = s.out ++ [.raised 0x7112 b] ∧ Keeps s t [.regs, .lanes, .out]) ∧
  (∀ (s : State) (l : Nat), (s.lane l).idle = true → s.idleStale l = false →
    exec (.trainingBurst l) s = .next (((s.setLane l { s.lane l with idle := false, good := 127, recent := [] }).wr
      (R.ln_LANE_STATE l) 3).wake 2)) ∧
  (∀ (s : State) (l : Nat), (s.lane l).idle = true → s.idleStale l = true →
    exec (.trainingBurst l) s = .next ((s.trainLane l).wake 2)) ∧
  (∀ (s : State) (l : Nat), (s.lane l).idle = false → exec (.trainingBurst l) s = .next (s.wake 2)) ∧
  (∀ (s : State) (l : Nat), s.rd (R.ln_LANE_STATE l) = 3 → exec (.idleExitLockTimeout l) s = .next (s.trainLane l)) ∧
  (∀ (s u v : State) (l p : Nat), s.rd (R.ln_LANE_STATE l) = 2 ∨ s.rd (R.ln_LANE_STATE l) = 4 ∨ s.rd (R.ln_LANE_STATE l) = 5 →
    p = ((s.lane l).standIn).getD l →
    u = ((s.setLane l { s.lane l with standIn := none }).wr (R.ln_LANE_STATE l) 6).logEvent 6 l 7 →
    v = (if p < 16 ∧ (s.rd (R.ln_MODE p) = 1 ∨ s.rd (R.ln_MODE p) = 2) then u.freeSpare p else none).elim (u.logEvent 6 l 6) (fun k => u.standIn k p) →
    exec (.eyeAlarmTimeout l) s = .next (if v.rd (R.ln_BUNDLE p) < 2 then v.settleBundle (v.rd (R.ln_BUNDLE p)) else v)) ∧
  (∀ (s : State) (h : Hdr) (l : Nat), OwnerAsks s h 0x02 → s.part.fronts ≤ 7 → l < 16 → s.free_ R.cu_LANE_RESTORE →
    s.servingLane l ≠ l ∨ s.rd (R.ln_LANE_STATE l) = 6 →
    exec (.laneRestore h 0 (natLE 1 l)) s = .next (((s.touch h.session).laneRestoreAct l).2.answered s h 0x02 (answer 0))) ∧
  (∀ (s : State) (h : Hdr) (l : Nat), OwnerAsks s h 0x02 → s.part.fronts ≤ 7 → l < 16 → s.free_ R.cu_LANE_RESTORE →
    s.servingLane l = l → s.rd (R.ln_LANE_STATE l) ≠ 6 →
    ∃ t, exec (.laneRestore h 0 (natLE 1 l)) s = .next t ∧ Refused s t h 0x02 0x4141) ∧
  (∀ (s u v : State) (b : Nat) (ls eyes : List Nat), b < 2 → ls = ((s.lanesOf b).map s.servingLane).filter s.laneLive → ls ≠ [] →
    s.rd (R.bu_MIN_LANES b) ≤ ls.length →
    s.rd (R.bu_BUNDLE_STATE b) = 1 ∨ s.rd (R.bu_BUNDLE_STATE b) = 3 ∨ s.rd (R.bu_BUNDLE_STATE b) = 4 →
    (∀ x ∈ ls.zip (List.range ls.length), trained s x.1 (eyes.getD x.2 0) = true) →
    (∀ l ∈ ls, (s.lane l).peerAddr ≠ s.rd R.lx_CHAIN_ADDR ∧ (s.lane l).peerDir ≠ b) →
    u = (s.wr (R.bu_PEER_ADDR b) (s.lane (ls.headD 0)).peerAddr).setBundle b { s.bundle b with peerLanes := 15 } →
    v = ((u.setBundle b { u.bundle b with
        leftServiceAt := none, grant := if s.rd (R.bu_BUNDLE_STATE b) = 1 then 65536 else (u.bundle b).grant }).wr (R.bu_BUNDLE_STATE b) 2).settleBundle b →
    exec (.fullTrainingDone b eyes) s = .next (((v.bundle b).replay.head?.elim v (fun f => v.resendFrom b f.lseq)).pumpBundle b)) ∧
  (∀ (s : State) (b l : Nat) (eyes : List Nat), l ∈ ((s.lanesOf b).map s.servingLane).filter s.laneLive → s.laneLocked l = false →
    exec (.fullTrainingDone b eyes) s = .next s)

/-- R281, R282, R283: ACK frees the frames it covers and gives the credit it carries; NAK sends every frame from
NAK_LSEQ on again; SOF begins a frame; EOF of a frame that passes takes it, with the credit its blocks owe, and
answers with ACK, EOF of one that fails discards it and answers with NAK, and one with STOMP is discarded in silence.
(No frame waits to be relayed; the frame taken is a stream frame for this hub, which has no gateway route; the coded
bits on the lanes are those of R279.) The lane of a control block and the striping are the model's choices (log entry
143). -/
def Obligations.BundleBlocks : Prop :=
  (∀ (s u : State) (b lane : Nat) (p : Block), u = s.heard lane p → b < 2 → ctlOk 0x03 namedAck p = true → u.rd (R.bu_MIN_LANES b) = 0 →
    (u.bundle b).relay = [] →
    ∃ t, exec (.ack b lane p) s = .next t
      ∧ (t.bundle b).replay = (u.bundle b).replay.filter (fun f => !seqLe f.lseq (field p.toNat 247 232))
      ∧ (t.bundle b).credit = field p.toNat 231 208 ∧ (t.bundle b).peerLanes = field p.toNat 207 204
      ∧ t.rd (R.bu_REPLAY_USED b) = t.replayOctets b ∧ t.rd (R.bu_WORKING b) = t.workingLanes b
      ∧ RegsBut u t [R.bu_REPLAY_USED b, R.bu_WORKING b, R.bu_BFLAGS b] ∧ Keeps u t [.regs, .lanes]) ∧
  (∀ (s u : State) (b lane : Nat) (p : Block), u = s.heard lane p → ctlOk 0x04 namedNak p = true → (u.bundle b).cut = none → u.noInjection →
    (∀ f ∈ (u.bundle b).replay, f.sends < 15) →
    ∃ t, exec (.nak b lane p) s = .next t
      ∧ t.said = u.said ++ (((u.bundle b).replay.filter fun f => seqLe (field p.toNat 247 232) f.lseq).map fun f =>
          Out.frame b { f with sends := f.sends + 1 })
      ∧ t.rd (R.bu_RESENT b) = u.counted (R.bu_RESENT b)
          ((u.bundle b).replay.filter fun f => seqLe (field p.toNat 247 232) f.lseq).length
      ∧ RegsBut u t [R.bu_RESENT b] ∧ (∀ k, k ≠ b → t.bundle k = u.bundle k) ∧ Keeps u t [.regs, .lanes, .out]) ∧
  (∀ (s u : State) (b lane : Nat) (p : Block), u = s.heard lane p → b < 2 → u.carriesNone b = false → ctlOk 0x10 namedSof p = true → field p.toNat 217 216 ≤ 1 →
    1 ≤ field p.toNat 183 172 → field p.toNat 183 172 ≤ 2048 → (u.bundle b).cur = none →
    field p.toNat 247 240 = u.rd R.lx_CHAIN_ADDR →
    exec (.sof b lane p) s = .next (u.setBundle b { u.bundle b with cur := some ⟨field p.toNat 247 240, field p.toNat 239 232,
      field p.toNat 231 224, field p.toNat 223 218, field p.toNat 217 216, field p.toNat 215 200, field p.toNat 199 184,
      field p.toNat 183 172, bitAt p.toNat 171, bitAt p.toNat 170, bitAt p.toNat 169, [], 0, false, false⟩ })) ∧
  (∀ (s u : State) (b lane : Nat) (p : Block) (f : RxFrame), u = s.heard lane p → b < 2 → u.carriesNone b = false → ctlOk 0x11 namedEof p = true → 1 ≤ field p.toNat 231 226 →
    field p.toNat 231 226 ≤ 32 → (u.bundle b).cur = some f → bitAt p.toNat 225 = false → f.badHeader = false →
    f.blocks = f.nblk → crc32c f.octets = field p.toNat 63 32 → f.lseq = (u.bundle b).rxLseq → field p.toNat 247 232 = f.lseq →
    f.lseq < 65536 → f.dest = u.rd R.lx_CHAIN_ADDR → f.cls = 0 → u.expectedRseq f.origin f.route = none →
    (∀ r, r < 64 → u.rd (R.ro_QUEUE r) ≠ 0xFFFE) → u.lanes.holding = [] → (u.bundle (1 - b)).relay = [] →
    ∃ t, exec (.eof b lane p) s = .next t ∧ (t.bundle b).cur = none ∧ (t.bundle b).rxLseq = (f.lseq + 1) % 65536
      ∧ (t.bundle b).grant = ((u.bundle b).grant + ((u.bundle b).owed + f.nblk + 2)) % 2 ^ 24 ∧ (t.bundle b).owed = 0
      ∧ t.expectedRseq f.origin f.route = some ((f.rseq + 1) % 65536)
      ∧ t.said = u.said ++ [.ctl b (ctlBlock 0x03 (f.lseq * 2 ^ 232 + (t.bundle b).grant * 2 ^ 208 + u.rxLanes b * 2 ^ 204))]
      ∧ Keeps u t [.lanes, .out]) ∧
  (∀ (s u : State) (b lane : Nat) (p : Block) (f : RxFrame), u = s.heard lane p → b < 2 → u.carriesNone b = false → ctlOk 0x11 namedEof p = true → 1 ≤ field p.toNat 231 226 →
    field p.toNat 231 226 ≤ 32 → (u.bundle b).cur = some f → bitAt p.toNat 225 = false →
    f.badHeader = true ∨ crc32c f.octets ≠ field p.toNat 63 32 → f.cutThrough = false → (u.bundle b).lastNak = none →
    ∃ t, exec (.eof b lane p) s = .next t ∧ (t.bundle b).cur = none ∧ (t.bundle b).rxLseq = (u.bundle b).rxLseq
      ∧ t.said = u.said ++ [.ctl b (ctlBlock 0x04 ((u.bundle b).rxLseq * 2 ^ 232))] ∧ Keeps u t [.lanes, .out]) ∧
  (∀ (s u : State) (b lane : Nat) (p : Block) (f : RxFrame), u = s.heard lane p → b < 2 → u.carriesNone b = false → ctlOk 0x11 namedEof p = true → 1 ≤ field p.toNat 231 226 →
    field p.toNat 231 226 ≤ 32 → (u.bundle b).cur = some f → bitAt p.toNat 225 = true → f.cutThrough = false →
    exec (.eof b lane p) s = .next (u.setBundle b { u.bundle b with cur := none })) ∧
  (∀ (s u : State) (b lane : Nat) (p : Block), u = s.heard lane p → ctlOk 0x03 namedAck p = true →
    exec (.ack b lane p) s = .next ((((u.setBundle b { u.bundle b with
      replay := (u.bundle b).replay.filter fun f => !seqLe f.lseq (field p.toNat 247 232),
      credit := field p.toNat 231 208, peerLanes := field p.toNat 207 204,
      lastAckAdvance := if ((u.bundle b).replay.filter fun f => !seqLe f.lseq (field p.toNat 247 232)).length
        < (u.bundle b).replay.length then u.time.edge else (u.bundle b).lastAckAdvance }).replaySettle b).settleBundle b).pumpBundle b)) ∧
  (∀ (s u : State) (b lane : Nat) (p : Block), u = s.heard lane p → ctlOk 0x04 namedNak p = true →
    exec (.nak b lane p) s = .next (u.resendFrom b (field p.toNat 247 232))) ∧
  (∀ (s u : State) (b lane : Nat) (p : Block), u = s.heard lane p → ctlOk 0x03 namedAck p = false → exec (.ack b lane p) s = .next (u.count R.lx_CTL_ERR 1)) ∧
  (∀ (s u : State) (b lane : Nat) (p : Block), u = s.heard lane p → ctlOk 0x04 namedNak p = false → exec (.nak b lane p) s = .next (u.count R.lx_CTL_ERR 1)) ∧
  (∀ (s u : State) (b lane : Nat) (p : Block), u = s.heard lane p → ctlOk 0x10 namedSof p = false → exec (.sof b lane p) s = .next (u.count R.lx_CTL_ERR 1)) ∧
  (∀ (s u : State) (b lane : Nat) (p : Block), u = s.heard lane p → ctlOk 0x11 namedEof p = false → (u.bundle b).cur = none → exec (.eof b lane p) s = .next (u.count R.lx_CTL_ERR 1)) ∧
  (∀ (s u : State) (b lane : Nat) (p : Block), u = s.heard lane p → u.carriesNone b = false → ctlOk 0x10 namedSof p = true → field p.toNat 217 216 ≤ 1 →
    1 ≤ field p.toNat 183 172 → field p.toNat 183 172 ≤ 2048 → (u.bundle b).cur = none →
    field p.toNat 247 240 = u.rd R.lx_CHAIN_ADDR ∨ (u.bundle (1 - b)).relay ≠ []
      ∨ u.canSend (1 - b) (32 * field p.toNat 183 172) = false →
    exec (.sof b lane p) s = .next (u.setBundle b { u.bundle b with cur := some ⟨field p.toNat 247 240, field p.toNat 239 232, field p.toNat 231 224, field p.toNat 223 218,
        field p.toNat 217 216, field p.toNat 215 200, field p.toNat 199 184, field p.toNat 183 172, bitAt p.toNat 171,
        bitAt p.toNat 170, bitAt p.toNat 169, [], 0, false, false⟩ })) ∧
  (∀ (s u : State) (b lane : Nat) (p : Block), u = s.heard lane p → u.carriesNone b = false → ctlOk 0x10 namedSof p = true → field p.toNat 217 216 ≤ 1 →
    1 ≤ field p.toNat 183 172 → field p.toNat 183 172 ≤ 2048 → (u.bundle b).cur = none →
    field p.toNat 247 240 ≠ u.rd R.lx_CHAIN_ADDR → field p.toNat 239 232 ≠ u.rd R.lx_CHAIN_ADDR →
    field p.toNat 231 224 < 255 → field p.toNat 199 184 = (u.bundle b).rxLseq → (u.bundle (1 - b)).relay = [] →
    (u.bundle (1 - b)).cut = none → u.canSend (1 - b) (32 * field p.toNat 183 172) = true →
    b < 2 → exec (.sof b lane p) s = .next ((u.setBundle b { u.bundle b with cur := some ⟨field p.toNat 247 240, field p.toNat 239 232, field p.toNat 231 224, field p.toNat 223 218,
        field p.toNat 217 216, field p.toNat 215 200, field p.toNat 199 184, field p.toNat 183 172, bitAt p.toNat 171,
        bitAt p.toNat 170, bitAt p.toNat 169, [], 0, false, true⟩ }).setBundle (1 - b)
      { u.bundle (1 - b) with cut := some ⟨field p.toNat 247 240, field p.toNat 239 232, field p.toNat 231 224 + 1,
        field p.toNat 223 218, field p.toNat 217 216, field p.toNat 215 200, bitAt p.toNat 171, bitAt p.toNat 170,
        bitAt p.toNat 169, [], (u.bundle (1 - b)).txLseq, 1⟩ })) ∧
  (∀ (s u : State) (b lane : Nat) (p : Block) (f : RxFrame), u = s.heard lane p → u.carriesNone b = false → ctlOk 0x11 namedEof p = true → 1 ≤ field p.toNat 231 226 →
    field p.toNat 231 226 ≤ 32 → (u.bundle b).cur = some f → bitAt p.toNat 225 = false → f.badHeader = false →
    f.blocks = f.nblk → crc32c f.octets = field p.toNat 63 32 → f.lseq = (u.bundle b).rxLseq → field p.toNat 247 232 = f.lseq →
    exec (.eof b lane p) s = .next ((((u.setBundle b { u.bundle b with
      cur := none, rxLseq := ((u.bundle b).rxLseq + 1) % 65536,
      owed := (u.bundle b).owed + f.nblk + 2 }).frameArrived b { f with
        octets := f.octets.take (32 * (f.nblk - 1) + field p.toNat 231 226) }).grantCredit b).sendAck b)) ∧
  (∀ (s u : State) (b lane : Nat) (p : Block) (f : RxFrame), u = s.heard lane p → u.carriesNone b = false → ctlOk 0x11 namedEof p = true → 1 ≤ field p.toNat 231 226 →
    field p.toNat 231 226 ≤ 32 → (u.bundle b).cur = some f → bitAt p.toNat 225 = false →
    f.badHeader = true ∨ f.blocks ≠ f.nblk ∨ crc32c f.octets ≠ field p.toNat 63 32 ∨ f.lseq ≠ (u.bundle b).rxLseq
      ∨ field p.toNat 247 232 ≠ f.lseq → exec (.eof b lane p) s = .next (u.frameFails b true)) ∧
  (∀ (s u : State) (b lane : Nat) (p : Block) (f : RxFrame), u = s.heard lane p → u.carriesNone b = false → ctlOk 0x11 namedEof p = true → 1 ≤ field p.toNat 231 226 →
    field p.toNat 231 226 ≤ 32 → (u.bundle b).cur = some f → bitAt p.toNat 225 = true →
    exec (.eof b lane p) s = .next (u.frameFails b false)) ∧
  (∀ (s u : State) (b lane : Nat) (p : Block) (f : RxFrame), u = s.heard lane p → ctlOk 0x11 namedEof p = false → (u.bundle b).cur = some f →
    exec (.eof b lane p) s = .next ((u.count R.lx_CTL_ERR 1).frameFails b true)) ∧
  (∀ (s u : State) (b lane : Nat) (p : Block), u = s.heard lane p → u.carriesNone b = true →
    (ctlOk 0x10 namedSof p = true → exec (.sof b lane p) s = .next u) ∧ (ctlOk 0x11 namedEof p = true → exec (.eof b lane p) s = .next u)) ∧
  (∀ (s u : State) (b lane : Nat) (p : Block), u = s.heard lane p → u.carriesNone b = false → ctlOk 0x10 namedSof p = true →
    2 ≤ field p.toNat 217 216 ∨ field p.toNat 183 172 = 0 ∨ 2048 < field p.toNat 183 172 →
    exec (.sof b lane p) s = .next (u.frameFails b true)) ∧
  (∀ (s u v : State) (b lane : Nat) (p : Block) (f : RxFrame), u = s.heard lane p → u.carriesNone b = false → ctlOk 0x10 namedSof p = true →
    field p.toNat 217 216 ≤ 1 → 1 ≤ field p.toNat 183 172 → field p.toNat 183 172 ≤ 2048 → (u.bundle b).cur = some f →
    field p.toNat 247 240 = u.rd R.lx_CHAIN_ADDR → v = u.frameFails b true → v.rd R.lx_CHAIN_ADDR = u.rd R.lx_CHAIN_ADDR →
    exec (.sof b lane p) s = .next (v.setBundle b { v.bundle b with cur := some ⟨field p.toNat 247 240, field p.toNat 239 232, field p.toNat 231 224, field p.toNat 223 218,
        field p.toNat 217 216, field p.toNat 215 200, field p.toNat 199 184, field p.toNat 183 172, bitAt p.toNat 171,
        bitAt p.toNat 170, bitAt p.toNat 169, [], 0, false, false⟩ })) ∧
  (∀ (s u : State) (b lane : Nat) (p : Block), u = s.heard lane p → u.carriesNone b = false → ctlOk 0x11 namedEof p = true →
    field p.toNat 231 226 = 0 ∨ 32 < field p.toNat 231 226 → exec (.eof b lane p) s = .next (u.frameFails b true)) ∧
  (∀ (s u : State) (b lane : Nat) (p : Block), u = s.heard lane p → u.carriesNone b = false → ctlOk 0x11 namedEof p = true → 1 ≤ field p.toNat 231 226 →
    field p.toNat 231 226 ≤ 32 → (u.bundle b).cur = none → exec (.eof b lane p) s = .next (u.sendNak b))

/-- R282, R283, R286, R287: a bundle in service sends ACK at its interval; frames outstanding without an ACK are sent
again; a bundle out of service too long is down; a frame held behind a gap is delivered when its hold ends, and the
gap counted; RELAY_LOAD and BFLAGS bit 0 follow each second's load. R290, R291, R294: a received Ethernet frame is
counted by what is wrong with it, or answered where it asks for the MAC's address; LINK follows the link; a PAUSE
frame stops a MAC with PAUSE_EN for its quanta of 512 bits; when PERMIT_UNTIL has passed the active injection rules
stop with INJ_STATE 3. The order of units behind a delayed one is the model's choice (log entry 144). -/
def Obligations.BundleTimers : Prop :=
  (∀ (s : State) (b : Nat), s.rd (R.bu_BUNDLE_STATE b) = 2 →
    exec (.ackInterval b) s = .next (s.sendCtl b (ctlBlock 0x03 (((s.bundle b).rxLseq + 65535) % 65536 * 2 ^ 232
      + (s.bundle b).grant % 2 ^ 24 * 2 ^ 208 + s.rxLanes b * 2 ^ 204)))) ∧
  (∀ (s : State) (b l : Nat) (p : Block), s.rd (R.bu_BUNDLE_STATE b) = 2 → s.workLanes b = [l] →
    p = ctlBlock 0x03 (((s.bundle b).rxLseq + 65535) % 65536 * 2 ^ 232 + (s.bundle b).grant % 2 ^ 24 * 2 ^ 208 + s.rxLanes b * 2 ^ 204) →
    ∃ t, exec (.ackInterval b) s = .next t ∧ t.out = s.out ++ [.ctl b p, .line l (codeLine (s.lane l).tx 9 p).1]
      ∧ t.lane l = { s.lane l with tx := (codeLine (s.lane l).tx 9 p).2 } ∧ (∀ k, k ≠ l → t.lane k = s.lane k) ∧ Keeps s t [.lanes, .out]) ∧
  (∀ (s : State) (b : Nat) (f : TxFrame), s.rd (R.bu_BUNDLE_STATE b) = 2 → (s.bundle b).replay = [f] → (s.bundle b).cut = none →
    (s.bundle b).lastAckAdvance + 163840 ≤ s.time.edge →
    s.noInjection → f.sends < 15 → f.lseq < 65536 →
    ∃ t, exec (.resendTimeout b) s = .next t ∧ t.said = s.said ++ [.frame b { f with sends := f.sends + 1 }]
      ∧ t.bundle b = { s.bundle b with replay := [{ f with sends := f.sends + 1 }], lastAckAdvance := s.time.edge, txLanes := s.workLanes b, stripe := (t.bundle b).stripe }
      ∧ Sets s t [(R.bu_RESENT b, s.counted (R.bu_RESENT b) 1)] ∧ Keeps s t [.regs, .lanes, .out]) ∧
  (∀ (s : State) (b l m : Nat) (f g : TxFrame) (c0 c1 c2 : List Bool × LineEnd), s.rd (R.bu_BUNDLE_STATE b) = 2 → (s.bundle b).replay = [f] →
    (s.bundle b).cut = none → (s.bundle b).lastAckAdvance + 163840 ≤ s.time.edge → s.noInjection → f.sends < 15 → f.lseq < 65536 →
    f.octets ≠ [] → f.octets.length ≤ 32 → s.workLanes b = [l, m] → l ≠ m → (s.bundle b).txLanes = [l, m] → (s.bundle b).stripe = 0 →
    g = { f with sends := f.sends + 1 } → c0 = codeLine (s.lane l).tx 9 (sofBlock f 1) →
    c1 = codeLine (s.lane m).tx 6 (blockOfOctets (paddedOctets f)) → c2 = codeLine c0.2 9 (eofBlock f.lseq f.octets.length false (crc32c (paddedOctets f))) →
    ∃ t, exec (.resendTimeout b) s = .next t ∧ t.out = s.out ++ [.frame b g, .line l c0.1, .line m c1.1, .line l c2.1]
      ∧ (t.bundle b).stripe = 1 ∧ (t.lane l).tx = c2.2 ∧ (t.lane m).tx = c1.2) ∧
  (∀ (s : State) (b e : Nat), s.rd (R.bu_BUNDLE_STATE b) = 3 → (s.bundle b).replay = [] → (s.bundle b).relay = [] →
    (s.bundle b).leftServiceAt = some e → e + 16384000 ≤ s.time.edge →
    ∃ t, exec (.bundleDownTimeout b) s = .next t ∧ t.rd (R.bu_BUNDLE_STATE b) = 4 ∧ t.rd (R.bu_REPLAY_USED b) = 0
      ∧ bitAt (t.rd (R.bu_BFLAGS b)) 1 = decide (0 < s.bundleShares b)
      ∧ RegsBut s t [R.bu_BUNDLE_STATE b, R.bu_REPLAY_USED b, R.bu_BFLAGS b, R.bl_SEL_DIR, R.bl_HOPS, R.bl_GM_ADDR]
      ∧ (t.linkTime b).timeValid = false
      ∧ (t.bundle b).cur = none ∧ (t.bundle b).cut = none ∧ Keeps s t [.regs, .lanes, .time]) ∧
  (∀ (s : State) (e : Nat) (x : HeldFrame), s.lanes.holding = [x] → s.expectedRseq x.origin x.route = some e → e < 65536 →
    x.rseq < 65536 → s.rd R.lx_REORDER_HOLD * 16384 ≤ 10 * (s.time.edge - x.arrived) → (∀ r, r < 64 → s.rd (R.ro_QUEUE r) ≠ 0xFFFE) →
    ∃ t, exec (.reorderHoldExpiry x.origin x.route) s = .next t ∧ t.lanes.holding = []
      ∧ Sets s t [(R.lx_RSEQ_GAPS, s.counted R.lx_RSEQ_GAPS ((x.rseq + 65536 - e) % 65536))]
      ∧ t.expectedRseq x.origin x.route = some ((x.rseq + 1) % 65536) ∧ Keeps s t [.regs, .lanes]) ∧
  (∀ (s : State) (b load : Nat), load < 2 ^ 64 →
    ∃ t, exec (.relayLoadMeasure b load) s = .next t
      ∧ Sets s t [(R.bu_RELAY_LOAD b, load),
          (R.bu_BFLAGS b, putBit (s.rd (R.bu_BFLAGS b)) 0 (decide (s.rd (R.bu_RELAY_RESERVE b) < load)))] ∧ Keeps s t [.regs]) ∧
  (∀ (s : State) (b : Nat) (f : TxFrame) (l : List TxFrame), s.rd (R.bu_BUNDLE_STATE b) = 2 → (s.bundle b).replay = f :: l →
    (s.bundle b).lastAckAdvance + 163840 ≤ s.time.edge →
    exec (.resendTimeout b) s = .next (s.resendFrom b f.lseq)) ∧
  (∀ (s : State) (b e : Nat), s.rd (R.bu_BUNDLE_STATE b) = 3 → (s.bundle b).leftServiceAt = some e → e + 16384000 ≤ s.time.edge →
    exec (.bundleDownTimeout b) s = .next (s.downBundle b)) ∧
  (∀ (s : State) (o r k : Nat) (x : HeldFrame) (l : List HeldFrame),
    (s.lanes.holding.filter fun h => h.origin == o && h.route == r) = x :: l →
    (∃ h ∈ x :: l, s.rd R.lx_REORDER_HOLD * 16384 ≤ 10 * (s.time.edge - h.arrived)) →
    k = (l.map fun h => (h.rseq + 65536 - (s.expectedRseq o r).getD 0) % 65536).foldl min
      ((x.rseq + 65536 - (s.expectedRseq o r).getD 0) % 65536) →
    exec (.reorderHoldExpiry o r) s = .next (((s.count R.lx_RSEQ_GAPS k).setExpected o r
      ((s.expectedRseq o r).getD 0 + k)).releaseHeldFrames o r (l.length + 1))) ∧
  (∀ (s : State) (m : Nat) (k : EthKind), exec (.ethernetFrameRx m false k) s = .next (s.count (R.ma_FCS_ERR m) 1)) ∧
  (∀ (s : State) (m : Nat), exec (.ethernetFrameRx m true .other) s = .next (s.count (R.ma_RX_DISCARDS m) 1)) ∧
  (∀ (s : State) (m ip : Nat), ip ≠ 0 → s.rd (R.ma_IPV4 m) = ip →
    exec (.ethernetFrameRx m true (.arp ip)) s = .next (s.emitMac m (.answerIp m ip))) ∧
  (∀ (s : State) (m : Nat) (up : Bool), exec (.macLinkChange m up) s = .next ((s.wr (R.ma_LINK m) (if up then 1 else 0)).pumpGateway s.lanes.gateway.length)) ∧
  (∀ (s : State) (m : Nat) (up : Bool), s.lanes.gateway = [] → exec (.macLinkChange m up) s = .next (s.wr (R.ma_LINK m) (if up then 1 else 0))) ∧
  (∀ (s : State) (i : Nat), s.mode.base = .acquire → t64Past (s.rd R.ij_PERMIT_UNTIL) s.now = true → s.activeRules = [i] →
    exec .injectionPermitExpiry s = .next ((s.wr (R.ir_ENABLE i) 0).wr (R.ir_INJ_STATE i) 3)) ∧
  (∀ (s : State) (m : Nat), s.rd (R.pt_ENABLE m) = 1 → exec (.ethernetFrameRx m true .ptp) s = .next s) ∧
  (∀ (s : State) (m : Nat), s.rd (R.pt_ENABLE m) = 0 → exec (.ethernetFrameRx m true .ptp) s = .next (s.count (R.ma_RX_DISCARDS m) 1)) ∧
  (∀ (s : State) (m ip : Nat), ip ≠ 0 → s.rd (R.ma_IPV6 m) = ip →
    exec (.ethernetFrameRx m true (.neighbour ip)) s = .next (s.emitMac m (.answerIp m ip))) ∧
  (∀ (s : State) (m ip : Nat), s.rd (R.ma_IPV4 m) ≠ ip →
    exec (.ethernetFrameRx m true (.arp ip)) s = .next (s.count (R.ma_RX_DISCARDS m) 1)) ∧
  (∀ (s : State) (m n q : Nat), s.rd (R.ma_PAUSE_EN m) = 1 → s.portRate (4 + m) = n → n ≠ 0 →
    exec (.ethernetFrameRx m true (.pause q)) s = .next (s.putLanes { s.lanes with
      paused := tabPut 0 m (s.time.edge + ceilDiv (q * 512 * edgesPerSec) n) s.lanes.paused })) ∧
  (∀ (s : State), s.mode.base = .acquire → t64Past (s.rd R.ij_PERMIT_UNTIL) s.now = true →
    exec .injectionPermitExpiry s = .next (s.each s.activeRules fun s i => s.stopRule i 3))

/-- R297, R299, R301, R309, R397: READ answers the value of the entry that INDEX and SUB name, subindex 00 the highest
subindex there, an absent entry 0x2001 and a write-only one 0x1002; BLOCK-READ answers part of a domain with OFFSET
and TOTAL, and of WIN_DATA the tenant's DRAM; WALK answers up to MAX capability records and where the rest begins. A
read changes nothing but S_LAST_RX. -/
def Obligations.ReadRequests : Prop :=
  (∀ (s : State) (h : Hdr), OwnerAsks s h 0x01 → s.part.fronts ≤ 7 →
    ∃ t, exec (.adpRead h 0x3000 0x02 0) s = .next t ∧ AnsweredWith s t h 0x01 [] [] (natLE 1 (s.rd R.tm_TIME_STATE))
      ∧ Keeps s t [.regs, .sessions, .out]) ∧
  (∀ (s : State) (h : Hdr) (idx sub : Nat) (r : Reg) (row : Row) (l : List Byte), OwnerAsks s h 0x01 →
    entryAt s.part idx sub = some (r, row) → row.acc.readable = true → (row.acc = .ro → row.cls ≠ .A) → row.ty ≠ .dom →
    s.reachCode r = 0 → (s.touch h.session).readValue h.session r row = .ok l →
    ∃ t, exec (.adpRead h idx sub 0) s = .next t ∧ AnsweredWith s t h 0x01 [] [] l ∧ Keeps s t [.regs, .sessions, .out]) ∧
  (∀ (s : State) (h : Hdr) (idx n : Nat), OwnerAsks s h 0x01 → idx < 0x1F00 ∨ 0x1FFF < idx → entryAt s.part idx 0 = none →
    highestSub s.part idx = some n →
    ∃ t, exec (.adpRead h idx 0 0) s = .next t ∧ AnsweredWith s t h 0x01 [] [] (natLE 1 n)
      ∧ Keeps s t [.regs, .sessions, .out]) ∧
  (∀ (s : State) (h : Hdr) (idx sub : Nat), OwnerAsks s h 0x01 → idx < 0x1F00 ∨ 0x1FFF < idx → sub ≠ 0 →
    entryAt s.part idx sub = none →
    ∃ t, exec (.adpRead h idx sub 0) s = .next t ∧ Refused s t h 0x01 0x2001) ∧
  (∀ (s : State) (h : Hdr) (idx sub : Nat) (r : Reg) (row : Row), OwnerAsks s h 0x01 →
    entryAt s.part idx sub = some (r, row) → row.acc.readable = false →
    ∃ t, exec (.adpRead h idx sub 0) s = .next t ∧ Refused s t h 0x01 0x1002) ∧
  (∀ (s : State) (h : Hdr) (p off len : Nat), OwnerAsks s h 0x03 → p < 4096 → 1 ≤ len → len ≤ 16364 →
    s.part.fronts ≤ 7 →
    ∃ t, exec (.blockRead h (0x5000 + p) 0x08 0 off len) s = .next t
      ∧ AnsweredWith s t h 0x03 [] [] (natLE 4 off ++ natLE 4 (s.rdDom (R.pa_FIR_COEF p)).length
          ++ ((s.rdDom (R.pa_FIR_COEF p)).drop off).take len)
      ∧ Keeps s t [.regs, .sessions, .out]) ∧
  (∀ (s : State) (h : Hdr) (off len : Nat), OwnerAsks s h 0x03 → s.part.fronts ≤ 7 → 1 ≤ len → len ≤ 16364 →
    off + len ≤ 65536 → s.rd R.fz_FROZEN = 0 → s.inAllocation 0 (s.rd R.dw_WIN_ADDR + off) len = true →
    s.badRead (s.rd R.dw_WIN_ADDR + off) len = none → (∀ c, c < s.part.drams → s.rd (R.dc_CH_STATE c) ≠ 3) →
    ∃ t, exec (.blockRead h (Grp.base .dramWin) 0x02 0 off len) s = .next t
      ∧ AnsweredWith s t h 0x03 [] [] (natLE 4 off ++ natLE 4 65536 ++ s.dramGet (s.rd R.dw_WIN_ADDR + off) len)
      ∧ t.dram.mem = s.dram.mem ∧ t.dram.chans = s.dram.chans ∧ Keeps s t [.regs, .sessions, .dram, .out]) ∧
  (∀ (s : State) (h : Hdr) (sub m : Nat), OwnerAsks s h 0x05 → 1 ≤ m → m ≤ 64 → 1 ≤ sub → sub ≤ 255 →
    sub ≤ (s.touch h.session).capRecords.length → (s.touch h.session).capRecords.length ≤ 255 →
    ∃ t, exec (.walk h 0x1F00 sub m) s = .next t
      ∧ AnsweredWith s t h 0x05 [] [] (natLE 2 0x1F00
          ++ natLE 1 (min (sub - 1 + m) ((s.touch h.session).capRecords.length - 1) + 1)
          ++ natLE 1 (min m ((s.touch h.session).capRecords.length - (sub - 1)))
          ++ ((((s.touch h.session).capRecords.drop (sub - 1)).take m).flatMap (natLE 4)))
      ∧ Keeps s t [.regs, .sessions, .out]) ∧
  (∀ (s : State) (h : Hdr) (sub m : Nat), OwnerAsks s h 0x05 → 1 ≤ m → m ≤ 64 → (s.touch h.session).capRecords.length < sub →
    ∃ t, exec (.walk h 0x1F00 sub m) s = .next t ∧ Refused s t h 0x05 0x2001) ∧
  (∀ (s u : State) (h : Hdr) (idx sub c : Nat) (r : Reg) (row : Row) (l : List Byte), OwnerAsks s h 0x01 →
    u = (s.touch h.session).renewLease h.session c → u.readEntry ⟨h.session, some 0, h.tag, none⟩ idx sub c = .ok (r, row, l) → row.ty ≠ .dom →
    exec (.adpRead h idx sub c) s = .next (u.answered s h 0x01 [(0, false, l)])) ∧
  (∀ (s u : State) (h : Hdr) (idx sub c off len : Nat) (r : Reg) (row : Row) (l : List Byte), OwnerAsks s h 0x03 →
    1 ≤ len → len ≤ 65536 → u = (s.touch h.session).renewLease h.session c → u.readEntry ⟨h.session, some 0, h.tag, none⟩ idx sub c = .ok (r, row, l) →
    r.grp ≠ .dramWin →
    exec (.blockRead h idx sub c off len) s = .next (u.answered s h 0x03
      (readParts l.length (len / readRoom + 1) off ((l.drop off).take len)))) ∧
  (∀ (s : State) (h : Hdr) (off len : Nat), OwnerAsks s h 0x03 → s.part.fronts ≤ 7 → 1 ≤ len → off + len ≤ 65536 →
    s.rd R.fz_FROZEN = 0 → s.inAllocation 0 (s.rd R.dw_WIN_ADDR + off) len = true →
    s.badRead (s.rd R.dw_WIN_ADDR + off) len = none →
    exec (.blockRead h (Grp.base .dramWin) 0x02 0 off len) s = .next ((((s.touch h.session).wakeFor (s.rd R.dw_WIN_ADDR + off)
      len).chargeBursts 0 (burstsIn (s.rd R.dw_WIN_ADDR + off) len)).answered s h 0x03
      (readParts 65536 (len / readRoom + 1) off (s.dramGet (s.rd R.dw_WIN_ADDR + off) len)))) ∧
  (∀ (s : State) (h : Hdr) (idx sub m k e : Nat) (l : List Nat), OwnerAsks s h 0x05 → 1 ≤ m → m ≤ 64 → 0x1F00 ≤ idx →
    idx ≤ 0x1FFF → 1 ≤ sub → k = (idx - 0x1F00) * 255 + (sub - 1) → k < (s.touch h.session).capRecords.length →
    l = ((s.touch h.session).capRecords.drop k).take m → e = min (k + l.length) ((s.touch h.session).capRecords.length - 1) →
    exec (.walk h idx sub m) s = .next ((s.touch h.session).answered s h 0x05 [(0, false, natLE 2 (0x1F00 + e / 255) ++ natLE 1 (e % 255 + 1)
      ++ natLE 1 l.length ++ l.flatMap (natLE 4))]))

/-- R301, R311: WRITE by the Owner. Outside a clause a value takes effect at once, as one commit; in a clause that
locks the entry it is staged, in place of one staged before, and nothing else changes but the lease. A read-only entry
answers 0x1002, an absent one 0x2001, an entry with suffix C outside a clause and outside Commission 0x3001, one that
a clause locks 0x5001. A command that writes one entry of the dictionary is the WRITE (FRAME_IN the BLOCK-WRITE) of
that entry. -/
def Obligations.WriteRequests : Prop :=
  (∀ (s : State) (h : Hdr) (v : Nat), OwnerAsks s h 0x02 → s.part.fronts ≤ 7 → s.free_ R.mo_WAKE_AT → v < 2 ^ 64 →
    (s.touch h.session).testCommit 0 [(R.mo_WAKE_AT, .num v)] = 0 →
    ∃ t, exec (.adpWrite h (Grp.base .modes) 0x0A 0 (natLE 8 v)) s = .next t ∧ t.rd R.mo_WAKE_AT = v
      ∧ t.out.getLast? = some (done h 0x02 [])) ∧
  (∀ (s : State) (h : Hdr) (idx sub c : Nat) (value : List Byte) (v : Val) (r : Reg) (row : Row), OwnerAsks s h 0x02 → 1 ≤ c →
    c ≤ 64 → entryAt s.part idx sub = some (r, row) → (s.touch h.session).writeEntry (some 0) idx sub = .ok (r, row) →
    s.rd (R.cs_CL_STATE c) = 1 → s.rd (R.cs_CL_SESSION c) = h.session → s.rd (R.cs_CL_TENANT c) = 0 → (s.clause c).lease ≠ 0 →
    (s.clause c).locks.contains r = true → decodeVal row value = .ok v → (s.touch h.session).valueCheck r row v = 0 →
    ∃ t, exec (.adpWrite h idx sub c value) s = .next t
      ∧ Served s t h 0x02 [(R.cs_LEASE_END c, s.leaseEnd (s.clause c).lease)] []
      ∧ t.clause c = { s.clause c with staged := ((s.clause c).staged.filter fun e => e.1 != r) ++ [(r, v)] }
      ∧ (∀ k, k ≠ c → t.clause k = s.clause k) ∧ Keeps s t [.regs, .sessions, .clauses, .out]) ∧
  (∀ (s : State) (h : Hdr) (idx sub : Nat) (value : List Byte) (r : Reg) (row : Row), OwnerAsks s h 0x02 →
    entryAt s.part idx sub = some (r, row) → row.acc = .ro →
    ∃ t, exec (.adpWrite h idx sub 0 value) s = .next t ∧ Refused s t h 0x02 0x1002) ∧
  (∀ (s : State) (h : Hdr) (idx sub : Nat) (value : List Byte), OwnerAsks s h 0x02 →
    idx < 0x1F00 ∨ 0x1FFF < idx → sub ≠ 0 → entryAt s.part idx sub = none →
    ∃ t, exec (.adpWrite h idx sub 0 value) s = .next t ∧ Refused s t h 0x02 0x2001) ∧
  (∀ (s : State) (h : Hdr) (idx sub : Nat) (value : List Byte) (r : Reg) (row : Row), OwnerAsks s h 0x02 →
    (s.touch h.session).writeEntry (some 0) idx sub = .ok (r, row) → row.acc.clauseOnly = true → s.mode.base ≠ .commission →
    ∃ t, exec (.adpWrite h idx sub 0 value) s = .next t ∧ Refused s t h 0x02 0x3001) ∧
  (∀ (s : State) (h : Hdr) (idx sub : Nat) (value : List Byte) (r : Reg) (row : Row), OwnerAsks s h 0x02 →
    (s.touch h.session).writeEntry (some 0) idx sub = .ok (r, row) → row.acc.clauseOnly = false → s.lockHolder r ≠ none →
    ∃ t, exec (.adpWrite h idx sub 0 value) s = .next t ∧ Refused s t h 0x02 0x5001) ∧
  (∀ (s u t : State) (h : Hdr) (idx sub c : Nat) (value : List Byte) (v : Val) (r : Reg) (row : Row), OwnerAsks s h 0x02 →
    u = (s.touch h.session).renewLease h.session c → u.writeEntry (some 0) idx sub = .ok (r, row) → u.lockCode h.session c r row = 0 →
    decodeVal row value = .ok v → u.valueCheck r row v = 0 →
    u.putValue ⟨h.session, some 0, h.tag, none⟩ c r v = (0, t) →
    exec (.adpWrite h idx sub c value) s = .next (t.answered s h 0x02 (answer 0))) ∧
  (∀ (s u t : State) (h : Hdr) (idx sub : Nat) (value : List Byte) (v : Val) (r : Reg) (row : Row), OwnerAsks s h 0x02 →
    u = s.touch h.session → u.writeEntry (some 0) idx sub = .ok (r, row) → row.acc.clauseOnly = false ∨ s.inCommission = true →
    s.free_ r → decodeVal row value = .ok v → u.valueCheck r row v = 0 → isAction r = false → u.testCommit 0 [(r, v)] = 0 →
    t = u.applyWrites 0 [(r, v)] none none →
    exec (.adpWrite h idx sub 0 value) s = .next (t.answered s h 0x02 (answer 0))) ∧
  (∀ (s : State) (h : Hdr) (idx sub : Nat) (value : List Byte), OwnerAsks s h 0x02 → entryAt s.part idx sub = none →
    ((s.touch h.session).specialEntry idx sub).isSome = true →
    ∃ t, exec (.adpWrite h idx sub 0 value) s = .next t ∧ Refused s t h 0x02 0x1002) ∧
  (∀ (s : State) (h : Hdr) (c : Nat) (v : List Byte),
    exec (.setTime h c v) s = exec (.adpWrite h 0x3000 0x13 c v) s ∧
    exec (.acceptStep h c v) s = exec (.adpWrite h 0x3000 0x12 c v) s ∧
    exec (.diagRead h c v) s = exec (.adpWrite h 0xD000 0x0F c v) s ∧
    exec (.releaseResume h c) s = exec (.adpWrite h 0xD000 0x11 c [1#8]) s ∧
    exec (.releaseDiscard h c) s = exec (.adpWrite h 0xD000 0x11 c [2#8]) s ∧
    exec (.pprNow h c v) s = exec (.adpWrite h 0xB800 0x03 c v) s ∧
    exec (.laneRestore h c v) s = exec (.adpWrite h 0xB800 0x0D c v) s ∧
    exec (.auditSel h c v) s = exec (.adpWrite h 0xC004 0x02 c v) s) ∧
  (∀ (s : State) (h : Hdr) (c : Nat),
    exec (.modeReqAcquire h c) s = exec (.adpWrite h 0x2000 0x03 c [1#8]) s ∧
    exec (.modeReqCommission h c) s = exec (.adpWrite h 0x2000 0x03 c [2#8]) s ∧
    exec (.modeReqTest h c) s = exec (.adpWrite h 0x2000 0x03 c [3#8]) s ∧
    exec (.modeReqLeaveTest h c) s = exec (.adpWrite h 0x2000 0x03 c [4#8]) s ∧
    exec (.modeReqSafe h c) s = exec (.adpWrite h 0x2000 0x03 c [5#8]) s ∧
    exec (.modeReqLeaveSafe h c) s = exec (.adpWrite h 0x2000 0x03 c [6#8]) s ∧
    exec (.modeReqDormant h c) s = exec (.adpWrite h 0x2000 0x03 c [7#8]) s ∧
    exec (.fwActivateNow h c) s = exec (.adpWrite h 0x2020 0x06 c [1#8]) s ∧
    exec (.fwActivateNextStart h c) s = exec (.adpWrite h 0x2020 0x06 c [2#8]) s) ∧
  (∀ (s : State) (h : Hdr) (c : Nat) (v : List Byte), s.part.amp = true →
    exec (.seal h c v) s = exec (.adpWrite h 0xC000 0x03 c v) s ∧
    exec (.unseal h c v) s = exec (.adpWrite h 0xC000 0x04 c v) s ∧
    exec (.ampRestart h c v) s = exec (.adpWrite h 0xC000 0x0A c v) s ∧
    exec (.progActivate h c v) s = exec (.adpWrite h 0xC001 0x04 c v) s ∧
    exec (.lrecPop h c v) s = exec (.adpWrite h 0xC003 0x03 c v) s) ∧
  (∀ (s : State) (h : Hdr) (n c : Nat) (v : List Byte), n < s.part.channels →
    exec (.owNow h n c v) s = exec (.adpWrite h (0x4000 + n) 0x0C c v) s ∧
    exec (.tdrStart h n c v) s = exec (.adpWrite h (0x4000 + n) 0x15 c v) s ∧
    exec (.arm h n c v) s = exec (.adpWrite h (0x6000 + n) 0x14 c v) s ∧
    exec (.disarm h n c v) s = exec (.adpWrite h (0x6000 + n) 0x15 c v) s ∧
    exec (.force h n c v) s = exec (.adpWrite h (0x6000 + n) 0x16 c v) s) ∧
  (∀ (s : State) (h : Hdr) (n m c : Nat), n < s.part.quads →
    exec (.substReqMove h n m c) s = exec (.adpWrite h (0xB810 + n) 0x01 c (natLE 1 m)) s ∧
    exec (.substReqRestore h n c) s = exec (.adpWrite h (0xB810 + n) 0x01 c [15#8]) s) ∧
  (∀ (s : State) (h : Hdr) (n c : Nat) (v : List Byte), n < s.part.banks →
    exec (.calNow h n c v) s = exec (.adpWrite h (0x4500 + n) 0x09 c v) s) ∧
  (∀ (s : State) (h : Hdr) (n c : Nat) (v : List Byte), n < s.part.fronts →
    exec (.ebufPeakClr h (n + 1) c v) s = exec (.adpWrite h (0x4600 + n) 0x0C c v) s ∧
    exec (.refRecal h (n + 1) c v) s = exec (.adpWrite h (0x4600 + n) 0x19 c v) s) ∧
  (∀ (s : State) (h : Hdr) (n c : Nat) (v : List Byte), n < 4 →
    exec (.txtsPop h n c v) s = exec (.adpWrite h (0x3100 + n) 0x14 c v) s ∧
    exec (.txtsStickyClr h n c v) s = exec (.adpWrite h (0x3100 + n) 0x17 c v) s) ∧
  (∀ (s : State) (h : Hdr) (n c : Nat) (v : List Byte), n < 8192 →
    exec (.framePop h n c v) s = exec (.adpWrite h (0x8000 + n) 0x13 c v) s ∧
    exec (.frameIn h n c v) s = exec (.blockWrite h (0x8000 + n) 0x14 c 0 v false) s) ∧
  (∀ (s : State) (h : Hdr) (n c : Nat) (v : List Byte), s.part.frit = true → n < 32 →
    exec (.submit h n c v) s = exec (.adpWrite h (0x7080 + n) 0x07 c v) s ∧
    exec (.continue_ h n c v) s = exec (.adpWrite h (0x7080 + n) 0x08 c v) s) ∧
  (∀ (s : State) (h : Hdr) (n c : Nat) (v : List Byte), s.part.frit = true → n < 64 →
    exec (.flush h n c v) s = exec (.adpWrite h (0x7010 + n) 0x0B c v) s)

/-- R252, R299: the segments of a BLOCK-WRITE wait in its session until the last one; then the whole domain is staged
in its clause, or goes to the tenant's DRAM through the window. A segment out of order, or none for 1 s, discards the
transfer. -/
def Obligations.BlockTransfers : Prop :=
  (∀ (s : State) (h : Hdr) (p c : Nat) (d : List Byte), OwnerAsks s h 0x04 → s.part.fronts ≤ 7 → p < 4096 → 1 ≤ c → c ≤ 64 →
    s.rd (R.pa_TENANT p) = 0xFFFF → s.sealedEntry (R.pa_FIR_COEF p) = false → s.rd (R.cs_CL_STATE c) = 1 →
    s.rd (R.cs_CL_SESSION c) = h.session → (s.clause c).lease = 0 → (s.clause c).locks.contains (R.pa_FIR_COEF p) = true →
    (s.session h.session).xfers = [] →
    ∃ t, exec (.blockWrite h (0x5000 + p) 0x08 c 0 d true) s = .next t ∧ Served s t h 0x04 [] []
      ∧ (t.session h.session).xfers = [⟨[h.tag], R.pa_FIR_COEF p, c, d, false, s.time.edge⟩] ∧ Keeps s t [.regs, .sessions, .out]) ∧
  (∀ (s : State) (h : Hdr) (p c k at_ : Nat) (d e : List Byte), OwnerAsks s h 0x04 → s.part.fronts ≤ 7 → p < 4096 → 1 ≤ c → c ≤ 64 →
    s.rd (R.pa_TENANT p) = 0xFFFF → s.sealedEntry (R.pa_FIR_COEF p) = false → s.rd (R.cs_CL_STATE c) = 1 →
    s.rd (R.cs_CL_SESSION c) = h.session → s.rd (R.cs_CL_TENANT c) = 0 → (s.clause c).lease = 0 →
    (s.clause c).locks.contains (R.pa_FIR_COEF p) = true →
    (s.session h.session).xfers = [⟨[k], R.pa_FIR_COEF p, c, d, false, at_⟩] →
    ∃ t, exec (.blockWrite h (0x5000 + p) 0x08 c d.length e false) s = .next t ∧ Served s t h 0x04 [] []
      ∧ (t.session h.session).xfers = []
      ∧ t.clause c = { s.clause c with
          staged := ((s.clause c).staged.filter fun x => x.1 != R.pa_FIR_COEF p) ++ [(R.pa_FIR_COEF p, .dom (d ++ e))] }
      ∧ Keeps s t [.regs, .sessions, .clauses, .out]) ∧
  (∀ (s : State) (h : Hdr) (p c k off at_ : Nat) (d e : List Byte) (m : Bool), OwnerAsks s h 0x04 → s.part.fronts ≤ 7 → p < 4096 →
    1 ≤ c → c ≤ 64 → s.rd (R.pa_TENANT p) = 0xFFFF → s.sealedEntry (R.pa_FIR_COEF p) = false → s.rd (R.cs_CL_STATE c) = 1 →
    s.rd (R.cs_CL_SESSION c) = h.session → (s.clause c).lease = 0 → (s.clause c).locks.contains (R.pa_FIR_COEF p) = true →
    (s.session h.session).xfers = [⟨[k], R.pa_FIR_COEF p, c, d, false, at_⟩] → off ≠ d.length →
    ∃ t, exec (.blockWrite h (0x5000 + p) 0x08 c off e m) s = .next t ∧ Refused s t h 0x04 0x2004
      ∧ (t.session h.session).xfers = []) ∧
  (∀ (s : State) (h : Hdr) (d : List Byte), OwnerAsks s h 0x04 → s.part.fronts ≤ 7 → s.free_ R.dw_WIN_DATA →
    (s.session h.session).xfers = [] → s.rd R.fz_FROZEN = 0 → d.length ≤ 65536 →
    s.inAllocation 0 (s.rd R.dw_WIN_ADDR) d.length = true → s.badWrite (s.rd R.dw_WIN_ADDR) d.length = none →
    (∀ c, c < s.part.drams → s.rd (R.dc_CH_STATE c) ≠ 3) →
    ∃ t, exec (.blockWrite h (Grp.base .dramWin) 0x02 0 0 d false) s = .next t ∧ Served s t h 0x04 [] []
      ∧ t.dram.mem = memWrite s.dram.mem (s.rd R.dw_WIN_ADDR) d ∧ t.dram.regions = s.dram.regions
      ∧ (∀ a, a < s.rd R.dw_WIN_ADDR ∨ s.rd R.dw_WIN_ADDR + d.length ≤ a → memGet t.dram.mem a = memGet s.dram.mem a)
      ∧ Keeps s t [.regs, .sessions, .dram, .out]) ∧
  (∀ (s : State) (x tag : Nat), (∀ y ∈ (s.session x).xfers, y.reg.grp ≠ .fw ∧ y.reg.grp ≠ .ampProg) →
    ∃ t, exec (.blockTransferTimeout x tag) s = .next t
      ∧ t.session x = { s.session x with
          xfers := (s.session x).xfers.filter fun y => !(y.tags.head? == some tag && edgesPerSec ≤ s.time.edge - y.at_) }
      ∧ (∀ k, k ≠ x → t.session k = s.session k) ∧ Keeps s t [.sessions]) ∧
  (∀ (s u v : State) (h : Hdr) (idx sub c : Nat) (d got : List Byte) (r : Reg) (row : Row) (old : Option Xfer), OwnerAsks s h 0x04 →
    u = (s.touch h.session).renewLease h.session c → u.writeEntry (some 0) idx sub = .ok (r, row) → row.ty = .dom → u.lockCode h.session c r row = 0 →
    old = (u.session h.session).xfers.find? (fun x => x.reg == r && x.clause == c) → got = (old.map (·.got)).getD [] →
    v = u.setSession h.session { u.session h.session with xfers := State.otherXfers (u.session h.session) r c } →
    exec (.blockWrite h idx sub c got.length d true) s = .next (((v.setSession h.session { v.session h.session with
      xfers := (v.session h.session).xfers ++ [⟨h.tag :: (old.map (·.tags)).getD [], r, c, got ++ d, r.grp == .dramWin,
        s.time.edge⟩] }).receiving
      r 1).answered s h 0x04 (answer 0))) ∧
  (∀ (s u v t : State) (h : Hdr) (idx sub c : Nat) (d got : List Byte) (r : Reg) (row : Row) (old : Option Xfer), OwnerAsks s h 0x04 →
    u = (s.touch h.session).renewLease h.session c → u.writeEntry (some 0) idx sub = .ok (r, row) → row.ty = .dom → u.lockCode h.session c r row = 0 →
    old = (u.session h.session).xfers.find? (fun x => x.reg == r && x.clause == c) → got = (old.map (·.got)).getD [] →
    v = u.setSession h.session { u.session h.session with xfers := State.otherXfers (u.session h.session) r c } →
    v.putValue ⟨h.session, some 0, h.tag, none⟩ c r (.dom (got ++ d)) = (0, t) →
    exec (.blockWrite h idx sub c got.length d false) s = .next (t.answered s h 0x04 (answer 0))) ∧
  (∀ (s : State) (x tag : Nat), exec (.blockTransferTimeout x tag) s
    = .next (s.endXfers x fun y => y.tags.head? == some tag && edgesPerSec ≤ s.time.edge - y.at_)) ∧
  (∀ (s : State) (x tag : Nat) (y : Xfer), (s.session x).xfers = [y] → y.tags.head? = some tag →
    edgesPerSec ≤ s.time.edge - y.at_ → y.reg = R.fw_FW_IMAGE →
    ∃ t, exec (.blockTransferTimeout x tag) s = .next t ∧ Sets s t [(R.fw_FW_STATE, 0)]
      ∧ t.session x = { s.session x with xfers := [] } ∧ Keeps s t [.regs, .sessions])

/-- R310, R314: CLAUSE-OPEN takes every lock or none, for the lease asked for or 10 s, and answers the clause's number
and the end of its lease; an entry that a clause locks already answers 0x5121, a list without entries 0x2121. A chain
clause asks its members in turn and is answered later. -/
def Obligations.ClauseOpens : Prop :=
  (∀ (s : State) (h : Hdr) (lease ms c : Nat) (items : List LockItem), OwnerAsks s h 0x06 → items ≠ [] → items.length ≤ 64 →
    items.eraseDups.length = items.length → (∀ i ∈ items, i.hub = s.rd R.lx_CHAIN_ADDR) → State.leaseMs lease = some ms →
    (∀ i ∈ items, (s.touch h.session).itemCode (some 0) i = 0) → (s.touch h.session).freeClauseSlot = some c →
    (s.touch h.session).clausesOf 0 < s.rd (R.te_CLAUSE_QUOTA 0) → (∀ r ∈ s.localItems items, s.lockHolder r = none) →
    ∃ t, exec (.clauseOpen h lease false items) s = .next t
      ∧ AnsweredWith s t h 0x06 [(R.cs_CL_STATE c, 1), (R.cs_CL_TENANT c, 0), (R.cs_CL_SESSION c, h.session),
          (R.cs_LEASE_END c, s.leaseEnd ms), (R.cs_WHEN c, 0), (R.cs_LOCKS c, (s.localItems items).length),
          (R.cs_CL_RETRIES c, 0)] [] (natLE 1 c ++ natLE 3 0 ++ natLE 12 (s.leaseEnd ms))
      ∧ t.clause c = { Clause.init with locks := s.localItems items, lease := ms } ∧ t.lastClause = c
      ∧ (∀ k, k ≠ c → t.clause k = s.clause k) ∧ Keeps s t [.regs, .sessions, .clauses, .lastClause, .out]) ∧
  (∀ (s : State) (h : Hdr) (lease : Nat) (chain : Bool), OwnerAsks s h 0x06 →
    ∃ t, exec (.clauseOpen h lease chain []) s = .next t ∧ Refused s t h 0x06 0x2121) ∧
  (∀ (s : State) (h : Hdr) (lease ms c : Nat) (items : List LockItem) (r : Reg), OwnerAsks s h 0x06 → items ≠ [] →
    items.length ≤ 64 → items.eraseDups.length = items.length → (∀ i ∈ items, i.hub = s.rd R.lx_CHAIN_ADDR) →
    State.leaseMs lease = some ms → (∀ i ∈ items, (s.touch h.session).itemCode (some 0) i = 0) →
    (s.touch h.session).freeClauseSlot = some c → (s.touch h.session).clausesOf 0 < s.rd (R.te_CLAUSE_QUOTA 0) →
    r ∈ s.localItems items → s.lockHolder r ≠ none →
    ∃ t, exec (.clauseOpen h lease false items) s = .next t ∧ Refused s t h 0x06 0x5121) ∧
  (∀ (s : State) (h : Hdr) (lease c : Nat) (items : List LockItem), OwnerAsks s h 0x06 → items ≠ [] → items.length ≤ 64 →
    items.eraseDups.length = items.length → State.leaseMs lease = some 10000 → (∀ i ∈ items, i.hub = 5) →
    s.rd R.lx_CHAIN_ADDR ≠ 5 → (s.touch h.session).freeClauseSlot = some c →
    (s.touch h.session).clausesOf 0 < s.rd (R.te_CLAUSE_QUOTA 0) → (∀ x ∈ State.clauseIds, (s.clause x).waitItems = []) →
    ∃ t, exec (.clauseOpen h lease true items) s = .next t ∧ t.out = s.out ++ [.chain 5 c .lock] ∧ t.rd (R.cs_CL_STATE c) = 3
      ∧ t.rd (R.cs_CL_SESSION c) = h.session ∧ (t.clause c).remoteLocks = items
      ∧ Keeps s t [.regs, .sessions, .clauses, .lastClause, .out]) ∧
  (∀ (s u : State) (h : Hdr) (lease ms c : Nat) (items : List LockItem), OwnerAsks s h 0x06 → u = s.touch h.session → items ≠ [] →
    items.length ≤ 64 → items.eraseDups.length = items.length → State.leaseMs lease = some ms →
    (∀ i ∈ items, i.hub = s.rd R.lx_CHAIN_ADDR → u.itemCode (some 0) i = 0) → u.freeClauseSlot = some c →
    u.clausesOf 0 < s.rd (R.te_CLAUSE_QUOTA 0) →
    exec (.clauseOpen h lease true items) s = .next (((u.takeSlot c 0 h.session 3 { Clause.init with
      remoteLocks := items, lease := ms, chain := some ⟨s.rd R.lx_CHAIN_ADDR, c, ((List.range 256).filter fun b =>
        items.any fun i => i.hub == b).map fun b => (b, MemberSt.waiting), 0, false, h.tag, none, 0⟩ }).chainGo c).afterJump s.now))

/-- R312, R313, R314, R324: CLAUSE-COMMIT with WHEN 0 tests every staged write, and on success all of them take
effect, the locks are released and the configuration is written to MRAM; with a WHEN to come the clause waits for it,
and at that instant it takes effect. CLAUSE-ABANDON discards it, and at the end of its lease an open clause is rolled
back. A chain clause begins phase 1. (The frames are for a clause that stages LOCK_WINDOW with no other clause waiting
for an entry.) That CLAUSE-ABANDON counts no rollback is the model's choice (log entry 44). -/
def Obligations.ClauseCommits : Prop :=
  (∀ (s : State) (h : Hdr) (c v : Nat), OwnerAsks s h 0x07 → 1 ≤ c → c ≤ 64 → s.rd (R.cs_CL_STATE c) = 1 →
    s.rd (R.cs_CL_SESSION c) = h.session → s.rd (R.cs_CL_TENANT c) = 0 →
    s.clause c = { Clause.init with locks := [R.tm_LOCK_WINDOW], staged := [(R.tm_LOCK_WINDOW, .num v)] } →
    s.mode.base = .acquire → (∀ k ∈ State.clauseIds, (s.clause k).waitItems = []) → s.fenced R.tm_LOCK_WINDOW = false →
    (s.touch h.session).testCommit 0 [(R.tm_LOCK_WINDOW, .num v)] = 0 →
    ∃ t, exec (.clauseCommit h c) s = .next t ∧ t.rd R.tm_LOCK_WINDOW = v ∧ t.rd (R.cs_CL_STATE c) = 0
      ∧ t.rd (R.cs_LOCKS c) = 0 ∧ t.clause c = Clause.init ∧ t.rd R.mo_CONFIG_SEQ = s.configSeq + 1
      ∧ t.out.getLast? = some (done h 0x07 (natLE 12 s.now96 ++ natLE 1 0))) ∧
  (∀ (s : State) (h : Hdr) (c v : Nat) (r : Reg), OwnerAsks s h 0x07 → 1 ≤ c → c ≤ 64 → s.rd (R.cs_CL_STATE c) = 1 →
    s.rd (R.cs_CL_SESSION c) = h.session → s.clause c = { Clause.init with locks := [r], staged := [(r, .num v)] } →
    s.fenced r = true →
    ∃ t, exec (.clauseCommit h c) s = .next t ∧ Refused s t h 0x07 0x3005) ∧
  (∀ (s : State) (h : Hdr) (c : Nat), OwnerAsks s h 0x07 → 1 ≤ c → c ≤ 64 → s.rd (R.cs_CL_STATE c) = 0 →
    (s.clause c).chain = none →
    ∃ t, exec (.clauseCommit h c) s = .next t
      ∧ Refused s t h 0x07 (if (s.clause c).rolledBack = true then 0x5124 else 0x3121)) ∧
  (∀ (s : State) (h : Hdr) (c whn : Nat), OwnerAsks s h 0x07 → 1 ≤ c → c ≤ 64 → s.rd (R.cs_CL_STATE c) = 1 →
    s.rd (R.cs_CL_SESSION c) = h.session → (s.clause c).lease = 0 → (s.clause c).chain = none → whn ≠ 0 →
    t64Past whn s.time.ticks = false → (s.touch h.session).testClause c = 0 →
    ∃ t, exec (.clauseCommitAt h c whn) s = .next t
      ∧ AnsweredWith s t h 0x07 [(R.cs_CL_STATE c, 2), (R.cs_WHEN c, whn)] []
          (natLE 12 (t96OfTicks ((s.time.ticks : Int) + t64Diff whn s.time.ticks).toNat) ++ natLE 1 0)
      ∧ Keeps s t [.regs, .sessions, .out]) ∧
  (∀ (s : State) (c v : Nat), 1 ≤ c → c ≤ 64 → s.rd (R.cs_CL_STATE c) = 2 → t64Past (s.rd (R.cs_WHEN c)) s.time.ticks = true →
    s.clause c = { Clause.init with locks := [R.tm_LOCK_WINDOW], staged := [(R.tm_LOCK_WINDOW, .num v)] } →
    (∀ k ∈ State.clauseIds, (s.clause k).waitItems = []) → s.mode.base = .acquire → s.held = [] →
    ∃ t, exec (.scheduledClauseInstant c) s = .next t ∧ t.rd R.tm_LOCK_WINDOW = v ∧ t.rd (R.cs_CL_STATE c) = 0
      ∧ t.clause c = Clause.init ∧ t.rd R.mo_CONFIG_SEQ = s.configSeq + 1) ∧
  (∀ (s : State) (c : Nat), s.rd (R.cs_CL_STATE c) ≠ 2 → exec (.scheduledClauseInstant c) s = .next s) ∧
  (∀ (s : State) (h : Hdr) (c : Nat), OwnerAsks s h 0x08 → 1 ≤ c → c ≤ 64 → s.rd (R.cs_CL_STATE c) = 1 ∨ s.rd (R.cs_CL_STATE c) = 2 →
    s.rd (R.cs_CL_SESSION c) = h.session → (s.clause c).chain = none → (∀ k ∈ State.clauseIds, (s.clause k).waitItems = []) →
    ∃ t, exec (.clauseAbandon h c) s = .next t
      ∧ Served s t h 0x08 [(R.cs_CL_STATE c, 0), (R.cs_CL_TENANT c, 0xFFFF), (R.cs_CL_SESSION c, 0xFFFF), (R.cs_LOCKS c, 0),
          (R.cs_WHEN c, 0), (R.cs_CL_RETRIES c, 0)] []
      ∧ t.clause c = Clause.init ∧ (∀ k, k ≠ c → t.clause k = s.clause k) ∧ Keeps s t [.regs, .sessions, .clauses, .out]) ∧
  (∀ (s : State) (c : Nat), 1 ≤ c → c ≤ 64 → s.rd (R.cs_CL_STATE c) = 1 → (s.clause c).chain = none → (s.clause c).lease ≠ 0 →
    ticksOfT96 (s.rd (R.cs_LEASE_END c)) ≤ s.time.ticks → (∀ k ∈ State.clauseIds, (s.clause k).waitItems = []) → s.held = [] →
    ∃ t, exec (.clauseLeaseExpiry c) s = .next t
      ∧ Sets s t [(R.cs_CL_STATE c, 0), (R.cs_CL_TENANT c, 0xFFFF), (R.cs_CL_SESSION c, 0xFFFF), (R.cs_LOCKS c, 0),
          (R.cs_WHEN c, 0), (R.cs_CL_RETRIES c, 0), (R.cs_ROLLBACKS c, s.counted (R.cs_ROLLBACKS c) 1)]
      ∧ t.clause c = { Clause.init with rolledBack := true } ∧ (∀ k, k ≠ c → t.clause k = s.clause k)
      ∧ Keeps s t [.regs, .clauses]) ∧
  (∀ (s : State) (c : Nat), s.time.ticks < ticksOfT96 (s.rd (R.cs_LEASE_END c)) → exec (.clauseLeaseExpiry c) s = .next s) ∧
  (∀ (s u : State) (h : Hdr) (c : Nat) (ws : Writes), OwnerAsks s h 0x07 → 1 ≤ c → c ≤ 64 → s.rd (R.cs_CL_STATE c) = 1 →
    s.rd (R.cs_CL_SESSION c) = h.session → u = (s.touch h.session).renewLease h.session c →
    (s.clause c).chain = none → ws = u.stagedInOrder c → ws ≠ [] → (∀ e ∈ ws, isAction e.1 = false) → u.placeCode ws = 0 →
    u.testCommit (s.rd (R.cs_CL_TENANT c)) ws = 0 →
    exec (.clauseCommit h c) s = .next (((u.applyWrites (s.rd (R.cs_CL_TENANT c)) ws none none).commitIfOutside.endClause
      c false).answered s h 0x07 [(0, false, commitBody s.now96 0)])) ∧
  (∀ (s u t : State) (h : Hdr) (c : Nat), OwnerAsks s h 0x07 → 1 ≤ c → c ≤ 64 → s.rd (R.cs_CL_STATE c) = 1 →
    s.rd (R.cs_CL_SESSION c) = h.session → u = (s.touch h.session).renewLease h.session c →
    (s.clause c).chain = none → u.commitWrites h.session (s.rd (R.cs_CL_TENANT c)) (u.stagedInOrder c) none = (0, t) →
    exec (.clauseCommit h c) s = .next ((t.commitIfOutside.endClause c false).answered s h 0x07
      [(0, false, commitBody s.now96 0)])) ∧
  (∀ (s u t : State) (h : Hdr) (c whn : Nat), OwnerAsks s h 0x07 → 1 ≤ c → c ≤ 64 → s.rd (R.cs_CL_STATE c) = 1 →
    s.rd (R.cs_CL_SESSION c) = h.session → u = (s.touch h.session).renewLease h.session c →
    (s.clause c).chain = none → whn ≠ 0 → t64Past whn s.time.ticks = true →
    u.commitWrites h.session (s.rd (R.cs_CL_TENANT c)) (u.stagedInOrder c)
      (some ((s.now : Int) + t64Diff whn s.now).toNat) = (0, t) →
    exec (.clauseCommitAt h c whn) s = .next ((t.commitIfOutside.endClause c false).answered s h 0x07
      [(0, false, commitBody s.now96 0)])) ∧
  (∀ (s u : State) (h : Hdr) (c whn : Nat), OwnerAsks s h 0x07 → 1 ≤ c → c ≤ 64 → s.rd (R.cs_CL_STATE c) = 1 →
    s.rd (R.cs_CL_SESSION c) = h.session → u = (s.touch h.session).renewLease h.session c →
    (s.clause c).chain = none → whn ≠ 0 → t64Past whn s.time.ticks = false → u.testClause c = 0 →
    exec (.clauseCommitAt h c whn) s = .next (((u.wr (R.cs_CL_STATE c) 2).wr (R.cs_WHEN c) whn).answered s h 0x07
      [(0, false, commitBody (t96OfTicks ((s.now : Int) + t64Diff whn s.now).toNat) 0)])) ∧
  (∀ (s u v : State) (h : Hdr) (c whn : Nat) (k : Chain), OwnerAsks s h 0x07 → 1 ≤ c → c ≤ 64 → s.rd (R.cs_CL_STATE c) = 1 →
    s.rd (R.cs_CL_SESSION c) = h.session → u = (s.touch h.session).renewLease h.session c →
    (s.clause c).chain = some k → whn ≠ 0 → 250000000 * ticksPerNs ≤ t64Diff whn s.now →
    v = u.setClause c { u.clause c with chain := some { k with
      whn := whn, pendTag := h.tag, pendRemote := none, since := s.time.edge } } →
    (s.clause c).locks = [] ∨ v.testClause c = 0 → (k.members.filter fun m => m.1 != s.ownAddr) ≠ [] →
    exec (.clauseCommitAt h c whn) s = .next (((((v.wr (R.cs_CL_STATE c) 4).wr (R.cs_WHEN c) whn).setMember c s.ownAddr
      .admitted).each (k.members.filter fun m => m.1 != s.ownAddr) fun s m => s.emit (.chain m.1 c .testAll)).afterJump s.now)) ∧
  (∀ (s u v : State) (h : Hdr) (c whn : Nat) (k : Chain), OwnerAsks s h 0x07 → 1 ≤ c → c ≤ 64 → s.rd (R.cs_CL_STATE c) = 1 →
    s.rd (R.cs_CL_SESSION c) = h.session → u = (s.touch h.session).renewLease h.session c →
    (s.clause c).chain = some k → whn ≠ 0 → 250000000 * ticksPerNs ≤ t64Diff whn s.now →
    v = u.setClause c { u.clause c with chain := some { k with
      whn := whn, pendTag := h.tag, pendRemote := none, since := s.time.edge } } →
    (s.clause c).locks ≠ [] → v.testClause c ≠ 0 →
    exec (.clauseCommitAt h c whn) s = .next ((((v.countRefusal (v.testClause c)).abandonMembers c).endClause c false).answered s h
      0x07 [(v.testClause c, false, commitBody 0 s.ownAddr)])) ∧
  (∀ (s : State) (c : Nat), s.rd (R.cs_CL_STATE c) = 2 → t64Past (s.rd (R.cs_WHEN c)) s.time.ticks = true →
    exec (.scheduledClauseInstant c) s = .next (((s.runScheduled c).afterJump s.now).thenHeld s)) ∧
  (∀ (s : State) (h : Hdr) (c : Nat), OwnerAsks s h 0x08 → 1 ≤ c → c ≤ 64 → 1 ≤ s.rd (R.cs_CL_STATE c) → s.rd (R.cs_CL_STATE c) ≤ 4 →
    s.rd (R.cs_CL_SESSION c) = h.session →
    exec (.clauseAbandon h c) s = .next (((s.touch h.session).withdraw c 0x3124).answered s h 0x08 (answer 0))) ∧
  (∀ (s : State) (c : Nat), s.rd (R.cs_CL_STATE c) = 1 ∨ ((s.rd (R.cs_CL_STATE c) = 3 ∨ s.rd (R.cs_CL_STATE c) = 4) ∧ s.coordinates c = true) →
    (s.clause c).lease ≠ 0 → ticksOfT96 (s.rd (R.cs_LEASE_END c)) ≤ s.time.ticks →
    exec (.clauseLeaseExpiry c) s = .next ((s.rollBack c 0x5124).thenHeld s))

/-- R316, R317: on a member, the coordinator's request takes this hub's locks as one local clause and answers; the
part is tested and admitted, then scheduled at the order to go ahead, abandoned at the order to abandon and, still
admitted 1 ms before WHEN, by itself, which counts. What does not find its part is answered 0x3121. A request that
meets a held lock waits or gives way. (The frames are for a hub where no clause waits for an entry.) -/
def Obligations.ChainMembers : Prop :=
  (∀ (s : State) (a b c : Nat) (items : List LockItem), s.memberSlot a b = none → s.freeClauseSlot = some c →
    (∀ i ∈ items, i.hub = s.rd R.lx_CHAIN_ADDR → (entryAt s.part i.idx i.sub).isSome = true) →
    (∀ r ∈ s.localItems items, s.lockHolder r = none) →
    ∃ t, exec (.chainMemberLockRequest a b items) s = .next t
      ∧ Sets s t [(R.cs_CL_STATE c, 1), (R.cs_CL_TENANT c, 0xFFFF), (R.cs_CL_SESSION c, 0xFFFF), (R.cs_LEASE_END c, 0),
          (R.cs_WHEN c, 0), (R.cs_LOCKS c, (s.localItems items).length), (R.cs_CL_RETRIES c, 0)]
      ∧ t.clause c = { Clause.init with locks := s.localItems items, chain := some ⟨a, b, [], 0, false, 0, none, 0⟩ }
      ∧ t.out = s.out ++ [.chainReply a b .lock 0] ∧ Keeps s t [.regs, .clauses, .lastClause, .out]) ∧
  (∀ (s : State) (a b : Nat) (items : List LockItem) (i : LockItem), s.memberSlot a b = none → i ∈ items →
    i.hub = s.rd R.lx_CHAIN_ADDR → entryAt s.part i.idx i.sub = none →
    exec (.chainMemberLockRequest a b items) s = .next (s.emit (.chainReply a b .lock 0x2001))) ∧
  (∀ (s : State) (a b c whn : Nat), s.memberSlot a b = some c → s.rd (R.cs_CL_STATE c) = 1 → s.testClause c = 0 →
    ∃ t, exec (.chainMemberAdmitRequest a b whn) s = .next t ∧ Sets s t [(R.cs_CL_STATE c, 4), (R.cs_WHEN c, whn)]
      ∧ t.out = s.out ++ [.chainReply a b .testAll 0] ∧ Keeps s t [.regs, .out]) ∧
  (∀ (s : State) (a b whn : Nat), s.memberSlot a b = none →
    exec (.chainMemberAdmitRequest a b whn) s = .next (s.emit (.chainReply a b .testAll 0x3121))) ∧
  (∀ (s : State) (a b c : Nat), s.memberSlot a b = some c → s.rd (R.cs_CL_STATE c) = 4 →
    ∃ t, exec (.chainGoAhead a b) s = .next t ∧ Sets s t [(R.cs_CL_STATE c, 2)]
      ∧ t.out = s.out ++ [.chainReply a b .goAhead 0] ∧ Keeps s t [.regs, .out]) ∧
  (∀ (s : State) (a b : Nat), s.memberSlot a b = none →
    exec (.chainGoAhead a b) s = .next (s.emit (.chainReply a b .goAhead 0x3121))) ∧
  (∀ (s : State) (a b c : Nat), s.memberSlot a b = some c → s.rd (R.cs_CL_STATE c) = 4 →
    t64Diff (s.rd (R.cs_WHEN c)) s.time.ticks ≤ 1000000 * ticksPerNs → (∀ k ∈ State.clauseIds, (s.clause k).waitItems = []) →
    s.held = [] →
    ∃ t, exec (.chainMemberDeadline a b) s = .next t
      ∧ Sets s t [(R.cs_CL_STATE c, 0), (R.cs_CL_TENANT c, 0xFFFF), (R.cs_CL_SESSION c, 0xFFFF), (R.cs_LOCKS c, 0),
          (R.cs_WHEN c, 0), (R.cs_CL_RETRIES c, 0), (R.cs_CHAIN_ORPHANS c, s.counted (R.cs_CHAIN_ORPHANS c) 1)]
      ∧ t.clause c = Clause.init ∧ Keeps s t [.regs, .clauses]) ∧
  (∀ (s : State) (a b c : Nat), s.memberSlot a b = some c → (∀ k ∈ State.clauseIds, (s.clause k).waitItems = []) →
    s.held = [] →
    ∃ t, exec (.chainMemberAbandon a b) s = .next t
      ∧ Sets s t [(R.cs_CL_STATE c, 0), (R.cs_CL_TENANT c, 0xFFFF), (R.cs_CL_SESSION c, 0xFFFF), (R.cs_LOCKS c, 0),
          (R.cs_WHEN c, 0), (R.cs_CL_RETRIES c, 0)]
      ∧ t.clause c = Clause.init ∧ t.out = s.out ++ [.chainReply a b .abandon 0] ∧ Keeps s t [.regs, .clauses, .out]) ∧
  (∀ (s u : State) (a b c : Nat) (items : List LockItem) (hs : List Nat), s.memberSlot a b = none → s.freeClauseSlot = some c →
    (∀ i ∈ items, i.hub = s.rd R.lx_CHAIN_ADDR → (entryAt s.part i.idx i.sub).isSome = true) →
    u = s.takeSlot c 0xFFFF 0xFFFF 3 { Clause.init with chain := some ⟨a, b, [], 0, false, 0, none, 0⟩ } →
    hs = u.holders c (s.localItems items) → hs ≠ [] → (∀ k ∈ hs, (u.clause k).chain = none ∨ a * 256 + b ≤ u.chainRank k) →
    exec (.chainMemberLockRequest a b items) s = .next ((u.setClause c { u.clause c with
      waitItems := s.localItems items, waitSince := s.time.edge }).each hs
      State.giveWay |>.grantWaiting 64)) ∧
  (∀ (s u : State) (a b c k : Nat) (items : List LockItem), s.memberSlot a b = none → s.freeClauseSlot = some c →
    (∀ i ∈ items, i.hub = s.rd R.lx_CHAIN_ADDR → (entryAt s.part i.idx i.sub).isSome = true) →
    u = s.takeSlot c 0xFFFF 0xFFFF 3 { Clause.init with chain := some ⟨a, b, [], 0, false, 0, none, 0⟩ } →
    k ∈ u.holders c (s.localItems items) → (u.clause k).chain ≠ none → u.chainRank k < a * 256 + b →
    exec (.chainMemberLockRequest a b items) s = .next ((u.dropSlot c false).emit (.chainReply a b .lock 0x5001))) ∧
  (∀ (s : State) (a b : Nat) (items : List LockItem), s.memberSlot a b = none → s.freeClauseSlot = none →
    (∀ i ∈ items, i.hub = s.rd R.lx_CHAIN_ADDR → (entryAt s.part i.idx i.sub).isSome = true) →
    exec (.chainMemberLockRequest a b items) s = .next (s.emit (.chainReply a b .lock 0x4121))) ∧
  (∀ (s : State) (a b c whn : Nat), s.memberSlot a b = some c → s.rd (R.cs_CL_STATE c) = 1 → s.testClause c ≠ 0 →
    exec (.chainMemberAdmitRequest a b whn) s
      = .next ((s.countRefusal (s.testClause c)).emit (.chainReply a b .testAll (s.testClause c)))) ∧
  (∀ (s : State) (a b c whn : Nat), s.memberSlot a b = some c → s.rd (R.cs_CL_STATE c) ≠ 1 →
    exec (.chainMemberAdmitRequest a b whn) s = .next (s.emit (.chainReply a b .testAll 0x3121))) ∧
  (∀ (s : State) (a b c : Nat), s.memberSlot a b = some c → s.rd (R.cs_CL_STATE c) ≠ 4 →
    exec (.chainGoAhead a b) s = .next (s.emit (.chainReply a b .goAhead 0x3121))) ∧
  (∀ (s : State) (a b c : Nat), s.memberSlot a b = some c → s.rd (R.cs_CL_STATE c) = 4 →
    t64Diff (s.rd (R.cs_WHEN c)) s.time.ticks ≤ 1000000 * ticksPerNs →
    exec (.chainMemberDeadline a b) s = .next (((s.count (R.cs_CHAIN_ORPHANS c) 1).endClause c false).thenHeld s)) ∧
  (∀ (s : State) (a b c : Nat), s.memberSlot a b = some c →
    exec (.chainMemberAbandon a b) s = .next (((s.endClause c false).thenHeld s).emit (.chainReply a b .abandon 0)))

/-- R316, R317: the coordinator. With the last lock granted the clause is open and CLAUSE-OPEN is answered; a member
that must give way makes the clause release its locks, back off and try again; an answer of refusal, or none in 100
ms, or an order to go ahead that could not leave by WHEN − 2 ms abandons the clause everywhere and answers the commit;
with every member's confirmation the commit is answered with its instant. (The frames are for one other member, on a
hub where no other clause waits for an entry.) -/
def Obligations.ChainCoordinator : Prop :=
  (∀ (s : State) (c m : Nat) (k : Chain), 1 ≤ c → c ≤ 64 → (s.clause c).chain = some k → s.rd (R.cs_CL_SESSION c) < 64 →
    s.rd (R.cs_CL_STATE c) = 3 → k.backoff = false → k.members = [(m, .waiting)] → s.held = [] →
    (∀ x ∈ State.clauseIds, (s.clause x).waitItems = []) →
    ∃ t, exec (.chainMemberAnswer c m .lock 0) s = .next t ∧ Sets s t [(R.cs_CL_STATE c, 1)]
      ∧ t.out = s.out ++ [.adp k.pendRemote (s.rd (R.cs_CL_SESSION c)) 0x06 k.pendTag 0 false (s.openBody c)]
      ∧ t.clause c = { s.clause c with chain := some { k with members := [(m, .locked)] } }
      ∧ Keeps s t [.regs, .clauses, .sessions, .out]) ∧
  (∀ (s : State) (c m : Nat) (k : Chain), (s.clause c).chain = some k → s.rd (R.cs_CL_SESSION c) ≠ 0xFFFF →
    s.rd (R.cs_CL_STATE c) = 3 → k.backoff = false → k.members = [(m, .waiting)] → m ≠ s.rd R.lx_CHAIN_ADDR →
    s.rd (R.cs_CL_RETRIES c) < 8 → s.held = [] → (∀ x ∈ State.clauseIds, x ≠ c → (s.clause x).waitItems = []) →
    ∃ t, exec (.chainMemberAnswer c m .lock 0x5001) s = .next t
      ∧ Sets s t [(R.cs_LOCKS c, 0), (R.cs_CL_RETRIES c, s.rd (R.cs_CL_RETRIES c) + 1)]
      ∧ t.clause c = { s.clause c with locks := [], waitItems := [], chain := some { k with
          backoff := true, since := s.time.edge } }
      ∧ t.out = s.out ++ [.chain m c .abandon] ∧ Keeps s t [.regs, .clauses, .out]) ∧
  (∀ (s : State) (c m : Nat) (k : Chain), (s.clause c).chain = some k → k.backoff = true → k.members = [(m, .waiting)] →
    edgesPerSec ≤ 1000 * (s.time.edge - k.since) → m ≠ s.rd R.lx_CHAIN_ADDR → s.held = [] →
    (∀ x ∈ State.clauseIds, (s.clause x).waitItems = []) →
    ∃ t, exec (.chainLockBackoffExpiry c) s = .next t
      ∧ t.clause c = { s.clause c with chain := some { k with backoff := false } }
      ∧ t.out = s.out ++ [.chain m c .lock] ∧ Keeps s t [.clauses, .out]) ∧
  (∀ (s : State) (c m x : Nat) (k : Chain), (s.clause c).chain = some k → s.rd (R.cs_CL_SESSION c) < 64 →
    (s.clause c).waitItems ≠ [] → x ∈ s.holders c (s.clause c).waitItems → (s.clause x).chain = none →
    k.members = [(m, .locked), (s.rd R.lx_CHAIN_ADDR, .waiting)] → m ≠ s.rd R.lx_CHAIN_ADDR →
    edgesPerSec ≤ 10 * (s.time.edge - (s.clause c).waitSince) → s.held = [] →
    (∀ y ∈ State.clauseIds, y ≠ c → (s.clause y).waitItems = []) →
    ∃ t, exec (.chainLockWaitTimeout c) s = .next t ∧ t.clause c = Clause.init ∧ t.rd (R.cs_CL_STATE c) = 0
      ∧ t.out = s.out ++ [.chain m c .abandon, .adp k.pendRemote (s.rd (R.cs_CL_SESSION c)) 0x06 k.pendTag 0x5121 false []]
      ∧ Keeps s t [.regs, .clauses, .sessions, .out]) ∧
  (∀ (s : State) (c m : Nat) (k : Chain), (s.clause c).chain = some k → s.rd (R.cs_CL_SESSION c) < 64 →
    s.rd (R.cs_CL_STATE c) = 4 → k.members = [(m, .locked)] → m ≠ s.rd R.lx_CHAIN_ADDR →
    (∀ j ∈ State.clauseIds, (s.clause j).waitItems = []) → edgesPerSec ≤ 10 * (s.time.edge - k.since) → s.held = [] →
    ∃ t, exec (.chainPhase1Timeout c m) s = .next t ∧ t.clause c = Clause.init ∧ t.rd (R.cs_CL_STATE c) = 0
      ∧ t.out = s.out ++ [.chain m c .abandon,
          .adp k.pendRemote (s.rd (R.cs_CL_SESSION c)) 0x07 k.pendTag 0x7121 false (natLE 12 0 ++ natLE 1 m)]
      ∧ Keeps s t [.regs, .clauses, .sessions, .out]) ∧
  (∀ (s : State) (c m : Nat) (k : Chain), (s.clause c).chain = some k → s.rd (R.cs_CL_SESSION c) < 64 →
    s.rd (R.cs_CL_STATE c) = 4 → k.members = [(m, .locked)] → m ≠ s.rd R.lx_CHAIN_ADDR →
    t64Diff k.whn s.time.ticks ≤ 2000000 * ticksPerNs → (∀ j ∈ State.clauseIds, (s.clause j).waitItems = []) → s.held = [] →
    ∃ t, exec (.chainGoAheadDeadline c) s = .next t ∧ t.clause c = Clause.init ∧ t.rd (R.cs_CL_STATE c) = 0
      ∧ t.out = s.out ++ [.chain m c .abandon,
          .adp k.pendRemote (s.rd (R.cs_CL_SESSION c)) 0x07 k.pendTag 0x7121 false (natLE 12 0 ++ natLE 1 m)]
      ∧ Keeps s t [.regs, .clauses, .sessions, .out]) ∧
  (∀ (s : State) (c m : Nat) (k : Chain), (s.clause c).chain = some k → s.rd (R.cs_CL_SESSION c) ≠ 0xFFFF →
    s.rd (R.cs_CL_STATE c) = 4 → k.backoff = false → k.members = [(m, .locked)] → m ≠ s.rd R.lx_CHAIN_ADDR →
    2000000 * ticksPerNs ≤ t64Diff k.whn s.time.ticks → s.held = [] →
    ∃ t, exec (.chainMemberAnswer c m .testAll 0) s = .next t ∧ Sets s t [(R.cs_CL_STATE c, 2)]
      ∧ t.out = s.out ++ [.chain m c .goAhead]
      ∧ t.clause c = { s.clause c with chain := some { k with members := [(m, .admitted)], since := s.time.edge } }
      ∧ Keeps s t [.regs, .clauses, .out]) ∧
  (∀ (s : State) (c m : Nat) (k : Chain), (s.clause c).chain = some k → s.rd (R.cs_CL_SESSION c) < 64 →
    s.rd (R.cs_CL_STATE c) = 2 → k.backoff = false → k.members = [(m, .admitted)] → s.held = [] →
    ∃ t, exec (.chainMemberAnswer c m .goAhead 0) s = .next t
      ∧ t.out = s.out ++ [.adp k.pendRemote (s.rd (R.cs_CL_SESSION c)) 0x07 k.pendTag 0 false
          (natLE 12 (t96OfTicks ((s.time.ticks : Int) + t64Diff k.whn s.time.ticks).toNat) ++ natLE 1 0)]
      ∧ t.regs = s.regs ∧ t.clause c = { s.clause c with chain := some { k with members := [(m, .confirmed)] } }
      ∧ Keeps s t [.clauses, .sessions, .out]) ∧
  (∀ (s : State) (c m : Nat) (k : Chain), (s.clause c).chain = some k → s.rd (R.cs_CL_SESSION c) ≠ 0xFFFF →
    s.rd (R.cs_CL_STATE c) = 3 → k.backoff = false → k.members.find? (fun e => e.1 == m) = some (m, .waiting) →
    exec (.chainMemberAnswer c m .lock 0) s = .next (((s.setMember c m .locked).chainGo c).thenHeld s)) ∧
  (∀ (s : State) (c m : Nat) (k : Chain) (st : MemberSt), (s.clause c).chain = some k → s.rd (R.cs_CL_SESSION c) ≠ 0xFFFF →
    s.rd (R.cs_CL_STATE c) = 3 → k.backoff = false → k.members.find? (fun e => e.1 == m) = some (m, st) → st = .waiting ∨ st = .locked →
    exec (.chainMemberAnswer c m .lock 0x5001) s = .next ((s.chainBackoff c).thenHeld s)) ∧
  (∀ (s : State) (c m code : Nat) (k : Chain) (st : MemberSt), (s.clause c).chain = some k → s.rd (R.cs_CL_SESSION c) ≠ 0xFFFF →
    s.rd (R.cs_CL_STATE c) = 3 → k.backoff = false → k.members.find? (fun e => e.1 == m) = some (m, st) → st = .waiting ∨ st = .locked → code ≠ 0 → code ≠ 0x5001 →
    exec (.chainMemberAnswer c m .lock code) s = .next ((s.chainOpenFails c code).thenHeld s)) ∧
  (∀ (s : State) (c m : Nat) (k : Chain), (s.clause c).chain = some k → s.rd (R.cs_CL_SESSION c) ≠ 0xFFFF →
    s.rd (R.cs_CL_STATE c) = 4 → k.backoff = false → k.members.find? (fun e => e.1 == m) = some (m, .locked) →
    exec (.chainMemberAnswer c m .testAll 0) s = .next (((s.setMember c m .admitted).chainPhase2 c).thenHeld s)) ∧
  (∀ (s : State) (c m code : Nat) (k : Chain), (s.clause c).chain = some k → s.rd (R.cs_CL_SESSION c) ≠ 0xFFFF →
    s.rd (R.cs_CL_STATE c) = 4 → k.backoff = false → k.members.find? (fun e => e.1 == m) = some (m, .locked) → code ≠ 0 →
    exec (.chainMemberAnswer c m .testAll code) s = .next ((s.chainRefused c code m).thenHeld s)) ∧
  (∀ (s : State) (c m code : Nat) (k : Chain), (s.clause c).chain = some k → s.rd (R.cs_CL_SESSION c) ≠ 0xFFFF →
    s.rd (R.cs_CL_STATE c) = 2 → k.backoff = false → k.members.find? (fun e => e.1 == m) = some (m, .admitted) → code ≠ 0 →
    exec (.chainMemberAnswer c m .goAhead code) s = .next ((s.goAheadFails c m).thenHeld s)) ∧
  (∀ (s : State) (c m : Nat) (k : Chain), (s.clause c).chain = some k → s.rd (R.cs_CL_SESSION c) ≠ 0xFFFF →
    s.rd (R.cs_CL_STATE c) = 2 → k.backoff = false → k.members.find? (fun e => e.1 == m) = some (m, .admitted) → (∃ e ∈ k.members, e.1 ≠ m ∧ e.2 ≠ .confirmed) →
    exec (.chainMemberAnswer c m .goAhead 0) s = .next ((s.setMember c m .confirmed).thenHeld s)) ∧
  (∀ (s : State) (c m status : Nat), exec (.chainMemberAnswer c m .abandon status) s = .next (s.thenHeld s)) ∧
  (∀ (s : State) (c : Nat) (k : Chain), (s.clause c).chain = some k → k.backoff = true →
    edgesPerSec ≤ 1000 * (s.time.edge - k.since) →
    exec (.chainLockBackoffExpiry c) s
      = .next ((s.setClause c { s.clause c with chain := some { k with backoff := false } }).chainGo c
        |>.thenHeld s)) ∧
  (∀ (s : State) (c x : Nat), (s.clause c).waitItems ≠ [] → x ∈ s.holders c (s.clause c).waitItems → (s.clause x).chain = none →
    s.coordinates c = true → edgesPerSec ≤ 10 * (s.time.edge - (s.clause c).waitSince) →
    exec (.chainLockWaitTimeout c) s = .next ((s.chainOpenFails c 0x5121).thenHeld s)) ∧
  (∀ (s : State) (c x : Nat) (k : Chain), (s.clause c).waitItems ≠ [] → x ∈ s.holders c (s.clause c).waitItems →
    (s.clause x).chain = none → (s.clause c).chain = some k → s.rd (R.cs_CL_SESSION c) = 0xFFFF →
    edgesPerSec ≤ 10 * (s.time.edge - (s.clause c).waitSince) →
    exec (.chainLockWaitTimeout c) s
      = .next ((s.dropSlot c false).emit (.chainReply k.coordinator k.coordClause .lock 0x5121))) ∧
  (∀ (s : State) (c m : Nat) (k : Chain), (s.clause c).chain = some k → s.rd (R.cs_CL_SESSION c) ≠ 0xFFFF →
    s.rd (R.cs_CL_STATE c) = 4 → k.members.find? (fun e => e.1 == m) = some (m, .locked) →
    edgesPerSec ≤ 10 * (s.time.edge - k.since) →
    exec (.chainPhase1Timeout c m) s = .next ((s.chainRefused c 0x7121 m).thenHeld s)) ∧
  (∀ (s : State) (c m : Nat) (k : Chain), (s.clause c).chain = some k → s.rd (R.cs_CL_SESSION c) ≠ 0xFFFF →
    s.rd (R.cs_CL_STATE c) = 2 → k.members.find? (fun e => e.1 == m) = some (m, .admitted) →
    edgesPerSec ≤ 10 * (s.time.edge - k.since) →
    exec (.chainPhase1Timeout c m) s = .next ((s.goAheadFails c m).thenHeld s)) ∧
  (∀ (s : State) (c : Nat) (k : Chain), (s.clause c).chain = some k → s.rd (R.cs_CL_SESSION c) ≠ 0xFFFF →
    s.rd (R.cs_CL_STATE c) = 4 → t64Diff k.whn s.time.ticks ≤ 2000000 * ticksPerNs →
    exec (.chainGoAheadDeadline c) s = .next ((s.chainRefused c 0x7121
      (((k.members.find? fun e => e.2 != .admitted).map (·.1)).getD (s.rd R.lx_CHAIN_ADDR))).thenHeld s))

/-- R174, R196, R244, R319: an ABORT by the Owner ends the job it names and answers with the instant: a capture is
idle, a path is off and its ENABLE false, in the committed configuration too, a waiting Frit job has state 6, the
transfers with the TAG are discarded, a clause is withdrawn; abort-all ends every job. That an ABORT of a clause
counts no rollback is the model's choice (log entry 44), and that abort-all by the Owner covers reflectometry runs
(log entry 46). -/
def Obligations.Aborts : Prop :=
  (∀ (s : State) (h : Hdr) (n : Nat), OwnerAsks s h 0x0B → n < s.part.channels → s.rd (R.pu_CAP_ENABLE n) ≠ 0 →
    s.rd (R.pu_ARM_STATE n) = 2 →
    ∃ t, exec (.abortCapture h n) s = .next t ∧ AnsweredWith s t h 0x0B [(R.pu_ARM_STATE n, 1)] [] (natLE 12 s.now96)
      ∧ (∀ k, k ≠ n → t.cap k = s.cap k) ∧ t.segments = s.segments ∧ Keeps s t [.regs, .sessions, .caps, .out]) ∧
  (∀ (s : State) (h : Hdr) (p : Nat), OwnerAsks s h 0x0B → p < 4096 → s.rd (R.pa_ENABLE p) ≠ 0 → (s.path p).live = true →
    (s.path p).closed = true → (s.chan (s.path p).fr.source).streamOpen = false → (s.chan (s.path p).fr.source).tailWords = [] →
    s.newestCopy = none → s.lives p = [] →
    ∃ t, exec (.abortPath h p) s = .next t
      ∧ AnsweredWith s t h 0x0B [(R.pa_PATH_STATE p, 0), (R.pa_ENABLE p, 0), (R.pa_FADE_AT p, 0)] [] (natLE 12 s.now96)
      ∧ t.path p = { Path.init with fr := (s.path p).fr, cur := (s.path p).cur, notBefore := (s.path p).notBefore }
      ∧ (∀ k, k ≠ p → t.path k = s.path k) ∧ (∀ k, k ≠ (s.path p).fr.source → t.chan k = s.chan k)
      ∧ Keeps s t [.regs, .sessions, .paths, .chans, .out]) ∧
  (∀ (s : State) (h : Hdr) (p : Nat) (c : Copy), OwnerAsks s h 0x0B → p < 4096 → s.rd (R.pa_ENABLE p) ≠ 0 →
    (s.path p).live = true → (s.path p).closed = true →
    (s.chan (s.path p).fr.source).streamOpen = false → (s.chan (s.path p).fr.source).tailWords = [] →
    s.newestCopy = some c →
    ∃ t, exec (.abortPath h p) s = .next t ∧ t.rd (R.pa_ENABLE p) = 0 ∧ (t.path p).live = false
      ∧ ((t.newestCopy).map fun d => (d.seq, alGet 0 d.regs (R.pa_ENABLE p))) = some (c.seq + 1, 0)) ∧
  (∀ (s : State) (h : Hdr), OwnerAsks s h 0x0B → s.newestCopy = none →
    (∀ p ∈ s.enabledPaths, s.rd (R.pa_TENANT p) = 0 → (s.path p).live = false ∧ s.lives p = []
      ∧ (s.chan (s.path p).fr.source).streamOpen = false ∧ (s.chan (s.path p).fr.source).tailWords = []) →
    ∃ t, exec (.abortTenantPaths h) s = .next t
      ∧ (∀ p ∈ s.enabledPaths, s.rd (R.pa_TENANT p) = 0 → t.rd (R.pa_ENABLE p) = 0 ∧ t.rd (R.pa_PATH_STATE p) = 0)
      ∧ (∀ p ∈ s.enabledPaths, s.rd (R.pa_TENANT p) ≠ 0 → t.rd (R.pa_ENABLE p) = s.rd (R.pa_ENABLE p))
      ∧ t.out = s.out ++ [done h 0x0B (natLE 12 s.now96)] ∧ Keeps s t [.regs, .sessions, .paths, .chans, .out]) ∧
  (∀ (s : State) (h : Hdr) (j : Nat), OwnerAsks s h 0x0B → s.part.frit = true → j < 32 → s.rd (R.fj_JOB_STATE j) = 1 →
    (s.job j).submitEdge ≠ some s.time.edge →
    ∃ t, exec (.abortFritJob h j) s = .next t
      ∧ AnsweredWith s t h 0x0B [(R.fj_ABORTS j, s.counted (R.fj_ABORTS j) 1), (R.fj_JOB_STATE j, 6), (R.fj_DONE_AT j, s.now96)]
          [] (natLE 12 s.now96)
      ∧ (∀ k, k ≠ j → t.job k = s.job k) ∧ Keeps s t [.regs, .sessions, .jobs, .out]) ∧
  (∀ (s : State) (h : Hdr) (x : Nat), OwnerAsks s h 0x0B → (∀ y ∈ (s.session h.session).xfers, y.reg.grp ≠ .fw ∧ y.reg.grp ≠ .ampProg) →
    ∃ t, exec (.abortDramTransfer h x) s = .next t ∧ AnsweredWith s t h 0x0B [] [] (natLE 12 s.now96)
      ∧ (t.session h.session).xfers = ((s.session h.session).xfers.filter fun y => !(y.window && y.tags.contains x))
      ∧ Keeps s t [.regs, .sessions, .out]) ∧
  (∀ (s : State) (h : Hdr) (x : Nat), OwnerAsks s h 0x0B → (∀ y ∈ (s.session h.session).xfers, y.reg.grp ≠ .fw ∧ y.reg.grp ≠ .ampProg) →
    ∃ t, exec (.abortBlockTransfer h x) s = .next t ∧ AnsweredWith s t h 0x0B [] [] (natLE 12 s.now96)
      ∧ (t.session h.session).xfers = ((s.session h.session).xfers.filter fun y => !(!y.window && y.tags.contains x))
      ∧ Keeps s t [.regs, .sessions, .out]) ∧
  (∀ (s : State) (h : Hdr) (c : Nat), OwnerAsks s h 0x0B → 1 ≤ c → c ≤ 64 → s.rd (R.cs_CL_STATE c) = 1 ∨ s.rd (R.cs_CL_STATE c) = 2 →
    (s.clause c).chain = none → (∀ k ∈ State.clauseIds, (s.clause k).waitItems = []) →
    ∃ t, exec (.abortClause h c) s = .next t
      ∧ AnsweredWith s t h 0x0B [(R.cs_CL_STATE c, 0), (R.cs_CL_TENANT c, 0xFFFF), (R.cs_CL_SESSION c, 0xFFFF),
          (R.cs_LOCKS c, 0), (R.cs_WHEN c, 0), (R.cs_CL_RETRIES c, 0)] [] (natLE 12 s.now96)
      ∧ t.clause c = Clause.init ∧ (∀ k, k ≠ c → t.clause k = s.clause k) ∧ Keeps s t [.regs, .sessions, .clauses, .out]) ∧
  (∀ (s : State) (h : Hdr), OwnerAsks s h 0x0B → s.capChannels = [] → s.enabledPaths = [] → s.livePathList = [] →
    (∀ n, n < s.part.channels → (s.chan n).tdrPending = false ∧ bitAt (s.rd (R.ch_CH_STATUS n)) 6 = false) →
    (∀ j, j < 32 → s.rd (R.fj_JOB_STATE j) = 0) → (∀ c ∈ State.clauseIds, s.rd (R.cs_CL_STATE c) = 0) →
    (∀ e ∈ s.sessions, ∀ y ∈ e.2.xfers, y.reg.grp ≠ .fw ∧ y.reg.grp ≠ .ampProg) →
    ∃ t, exec (.abortAll h) s = .next t ∧ AnsweredWith s t h 0x0B [] [] (natLE 12 s.now96)
      ∧ (∀ x, (t.session x).xfers = []) ∧ Keeps s t [.regs, .sessions, .out]) ∧
  (∀ (s v : State) (h : Hdr) (n : Nat), OwnerAsks s h 0x0B → n < s.part.channels →
    v = (s.touch h.session).closeCapture n 1 →
    exec (.abortCapture h n) s = .next (v.answered s h 0x0B [(0, false, natLE 12 v.now96)])) ∧
  (∀ (s v : State) (h : Hdr) (n : Nat), OwnerAsks s h 0x0B → n < s.part.channels →
    v = (s.touch h.session).abortOneTdr n →
    exec (.abortTdr h n) s = .next (v.answered s h 0x0B [(0, false, natLE 12 v.now96)])) ∧
  (∀ (s v : State) (h : Hdr) (p : Nat), OwnerAsks s h 0x0B → p < 4096 → s.rd (R.pa_ENABLE p) ≠ 0 ∨ (s.path p).live = true →
    v = ((s.touch h.session).abortPath p).commitEntry (R.pa_ENABLE p) 0 →
    exec (.abortPath h p) s = .next (v.answered s h 0x0B [(0, false, natLE 12 v.now96)])) ∧
  (∀ (s v : State) (h : Hdr), OwnerAsks s h 0x0B →
    v = (s.touch h.session).each ((s.touch h.session).enabledPaths.filter fun p => (s.touch h.session).rd (R.pa_TENANT p) == 0) State.abortOnePath →
    exec (.abortTenantPaths h) s = .next (v.answered s h 0x0B [(0, false, natLE 12 v.now96)])) ∧
  (∀ (s v : State) (h : Hdr) (j : Nat), OwnerAsks s h 0x0B → s.part.frit = true → j < 32 →
    v = (s.touch h.session).abortJob j →
    exec (.abortFritJob h j) s = .next (v.answered s h 0x0B [(0, false, natLE 12 v.now96)])) ∧
  (∀ (s v : State) (h : Hdr) (x : Nat), OwnerAsks s h 0x0B →
    v = (s.touch h.session).endXfers h.session (fun y => y.window && y.tags.contains x) →
    exec (.abortDramTransfer h x) s = .next (v.answered s h 0x0B [(0, false, natLE 12 v.now96)])) ∧
  (∀ (s v : State) (h : Hdr) (x : Nat), OwnerAsks s h 0x0B →
    v = (s.touch h.session).endXfers h.session (fun y => !y.window && y.tags.contains x) →
    exec (.abortBlockTransfer h x) s = .next (v.answered s h 0x0B [(0, false, natLE 12 v.now96)])) ∧
  (∀ (s v : State) (h : Hdr) (c : Nat), OwnerAsks s h 0x0B → 1 ≤ c → c ≤ 64 → s.rd (R.cs_CL_STATE c) ≠ 0 →
    v = (s.touch h.session).withdraw c 0x3124 →
    exec (.abortClause h c) s = .next (v.answered s h 0x0B [(0, false, natLE 12 v.now96)])) ∧
  (∀ (s v : State) (h : Hdr), OwnerAsks s h 0x0B →
    v = (s.touch h.session).abortEverything ⟨h.session, some 0, h.tag, none⟩ →
    exec (.abortAll h) s = .next (v.answered s h 0x0B [(0, false, natLE 12 v.now96)]))

/-- R302, R304, R305: a DTLS handshake with a tenant's key opens the lowest free session for it, one with no tenant's
key or with no session free is refused by an alert. Segments on the CAN FD port are put together, one out of sequence
discards the message, and a whole message is served on the port's session. Bus-off, the end of a DTLS association and
silence for SESSION_TIMEOUT close a session and roll its open clause back. -/
def Obligations.Sessions : Prop :=
  (∀ (s : State) (k x u : Nat), s.mode.coresRun = true → s.freeSession = some x → u < 1024 → s.rd (R.te_ENABLE u) ≠ 0 →
    s.rd (R.te_CERT_KEY u) = k → k ≠ 0 → (∀ v, v < u → s.rd (R.te_ENABLE v) = 0 ∨ s.rd (R.te_CERT_KEY v) ≠ k) →
    ∃ t, exec (.dtlsHandshake k) s = .next t
      ∧ Sets s t [(R.se_S_TENANT x, u), (R.se_S_TRANSPORT x, 1), (R.se_S_OPENED x, s.now96), (R.se_S_LAST_RX x, s.now96)]
      ∧ t.session x = { Session.init with lastRx := s.time.edge } ∧ (∀ y, y ≠ x → t.session y = s.session y)
      ∧ Keeps s t [.regs, .sessions]) ∧
  (∀ (s : State) (k x : Nat), s.mode.coresRun = true → s.freeSession = some x →
    (∀ v, v < 1024 → s.rd (R.te_ENABLE v) = 0 ∨ s.rd (R.te_CERT_KEY v) ≠ k) →
    exec (.dtlsHandshake k) s = .next (s.emit (.alert x true))) ∧
  (∀ (s : State) (k : Nat), s.mode.coresRun = true → s.freeSession = none →
    exec (.dtlsHandshake k) s = .next (s.emit (.alert 0 false))) ∧
  (∀ (s : State) (n : Nat) (d : List Byte), exec (.canSegmentRx true false n d) s = .next (s.putCanIn (some ((n + 1) % 64, d)))) ∧
  (∀ (s : State) (n : Nat) (d e : List Byte), s.canIn = some (n, d) →
    exec (.canSegmentRx false false n e) s = .next (s.putCanIn (some ((n + 1) % 64, d ++ e)))) ∧
  (∀ (s : State) (n m : Nat) (d e : List Byte) (l : Bool), s.canIn = some (n, d) → m ≠ n →
    exec (.canSegmentRx false l m e) s = .next (s.putCanIn none)) ∧
  (∀ (s : State) (n x tag : Nat), s.mode.coresRun = true → s.mode.base ≠ .boot →
    ((List.range 64).find? fun y => s.rd (R.se_S_TRANSPORT y) == 2) = some x → tag < 65536 →
    (s.session x).store.find? (fun e => e.typ == 0x01 && e.tag == tag) = none → s.part.fronts ≤ 7 →
    s.held = [] → s.awaits x = false →
    ∃ t, exec (.canSegmentRx true true n (adpMessage 0x01 tag 0 0 false false false 0 (natLE 2 0x3000 ++ natLE 1 0x02 ++ natLE 1 0))) s
        = .next t
      ∧ Sets s t [(R.se_S_LAST_RX x, s.now96)] ∧ t.out = s.out ++ [.adp none x 0x01 tag 0 false (natLE 1 (s.rd R.tm_TIME_STATE))]
      ∧ t.canIn = none ∧ Keeps s t [.regs, .sessions, .canIn, .out]) ∧
  (∀ (s : State) (x : Nat), ((List.range 64).find? fun y => s.rd (R.se_S_TRANSPORT y) == 2) = some x →
    (∀ c ∈ State.clauseIds, s.rd (R.cs_CL_SESSION c) ≠ x) → (∀ e ∈ s.queues, e.2.subscriber ≠ some x) → s.held = [] →
    ∃ t, exec .canBusOff s = .next t
      ∧ Sets s t [(R.se_S_TENANT x, 0xFFFF), (R.se_S_TRANSPORT x, 0), (R.se_S_OPENED x, 0), (R.se_S_LAST_RX x, 0)]
      ∧ t.session x = Session.init ∧ t.forwarded = s.forwarded.filter (fun e => e.session != x)
      ∧ Keeps s t [.regs, .sessions, .forwarded, .held]) ∧
  (∀ (s : State) (x c : Nat), x < 64 → s.rd (R.se_S_TRANSPORT x) = 1 → c ∈ State.clauseIds → s.rd (R.cs_CL_SESSION c) = x →
    s.rd (R.cs_CL_STATE c) = 1 → (∀ k ∈ State.clauseIds, k ≠ c → s.rd (R.cs_CL_SESSION k) ≠ x) → (s.clause c).chain = none →
    (∀ k ∈ State.clauseIds, (s.clause k).waitItems = []) → (∀ e ∈ s.queues, e.2.subscriber ≠ some x) → s.held = [] →
    ∃ t, exec (.dtlsAssociationEnd x) s = .next t
      ∧ Sets s t [(R.se_S_TENANT x, 0xFFFF), (R.se_S_TRANSPORT x, 0), (R.se_S_OPENED x, 0), (R.se_S_LAST_RX x, 0),
          (R.cs_CL_STATE c, 0), (R.cs_CL_TENANT c, 0xFFFF), (R.cs_CL_SESSION c, 0xFFFF), (R.cs_LOCKS c, 0), (R.cs_WHEN c, 0),
          (R.cs_CL_RETRIES c, 0), (R.cs_ROLLBACKS c, s.counted (R.cs_ROLLBACKS c) 1)]
      ∧ t.session x = Session.init ∧ t.clause c = { Clause.init with rolledBack := true }
      ∧ Keeps s t [.regs, .sessions, .forwarded, .held, .clauses]) ∧
  (∀ (s : State) (x : Nat), x < 64 → s.rd (R.se_S_TRANSPORT x) ≠ 0 →
    s.rd R.ad_SESSION_TIMEOUT * edgesPerSec ≤ s.time.edge - (s.session x).lastRx →
    (∀ c ∈ State.clauseIds, s.rd (R.cs_CL_SESSION c) ≠ x) → (∀ e ∈ s.queues, e.2.subscriber ≠ some x) → s.held = [] →
    ∃ t, exec (.sessionTimeout x) s = .next t
      ∧ Sets s t [(R.se_S_TENANT x, 0xFFFF), (R.se_S_TRANSPORT x, 0), (R.se_S_OPENED x, 0), (R.se_S_LAST_RX x, 0)]
      ∧ t.session x = Session.init ∧ Keeps s t [.regs, .sessions, .forwarded, .held]) ∧
  (∀ (s : State) (x : Nat), s.time.edge - (s.session x).lastRx < s.rd R.ad_SESSION_TIMEOUT * edgesPerSec →
    exec (.sessionTimeout x) s = .next s) ∧
  (∀ (s : State) (n : Nat) (d e : List Byte), s.canIn = some (n, d) →
    exec (.canSegmentRx false true n e) s = .next (canMessage (trimMessage (d ++ e)) (s.putCanIn none))) ∧
  (∀ (s : State) (x : Nat), ((List.range 64).find? fun y => s.rd (R.se_S_TRANSPORT y) == 2) = some x →
    exec .canBusOff s = .next ((s.loseSession x).thenHeld s)) ∧
  (∀ (s : State) (x : Nat), s.rd (R.se_S_TRANSPORT x) = 1 → exec (.dtlsAssociationEnd x) s = .next ((s.loseSession x).thenHeld s)) ∧
  (∀ (s : State) (x : Nat), s.sessionOpen x = true →
    s.rd R.ad_SESSION_TIMEOUT * edgesPerSec ≤ s.time.edge - (s.session x).lastRx →
    exec (.sessionTimeout x) s = .next ((s.loseSession x).thenHeld s))

/-- R300, R303: a relayed request is checked against this hub's own tenant entry and answered through the bundle it
came by; a relayed response goes to the session that asked, and a request without one in 1 s is answered 0x7121. Until
then a later request of that session waits. The key of a relayed session, 256 + 128 x origin + 64 x bundle +
GW_SESSION, is the model's choice (log entry 39). -/
def Obligations.Relayed : Prop :=
  (∀ (s : State) (b o u g tag : Nat), s.mode.coresRun = true → s.mode.base ≠ .boot → b < 2 → o < 256 → g < 64 → s.rd (R.bu_BUNDLE_STATE b) = 2 →
    u < 1024 → s.rd (R.te_ENABLE u) ≠ 0 → s.rd (R.te_CLASS u) ≤ 3 → tag < 65536 → s.part.fronts ≤ 7 →
    (s.session (256 + 128 * o + 64 * b + g)).store.find? (fun e => e.typ == 0x01 && e.tag == tag) = none →
    s.held = [] → s.awaits (256 + 128 * o + 64 * b + g) = false →
    exec (.relayedAdpRx b o u g (adpMessage 0x01 tag 0 0 true false false 7 (natLE 2 0x3000 ++ natLE 1 0x02 ++ natLE 1 0))) s
      = .next ((s.setSession (256 + 128 * o + 64 * b + g) { s.session (256 + 128 * o + 64 * b + g) with store := lastN 16 ((s.session (256 + 128 * o + 64 * b + g)).store ++ [⟨0x01, tag, [(0, false, natLE 1 (s.rd R.tm_TIME_STATE))]⟩]) }).sendRelay
        b o u g (adpMessage 0x01 tag g 0 true false true 7 (natLE 1 (s.rd R.tm_TIME_STATE))))) ∧
  (∀ (s : State) (b o u g tag : Nat), s.mode.coresRun = true → s.mode.base ≠ .boot → b < 2 → o < 256 → g < 64 → s.rd (R.bu_BUNDLE_STATE b) = 2 →
    u < 1024 → s.rd (R.te_ENABLE u) = 0 → tag < 65536 →
    exec (.relayedAdpRx b o u g (adpMessage 0x01 tag 0 0 true false false 7 (natLE 2 0x3000 ++ natLE 1 0x02 ++ natLE 1 0))) s
      = .next (s.sendRelay b o u g (adpMessage 0x01 tag g 0x1003 true false true 7 []))) ∧
  (∀ (s : State) (b o u g tag code : Nat) (d : List Byte) (f : Fwd), s.mode.coresRun = true → s.rd (R.bu_BUNDLE_STATE b) = 2 → g < 64 →
    tag < 65536 → code < 65536 → 
    s.forwarded.find? (fun e => e.session == g && e.tag == tag && e.typ == 0x01) = some f → s.held = [] →
    ∃ t, exec (.relayedAdpRx b o u g (adpMessage 0x01 tag g code true false true 7 d)) s = .next t
      ∧ t.out = s.out ++ [.adp (some f.hub) g 0x01 tag code false d] ∧ f ∉ t.forwarded
      ∧ Keeps s t [.sessions, .forwarded, .out]) ∧
  (∀ (s : State) (x tag typ hub at_ : Nat), x < 64 → s.forwarded = [⟨x, tag, typ, hub, at_⟩] →
    edgesPerSec ≤ s.time.edge - at_ → s.held = [] →
    ∃ t, exec (.remoteAnswerTimeout x tag) s = .next t ∧ t.forwarded = []
      ∧ t.out = s.out ++ [.adp (some hub) x typ tag 0x7121 false []]
      ∧ Keeps s t [.sessions, .forwarded, .out]) ∧
  (∀ (s : State) (x tag : Nat), (∀ e ∈ s.forwarded, e.session ≠ x ∨ e.tag ≠ tag ∨ s.time.edge - e.at_ < edgesPerSec) →
    exec (.remoteAnswerTimeout x tag) s = .next s) ∧
  (∀ (s : State) (b o u g : Nat) (m : List Byte), s.mode.coresRun = true → s.rd (R.bu_BUNDLE_STATE b) = 2 →
    bitAt (leNat ((m.drop 10).take 1)) 0 = false → u < 1024 → s.rd (R.te_ENABLE u) ≠ 0 →
    s.held = [] → s.awaits (256 + 128 * (o % 256) + 64 * (b % 2) + g % 64) = false →
    exec (.relayedAdpRx b o u g m) s = .next (s.serveFrom ⟨256 + 128 * (o % 256) + 64 * (b % 2) + g % 64, some u, leNat ((m.drop 2).take 2),
      some (leNat ((m.drop 11).take 1))⟩ (leNat ((m.drop 1).take 1)) (State.messageReq m))) ∧
  (∀ (s : State) (b o u g x hub at_ : Nat) (m : List Byte), s.mode.coresRun = true → s.rd (R.bu_BUNDLE_STATE b) = 2 →
    bitAt (leNat ((m.drop 10).take 1)) 0 = true → 
    s.forwarded = [⟨g, leNat ((m.drop 2).take 2), leNat ((m.drop 1).take 1), hub, at_⟩] →
    bitAt (leNat ((m.drop 10).take 1)) 1 = (x == 1) →
    exec (.relayedAdpRx b o u g m) s = .next (((if x = 1 then s else s.putForwarded []).reply
      ⟨g, none, leNat ((m.drop 2).take 2), some hub⟩ (leNat ((m.drop 1).take 1))
      [(leNat ((m.drop 6).take 2), x == 1, m.drop 12)]).thenHeld s)) ∧
  (∀ (s : State) (x tag : Nat) (e : Fwd),
    s.forwarded.find? (fun e => e.session == x && e.tag == tag && edgesPerSec ≤ s.time.edge - e.at_) = some e →
    exec (.remoteAnswerTimeout x tag) s
      = .next (((s.putForwarded (s.forwarded.filter (· != e))).reply ⟨x, none, tag, some e.hub⟩ e.typ (answer 0x7121)).thenHeld
        s)) ∧
  (∀ (s : State) (h : Hdr) (i sub c : Nat), s.mode.coresRun = true → s.mode.base ≠ .boot → s.sessionOpen h.session = true →
    (s.session h.session).withdrawn = false → h.formOk = true → h.remote = false → h.hub = 0 →
    s.awaits h.session = true → s.held = [] →
    exec (.adpRead h i sub c) s = .next ((s.touch h.session).putHeld
      [⟨⟨h.session, s.sessionTenant h.session, h.tag, none⟩, 0x01, some (.read i sub c), none⟩]))

/-- R322, R328, R329, R332, R333: a write of MODE_REQ by the Owner takes the hub from the modes it names to the mode
it asks for; MODE_SINCE tells when, injection stops where Test or Acquire is left, Commission's writes are committed
on the way to Calibrate, and Dormant begins with every bank gated. Written in any other mode it is refused with 0x3131
and changes nothing. -/
def Obligations.ModeRequests : Prop :=
  (∀ (s : State) (h : Hdr), OwnerAsks s h 0x02 → s.part.fronts ≤ 7 → s.free_ R.mo_MODE_REQ → s.mode.base = .commission →
    s.mode.dormantPending = false →
    ∃ t, exec (.modeReqAcquire h 0) s = .next t ∧ t.mode = { s.mode with base := .calibrate } ∧ t.mram = s.commitMram.mram
      ∧ t.rd R.mo_CONFIG_SEQ = s.commitMram.rd R.mo_CONFIG_SEQ ∧ t.rd R.mo_MODE_SINCE = s.now96
      ∧ t.out.getLast? = some (done h 0x02 [])
      ∧ (∀ r, [Grp.time, .tenant, .path, .queue, .route, .fritCtx].contains r.grp = true → t.rd r = s.rd r)) ∧
  (∀ (s : State) (h : Hdr), OwnerAsks s h 0x02 → s.part.fronts ≤ 7 → s.free_ R.mo_MODE_REQ → s.mode.base = .dormant →
    s.mode.dormantPending = false →
    ∃ t, exec (.modeReqAcquire h 0) s = .next t ∧ t.mode = { s.mode with base := .calibrate } ∧ t.rd R.mo_LAST_WAKE = 4
      ∧ t.rd R.mo_MODE_SINCE = s.now96 ∧ t.out.getLast? = some (done h 0x02 [])
      ∧ (∀ l, l ∈ s.blLanes → (t.lane l).txIdle = false)
      ∧ (s.frozen = false → ∀ c, c < s.part.drams → t.rd (R.dc_CH_STATE c) ≠ 3) ∧ t.mram = s.mram) ∧
  (∀ (s : State) (h : Hdr), OwnerAsks s h 0x02 → s.part.fronts ≤ 7 → s.free_ R.mo_MODE_REQ → s.mode.base = .acquire →
    s.mode.dormantPending = false →
    ∃ t, exec (.modeReqCommission h 0) s = .next t ∧ t.mode = { s.mode with base := .commission }
      ∧ Served s t h 0x02 (s.activeRules.flatMap (fun i => [(R.ir_ENABLE i, 0), (R.ir_INJ_STATE i, 2)])
          ++ [(R.mo_MODE_SINCE, s.now96)]) [] ∧ Keeps s t [.regs, .mode, .sessions, .out]) ∧
  (∀ (s : State) (h : Hdr), OwnerAsks s h 0x02 → s.part.fronts ≤ 7 → s.free_ R.mo_MODE_REQ →
    s.mode.base = .acquire ∨ s.mode.base = .commission → s.mode.dormantPending = false →
    ∃ t, exec (.modeReqTest h 0) s = .next t ∧ t.mode = { s.mode with base := .test }
      ∧ Served s t h 0x02 ((if s.mode.base = .acquire then s.activeRules else []).flatMap
          (fun i => [(R.ir_ENABLE i, 0), (R.ir_INJ_STATE i, 2)]) ++ [(R.mo_MODE_SINCE, s.now96)]) []
      ∧ Keeps s t [.regs, .mode, .sessions, .out]) ∧
  (∀ (s : State) (h : Hdr), OwnerAsks s h 0x02 → s.part.fronts ≤ 7 → s.free_ R.mo_MODE_REQ → s.mode.base = .test →
    s.mode.dormantPending = false →
    ∃ t, exec (.modeReqLeaveTest h 0) s = .next t ∧ t.mode = { s.mode with base := .calibrate }
      ∧ t.rd R.mo_MODE_SINCE = s.now96 ∧ (∀ i, i ∈ s.activeRules → t.rd (R.ir_ENABLE i) = 0 ∧ t.rd (R.ir_INJ_STATE i) = 2)
      ∧ t.out.getLast? = some (done h 0x02 [])
      ∧ (∀ r, [Grp.time, .tenant, .path, .queue, .route, .fritCtx].contains r.grp = true → t.rd r = s.rd r)) ∧
  (∀ (s : State) (h : Hdr), OwnerAsks s h 0x02 → s.part.fronts ≤ 7 → s.free_ R.mo_MODE_REQ → s.mode.base ≠ .safe →
    ∃ t, exec (.modeReqSafe h 0) s = .next t ∧ t.mode = { s.mode with base := .safe, dormantPending := false }
      ∧ t.rd R.mo_SAFE_CAUSE = 0 ∧ t.rd R.mo_MODE_SINCE = s.now96
      ∧ (∀ q, q < 32 * s.part.fronts → (t.quad q).driverOn = false)
      ∧ (∀ b, b < 4 * s.part.fronts → t.rd (R.bk_BANK_STATE b) = 0 ∨ t.rd (R.bk_BANK_STATE b) = 4
          ∨ t.rd (R.bk_BANK_STATE b) = 5)
      ∧ t.out.getLast? = some (done h 0x02 [])) ∧
  (∀ (s : State) (h : Hdr), OwnerAsks s h 0x02 → s.part.fronts ≤ 7 → s.free_ R.mo_MODE_REQ → s.mode.base = .safe →
    s.changing = false → s.causeCleared = true →
    ∃ t, exec (.modeReqLeaveSafe h 0) s = .next t ∧ t.mode = { s.mode with base := .calibrate }
      ∧ t.rd R.mo_MODE_SINCE = s.now96 ∧ t.out.getLast? = some (done h 0x02 [])
      ∧ (∀ r, [Grp.time, .tenant, .path, .queue, .route, .fritCtx].contains r.grp = true → t.rd r = s.rd r)) ∧
  (∀ (s : State) (h : Hdr), OwnerAsks s h 0x02 → s.part.fronts ≤ 7 → s.free_ R.mo_MODE_REQ → s.mode.base = .acquire →
    s.mode.dormantPending = false → s.amp.legal = [] → s.rd R.fz_FROZEN = 0 → s.repairing = false → s.backlogBits = 0 →
    ∃ t, exec (.modeReqDormant h 0) s = .next t ∧ t.mode = { s.mode with dormantPending := true }
      ∧ (∀ b, b < 4 * s.part.fronts → t.rd (R.bk_BANK_STATE b) = (if s.rd (R.bk_BANK_STATE b) = 0
          ∨ s.rd (R.bk_BANK_STATE b) = 5 then s.rd (R.bk_BANK_STATE b) else 4))
      ∧ RegsBut s t ((List.range (4 * s.part.fronts)).map R.bk_BANK_STATE ++ [R.se_S_LAST_RX h.session])
      ∧ t.out = s.out ++ [done h 0x02 []] ∧ Keeps s t [.regs, .mode, .sessions, .out]) ∧
  (∀ (s : State) (h : Hdr), OwnerAsks s h 0x02 → s.part.fronts ≤ 7 → s.free_ R.mo_MODE_REQ → s.mode.base = .test →
    s.mode.dormantPending = false →
    ∃ t, exec (.modeReqCommission h 0) s = .next t ∧ Refused s t h 0x02 0x3131) ∧
  (∀ (s t : State) (h : Hdr) (v : Nat), OwnerAsks s h 0x02 → s.part.fronts ≤ 7 → s.free_ R.mo_MODE_REQ → 1 ≤ v → v ≤ 7 → (s.touch h.session).modeReqAct v = (0, t) →
    exec (.adpWrite h 0x2000 0x03 0 (natLE 1 v)) s = .next (t.answered s h 0x02 (answer 0))) ∧
  (∀ (s : State) (h : Hdr), OwnerAsks s h 0x02 → s.part.fronts ≤ 7 → s.free_ R.mo_MODE_REQ → s.mode.base = .acquire → s.mode.dormantPending = false →
    s.amp.legal ≠ [] → ∃ t, exec (.modeReqDormant h 0) s = .next t ∧ Refused s t h 0x02 0x6131) ∧
  (∀ (s : State) (h : Hdr), OwnerAsks s h 0x02 → s.part.fronts ≤ 7 → s.free_ R.mo_MODE_REQ → s.mode.base = .safe →
    ∃ t, exec (.modeReqSafe h 0) s = .next t ∧ Served s t h 0x02 [] [] ∧ Keeps s t [.regs, .sessions, .out])

/-- R333: MODE_REQ 6 leaves Safe through Calibrate; it is refused with 0x3131 while the cause in SAFE_CAUSE has not
cleared, and with it nothing is changed. -/
def Obligations.LeavingSafe : Prop :=
  (∀ (s : State) (h : Hdr), OwnerAsks s h 0x02 → s.part.fronts ≤ 7 → s.free_ R.mo_MODE_REQ → s.mode.base = .safe →
    s.changing = false → s.causeCleared = true →
    ∃ t, exec (.modeReqLeaveSafe h 0) s = .next t ∧ t.mode.base = .calibrate ∧ t.rd R.mo_MODE_SINCE = s.now96
      ∧ t.out.getLast? = some (done h 0x02 [])) ∧
  (∀ (s : State) (h : Hdr), OwnerAsks s h 0x02 → s.part.fronts ≤ 7 → s.free_ R.mo_MODE_REQ → s.mode.base = .safe →
    s.changing = false → s.causeCleared = false →
    ∃ t, exec (.modeReqLeaveSafe h 0) s = .next t ∧ Refused s t h 0x02 0x3131)

/-- R389, R390, R391, R325, R326: power coming up, RST_N and a brown-out reset the hub: every register but those that
MRAM and the Ampoule keep is back at its value after reset, scheduled clauses are lost and counted, and LAST_RESET
tells the cause (the rows that DRAM has repaired are the DRAM's own, R263); Boot begins, with PGOOD high and the time
counter running, when RST_N is high and REFCLK is there. With an image that verifies the hub goes to Calibrate with
the newest configuration of MRAM, or to Commission where nothing was ever committed; with none it stays in Boot. -/
def Obligations.ResetsAndBoot : Prop :=
  (∀ (s : State), s.mode.brownedOut = true ∨ s.part.amp = false → s.mode.refclk = true → s.mode.rstN = true → s.amp.legal = [] →
    ∃ t, exec .vinPowerOn s = .next t ∧ t.rd R.cb_LAST_RESET = (if s.mode.brownedOut = true then 3 else 1) ∧ t.mode.base = .boot ∧ t.mode.pgood = true
      ∧ t.time = { State.reset.time with running := true } ∧ t.mram = { s.mram with starts := s.mram.starts + 1 }
      ∧ t.queues = [] ∧ t.clauses = [] ∧ t.sessions = [] ∧ t.dram = { State.reset.dram with chans := s.dram.chans.map fun e => (e.1, { DramCh.init with softRows := e.2.softRows, hardRows := e.2.hardRows }) }
      ∧ t.part = s.part ∧ t.pending = s.pending
      ∧ (∀ r, keptOver r = true → t.rd r = s.rd r)
      ∧ (∀ r, keptOver r = false → r ≠ R.cb_LAST_RESET → r ≠ R.mo_SCHED_LOST → r ≠ R.th_THROTTLED → t.rd r = dfltOf r)) ∧
  (∀ (s : State), s.mode.refclk = true → s.amp.legal = [] →
    ∃ t, exec .rstNLow s = .next t ∧ t.rd R.cb_LAST_RESET = 2 ∧ t.mode.base = .boot ∧ t.mode.rstN = false
      ∧ t.time = State.reset.time ∧ t.mram = s.mram
      ∧ t.rd R.mo_SCHED_LOST = s.counted R.mo_SCHED_LOST ((s.clauses.map (·.1)).filter fun c => s.rd (R.cs_CL_STATE c) == 2).length
      ∧ t.queues = [] ∧ t.clauses = [] ∧ t.sessions = [] ∧ t.dram = { State.reset.dram with chans := s.dram.chans.map fun e => (e.1, { DramCh.init with softRows := e.2.softRows, hardRows := e.2.hardRows }) }
      ∧ t.part = s.part ∧ t.pending = s.pending
      ∧ (∀ r, keptOver r = true → t.rd r = s.rd r)
      ∧ (∀ r, keptOver r = false → r ≠ R.cb_LAST_RESET → r ≠ R.mo_SCHED_LOST → r ≠ R.th_THROTTLED → t.rd r = dfltOf r)) ∧
  (∀ (s : State), s.mode.rstN = false → s.mode.refclk = true → s.time.running = false →
    ∃ t, exec .rstNRelease s = .next t
      ∧ t.mode = { s.mode with
          rstN := true, pgood := true, startEdge := s.time.edge,
          jtag := if s.mode.jtag = .extest ∨ s.mode.jtag = .otherDriving then .bypass else s.mode.jtag }
      ∧ t.time = { s.time with running := true } ∧ t.mram = { s.mram with starts := s.mram.starts + 1 }
      ∧ Keeps s t [.mode, .time, .mram]) ∧
  (∀ (s : State), s.mode.refclk = true → s.amp.legal = [] →
    ∃ t, exec (.brownOut false) s = .next t ∧ t.rd R.cb_LAST_RESET = 3 ∧ t.mode.base = .boot ∧ t.mode.pgood = false
      ∧ t.mode.brownedOut = true ∧ t.time = State.reset.time ∧ t.mram = s.mram ∧ t.quads = [] ∧ t.part = s.part
      ∧ (∀ r, keptOver r = true → t.rd r = s.rd r)
      ∧ (∀ r, keptOver r = false → r ≠ R.cb_LAST_RESET → r ≠ R.mo_SCHED_LOST → r ≠ R.th_THROTTLED → t.rd r = dfltOf r)) ∧
  (∀ (s : State), s.part.amp = true → s.mode.refclk = true → s.amp.legal = [] → s.amp.key = none →
    ∃ t, exec (.brownOut true) s = .next t ∧ t.rd R.cb_LAST_RESET = 3 ∧ t.rd R.am_AMP_STATE = 1 ∧ t.mode.base = .boot) ∧
  (∀ (s : State), s.mode.base = .boot → s.time.running = true → s.mode.rstN = true → s.mode.bootFailed = false →
    s.mode.fwNext = none →
    exec (.bootImageVerified false false) s = .next ((s.putMode { s.mode with bootFailed := true }).raise 0x7131 0)) ∧
  (∀ (s : State) (a b : Bool), s.mode.base = .boot → s.time.running = true → s.mode.rstN = true → s.mode.bootFailed = false →
    s.mode.fwNext = none → a = true ∨ b = true → s.rd R.fw_FW_ACTIVE < 2 → s.newestCopy = none → s.mram.copyA.seq = 0 →
    s.mram.copyB.seq = 0 →
    ∃ t, exec (.bootImageVerified a b) s = .next t ∧ t.mode.base = .commission ∧ t.mode.coresRun = true
      ∧ t.mode.started = true ∧ t.rd R.mo_MODE_SINCE = s.now96
      ∧ t.rd R.fw_FW_ACTIVE = (if (if s.rd R.fw_FW_ACTIVE = 0 then a else b) = true then s.rd R.fw_FW_ACTIVE
          else 1 - s.rd R.fw_FW_ACTIVE)
      ∧ t.mram = s.mram) ∧
  (∀ (s : State) (a b : Bool) (c : Copy), s.mode.base = .boot → s.time.running = true → s.mode.rstN = true →
    s.mode.bootFailed = false → s.mode.fwNext = none → a = true ∨ b = true → s.rd R.fw_FW_ACTIVE < 2 → s.newestCopy = some c →
    ∃ t, exec (.bootImageVerified a b) s = .next t ∧ t.mode.base = .calibrate ∧ t.mode.coresRun = true
      ∧ t.rd R.mo_MODE_SINCE = s.now96 ∧ t.rd R.mo_CONFIG_SEQ = c.seq ∧ t.mram = s.mram) ∧
  (∀ (s u : State) (a b : Bool) (k : Nat) (c : Copy), s.mode.base = .boot → s.time.running = true → s.mode.rstN = true →
    s.mode.bootFailed = false →
    k = s.mode.fwNext.getD (s.rd R.fw_FW_ACTIVE) → (if k = 0 then a else b) = true ∨ (if 1 - k = 0 then a else b) = true →
    u = (s.putMode { s.mode with coresRun := true, fwNext := none }).wr R.fw_FW_ACTIVE (if (if k = 0 then a else b) = true then k else 1 - k) →
    s.newestCopy = some c → exec (.bootImageVerified a b) s = .next ((u.loadCopy c).coldHardware.enterCalibrate)) ∧
  (∀ (s u : State) (a b : Bool) (k : Nat), s.mode.base = .boot → s.time.running = true → s.mode.rstN = true →
    s.mode.bootFailed = false →
    k = s.mode.fwNext.getD (s.rd R.fw_FW_ACTIVE) → (if k = 0 then a else b) = true ∨ (if 1 - k = 0 then a else b) = true →
    u = (s.putMode { s.mode with coresRun := true, fwNext := none }).wr R.fw_FW_ACTIVE (if (if k = 0 then a else b) = true then k else 1 - k) →
    s.newestCopy = none → s.mram.copyA.seq ≠ 0 ∨ s.mram.copyB.seq ≠ 0 →
    ∃ t, exec (.bootImageVerified a b) s = .next t ∧ t.mode.base = .safe ∧ t.mode.coresRun = true ∧ t.rd R.mo_SAFE_CAUSE = 0x7132
      ∧ t.mram = s.mram) ∧
  (∀ (s : State) (a b : Bool), s.mode.base ≠ .boot ∨ s.time.running = false ∨ s.mode.rstN = false ∨ s.mode.bootFailed = true →
    exec (.bootImageVerified a b) s = .next s) ∧
  (∀ (s : State), s.mode.rstN = false →
    exec .rstNRelease s = .next (s.putMode { s.mode with
      rstN := true,
      jtag := if s.mode.jtag = .extest ∨ s.mode.jtag = .otherDriving then .bypass else s.mode.jtag }).beginBoot) ∧
  (∀ (s n : State), n = s.restart 2 → exec .rstNLow s = .next { n with mode := { n.mode with rstN := false } }) ∧
  (∀ (s : State) (c : Nat), c ∈ s.amp.legal → ∃ t, exec .rstNLow s = .next t ∧ t.rd (R.ch_LEGAL c) = 1 ∧ t.amp.legal = s.amp.legal
      ∧ t.amp.key = s.amp.key) ∧
  (∀ (s n : State) (b : Bool), n = (if b = true then s.ampPowerLoss else s).restart 3 →
    exec (.brownOut b) s = .next { n with mode := { n.mode with pgood := false, brownedOut := true } }) ∧
  (∀ (s n : State), n = (if s.mode.brownedOut = true then s else s.ampPowerLoss).restart (if s.mode.brownedOut = true then 3 else 1) →
    exec .vinPowerOn s = .next ({ n with mode := { n.mode with pgood := false } }.beginBoot))

/-- R321, R323, R328, R329: Calibrate is over when every powered bank is ready or in fault and every lane of a bundle
has trained; then Acquire begins and the streams start. Dormant is reached when every bank is gated and no CONSUMER 1
queue holds a frame: the Breimlink lanes go idle and DRAM goes to self-refresh. WAKE, and hub time at WAKE_AT, end
Dormant and bring the hub to Calibrate. That a bank in fault counts as done is the model's choice (log entry 40). -/
def Obligations.CalibrateDormantWake : Prop :=
  (∀ (s : State), s.mode.base = .calibrate → s.allCalibrated = true → s.mode.started = true → s.rd R.mo_LAST_START ≠ 0 →
    s.enabledPaths = [] → (∀ q, q < 32 * s.part.fronts → s.rd (R.qd_EXC_MODE q) = 0) →
    ∃ t, exec .calibrateDone s = .next t ∧ t.mode = { s.mode with base := .acquire }
      ∧ Sets s t [(R.mo_MODE_SINCE, s.now96)] ∧ Keeps s t [.regs, .mode]) ∧
  (∀ (s : State) (p : Nat), s.mode.base = .calibrate → s.allCalibrated = true → s.mode.started = true → s.rd R.mo_LAST_START ≠ 0 →
    s.enabledPaths = [p] → (s.path p).live = false → (∀ q, q < 32 * s.part.fronts → s.rd (R.qd_EXC_MODE q) = 0) →
    ∃ t, exec .calibrateDone s = .next t ∧ t.mode = { s.mode with base := .acquire } ∧ (t.path p).live = true
      ∧ (t.path p).fr = s.pathFrame p ∧ Sets s t [(R.mo_MODE_SINCE, s.now96), (R.pa_PATH_STATE p, 1), (R.pa_FADE_AT p, 0)]
      ∧ Keeps s t [.regs, .mode, .paths]) ∧
  (∀ (s : State), s.mode.base = .calibrate → s.allCalibrated = true →
    ∃ t, exec .calibrateDone s = .next t ∧ t.mode.base = .acquire ∧ t.mode.started = true) ∧
  (∀ (s : State), s.mode.base = .calibrate → s.allCalibrated = false → exec .calibrateDone s = .next s) ∧
  (∀ (s : State), s.mode.base = .acquire → s.mode.dormantPending = true →
    (∀ b, b < 4 * s.part.fronts → s.rd (R.bk_BANK_STATE b) = 0) →
    (∀ q, q ∈ s.queueIds → s.rd (R.qu_CONSUMER q) = 1 → (s.queue q).frames = []) → (s.source 1).qualified = false →
    ∃ t, exec .dormantLanesIdle s = .next t ∧ t.mode = { s.mode with base := .dormant, dormantPending := false }
      ∧ t.rd R.mo_MODE_SINCE = s.now96 ∧ (∀ l, l ∈ s.blLanes → Out.laneIdle l ∈ t.out)
      ∧ (∀ l, l ∈ s.blLanes → (t.lane l).idle = true ∧ (t.lane l).txIdle = true ∧ t.rd (R.ln_LANE_STATE l) = 1)
      ∧ (∀ c, c < s.part.drams → s.rd (R.dc_CH_STATE c) = 2 →
          t.rd (R.dc_CH_STATE c) = 3 ∧ t.rd (R.dc_SR_ENTRIES c) = s.counted (R.dc_SR_ENTRIES c) 1)
      ∧ Keeps s t [.regs, .lanes, .mode, .out]) ∧
  (∀ (s : State), s.mode.base = .dormant →
    ∃ t, exec .wakePin s = .next t ∧ t.mode = { s.mode with base := .calibrate } ∧ t.rd R.mo_LAST_WAKE = 1
      ∧ t.rd R.mo_MODE_SINCE = s.now96 ∧ (s.frozen = false → ∀ c, c < s.part.drams → t.rd (R.dc_CH_STATE c) ≠ 3)
      ∧ (∀ l, l ∈ s.blLanes → (t.lane l).txIdle = false)) ∧
  (∀ (s : State), s.mode.base ≠ .dormant → exec .wakePin s = .next s) ∧
  (∀ (s : State), s.mode.base = .dormant → s.rd R.mo_WAKE_AT ≠ 0 → t64Past (s.rd R.mo_WAKE_AT) s.time.ticks = true →
    ∃ t, exec .wakeAt s = .next t ∧ t.mode = { s.mode with base := .calibrate } ∧ t.rd R.mo_LAST_WAKE = 3
      ∧ t.rd R.mo_MODE_SINCE = s.now96) ∧
  (∀ (s u : State), s.mode.base = .calibrate → s.allCalibrated = true → s.mode.started = true → s.rd R.mo_LAST_START ≠ 0 →
    u = s.setBase .acquire →
    exec .calibrateDone s = .next (u.putMode { u.mode with started := true }).resumeStreams) ∧
  (∀ (s u : State), s.mode.base = .calibrate → s.allCalibrated = true → s.mode.started = false → s.rd R.mo_LAST_START ≠ 0 →
    u = (s.setBase .acquire).putMode { (s.setBase .acquire).mode with started := true } → u.startConfig.rd R.mo_LAST_START ≠ 0 →
    exec .calibrateDone s = .next u.startConfig) ∧
  (∀ (s : State), s.mode.base = .acquire → s.mode.dormantPending = true →
    (∀ b, b < 4 * s.part.fronts → s.rd (R.bk_BANK_STATE b) = 0) →
    (∀ q, q ∈ s.queueIds → s.rd (R.qu_CONSUMER q) = 1 → (s.queue q).frames = []) → (s.source 1).qualified = true →
    ∃ t, exec .dormantLanesIdle s = .next t ∧ t.mode = { s.mode with base := .dormant, dormantPending := false }
      ∧ t.rd R.mo_MODE_SINCE = s.now96 ∧ (t.source 1).qualified = false ∧ (∀ l, l ∈ s.blLanes → (t.lane l).idle = true)) ∧
  (∀ (s : State) (b : Nat), s.mode.dormantPending = true → b < 4 * s.part.fronts → s.rd (R.bk_BANK_STATE b) ≠ 0 →
    exec .dormantLanesIdle s = .next s)

/-- R330, R331, R332: a die at TJ_THROTTLE is slowed by a step and each second 3 °C below gives one back; input
current at its limit slows every die, and for 100 ms enters Safe with cause 0x7135; a junction at its limit enters
Safe with cause 0x7134. -/
def Obligations.HeatAndCurrent : Prop :=
  (∀ (s : State) (d : Nat) (tj : Int), s.rdI R.th_TJ_THROTTLE 16 ≤ tj → tabGet 0 s.mode.throttle d < 7 →
    ∃ t, exec (.tjThrottleStep d tj) s = .next t
      ∧ Sets s t [(R.th_THROTTLED, putBit (s.rd R.th_THROTTLED) d true), (R.th_THROTTLE_EVENTS, s.counted R.th_THROTTLE_EVENTS 1)]
      ∧ t.mode = { s.mode with
          tj := (s.mode.tj.filter fun e => e.1 != d) ++ [(d, tj)],
          throttle := tabPut 0 d (tabGet 0 s.mode.throttle d + 1) s.mode.throttle,
          hotAt := tabPut 0 d s.time.edge s.mode.hotAt }
      ∧ Keeps s t [.regs, .mode]) ∧
  (∀ (s : State) (d : Nat) (tj : Int), tj ≤ s.rdI R.th_TJ_THROTTLE 16 - 30 → tabGet 0 s.mode.throttle d = 1 →
    d ∉ s.mode.ageSlow → edgesPerSec ≤ s.time.edge - tabGet 0 s.mode.hotAt d →
    ∃ t, exec (.throttleRestore d tj) s = .next t
      ∧ Sets s t [(R.th_THROTTLED, putBit (s.rd R.th_THROTTLED) d false)] ∧ tabGet 0 t.mode.throttle d = 0
      ∧ Keeps s t [.regs, .mode]) ∧
  (∀ (s : State) (d k : Nat) (tj : Int), tj ≤ s.rdI R.th_TJ_THROTTLE 16 - 30 → tabGet 0 s.mode.throttle d = k + 2 →
    edgesPerSec ≤ s.time.edge - tabGet 0 s.mode.hotAt d →
    ∃ t, exec (.throttleRestore d tj) s = .next t ∧ t.regs = s.regs ∧ tabGet 0 t.mode.throttle d = k + 1
      ∧ Keeps s t [.mode]) ∧
  (∀ (s : State),
    ∃ t, exec .vinCurrentLimit s = .next t ∧ t.mode.currentLimit = true
      ∧ (∀ d, d < s.part.dies → tabGet 0 t.mode.throttle d = (if tabGet 0 s.mode.throttle d < 7 then
          tabGet 0 s.mode.throttle d + 1 else tabGet 0 s.mode.throttle d))
      ∧ RegsBut s t [R.th_THROTTLED, R.th_THROTTLE_EVENTS] ∧ Keeps s t [.regs, .mode]) ∧
  (∀ (s : State), s.mode.currentLimit = true → edgesPerSec ≤ 10 * (s.time.edge - s.mode.limitAt) → s.mode.base ≠ .boot →
    s.mode.base ≠ .safe →
    ∃ t, exec .vinCurrentSustained s = .next t ∧ t.mode = { s.mode with base := .safe, dormantPending := false }
      ∧ t.rd R.mo_SAFE_CAUSE = 0x7135 ∧ t.rd R.mo_MODE_SINCE = s.now96 ∧ Out.raised 0x7135 0 ∈ t.out
      ∧ (∀ q, q < 32 * s.part.fronts → (t.quad q).driverOn = false)) ∧
  (∀ (s : State) (d n : Nat) (tj : Int), 1150 ≤ tj → s.mode.base ≠ .boot → s.mode.base ≠ .safe →
    ∃ t, exec (.tjLimit d tj false) s = .next t ∧ t.mode.base = .safe ∧ t.rd R.mo_SAFE_CAUSE = 0x7134 ∧ t.biasOut n = 0
      ∧ t.rd R.mo_MODE_SINCE = s.now96 ∧ Out.raised 0x7134 0 ∈ t.out
      ∧ (∀ q, q < 32 * s.part.fronts → (t.quad q).driverOn = false)) ∧
  (∀ (s : State) (d : Nat) (tj : Int), 1100 ≤ tj → s.mode.base ≠ .boot → s.mode.base ≠ .safe →
    ∃ t, exec (.tjLimit d tj true) s = .next t ∧ t.mode.base = .safe ∧ t.rd R.mo_SAFE_CAUSE = 0x7134) ∧
  (∀ (s : State) (d : Nat) (tj : Int), tj < 1100 →
    exec (.tjLimit d tj true) s = .next (s.setTj d tj)) ∧
  (∀ (s : State) (d : Nat) (tj : Int), s.rdI R.th_TJ_THROTTLE 16 ≤ tj → exec (.tjThrottleStep d tj) s = .next ((s.setTj d tj).throttleStep d)) ∧
  (∀ (s : State) (d : Nat) (tj : Int), tj < s.rdI R.th_TJ_THROTTLE 16 → exec (.tjThrottleStep d tj) s = .next (s.setTj d tj)) ∧
  (∀ (s : State) (d : Nat) (tj : Int), s.rdI R.th_TJ_THROTTLE 16 - 30 < tj ∨ tabGet 0 s.mode.throttle d = 0 ∨
      s.time.edge - tabGet 0 s.mode.hotAt d < edgesPerSec →
    exec (.throttleRestore d tj) s = .next (s.setTj d tj)) ∧
  (∀ (s : State), s.mode.currentLimit = true → edgesPerSec ≤ 10 * (s.time.edge - s.mode.limitAt) →
    exec .vinCurrentSustained s = .next (s.safeFor 0x7135)) ∧
  (∀ (s : State), s.mode.currentLimit = false ∨ 10 * (s.time.edge - s.mode.limitAt) < edgesPerSec →
    exec .vinCurrentSustained s = .next s) ∧
  (∀ (s : State) (d : Nat) (tj : Int) (b : Bool), 1150 ≤ tj ∨ (1100 ≤ tj ∧ b = true) →
    exec (.tjLimit d tj b) s = .next ((s.setTj d tj).safeFor 0x7134))

/-- R327, R386, R392: FW_ACTIVATE 1 on a verified image starts the handover, core by core, and FW_ACTIVATE 2 names the
slot for the next start; after the last core the slot is the active one, and a core that fails keeps the old image.
VDDQ out of range leaves every controller that waits to train out of service. An instruction of the test port that
drives balls is loaded only under RST_N with the Ampoule unsealed. -/
def Obligations.FirmwareAndPackage : Prop :=
  (∀ (s : State) (h : Hdr), OwnerAsks s h 0x02 → s.part.fronts ≤ 7 → s.free_ R.fw_FW_ACTIVATE → s.rd R.fw_FW_STATE = 2 →
    s.cores.spareUsed = false →
    ∃ t, exec (.fwActivateNow h 0) s = .next t ∧ Served s t h 0x02 [(R.fw_FW_STATE, 3)] []
      ∧ t.mode = { s.mode with handover := some 0 } ∧ Keeps s t [.regs, .mode, .sessions, .out]) ∧
  (∀ (s : State) (h : Hdr), OwnerAsks s h 0x02 → s.part.fronts ≤ 7 → s.free_ R.fw_FW_ACTIVATE → s.rd R.fw_FW_STATE = 2 →
    ∃ t, exec (.fwActivateNextStart h 0) s = .next t ∧ Served s t h 0x02 [] []
      ∧ t.mode = { s.mode with fwNext := some (1 - s.rd R.fw_FW_ACTIVE) } ∧ Keeps s t [.regs, .mode, .sessions, .out]) ∧
  (∀ (s : State) (h : Hdr), OwnerAsks s h 0x02 → s.part.fronts ≤ 7 → s.free_ R.fw_FW_ACTIVATE → s.rd R.fw_FW_STATE ≠ 2 →
    ∃ t, exec (.fwActivateNow h 0) s = .next t ∧ Refused s t h 0x02 0x2132) ∧
  (∀ (s : State) (k : Nat), s.mode.handover = some k → k < 3 → (∀ c ∈ State.clauseIds, s.rd (R.cs_CL_STATE c) ≠ 1) →
    exec (.coreHandoverDone true) s = .next (s.putMode { s.mode with handover := some (k + 1) })) ∧
  (∀ (s : State), s.mode.handover = some 3 → s.rd R.fw_FW_ACTIVE < 2 → (∀ c ∈ State.clauseIds, s.rd (R.cs_CL_STATE c) ≠ 1) →
    ∃ t, exec (.coreHandoverDone true) s = .next t ∧ t.mode = { s.mode with handover := none } ∧ t.rd R.fw_FW_STATE = 0
      ∧ t.rd R.fw_FW_ACTIVE = 1 - s.rd R.fw_FW_ACTIVE ∧ RegsBut s t [R.fw_FW_STATE, R.fw_FW_ACTIVE, R.fw_FW_MIN_VERSION]
      ∧ Keeps s t [.regs, .mode]) ∧
  (∀ (s : State) (k : Nat), s.mode.handover = some k →
    exec (.coreHandoverDone false) s = .next (((s.putMode { s.mode with handover := none }).wr R.fw_FW_STATE 4).raise 0x7133 k)) ∧
  (∀ (s : State), s.mode.coresRun = true → s.mode.base ≠ .boot → s.mode.base ≠ .safe → s.chSetNow ≠ [] →
    edgesPerSec ≤ 10 * (s.time.edge - s.mode.trainDue) →
    (∃ c, c < s.part.drams ∧ s.rd (R.dc_CH_STATE c) = 1) →
    ∃ t, exec .vddqTimeout s = .next t ∧ t.mode.vddqOk = false ∧ t.mode.base = .safe ∧ t.rd R.mo_SAFE_CAUSE = 0x7102
      ∧ Out.raised 0x7161 0 ∈ t.out
      ∧ (∀ c, c < s.part.drams → t.rd (R.dc_CH_STATE c) = 5 ∧ t.rd (R.dc_TRAINED_RATE c) = 0)) ∧
  (∀ (s : State), s.mode.rstN = true ∨ s.amp.key ≠ none →
    ∃ t, exec (.jtagInstruction .extest) s = .next t ∧ t.mode = { s.mode with jtag := .bypass }
      ∧ Sets s t [(R.cb_JTAG_LOCK, 1)] ∧ Keeps s t [.regs, .mode]) ∧
  (∀ (s : State), s.mode.rstN = false → s.amp.key = none →
    exec (.jtagInstruction .extest) s = .next (s.putMode { s.mode with jtag := .extest })) ∧
  (∀ (s : State) (i : JtagInstr), i = .idcode ∨ i = .bypass ∨ i = .samplePreload →
    exec (.jtagInstruction i) s = .next (s.putMode { s.mode with jtag := i })) ∧
  (∀ (s : State) (h : Hdr), OwnerAsks s h 0x02 → s.part.fronts ≤ 7 → s.free_ R.fw_FW_ACTIVATE → s.rd R.fw_FW_STATE = 2 →
    s.cores.spareUsed = true → ∃ t, exec (.fwActivateNow h 0) s = .next t ∧ Refused s t h 0x02 0x4131) ∧
  (∀ (s : State) (k : Nat), s.mode.handover = some k → k < 3 →
    exec (.coreHandoverDone true) s = .next (s.extendLeases.putMode { s.extendLeases.mode with handover := some (k + 1) })) ∧
  (∀ (s : State) (c : Nat), s.mode.handover = some 3 → s.rd R.fw_FW_ACTIVE < 2 → c ∈ State.clauseIds → s.rd (R.cs_CL_STATE c) = 1 →
    ∃ t, exec (.coreHandoverDone true) s = .next t ∧ t.mode.handover = none ∧ t.rd R.fw_FW_STATE = 0
      ∧ t.rd R.fw_FW_ACTIVE = 1 - s.rd R.fw_FW_ACTIVE
      ∧ t.rd (R.cs_LEASE_END c) = t96OfTicks (ticksOfT96 (s.rd (R.cs_LEASE_END c)) + 50000000 * ticksPerNs)) ∧
  (∀ (s : State) (a : Bool), s.mode.handover = none → exec (.coreHandoverDone a) s = .next s) ∧
  (∀ (s : State), s.mode.coresRun = true → s.chSetNow = [] → edgesPerSec ≤ 10 * (s.time.edge - s.mode.trainDue) →
    (∃ c, c < s.part.drams ∧ s.rd (R.dc_CH_STATE c) = 1) →
    ∃ t, exec .vddqTimeout s = .next t ∧ t.mode = { s.mode with vddqOk := false }
      ∧ t.out = s.out ++ [.raised 0x7161 0] ∧ (∀ c, c < s.part.drams → t.rd (R.dc_CH_STATE c) = 5 ∧ t.rd (R.dc_TRAINED_RATE c) = 0)
      ∧ Keeps s t [.regs, .mode, .out]) ∧
  (∀ (s : State), s.mode.rstN = true ∨ s.amp.key ≠ none →
    exec (.jtagInstruction .otherDriving) s = .next ((s.putMode { s.mode with jtag := .bypass }).wr R.cb_JTAG_LOCK 1)) ∧
  (∀ (s : State), s.mode.rstN = false → s.amp.key = none →
    exec (.jtagInstruction .otherDriving) s = .next (s.putMode { s.mode with jtag := .otherDriving }))

/-- R359, R365, R366, R368, R369: SEAL with every condition met freezes the legal set and, when sealing is done, the
Ampoule holds a key of its own, PUBKEY and KEY_ID name it and the change is in the trail; without a closed loop it is
refused with 0x3151. UNSEAL with the loop open counts an event and, when done, no key is left and no channel is
frozen. R364, R367: LOOP follows the seal loop once three readings in a row agree; an opening while sealed is a notice
in the trail, and the span that begins is kept open. Keys and signatures are free values (log entry 7). -/
def Obligations.Sealing : Prop :=
  (∀ (s : State) (h : Hdr), OwnerAsks s h 0x02 → s.part.fronts ≤ 7 → s.part.amp = true → s.free_ R.am_SEAL →
    s.legalSet.eraseDups.length = s.legalSet.length → (∀ n ∈ s.legalSet, n < s.part.channels) → s.rd R.am_AMP_STATE = 1 →
    s.rd R.am_LOOP = 1 → 10 ≤ s.amp.loopSince → s.rd R.ap_PROG_STATE = 3 → s.legalSet ≠ [] →
    (∀ n ∈ s.legalSet, ∃ p ∈ s.pathsFrom s.legalSet, s.rd (R.pa_SOURCE p) = n ∧ s.rd (R.pa_ENABLE p) ≠ 0
      ∧ s.rd (R.pa_SEAL p) ≠ 0) → s.sealBlocked s.legalSet = false →
    s.legalRate (s.pathsFrom s.legalSet) ≤ 2000000 * 65536 → s.rd R.am_EVENT_COUNT ≠ 0xFFFFFFFF → s.rd R.au_CHANGES_LEFT ≠ 0 →
    ∃ t, exec (.seal h 0 [1#8]) s = .next t
      ∧ Served s t h 0x02 ((R.am_AMP_STATE, 2) :: s.legalSet.map fun n => (R.ch_LEGAL n, 1)) []
      ∧ t.amp = { s.amp with legal := s.legalSet, paths := s.pathsFrom s.legalSet, sealTenant := 0 }
      ∧ Keeps s t [.regs, .amp, .sessions, .out]) ∧
  (∀ (s : State) (h : Hdr), OwnerAsks s h 0x02 → s.part.fronts ≤ 7 → s.part.amp = true → s.free_ R.am_SEAL →
    s.legalSet.eraseDups.length = s.legalSet.length → (∀ n ∈ s.legalSet, n < s.part.channels) → s.rd R.am_LOOP ≠ 1 →
    ∃ t, exec (.seal h 0 [1#8]) s = .next t ∧ Refused s t h 0x02 0x3151) ∧
  (∀ (s : State), s.rd R.am_AMP_STATE = 2 →
    ∃ t, exec .sealingDone s = .next t ∧ t.amp.key = some (Config.newKey s.freeCount) ∧ t.rd R.am_AMP_STATE = 3
      ∧ t.rd R.am_PUBKEY = Config.publicKey (Config.newKey s.freeCount) % 2 ^ 520 / 256 * 256 + 4
      ∧ t.rd R.am_KEY_ID = keyIdOf (t.rd R.am_PUBKEY)
      ∧ t.rd R.am_LEGAL_CHECKSUM = legalChecksum (s.rdDom R.ap_PROG_IMAGE) (s.rdDom R.ap_PARAMS)
      ∧ t.amp.changes.length = s.amp.changes.length + 1 ∧ t.rd R.au_CHANGES_LEFT = s.rd R.au_CHANGES_LEFT - 1
      ∧ t.amp.legal = s.amp.legal ∧ t.amp.nextRnum = 1 ∧ t.rd R.mo_CONFIG_SEQ = s.configSeq + 1) ∧
  (∀ (s : State) (h : Hdr), OwnerAsks s h 0x02 → s.part.fronts ≤ 7 → s.part.amp = true → s.free_ R.am_UNSEAL →
    s.rd R.am_AMP_STATE = 3 → s.rd R.am_LOOP = 0 → 10 ≤ s.amp.loopSince → s.rd R.au_CHANGES_LEFT ≠ 0 →
    s.rd R.am_EVENT_COUNT < 0xFFFFFFFF →
    ∃ t, exec (.unseal h 0 [1#8]) s = .next t ∧ t.rd R.am_AMP_STATE = 4 ∧ t.rd R.am_EVENT_COUNT = s.rd R.am_EVENT_COUNT + 1
      ∧ t.rd R.au_CHANGES_LEFT = s.rd R.au_CHANGES_LEFT - 1 ∧ t.amp.changes.length = s.amp.changes.length + 1
      ∧ t.amp.key = s.amp.key ∧ t.out = s.out ++ [done h 0x02 []]
      ∧ RegsBut s t [R.am_AMP_STATE, R.am_EVENT_COUNT, R.au_CHANGES_LEFT, R.au_AUDIT_NEXT, R.se_S_LAST_RX h.session]
      ∧ Keeps s t [.regs, .amp, .sessions, .out]) ∧
  (∀ (s : State), s.rd R.am_AMP_STATE = 4 →
    ∃ t, exec .unsealingDone s = .next t
      ∧ Sets s t ([(R.am_AMP_STATE, 1), (R.am_PUBKEY, 0), (R.am_KEY_ID, 0)] ++ s.amp.legal.map fun n => (R.ch_LEGAL n, 0))
      ∧ t.amp = { s.amp with key := none, legal := [], paths := [], expect := [], window := [], suspect := [] } ∧ Keeps s t [.regs, .amp]) ∧
  (∀ (s t : State) (h : Hdr), OwnerAsks s h 0x02 → s.part.fronts ≤ 7 → s.part.amp = true → s.free_ R.am_SEAL →
    (s.touch h.session).sealAct 0 true = (0, t) → exec (.seal h 0 [1#8]) s = .next (t.answered s h 0x02 (answer 0))) ∧
  (∀ (s t : State) (h : Hdr), OwnerAsks s h 0x02 → s.part.fronts ≤ 7 → s.part.amp = true → s.free_ R.am_UNSEAL →
    (s.touch h.session).unsealAct 0 true = (0, t) → exec (.unseal h 0 [1#8]) s = .next (t.answered s h 0x02 (answer 0))) ∧
  (∀ (s : State) (h : Hdr), OwnerAsks s h 0x02 → s.part.fronts ≤ 7 → s.part.amp = true → s.free_ R.am_UNSEAL →
    s.rd R.am_AMP_STATE ≠ 3 ∨ s.rd R.am_LOOP ≠ 0 ∨ s.amp.loopSince < 10 →
    ∃ t, exec (.unseal h 0 [1#8]) s = .next t ∧ Refused s t h 0x02 0x3151) ∧
  (∀ (s : State), s.rd R.am_AMP_STATE ≠ 2 → exec .sealingDone s = .next s) ∧
  (∀ (s : State), s.rd R.am_AMP_STATE ≠ 4 → exec .unsealingDone s = .next s) ∧
  (∀ (s : State) (ohms : Nat), s.part.amp = true → 1000 < ohms → ohms < 10000 →
    exec (.sealLoopSample ohms) s = .next (s.putAmp { s.amp with loopRun := 0, loopSince := s.amp.loopSince + 1 })) ∧
  (∀ (s : State) (ohms : Nat), s.part.amp = true → ohms ≤ 1000 → s.amp.loopKind = 1 → 2 ≤ s.amp.loopRun → s.rd R.am_LOOP = 0 →
    s.amp.key = none →
    ∃ t, exec (.sealLoopSample ohms) s = .next t ∧ Sets s t [(R.am_LOOP, 1)]
      ∧ t.amp = { s.amp with loopRun := s.amp.loopRun + 1, loopSince := 0 } ∧ Keeps s t [.regs, .amp]) ∧
  (∀ (s : State) (ohms k : Nat), s.part.amp = true → 10000 ≤ ohms → s.amp.loopKind = 0 → 2 ≤ s.amp.loopRun → s.rd R.am_LOOP = 1 →
    s.amp.key = some k → s.amp.notices.length < 1024 →
    ∃ t, exec (.sealLoopSample ohms) s = .next t ∧ t.rd R.am_LOOP = 0 ∧ t.amp.openSpans = s.amp.openSpans ++ [(s.now, none)]
      ∧ t.amp.notices.length = s.amp.notices.length + 1 ∧ t.amp.changes = s.amp.changes
      ∧ t.rd R.au_AUDIT_NEXT = s.counted R.au_AUDIT_NEXT 1
      ∧ RegsBut s t [R.am_LOOP, R.au_AUDIT_NEXT, R.au_OLDEST_NOTICE] ∧ Keeps s t [.regs, .amp]) ∧
  (∀ (s : State) (ohms k n : Nat), s.part.amp = true → ohms ≤ 1000 ∨ 10000 ≤ ohms → k = (if ohms ≤ 1000 then 1 else 0) →
    n = (if s.amp.loopKind = k then s.amp.loopRun + 1 else 1) → n < 3 ∨ s.rd R.am_LOOP = k →
    exec (.sealLoopSample ohms) s = .next (s.putAmp { s.amp with loopRun := n, loopKind := k, loopSince := s.amp.loopSince + 1 })) ∧
  (∀ (s : State) (ohms : Nat), s.part.amp = true → 10000 ≤ ohms → s.amp.loopKind = 0 → 2 ≤ s.amp.loopRun → s.rd R.am_LOOP = 1 →
    s.amp.key = none →
    ∃ t, exec (.sealLoopSample ohms) s = .next t ∧ Sets s t [(R.am_LOOP, 0)]
      ∧ t.amp = { s.amp with loopRun := s.amp.loopRun + 1, loopSince := 0 } ∧ Keeps s t [.regs, .amp]) ∧
  (∀ (s : State) (ohms k : Nat), s.part.amp = true → ohms ≤ 1000 → s.amp.loopKind = 1 → 2 ≤ s.amp.loopRun → s.rd R.am_LOOP = 0 →
    s.amp.key = some k → s.amp.notices.length < 1024 →
    ∃ t, exec (.sealLoopSample ohms) s = .next t ∧ t.rd R.am_LOOP = 1
      ∧ t.amp.openSpans = s.amp.openSpans.map (fun e => if e.2.isNone then (e.1, some s.now) else e)
      ∧ t.amp.notices.length = s.amp.notices.length + 1 ∧ t.rd R.au_AUDIT_NEXT = s.counted R.au_AUDIT_NEXT 1
      ∧ RegsBut s t [R.am_LOOP, R.au_AUDIT_NEXT, R.au_OLDEST_NOTICE] ∧ Keeps s t [.regs, .amp]) ∧
  (∀ (s : State) (ohms : Nat), s.part.amp = false → exec (.sealLoopSample ohms) s = .next s)

/-- R362, R363, R369: PROG_ACTIVATE starts the verified program of an Ampoule that is not sealed, with its checksum
and a change entry; sealed it is refused with 0x6151. A block of a legal path is taken up: its words enter the window
and the next instant the path owes is known; the block that has not come LATENCY, BLOCK_MAXAGE and 100 ms after its
instant is missing, once, in the trail (R376). (LREC_COPY names no queue.) The legal program is a free function (log
entry 8). -/
def Obligations.LegalProgram : Prop :=
  (∀ (s : State) (h : Hdr), OwnerAsks s h 0x02 → s.part.fronts ≤ 7 → s.part.amp = true → s.free_ R.ap_PROG_ACTIVATE →
    s.amp.key = none → s.rd R.am_AMP_STATE ≠ 2 → s.rd R.am_EVENT_COUNT < 0xFFFFFFFF → s.rd R.au_CHANGES_LEFT ≠ 0 →
    s.rd R.ap_PROG_STATE = 2 →
    ∃ t, exec (.progActivate h 0 [1#8]) s = .next t ∧ t.rd R.ap_PROG_STATE = 3
      ∧ t.rd R.am_LEGAL_CHECKSUM = legalChecksum (s.rdDom R.ap_PROG_IMAGE) (s.rdDom R.ap_PARAMS)
      ∧ t.rdDom R.ap_PROG_ID = Config.containerId (s.rdDom R.ap_PROG_IMAGE)
      ∧ t.rd R.am_EVENT_COUNT = s.rd R.am_EVENT_COUNT + 1 ∧ t.rd R.au_CHANGES_LEFT = s.rd R.au_CHANGES_LEFT - 1
      ∧ t.amp.changes.length = s.amp.changes.length + 1 ∧ t.out = s.out ++ [done h 0x02 []]
      ∧ RegsBut s t [R.ap_PROG_STATE, R.am_LEGAL_CHECKSUM, R.am_EVENT_COUNT, R.au_CHANGES_LEFT, R.au_AUDIT_NEXT,
          R.se_S_LAST_RX h.session]
      ∧ Keeps s t [.regs, .doms, .amp, .sessions, .out]) ∧
  (∀ (s : State) (h : Hdr), OwnerAsks s h 0x02 → s.part.fronts ≤ 7 → s.part.amp = true → s.amp.key ≠ none →
    ∃ t, exec (.progActivate h 0 [1#8]) s = .next t ∧ Refused s t h 0x02 0x6151) ∧
  (∀ (s : State) (p : Nat) (block : List Nat), s.rd R.am_AMP_STATE ≠ 3 ∨ s.amp.paths.contains p = false →
    exec (.legalBlockCopy p block) s = .next s) ∧
  (∀ (s : State) (p bseq count first : Nat), s.rd R.am_AMP_STATE = 3 → s.amp.paths.contains p = true → p < 4096 →
    bseq < 65535 → 1 ≤ count → count < 2048 → first < 2 ^ 64 → tabGet none s.amp.expect p = some (bseq, first) →
    s.rd (R.pa_OUT_PERIOD p) ≠ 0 → 8192 ≤ s.rd R.lr_LREC_COPY → ticksOfT96 (t96OfTicks first) = first →
    ∃ t, exec (.legalBlockCopy p (lehrBlock p bseq 0 first 0 false false true (List.replicate count 0))) s = .next t
      ∧ t.amp.expect = tabPut none p (some (bseq + 1, first + count * s.rd (R.pa_OUT_PERIOD p))) s.amp.expect
      ∧ t.amp.missing = s.amp.missing ∧ RegsBut s t [R.lr_LREC_LOST] ∧ Keeps s t [.regs, .amp, .freeCount]) ∧
  (∀ (s : State) (p k n b first : Nat), s.amp.key = some k → s.amp.paths.contains p = true →
    tabGet none s.amp.expect p = some (b, first) → 1 ≤ s.rd (R.pa_OUT_PERIOD p) → s.blockDeadline p first ≤ s.time.ticks →
    n = (s.time.ticks - s.blockDeadline p first) / s.rd (R.pa_OUT_PERIOD p) + 1 → s.amp.notices.length < 1024 →
    ∃ t, exec (.legalMissingTimeout p) s = .next t
      ∧ t.amp.missing = s.amp.missing ++ [(p, first, first + (n - 1) * s.rd (R.pa_OUT_PERIOD p))]
      ∧ t.amp.expect = tabPut none p (some (b, first + n * s.rd (R.pa_OUT_PERIOD p))) s.amp.expect
      ∧ t.amp.notices.length = s.amp.notices.length + 1 ∧ t.rd R.au_AUDIT_NEXT = s.counted R.au_AUDIT_NEXT 1
      ∧ RegsBut s t [R.au_AUDIT_NEXT, R.au_OLDEST_NOTICE] ∧ Keeps s t [.regs, .amp]) ∧
  (∀ (s : State) (p count first : Nat) (block : List Nat), s.rd R.am_AMP_STATE = 3 → s.amp.paths.contains p = true →
    count = field (block.getD 1 0) 31 21 → first = ticksOfT96 (block.getD 2 0 + block.getD 3 0 * 2 ^ 32 + block.getD 4 0 * 2 ^ 64) →
    0 < count →
    ∃ t, exec (.legalBlockCopy p block) s = .next t ∧ t.amp.paths = s.amp.paths
      ∧ t.amp.expect = tabPut none p (some (field (block.getD 0 0) 15 0 + 1, first + count * max 1 (s.pathFrame p).period)) s.amp.expect) ∧
  (∀ (s : State) (p count first b from_ : Nat) (block : List Nat), s.rd R.am_AMP_STATE = 3 → s.amp.paths.contains p = true →
    count = field (block.getD 1 0) 31 21 → first = ticksOfT96 (block.getD 2 0 + block.getD 3 0 * 2 ^ 32 + block.getD 4 0 * 2 ^ 64) →
    0 < count → tabGet none s.amp.expect p = some (b, from_) → from_ < first →
    ∃ t, exec (.legalBlockCopy p block) s = .next t
      ∧ t.amp.missing = s.amp.missing ++ [(p, from_, first - max 1 (s.pathFrame p).period)]) ∧
  (∀ (s : State) (p count first : Nat) (block : List Nat), s.rd R.am_AMP_STATE = 3 → s.amp.paths.contains p = true →
    count = field (block.getD 1 0) 31 21 → first = ticksOfT96 (block.getD 2 0 + block.getD 3 0 * 2 ^ 32 + block.getD 4 0 * 2 ^ 64) →
    count = 0 →
    ∃ t, exec (.legalBlockCopy p block) s = .next t ∧ t.amp.expect = tabPut none p (tabGet none s.amp.expect p) s.amp.expect
      ∧ t.amp.missing = s.amp.missing) ∧
  (∀ (s : State) (p n b first period : Nat), s.amp.key ≠ none → s.amp.paths.contains p = true →
    tabGet none s.amp.expect p = some (b, first) → period = max 1 (s.pathFrame p).period → s.blockDeadline p first ≤ s.time.ticks →
    n = (s.time.ticks - s.blockDeadline p first) / period + 1 →
    ∃ t, exec (.legalMissingTimeout p) s = .next t
      ∧ t.amp.missing = s.amp.missing ++ [(p, first, first + (n - 1) * period)]
      ∧ t.amp.expect = tabPut none p (some (b, first + n * period)) s.amp.expect ∧ Keeps s t [.regs, .amp]) ∧
  (∀ (s : State) (p b first : Nat), tabGet none s.amp.expect p = some (b, first) → s.time.ticks < s.blockDeadline p first →
    exec (.legalMissingTimeout p) s = .next s) ∧
  (∀ (s t : State) (h : Hdr), OwnerAsks s h 0x02 → s.part.fronts ≤ 7 → s.part.amp = true →
    s.amp.key = none → s.rd R.am_AMP_STATE ≠ 2 → s.free_ R.ap_PROG_ACTIVATE →
    (s.touch h.session).progActivateAct 0 true = (0, t) → exec (.progActivate h 0 [1#8]) s = .next (t.answered s h 0x02 (answer 0)))

/-- R357, R370, R371, R372, R375, R377, R378: the Ampoule takes hub time for its entries, writes each notice to the
trail and keeps a suspect die until it is calibrated again; a watchdog miss restarts it, the fourth within an hour
holds it in fault until AMP_RESTART; AUDIT_SEL selects a held entry for the session, and LREC_POP by the tenant
removes the head record it names. -/
def Obligations.AmpouleRuns : Prop :=
  (∀ (s : State), exec .ampTimeUpdate s = .next (s.putAmp { s.amp with now := s.time.ticks })) ∧
  (∀ (s : State) (d : Nat), s.part.amp = true → d ∉ s.amp.suspect → s.amp.notices.length < 1024 →
    ∃ t, exec (.legalNotice (.refSuspect d)) s = .next t ∧ t.amp.suspect = s.amp.suspect ++ [d]
      ∧ t.amp.notices.length = s.amp.notices.length + 1 ∧ t.rd R.au_AUDIT_NEXT = s.counted R.au_AUDIT_NEXT 1
      ∧ RegsBut s t [R.au_AUDIT_NEXT, R.au_OLDEST_NOTICE] ∧ Keeps s t [.regs, .amp]) ∧
  (∀ (s : State) (d uv : Nat), s.part.amp = true →
    ∃ t, exec (.legalNotice (.recalibrated d uv)) s = .next t ∧ t.amp.suspect = s.amp.suspect.filter (· != d)
      ∧ RegsBut s t [R.au_AUDIT_NEXT, R.au_OLDEST_NOTICE, R.au_NOTICES_LOST] ∧ Keeps s t [.regs, .amp]) ∧
  (∀ (s : State) (at_ : Nat), s.part.amp = true → 1024 ≤ s.amp.notices.length →
    ∃ t, exec (.legalNotice (.timeSet 5 at_)) s = .next t ∧ t.amp.notices.length = s.amp.notices.length
      ∧ t.rd R.au_NOTICES_LOST = s.counted R.au_NOTICES_LOST 1 ∧ t.amp.suspect = s.amp.suspect
      ∧ RegsBut s t [R.au_AUDIT_NEXT, R.au_OLDEST_NOTICE, R.au_NOTICES_LOST] ∧ Keeps s t [.regs, .amp]) ∧
  (∀ (s : State), s.part.amp = true → s.rd R.am_AMP_STATE ≠ 5 →
    (s.amp.restarts.filter fun x => s.time.edge < x + 3600 * edgesPerSec).length < 3 →
    ∃ t, exec .ampWatchdogMiss s = .next t ∧ Sets s t [(R.am_AMP_STATE, 5)]
      ∧ t.amp = { s.amp with
          restarts := (s.amp.restarts.filter fun x => s.time.edge < x + 3600 * edgesPerSec) ++ [s.time.edge],
          outageFrom := some s.time.ticks }
      ∧ Keeps s t [.regs, .amp]) ∧
  (∀ (s : State), s.part.amp = true → s.rd R.am_AMP_STATE ≠ 5 →
    3 ≤ (s.amp.restarts.filter fun x => s.time.edge < x + 3600 * edgesPerSec).length →
    ∃ t, exec .ampWatchdogMiss s = .next t ∧ Sets s t [(R.am_AMP_STATE, 5)] ∧ t.amp.held = true
      ∧ t.out = s.out ++ [.raised 0x7151 0] ∧ Keeps s t [.regs, .amp, .out]) ∧
  (∀ (s : State) (h : Hdr), OwnerAsks s h 0x02 → s.part.fronts ≤ 7 → s.part.amp = true → s.free_ R.am_AMP_RESTART →
    ∃ t, exec (.ampRestart h 0 [1#8]) s = .next t ∧ Served s t h 0x02 [] []
      ∧ t.amp = { s.amp with held := false, restarts := [] } ∧ Keeps s t [.regs, .amp, .sessions, .out]) ∧
  (∀ (s : State), s.rd R.am_AMP_STATE = 5 → s.amp.held = false → s.amp.key = none →
    ∃ t, exec .ampouleRestartComplete s = .next t ∧ Sets s t [(R.am_AMP_STATE, 1)] ∧ t.amp.outageFrom = none
      ∧ Keeps s t [.regs, .amp]) ∧
  (∀ (s : State) (k f : Nat), s.rd R.am_AMP_STATE = 5 → s.amp.held = false → s.amp.key = some k → s.amp.outageFrom = some f →
    s.amp.notices.length < 1024 →
    ∃ t, exec .ampouleRestartComplete s = .next t ∧ t.rd R.am_AMP_STATE = 3 ∧ t.amp.key = some k
      ∧ t.amp.missing = s.amp.missing ++ s.amp.paths.map (fun p => (p, f, s.now))
      ∧ t.amp.nextRnum = max s.amp.nextRnum s.amp.reserved ∧ t.amp.notices.length = s.amp.notices.length + 1
      ∧ RegsBut s t [R.am_AMP_STATE, R.au_AUDIT_NEXT, R.au_OLDEST_NOTICE] ∧ Keeps s t [.regs, .amp]) ∧
  (∀ (s : State), s.amp.held = true → exec .ampouleRestartComplete s = .next s) ∧
  (∀ (s : State) (h : Hdr) (eno : Nat), OwnerAsks s h 0x02 → s.part.fronts ≤ 7 → s.free_ R.au_AUDIT_SEL → eno < 2 ^ 32 →
    (s.auditHeld eno).isSome = true →
    ∃ t, exec (.auditSel h 0 (natLE 4 eno)) s = .next t ∧ Served s t h 0x02 [] [] ∧ (t.session h.session).auditSel = eno
      ∧ Keeps s t [.regs, .sessions, .out]) ∧
  (∀ (s : State) (h : Hdr) (eno : Nat), OwnerAsks s h 0x02 → s.part.fronts ≤ 7 → s.free_ R.au_AUDIT_SEL → eno < 2 ^ 32 →
    s.auditHeld eno = none →
    ∃ t, exec (.auditSel h 0 (natLE 4 eno)) s = .next t ∧ Refused s t h 0x02 0x2153) ∧
  (∀ (s : State) (h : Hdr) (x : LegalRec) (rest : List LegalRec), OwnerAsks s h 0x02 → s.part.fronts ≤ 7 → s.part.amp = true →
    s.free_ R.lr_LREC_POP → s.rd R.lr_LREC_TENANT = 0 → s.amp.queue = x :: rest → x.rnum < 2 ^ 32 →
    ∃ t, exec (.lrecPop h 0 (natLE 4 x.rnum)) s = .next t ∧ Served s t h 0x02 [] []
      ∧ t.amp = { s.amp with queue := rest } ∧ Keeps s t [.regs, .amp, .sessions, .out]) ∧
  (∀ (s : State) (h : Hdr) (n : Nat), OwnerAsks s h 0x02 → s.part.fronts ≤ 7 → s.part.amp = true → s.free_ R.lr_LREC_POP →
    s.rd R.lr_LREC_TENANT = 0 → s.amp.queue = [] → n < 2 ^ 32 →
    ∃ t, exec (.lrecPop h 0 (natLE 4 n)) s = .next t ∧ Refused s t h 0x02 0x3152) ∧
  (∀ (s : State) (n : Notice), s.part.amp = true → (∀ d, n ≠ .refSuspect d) → (∀ d uv, n ≠ .recalibrated d uv) →
    (∀ c k, n ≠ .substitution c k) → exec (.legalNotice n) s = .next (s.noticeEntry n)) ∧
  (∀ (s : State) (d : Nat), s.part.amp = true → d ∈ (s.noticeEntry (.refSuspect d)).amp.suspect →
    exec (.legalNotice (.refSuspect d)) s = .next (s.noticeEntry (.refSuspect d))) ∧
  (∀ (s u : State) (c k : Nat), s.part.amp = true → u = s.noticeEntry (.substitution c k) →
    ∃ t, exec (.legalNotice (.substitution c k)) s = .next t ∧ t.regs = u.regs ∧ t.amp.notices = u.amp.notices
      ∧ t.amp.window = u.amp.window ++ (u.amp.paths.filter fun p => u.rd (R.pa_SOURCE p) == c).map (fun p =>
          ⟨p, u.amp.now, { Marks.none with substituted := true }, false, false⟩)) ∧
  (∀ (s : State), s.part.amp = false ∨ s.rd R.am_AMP_STATE = 5 → exec .ampWatchdogMiss s = .next s) ∧
  (∀ (s : State), s.rd R.am_AMP_STATE ≠ 5 → exec .ampouleRestartComplete s = .next s) ∧
  (∀ (s : State) (from_ : Nat), s.rd R.am_AMP_STATE = 5 → s.amp.held = false → from_ = s.amp.outageFrom.getD s.now →
    exec .ampouleRestartComplete s = .next (((s.putAmp { s.amp with
      missing := s.amp.missing ++ s.amp.paths.map fun p => (p, from_, s.now), outageFrom := none }).wr R.am_AMP_STATE
      (if s.amp.key.isSome then 3 else 1)).ampRestarts 2)) ∧
  (∀ (s : State) (h : Hdr) (n : Nat), OwnerAsks s h 0x02 → s.part.fronts ≤ 7 → s.part.amp = true → s.free_ R.lr_LREC_POP →
    s.rd R.lr_LREC_TENANT ≠ 0 → n < 2 ^ 32 → ∃ t, exec (.lrecPop h 0 (natLE 4 n)) s = .next t ∧ Refused s t h 0x02 0x1151) ∧
  (∀ (s : State) (h : Hdr) (x : LegalRec) (rest : List LegalRec) (n : Nat), OwnerAsks s h 0x02 → s.part.fronts ≤ 7 →
    s.part.amp = true → s.free_ R.lr_LREC_POP → s.rd R.lr_LREC_TENANT = 0 → s.amp.queue = x :: rest → x.rnum ≠ n → n < 2 ^ 32 →
    ∃ t, exec (.lrecPop h 0 (natLE 4 n)) s = .next t ∧ Refused s t h 0x02 0x3152)
end

