-- ==== Sys2Proof/Laws/Bits.lean ====
section
/-! SUPPORT. Bits of a number: a bit reads as set, every other bit as before. -/

namespace Sys2Proof.Machine

theorem bitAt_eq_testBit (v i : Nat) : bitAt v i = v.testBit i := by
  simp only [bitAt, Nat.testBit_eq_decide_div_mod_eq]
  by_cases h : v / 2 ^ i % 2 = 1 <;> simp [h]

theorem testBit_add_two_pow (v i j : Nat) (h : v.testBit i = false) :
    (v + 2 ^ i).testBit j = if j = i then true else v.testBit j := by
  have hv : v = 2 ^ i * (v / 2 ^ i) + v % 2 ^ i := (Nat.div_add_mod v _).symm
  have hr : v % 2 ^ i < 2 ^ i := Nat.mod_lt _ (Nat.two_pow_pos i)
  have hq : v / 2 ^ i % 2 = 0 := by
    rw [Nat.testBit_eq_decide_div_mod_eq] at h
    have := of_decide_eq_false h
    omega
  generalize v / 2 ^ i = q at *
  generalize v % 2 ^ i = r at *
  have hs : v + 2 ^ i = 2 ^ i * (q + 1) + r := by rw [hv]; ring
  rw [hs, hv, Nat.testBit_two_pow_mul_add _ hr, Nat.testBit_two_pow_mul_add _ hr]
  rcases Nat.lt_trichotomy j i with hj | hj | hj
  · simp [hj, Nat.ne_of_lt hj]
  · subst hj; simp [Nat.testBit_zero]; omega
  · have h1 : ¬ j < i := by omega
    have h2 : ¬ j = i := by omega
    obtain ⟨k, hk⟩ : ∃ k, j - i = k + 1 := ⟨j - i - 1, by omega⟩
    simp only [h1, h2, if_false, hk, Nat.testBit_succ]
    congr 1; omega

/-- A bit put reads as put, and leaves every other bit. -/
theorem bitAt_putBit (v i j : Nat) (b : Bool) : bitAt (putBit v i b) j = if j = i then b else bitAt v j := by
  unfold putBit
  by_cases h : bitAt v i = b
  · rw [if_pos h]; split
    · next hj => rw [hj, h]
    · rfl
  · rw [if_neg h]
    cases b
    · have h1 : v.testBit i = true := by rw [← bitAt_eq_testBit]; simpa using h
      have hw : (v ^^^ 2 ^ i).testBit i = false := by simp [Nat.testBit_xor, h1]
      have hv : (v ^^^ 2 ^ i) + 2 ^ i = v := by
        refine Nat.eq_of_testBit_eq fun k => ?_
        rw [testBit_add_two_pow _ _ _ hw]
        by_cases hk : k = i
        · subst hk; simp [h1]
        · simp [hk, Nat.testBit_xor, Ne.symm hk]
      have hx : v - 2 ^ i = v ^^^ 2 ^ i := by omega
      simp only [Bool.false_eq_true, if_false, hx, bitAt_eq_testBit, Nat.testBit_xor, Nat.testBit_two_pow]
      by_cases hj : j = i
      · subst hj; simp [h1]
      · simp [hj, Ne.symm hj]
    · have h1 : v.testBit i = false := by rw [← bitAt_eq_testBit]; simpa using h
      simp only [if_true, bitAt_eq_testBit, testBit_add_two_pow _ _ _ h1]

end Sys2Proof.Machine
end

