-- ==== Sys2Proof/Laws/Tables.lean ====
section
/-! SUPPORT. The laws of sparse tables: a read after a write, and the canonical form that every operation keeps. -/

namespace Sys2Proof.Machine

variable {κ α : Type}

theorem alGet_alErase [DecidableEq κ] (d : α) (l : List (κ × α)) (k k' : κ) :
    alGet d (alErase k l) k' = if k' = k then d else alGet d l k' := by
  induction l with
  | nil => simp [alErase, alGet]
  | cons e t ih =>
    by_cases h : e.1 = k
    · by_cases h' : k' = k
      · subst h'; simp [alErase, h, ih]
      · have : ¬ k = k' := fun x => h' x.symm
        simp [alErase, alGet, h, ih, h', this]
    · by_cases h' : e.1 = k'
      · have : ¬ k' = k := fun x => h (h'.trans x)
        simp [alErase, alGet, h', this]
      · simp [alErase, alGet, h, h', ih]

theorem alGet_alIns [DecidableEq κ] (code : κ → Nat) (d v : α) (l : List (κ × α)) (k k' : κ)
    (h : ∀ e ∈ l, e.1 ≠ k) : alGet d (alIns code k v l) k' = if k' = k then v else alGet d l k' := by
  induction l with
  | nil => simp [alIns, alGet, eq_comm]
  | cons e t ih =>
    have he : e.1 ≠ k := h e (by simp)
    have ht := ih fun x hx => h x (by simp [hx])
    by_cases hc : code k < code e.1
    · simp [alIns, hc, alGet, eq_comm]
    · by_cases h' : e.1 = k'
      · subst h'; simp [alIns, hc, alGet, he]
      · simp [alIns, hc, alGet, h', ht]

theorem mem_alErase [DecidableEq κ] (k : κ) (l : List (κ × α)) :
    ∀ e ∈ alErase k l, e.1 ≠ k ∧ e ∈ l := by
  induction l with
  | nil => simp [alErase]
  | cons e t ih =>
    intro x hx
    by_cases h : e.1 = k
    · simp only [alErase, h, if_true] at hx
      exact ⟨(ih x hx).1, by simp [(ih x hx).2]⟩
    · simp only [alErase, h, if_false, List.mem_cons] at hx
      rcases hx with rfl | hx
      · exact ⟨h, by simp⟩
      · exact ⟨(ih x hx).1, by simp [(ih x hx).2]⟩

/-- A read after a write: the value written at its key, every other key as before. -/
theorem alGet_alPut [DecidableEq κ] [DecidableEq α] (code : κ → Nat) (d v : α) (l : List (κ × α)) (k k' : κ) :
    alGet d (alPut code d k v l) k' = if k' = k then v else alGet d l k' := by
  unfold alPut
  split
  · next h => rw [alGet_alErase, h]
  · rw [alGet_alIns _ _ _ _ _ _ fun e he => (mem_alErase k l e he).1, alGet_alErase]
    split <;> rfl

/-- The same where the default belongs to the key: `d` at the key read, `d'` at the key written. -/
theorem alGet_alPut_dfl [DecidableEq κ] [DecidableEq α] (code : κ → Nat) (dfl : κ → α) (v : α) (l : List (κ × α))
    (k k' : κ) : alGet (dfl k') (alPut code (dfl k) k v l) k' = if k' = k then v else alGet (dfl k') l k' := by
  by_cases h : k' = k
  · subst h; rw [alGet_alPut]
  · simp only [if_neg h]
    unfold alPut
    split
    · rw [alGet_alErase, if_neg h]
    · rw [alGet_alIns _ _ _ _ _ _ fun e he => (mem_alErase k l e he).1, if_neg h, alGet_alErase, if_neg h]

/-- The canonical form, in the terms of its proofs. -/
theorem alWf_cons [DecidableEq α] (code : κ → Nat) (dfl : κ → α) (e : κ × α) (t : List (κ × α)) :
    alWf code dfl (e :: t) = true ↔
      e.2 ≠ dfl e.1 ∧ (∀ x ∈ t, code e.1 < code x.1) ∧ alWf code dfl t = true := by
  simp [alWf, and_assoc]

theorem alWf_filter [DecidableEq α] (code : κ → Nat) (dfl : κ → α) (p : κ × α → Bool) (l : List (κ × α))
    (h : alWf code dfl l = true) : alWf code dfl (l.filter p) = true := by
  induction l with
  | nil => rfl
  | cons e t ih =>
    rw [alWf_cons] at h
    by_cases hp : p e
    · rw [List.filter_cons_of_pos hp, alWf_cons]
      exact ⟨h.1, fun x hx => h.2.1 x (List.mem_of_mem_filter hx), ih h.2.2⟩
    · rw [List.filter_cons_of_neg hp]; exact ih h.2.2

theorem alErase_eq_filter [DecidableEq κ] (k : κ) (l : List (κ × α)) :
    alErase k l = l.filter fun e => decide (e.1 ≠ k) := by
  induction l with
  | nil => rfl
  | cons e t ih => by_cases h : e.1 = k <;> simp [alErase, h, ih]

theorem mem_alIns (code : κ → Nat) (k : κ) (v : α) (l : List (κ × α)) :
    ∀ e ∈ alIns code k v l, e = (k, v) ∨ e ∈ l := by
  induction l with
  | nil => simp [alIns]
  | cons e t ih =>
    intro x hx
    by_cases h : code k < code e.1
    · simpa [alIns, h] using hx
    · simp only [alIns, h, if_false, List.mem_cons] at hx
      rcases hx with rfl | hx
      · simp
      · rcases ih x hx with hh | hh <;> simp [hh]

theorem alWf_alIns [DecidableEq α] (code : κ → Nat) (dfl : κ → α) (k : κ) (v : α) (l : List (κ × α))
    (hv : v ≠ dfl k) (hk : ∀ e ∈ l, code e.1 ≠ code k) (h : alWf code dfl l = true) :
    alWf code dfl (alIns code k v l) = true := by
  induction l with
  | nil => simp [alIns, alWf, hv]
  | cons e t ih =>
    have he := hk e (by simp)
    rw [alWf_cons] at h
    by_cases hc : code k < code e.1
    · simp only [alIns, hc, if_true]
      rw [alWf_cons, alWf_cons]
      refine ⟨hv, ?_, h⟩
      intro x hx
      rcases List.mem_cons.1 hx with rfl | hx
      · exact hc
      · exact lt_trans hc (h.2.1 x hx)
    · simp only [alIns, hc, if_false]
      rw [alWf_cons]
      refine ⟨h.1, ?_, ih (fun x hx => hk x (by simp [hx])) h.2.2⟩
      intro x hx
      rcases mem_alIns code k v t x hx with rfl | hx
      · exact lt_of_le_of_ne (Nat.le_of_not_lt hc) he
      · exact h.2.1 x hx

/-- A write keeps the canonical form. -/
theorem alWf_alPut [DecidableEq κ] [DecidableEq α] (code : κ → Nat) (hcode : ∀ a b, code a = code b → a = b)
    (dfl : κ → α) (k : κ) (v : α) (l : List (κ × α)) (h : alWf code dfl l = true) :
    alWf code dfl (alPut code (dfl k) k v l) = true := by
  have he : alWf code dfl (alErase k l) = true := by rw [alErase_eq_filter]; exact alWf_filter _ _ _ _ h
  unfold alPut
  split
  · exact he
  · next hv =>
    exact alWf_alIns code dfl k v _ hv (fun e hm hc => (mem_alErase k l e hm).1 (hcode _ _ hc)) he

theorem alErase_of_not_mem [DecidableEq κ] (k : κ) (l : List (κ × α)) (h : ∀ e ∈ l, e.1 ≠ k) : alErase k l = l := by
  rw [alErase_eq_filter, List.filter_eq_self]
  exact fun e he => decide_eq_true (h e he)

theorem alErase_alIns [DecidableEq κ] (code : κ → Nat) (k : κ) (v : α) (l : List (κ × α)) :
    alErase k (alIns code k v l) = alErase k l := by
  induction l with
  | nil => simp [alIns, alErase]
  | cons e t ih =>
    by_cases hc : code k < code e.1
    · simp [alIns, hc, alErase]
    · by_cases h : e.1 = k <;> simp [alIns, hc, alErase, h, ih]

/-- Of two writes of one key the second stands. -/
theorem alPut_alPut [DecidableEq κ] [DecidableEq α] (code : κ → Nat) (d v w : α) (k : κ) (l : List (κ × α)) :
    alPut code d k w (alPut code d k v l) = alPut code d k w l := by
  have h : alErase k (alPut code d k v l) = alErase k l := by
    have hn := alErase_of_not_mem k (alErase k l) fun e he => (mem_alErase k l e he).1
    unfold alPut
    split
    · exact hn
    · rw [alErase_alIns, hn]
  rw [alPut, h]; rfl

/-- Different registers have different codes. -/
theorem Reg.code_inj (a b : Reg) (h : a.code = b.code) : a = b := by
  obtain ⟨g, i, u⟩ := a
  obtain ⟨g', i', u'⟩ := b
  simp only [Reg.code, Nat.pair_eq_pair] at h
  obtain ⟨⟨rfl, rfl⟩, hg⟩ := h
  have : g = g' := by
    have h1 := Grp.ofNat_ctorIdx g
    have h2 := Grp.ofNat_ctorIdx g'
    rw [← h1, ← h2, hg]
  rw [this]

/-! ### DRAM -/

/-- An octet reads as written, every other octet as before. -/
theorem memGet_memPut (m : Memory) (a b : Nat) (v : Byte) :
    memGet (memPut m a v) b = if b = a then v else memGet m b := alGet_alPut _ _ _ _ _ _

/-- Writing an octet keeps the canonical form. -/
theorem memPut_wf (m : Memory) (a : Nat) (v : Byte) (h : Memory.wf m = true) : Memory.wf (memPut m a v) = true :=
  alWf_alPut id (fun _ _ h => h) (fun _ => memDefault) a v m h

/-- Writing octets keeps the canonical form. -/
theorem memWrite_wf (m : Memory) (a : Nat) (l : List Byte) (h : Memory.wf m = true) :
    Memory.wf (memWrite m a l) = true := by
  induction l generalizing m a with
  | nil => exact h
  | cons b t ih => exact ih _ _ (memPut_wf m a b h)

/-- Clearing octets keeps the canonical form. -/
theorem memClear_wf (m : Memory) (a n : Nat) (h : Memory.wf m = true) : Memory.wf (memClear m a n) = true :=
  alWf_filter _ _ _ _ h

/-- What a write of octets leaves: the octets written from the address on, every other octet as before. -/
theorem memGet_memWrite (m : Memory) (a b : Nat) (l : List Byte) :
    memGet (memWrite m a l) b = if a ≤ b then (l[b - a]?).getD (memGet m b) else memGet m b := by
  induction l generalizing m a with
  | nil => simp [memWrite]
  | cons x t ih =>
    rw [memWrite, ih, memGet_memPut]
    rcases Nat.lt_trichotomy b a with h | h | h
    · have : ¬ a ≤ b := by omega
      have h2 : ¬ a + 1 ≤ b := by omega
      have h3 : ¬ b = a := by omega
      simp [this, h2, h3]
    · subst h
      have h2 : ¬ b + 1 ≤ b := by omega
      simp [h2]
    · have h1 : a ≤ b := by omega
      have h2 : a + 1 ≤ b := by omega
      have h3 : ¬ b = a := by omega
      have h4 : b - a = (b - (a + 1)) + 1 := by omega
      simp [h1, h2, h3, h4]

end Sys2Proof.Machine
end

