-- ==== Sys2Proof/Laws/State.lean ====
section
/-! SUPPORT. What each update of the state leaves of each field, true by rfl; and what each read answers after each update. -/

namespace Sys2Proof.Machine.State

variable (s : State)

/-! ### `wr` -/

@[simp] theorem wr_part (r : Reg) (v : Nat) : (s.wr r v).part = s.part := (rfl)
@[simp] theorem wr_doms (r : Reg) (v : Nat) : (s.wr r v).doms = s.doms := (rfl)
@[simp] theorem wr_time (r : Reg) (v : Nat) : (s.wr r v).time = s.time := (rfl)
@[simp] theorem wr_sessions (r : Reg) (v : Nat) : (s.wr r v).sessions = s.sessions := (rfl)
@[simp] theorem wr_clauses (r : Reg) (v : Nat) : (s.wr r v).clauses = s.clauses := (rfl)
@[simp] theorem wr_lastClause (r : Reg) (v : Nat) : (s.wr r v).lastClause = s.lastClause := (rfl)
@[simp] theorem wr_canIn (r : Reg) (v : Nat) : (s.wr r v).canIn = s.canIn := (rfl)
@[simp] theorem wr_forwarded (r : Reg) (v : Nat) : (s.wr r v).forwarded = s.forwarded := (rfl)
@[simp] theorem wr_held (r : Reg) (v : Nat) : (s.wr r v).held = s.held := (rfl)
@[simp] theorem wr_queues (r : Reg) (v : Nat) : (s.wr r v).queues = s.queues := (rfl)
@[simp] theorem wr_dram (r : Reg) (v : Nat) : (s.wr r v).dram = s.dram := (rfl)
@[simp] theorem wr_links (r : Reg) (v : Nat) : (s.wr r v).links = s.links := (rfl)
@[simp] theorem wr_chans (r : Reg) (v : Nat) : (s.wr r v).chans = s.chans := (rfl)
@[simp] theorem wr_quads (r : Reg) (v : Nat) : (s.wr r v).quads = s.quads := (rfl)
@[simp] theorem wr_dieRefs (r : Reg) (v : Nat) : (s.wr r v).dieRefs = s.dieRefs := (rfl)
@[simp] theorem wr_spares (r : Reg) (v : Nat) : (s.wr r v).spares = s.spares := (rfl)
@[simp] theorem wr_paths (r : Reg) (v : Nat) : (s.wr r v).paths = s.paths := (rfl)
@[simp] theorem wr_lehr (r : Reg) (v : Nat) : (s.wr r v).lehr = s.lehr := (rfl)
@[simp] theorem wr_caps (r : Reg) (v : Nat) : (s.wr r v).caps = s.caps := (rfl)
@[simp] theorem wr_segments (r : Reg) (v : Nat) : (s.wr r v).segments = s.segments := (rfl)
@[simp] theorem wr_matrix (r : Reg) (v : Nat) : (s.wr r v).matrix = s.matrix := (rfl)
@[simp] theorem wr_ctxs (r : Reg) (v : Nat) : (s.wr r v).ctxs = s.ctxs := (rfl)
@[simp] theorem wr_jobs (r : Reg) (v : Nat) : (s.wr r v).jobs = s.jobs := (rfl)
@[simp] theorem wr_lanes (r : Reg) (v : Nat) : (s.wr r v).lanes = s.lanes := (rfl)
@[simp] theorem wr_mode (r : Reg) (v : Nat) : (s.wr r v).mode = s.mode := (rfl)
@[simp] theorem wr_mram (r : Reg) (v : Nat) : (s.wr r v).mram = s.mram := (rfl)
@[simp] theorem wr_cores (r : Reg) (v : Nat) : (s.wr r v).cores = s.cores := (rfl)
@[simp] theorem wr_amp (r : Reg) (v : Nat) : (s.wr r v).amp = s.amp := (rfl)
@[simp] theorem wr_poisoned (r : Reg) (v : Nat) : (s.wr r v).poisoned = s.poisoned := (rfl)
@[simp] theorem wr_out (r : Reg) (v : Nat) : (s.wr r v).out = s.out := (rfl)
@[simp] theorem wr_freeCount (r : Reg) (v : Nat) : (s.wr r v).freeCount = s.freeCount := (rfl)
@[simp] theorem wr_pending (r : Reg) (v : Nat) : (s.wr r v).pending = s.pending := (rfl)
@[simp] theorem wr_session_read (r : Reg) (v : Nat) (k : Nat) : (s.wr r v).session k = s.session k := (rfl)
@[simp] theorem wr_clause_read (r : Reg) (v : Nat) (k : Nat) : (s.wr r v).clause k = s.clause k := (rfl)
@[simp] theorem wr_source_read (r : Reg) (v : Nat) (k : Nat) : (s.wr r v).source k = s.source k := (rfl)
@[simp] theorem wr_linkTime_read (r : Reg) (v : Nat) (k : Nat) : (s.wr r v).linkTime k = s.linkTime k := (rfl)
@[simp] theorem wr_ptp_read (r : Reg) (v : Nat) (k : Nat) : (s.wr r v).ptp k = s.ptp k := (rfl)
@[simp] theorem wr_queue_read (r : Reg) (v : Nat) (k : Nat) : (s.wr r v).queue k = s.queue k := (rfl)
@[simp] theorem wr_dramCh_read (r : Reg) (v : Nat) (k : Nat) : (s.wr r v).dramCh k = s.dramCh k := (rfl)
@[simp] theorem wr_link_read (r : Reg) (v : Nat) (k : Nat) : (s.wr r v).link k = s.link k := (rfl)
@[simp] theorem wr_chan_read (r : Reg) (v : Nat) (k : Nat) : (s.wr r v).chan k = s.chan k := (rfl)
@[simp] theorem wr_quad_read (r : Reg) (v : Nat) (k : Nat) : (s.wr r v).quad k = s.quad k := (rfl)
@[simp] theorem wr_dieRef_read (r : Reg) (v : Nat) (k : Nat) : (s.wr r v).dieRef k = s.dieRef k := (rfl)
@[simp] theorem wr_spare_read (r : Reg) (v : Nat) (k : Nat) : (s.wr r v).spare k = s.spare k := (rfl)
@[simp] theorem wr_path_read (r : Reg) (v : Nat) (k : Nat) : (s.wr r v).path k = s.path k := (rfl)
@[simp] theorem wr_cap_read (r : Reg) (v : Nat) (k : Nat) : (s.wr r v).cap k = s.cap k := (rfl)
@[simp] theorem wr_ctx_read (r : Reg) (v : Nat) (k : Nat) : (s.wr r v).ctx k = s.ctx k := (rfl)
@[simp] theorem wr_job_read (r : Reg) (v : Nat) (k : Nat) : (s.wr r v).job k = s.job k := (rfl)
@[simp] theorem wr_lane_read (r : Reg) (v : Nat) (k : Nat) : (s.wr r v).lane k = s.lane k := (rfl)
@[simp] theorem wr_bundle_read (r : Reg) (v : Nat) (k : Nat) : (s.wr r v).bundle k = s.bundle k := (rfl)
@[simp] theorem wr_rdDom (r : Reg) (v : Nat) (k : Reg) : (s.wr r v).rdDom k = s.rdDom k := (rfl)

/-! ### `count` -/

@[simp] theorem count_part (r : Reg) (n : Nat) : (s.count r n).part = s.part := (rfl)
@[simp] theorem count_doms (r : Reg) (n : Nat) : (s.count r n).doms = s.doms := (rfl)
@[simp] theorem count_time (r : Reg) (n : Nat) : (s.count r n).time = s.time := (rfl)
@[simp] theorem count_sessions (r : Reg) (n : Nat) : (s.count r n).sessions = s.sessions := (rfl)
@[simp] theorem count_clauses (r : Reg) (n : Nat) : (s.count r n).clauses = s.clauses := (rfl)
@[simp] theorem count_lastClause (r : Reg) (n : Nat) : (s.count r n).lastClause = s.lastClause := (rfl)
@[simp] theorem count_canIn (r : Reg) (n : Nat) : (s.count r n).canIn = s.canIn := (rfl)
@[simp] theorem count_forwarded (r : Reg) (n : Nat) : (s.count r n).forwarded = s.forwarded := (rfl)
@[simp] theorem count_held (r : Reg) (n : Nat) : (s.count r n).held = s.held := (rfl)
@[simp] theorem count_queues (r : Reg) (n : Nat) : (s.count r n).queues = s.queues := (rfl)
@[simp] theorem count_dram (r : Reg) (n : Nat) : (s.count r n).dram = s.dram := (rfl)
@[simp] theorem count_links (r : Reg) (n : Nat) : (s.count r n).links = s.links := (rfl)
@[simp] theorem count_chans (r : Reg) (n : Nat) : (s.count r n).chans = s.chans := (rfl)
@[simp] theorem count_quads (r : Reg) (n : Nat) : (s.count r n).quads = s.quads := (rfl)
@[simp] theorem count_dieRefs (r : Reg) (n : Nat) : (s.count r n).dieRefs = s.dieRefs := (rfl)
@[simp] theorem count_spares (r : Reg) (n : Nat) : (s.count r n).spares = s.spares := (rfl)
@[simp] theorem count_paths (r : Reg) (n : Nat) : (s.count r n).paths = s.paths := (rfl)
@[simp] theorem count_lehr (r : Reg) (n : Nat) : (s.count r n).lehr = s.lehr := (rfl)
@[simp] theorem count_caps (r : Reg) (n : Nat) : (s.count r n).caps = s.caps := (rfl)
@[simp] theorem count_segments (r : Reg) (n : Nat) : (s.count r n).segments = s.segments := (rfl)
@[simp] theorem count_matrix (r : Reg) (n : Nat) : (s.count r n).matrix = s.matrix := (rfl)
@[simp] theorem count_ctxs (r : Reg) (n : Nat) : (s.count r n).ctxs = s.ctxs := (rfl)
@[simp] theorem count_jobs (r : Reg) (n : Nat) : (s.count r n).jobs = s.jobs := (rfl)
@[simp] theorem count_lanes (r : Reg) (n : Nat) : (s.count r n).lanes = s.lanes := (rfl)
@[simp] theorem count_mode (r : Reg) (n : Nat) : (s.count r n).mode = s.mode := (rfl)
@[simp] theorem count_mram (r : Reg) (n : Nat) : (s.count r n).mram = s.mram := (rfl)
@[simp] theorem count_cores (r : Reg) (n : Nat) : (s.count r n).cores = s.cores := (rfl)
@[simp] theorem count_amp (r : Reg) (n : Nat) : (s.count r n).amp = s.amp := (rfl)
@[simp] theorem count_poisoned (r : Reg) (n : Nat) : (s.count r n).poisoned = s.poisoned := (rfl)
@[simp] theorem count_out (r : Reg) (n : Nat) : (s.count r n).out = s.out := (rfl)
@[simp] theorem count_freeCount (r : Reg) (n : Nat) : (s.count r n).freeCount = s.freeCount := (rfl)
@[simp] theorem count_pending (r : Reg) (n : Nat) : (s.count r n).pending = s.pending := (rfl)
@[simp] theorem count_session_read (r : Reg) (n : Nat) (k : Nat) : (s.count r n).session k = s.session k := (rfl)
@[simp] theorem count_clause_read (r : Reg) (n : Nat) (k : Nat) : (s.count r n).clause k = s.clause k := (rfl)
@[simp] theorem count_source_read (r : Reg) (n : Nat) (k : Nat) : (s.count r n).source k = s.source k := (rfl)
@[simp] theorem count_linkTime_read (r : Reg) (n : Nat) (k : Nat) : (s.count r n).linkTime k = s.linkTime k := (rfl)
@[simp] theorem count_ptp_read (r : Reg) (n : Nat) (k : Nat) : (s.count r n).ptp k = s.ptp k := (rfl)
@[simp] theorem count_queue_read (r : Reg) (n : Nat) (k : Nat) : (s.count r n).queue k = s.queue k := (rfl)
@[simp] theorem count_dramCh_read (r : Reg) (n : Nat) (k : Nat) : (s.count r n).dramCh k = s.dramCh k := (rfl)
@[simp] theorem count_link_read (r : Reg) (n : Nat) (k : Nat) : (s.count r n).link k = s.link k := (rfl)
@[simp] theorem count_chan_read (r : Reg) (n : Nat) (k : Nat) : (s.count r n).chan k = s.chan k := (rfl)
@[simp] theorem count_quad_read (r : Reg) (n : Nat) (k : Nat) : (s.count r n).quad k = s.quad k := (rfl)
@[simp] theorem count_dieRef_read (r : Reg) (n : Nat) (k : Nat) : (s.count r n).dieRef k = s.dieRef k := (rfl)
@[simp] theorem count_spare_read (r : Reg) (n : Nat) (k : Nat) : (s.count r n).spare k = s.spare k := (rfl)
@[simp] theorem count_path_read (r : Reg) (n : Nat) (k : Nat) : (s.count r n).path k = s.path k := (rfl)
@[simp] theorem count_cap_read (r : Reg) (n : Nat) (k : Nat) : (s.count r n).cap k = s.cap k := (rfl)
@[simp] theorem count_ctx_read (r : Reg) (n : Nat) (k : Nat) : (s.count r n).ctx k = s.ctx k := (rfl)
@[simp] theorem count_job_read (r : Reg) (n : Nat) (k : Nat) : (s.count r n).job k = s.job k := (rfl)
@[simp] theorem count_lane_read (r : Reg) (n : Nat) (k : Nat) : (s.count r n).lane k = s.lane k := (rfl)
@[simp] theorem count_bundle_read (r : Reg) (n : Nat) (k : Nat) : (s.count r n).bundle k = s.bundle k := (rfl)
@[simp] theorem count_rdDom (r : Reg) (n : Nat) (k : Reg) : (s.count r n).rdDom k = s.rdDom k := (rfl)

/-! ### `wrDom` -/

@[simp] theorem wrDom_part (r : Reg) (l : List Byte) : (s.wrDom r l).part = s.part := (rfl)
@[simp] theorem wrDom_regs (r : Reg) (l : List Byte) : (s.wrDom r l).regs = s.regs := (rfl)
@[simp] theorem wrDom_time (r : Reg) (l : List Byte) : (s.wrDom r l).time = s.time := (rfl)
@[simp] theorem wrDom_sessions (r : Reg) (l : List Byte) : (s.wrDom r l).sessions = s.sessions := (rfl)
@[simp] theorem wrDom_clauses (r : Reg) (l : List Byte) : (s.wrDom r l).clauses = s.clauses := (rfl)
@[simp] theorem wrDom_lastClause (r : Reg) (l : List Byte) : (s.wrDom r l).lastClause = s.lastClause := (rfl)
@[simp] theorem wrDom_canIn (r : Reg) (l : List Byte) : (s.wrDom r l).canIn = s.canIn := (rfl)
@[simp] theorem wrDom_forwarded (r : Reg) (l : List Byte) : (s.wrDom r l).forwarded = s.forwarded := (rfl)
@[simp] theorem wrDom_held (r : Reg) (l : List Byte) : (s.wrDom r l).held = s.held := (rfl)
@[simp] theorem wrDom_queues (r : Reg) (l : List Byte) : (s.wrDom r l).queues = s.queues := (rfl)
@[simp] theorem wrDom_dram (r : Reg) (l : List Byte) : (s.wrDom r l).dram = s.dram := (rfl)
@[simp] theorem wrDom_links (r : Reg) (l : List Byte) : (s.wrDom r l).links = s.links := (rfl)
@[simp] theorem wrDom_chans (r : Reg) (l : List Byte) : (s.wrDom r l).chans = s.chans := (rfl)
@[simp] theorem wrDom_quads (r : Reg) (l : List Byte) : (s.wrDom r l).quads = s.quads := (rfl)
@[simp] theorem wrDom_dieRefs (r : Reg) (l : List Byte) : (s.wrDom r l).dieRefs = s.dieRefs := (rfl)
@[simp] theorem wrDom_spares (r : Reg) (l : List Byte) : (s.wrDom r l).spares = s.spares := (rfl)
@[simp] theorem wrDom_paths (r : Reg) (l : List Byte) : (s.wrDom r l).paths = s.paths := (rfl)
@[simp] theorem wrDom_lehr (r : Reg) (l : List Byte) : (s.wrDom r l).lehr = s.lehr := (rfl)
@[simp] theorem wrDom_caps (r : Reg) (l : List Byte) : (s.wrDom r l).caps = s.caps := (rfl)
@[simp] theorem wrDom_segments (r : Reg) (l : List Byte) : (s.wrDom r l).segments = s.segments := (rfl)
@[simp] theorem wrDom_matrix (r : Reg) (l : List Byte) : (s.wrDom r l).matrix = s.matrix := (rfl)
@[simp] theorem wrDom_ctxs (r : Reg) (l : List Byte) : (s.wrDom r l).ctxs = s.ctxs := (rfl)
@[simp] theorem wrDom_jobs (r : Reg) (l : List Byte) : (s.wrDom r l).jobs = s.jobs := (rfl)
@[simp] theorem wrDom_lanes (r : Reg) (l : List Byte) : (s.wrDom r l).lanes = s.lanes := (rfl)
@[simp] theorem wrDom_mode (r : Reg) (l : List Byte) : (s.wrDom r l).mode = s.mode := (rfl)
@[simp] theorem wrDom_mram (r : Reg) (l : List Byte) : (s.wrDom r l).mram = s.mram := (rfl)
@[simp] theorem wrDom_cores (r : Reg) (l : List Byte) : (s.wrDom r l).cores = s.cores := (rfl)
@[simp] theorem wrDom_amp (r : Reg) (l : List Byte) : (s.wrDom r l).amp = s.amp := (rfl)
@[simp] theorem wrDom_poisoned (r : Reg) (l : List Byte) : (s.wrDom r l).poisoned = s.poisoned := (rfl)
@[simp] theorem wrDom_out (r : Reg) (l : List Byte) : (s.wrDom r l).out = s.out := (rfl)
@[simp] theorem wrDom_freeCount (r : Reg) (l : List Byte) : (s.wrDom r l).freeCount = s.freeCount := (rfl)
@[simp] theorem wrDom_pending (r : Reg) (l : List Byte) : (s.wrDom r l).pending = s.pending := (rfl)
@[simp] theorem wrDom_session_read (r : Reg) (l : List Byte) (k : Nat) : (s.wrDom r l).session k = s.session k := (rfl)
@[simp] theorem wrDom_clause_read (r : Reg) (l : List Byte) (k : Nat) : (s.wrDom r l).clause k = s.clause k := (rfl)
@[simp] theorem wrDom_source_read (r : Reg) (l : List Byte) (k : Nat) : (s.wrDom r l).source k = s.source k := (rfl)
@[simp] theorem wrDom_linkTime_read (r : Reg) (l : List Byte) (k : Nat) : (s.wrDom r l).linkTime k = s.linkTime k := (rfl)
@[simp] theorem wrDom_ptp_read (r : Reg) (l : List Byte) (k : Nat) : (s.wrDom r l).ptp k = s.ptp k := (rfl)
@[simp] theorem wrDom_queue_read (r : Reg) (l : List Byte) (k : Nat) : (s.wrDom r l).queue k = s.queue k := (rfl)
@[simp] theorem wrDom_dramCh_read (r : Reg) (l : List Byte) (k : Nat) : (s.wrDom r l).dramCh k = s.dramCh k := (rfl)
@[simp] theorem wrDom_link_read (r : Reg) (l : List Byte) (k : Nat) : (s.wrDom r l).link k = s.link k := (rfl)
@[simp] theorem wrDom_chan_read (r : Reg) (l : List Byte) (k : Nat) : (s.wrDom r l).chan k = s.chan k := (rfl)
@[simp] theorem wrDom_quad_read (r : Reg) (l : List Byte) (k : Nat) : (s.wrDom r l).quad k = s.quad k := (rfl)
@[simp] theorem wrDom_dieRef_read (r : Reg) (l : List Byte) (k : Nat) : (s.wrDom r l).dieRef k = s.dieRef k := (rfl)
@[simp] theorem wrDom_spare_read (r : Reg) (l : List Byte) (k : Nat) : (s.wrDom r l).spare k = s.spare k := (rfl)
@[simp] theorem wrDom_path_read (r : Reg) (l : List Byte) (k : Nat) : (s.wrDom r l).path k = s.path k := (rfl)
@[simp] theorem wrDom_cap_read (r : Reg) (l : List Byte) (k : Nat) : (s.wrDom r l).cap k = s.cap k := (rfl)
@[simp] theorem wrDom_ctx_read (r : Reg) (l : List Byte) (k : Nat) : (s.wrDom r l).ctx k = s.ctx k := (rfl)
@[simp] theorem wrDom_job_read (r : Reg) (l : List Byte) (k : Nat) : (s.wrDom r l).job k = s.job k := (rfl)
@[simp] theorem wrDom_lane_read (r : Reg) (l : List Byte) (k : Nat) : (s.wrDom r l).lane k = s.lane k := (rfl)
@[simp] theorem wrDom_bundle_read (r : Reg) (l : List Byte) (k : Nat) : (s.wrDom r l).bundle k = s.bundle k := (rfl)
@[simp] theorem wrDom_rd (r : Reg) (l : List Byte) (k : Reg) : (s.wrDom r l).rd k = s.rd k := (rfl)

/-! ### `emit` -/

@[simp] theorem emit_part (o : Out) : (s.emit o).part = s.part := (rfl)
@[simp] theorem emit_regs (o : Out) : (s.emit o).regs = s.regs := (rfl)
@[simp] theorem emit_doms (o : Out) : (s.emit o).doms = s.doms := (rfl)
@[simp] theorem emit_time (o : Out) : (s.emit o).time = s.time := (rfl)
@[simp] theorem emit_sessions (o : Out) : (s.emit o).sessions = s.sessions := (rfl)
@[simp] theorem emit_clauses (o : Out) : (s.emit o).clauses = s.clauses := (rfl)
@[simp] theorem emit_lastClause (o : Out) : (s.emit o).lastClause = s.lastClause := (rfl)
@[simp] theorem emit_canIn (o : Out) : (s.emit o).canIn = s.canIn := (rfl)
@[simp] theorem emit_forwarded (o : Out) : (s.emit o).forwarded = s.forwarded := (rfl)
@[simp] theorem emit_held (o : Out) : (s.emit o).held = s.held := (rfl)
@[simp] theorem emit_queues (o : Out) : (s.emit o).queues = s.queues := (rfl)
@[simp] theorem emit_dram (o : Out) : (s.emit o).dram = s.dram := (rfl)
@[simp] theorem emit_links (o : Out) : (s.emit o).links = s.links := (rfl)
@[simp] theorem emit_chans (o : Out) : (s.emit o).chans = s.chans := (rfl)
@[simp] theorem emit_quads (o : Out) : (s.emit o).quads = s.quads := (rfl)
@[simp] theorem emit_dieRefs (o : Out) : (s.emit o).dieRefs = s.dieRefs := (rfl)
@[simp] theorem emit_spares (o : Out) : (s.emit o).spares = s.spares := (rfl)
@[simp] theorem emit_paths (o : Out) : (s.emit o).paths = s.paths := (rfl)
@[simp] theorem emit_lehr (o : Out) : (s.emit o).lehr = s.lehr := (rfl)
@[simp] theorem emit_caps (o : Out) : (s.emit o).caps = s.caps := (rfl)
@[simp] theorem emit_segments (o : Out) : (s.emit o).segments = s.segments := (rfl)
@[simp] theorem emit_matrix (o : Out) : (s.emit o).matrix = s.matrix := (rfl)
@[simp] theorem emit_ctxs (o : Out) : (s.emit o).ctxs = s.ctxs := (rfl)
@[simp] theorem emit_jobs (o : Out) : (s.emit o).jobs = s.jobs := (rfl)
@[simp] theorem emit_lanes (o : Out) : (s.emit o).lanes = s.lanes := (rfl)
@[simp] theorem emit_mode (o : Out) : (s.emit o).mode = s.mode := (rfl)
@[simp] theorem emit_mram (o : Out) : (s.emit o).mram = s.mram := (rfl)
@[simp] theorem emit_cores (o : Out) : (s.emit o).cores = s.cores := (rfl)
@[simp] theorem emit_amp (o : Out) : (s.emit o).amp = s.amp := (rfl)
@[simp] theorem emit_poisoned (o : Out) : (s.emit o).poisoned = s.poisoned := (rfl)
@[simp] theorem emit_freeCount (o : Out) : (s.emit o).freeCount = s.freeCount := (rfl)
@[simp] theorem emit_pending (o : Out) : (s.emit o).pending = s.pending := (rfl)
@[simp] theorem emit_session_read (o : Out) (k : Nat) : (s.emit o).session k = s.session k := (rfl)
@[simp] theorem emit_clause_read (o : Out) (k : Nat) : (s.emit o).clause k = s.clause k := (rfl)
@[simp] theorem emit_source_read (o : Out) (k : Nat) : (s.emit o).source k = s.source k := (rfl)
@[simp] theorem emit_linkTime_read (o : Out) (k : Nat) : (s.emit o).linkTime k = s.linkTime k := (rfl)
@[simp] theorem emit_ptp_read (o : Out) (k : Nat) : (s.emit o).ptp k = s.ptp k := (rfl)
@[simp] theorem emit_queue_read (o : Out) (k : Nat) : (s.emit o).queue k = s.queue k := (rfl)
@[simp] theorem emit_dramCh_read (o : Out) (k : Nat) : (s.emit o).dramCh k = s.dramCh k := (rfl)
@[simp] theorem emit_link_read (o : Out) (k : Nat) : (s.emit o).link k = s.link k := (rfl)
@[simp] theorem emit_chan_read (o : Out) (k : Nat) : (s.emit o).chan k = s.chan k := (rfl)
@[simp] theorem emit_quad_read (o : Out) (k : Nat) : (s.emit o).quad k = s.quad k := (rfl)
@[simp] theorem emit_dieRef_read (o : Out) (k : Nat) : (s.emit o).dieRef k = s.dieRef k := (rfl)
@[simp] theorem emit_spare_read (o : Out) (k : Nat) : (s.emit o).spare k = s.spare k := (rfl)
@[simp] theorem emit_path_read (o : Out) (k : Nat) : (s.emit o).path k = s.path k := (rfl)
@[simp] theorem emit_cap_read (o : Out) (k : Nat) : (s.emit o).cap k = s.cap k := (rfl)
@[simp] theorem emit_ctx_read (o : Out) (k : Nat) : (s.emit o).ctx k = s.ctx k := (rfl)
@[simp] theorem emit_job_read (o : Out) (k : Nat) : (s.emit o).job k = s.job k := (rfl)
@[simp] theorem emit_lane_read (o : Out) (k : Nat) : (s.emit o).lane k = s.lane k := (rfl)
@[simp] theorem emit_bundle_read (o : Out) (k : Nat) : (s.emit o).bundle k = s.bundle k := (rfl)
@[simp] theorem emit_rd (o : Out) (k : Reg) : (s.emit o).rd k = s.rd k := (rfl)
@[simp] theorem emit_rdDom (o : Out) (k : Reg) : (s.emit o).rdDom k = s.rdDom k := (rfl)

/-! ### `bump` -/

@[simp] theorem bump_part : (s.bump).part = s.part := (rfl)
@[simp] theorem bump_regs : (s.bump).regs = s.regs := (rfl)
@[simp] theorem bump_doms : (s.bump).doms = s.doms := (rfl)
@[simp] theorem bump_time : (s.bump).time = s.time := (rfl)
@[simp] theorem bump_sessions : (s.bump).sessions = s.sessions := (rfl)
@[simp] theorem bump_clauses : (s.bump).clauses = s.clauses := (rfl)
@[simp] theorem bump_lastClause : (s.bump).lastClause = s.lastClause := (rfl)
@[simp] theorem bump_canIn : (s.bump).canIn = s.canIn := (rfl)
@[simp] theorem bump_forwarded : (s.bump).forwarded = s.forwarded := (rfl)
@[simp] theorem bump_held : (s.bump).held = s.held := (rfl)
@[simp] theorem bump_queues : (s.bump).queues = s.queues := (rfl)
@[simp] theorem bump_dram : (s.bump).dram = s.dram := (rfl)
@[simp] theorem bump_links : (s.bump).links = s.links := (rfl)
@[simp] theorem bump_chans : (s.bump).chans = s.chans := (rfl)
@[simp] theorem bump_quads : (s.bump).quads = s.quads := (rfl)
@[simp] theorem bump_dieRefs : (s.bump).dieRefs = s.dieRefs := (rfl)
@[simp] theorem bump_spares : (s.bump).spares = s.spares := (rfl)
@[simp] theorem bump_paths : (s.bump).paths = s.paths := (rfl)
@[simp] theorem bump_lehr : (s.bump).lehr = s.lehr := (rfl)
@[simp] theorem bump_caps : (s.bump).caps = s.caps := (rfl)
@[simp] theorem bump_segments : (s.bump).segments = s.segments := (rfl)
@[simp] theorem bump_matrix : (s.bump).matrix = s.matrix := (rfl)
@[simp] theorem bump_ctxs : (s.bump).ctxs = s.ctxs := (rfl)
@[simp] theorem bump_jobs : (s.bump).jobs = s.jobs := (rfl)
@[simp] theorem bump_lanes : (s.bump).lanes = s.lanes := (rfl)
@[simp] theorem bump_mode : (s.bump).mode = s.mode := (rfl)
@[simp] theorem bump_mram : (s.bump).mram = s.mram := (rfl)
@[simp] theorem bump_cores : (s.bump).cores = s.cores := (rfl)
@[simp] theorem bump_amp : (s.bump).amp = s.amp := (rfl)
@[simp] theorem bump_poisoned : (s.bump).poisoned = s.poisoned := (rfl)
@[simp] theorem bump_out : (s.bump).out = s.out := (rfl)
@[simp] theorem bump_pending : (s.bump).pending = s.pending := (rfl)
@[simp] theorem bump_session_read (k : Nat) : (s.bump).session k = s.session k := (rfl)
@[simp] theorem bump_clause_read (k : Nat) : (s.bump).clause k = s.clause k := (rfl)
@[simp] theorem bump_source_read (k : Nat) : (s.bump).source k = s.source k := (rfl)
@[simp] theorem bump_linkTime_read (k : Nat) : (s.bump).linkTime k = s.linkTime k := (rfl)
@[simp] theorem bump_ptp_read (k : Nat) : (s.bump).ptp k = s.ptp k := (rfl)
@[simp] theorem bump_queue_read (k : Nat) : (s.bump).queue k = s.queue k := (rfl)
@[simp] theorem bump_dramCh_read (k : Nat) : (s.bump).dramCh k = s.dramCh k := (rfl)
@[simp] theorem bump_link_read (k : Nat) : (s.bump).link k = s.link k := (rfl)
@[simp] theorem bump_chan_read (k : Nat) : (s.bump).chan k = s.chan k := (rfl)
@[simp] theorem bump_quad_read (k : Nat) : (s.bump).quad k = s.quad k := (rfl)
@[simp] theorem bump_dieRef_read (k : Nat) : (s.bump).dieRef k = s.dieRef k := (rfl)
@[simp] theorem bump_spare_read (k : Nat) : (s.bump).spare k = s.spare k := (rfl)
@[simp] theorem bump_path_read (k : Nat) : (s.bump).path k = s.path k := (rfl)
@[simp] theorem bump_cap_read (k : Nat) : (s.bump).cap k = s.cap k := (rfl)
@[simp] theorem bump_ctx_read (k : Nat) : (s.bump).ctx k = s.ctx k := (rfl)
@[simp] theorem bump_job_read (k : Nat) : (s.bump).job k = s.job k := (rfl)
@[simp] theorem bump_lane_read (k : Nat) : (s.bump).lane k = s.lane k := (rfl)
@[simp] theorem bump_bundle_read (k : Nat) : (s.bump).bundle k = s.bundle k := (rfl)
@[simp] theorem bump_rd (k : Reg) : (s.bump).rd k = s.rd k := (rfl)
@[simp] theorem bump_rdDom (k : Reg) : (s.bump).rdDom k = s.rdDom k := (rfl)

/-! ### `putTime` -/

@[simp] theorem putTime_part (x : TimeSt) : (s.putTime x).part = s.part := (rfl)
@[simp] theorem putTime_regs (x : TimeSt) : (s.putTime x).regs = s.regs := (rfl)
@[simp] theorem putTime_doms (x : TimeSt) : (s.putTime x).doms = s.doms := (rfl)
@[simp] theorem putTime_sessions (x : TimeSt) : (s.putTime x).sessions = s.sessions := (rfl)
@[simp] theorem putTime_clauses (x : TimeSt) : (s.putTime x).clauses = s.clauses := (rfl)
@[simp] theorem putTime_lastClause (x : TimeSt) : (s.putTime x).lastClause = s.lastClause := (rfl)
@[simp] theorem putTime_canIn (x : TimeSt) : (s.putTime x).canIn = s.canIn := (rfl)
@[simp] theorem putTime_forwarded (x : TimeSt) : (s.putTime x).forwarded = s.forwarded := (rfl)
@[simp] theorem putTime_held (x : TimeSt) : (s.putTime x).held = s.held := (rfl)
@[simp] theorem putTime_queues (x : TimeSt) : (s.putTime x).queues = s.queues := (rfl)
@[simp] theorem putTime_dram (x : TimeSt) : (s.putTime x).dram = s.dram := (rfl)
@[simp] theorem putTime_links (x : TimeSt) : (s.putTime x).links = s.links := (rfl)
@[simp] theorem putTime_chans (x : TimeSt) : (s.putTime x).chans = s.chans := (rfl)
@[simp] theorem putTime_quads (x : TimeSt) : (s.putTime x).quads = s.quads := (rfl)
@[simp] theorem putTime_dieRefs (x : TimeSt) : (s.putTime x).dieRefs = s.dieRefs := (rfl)
@[simp] theorem putTime_spares (x : TimeSt) : (s.putTime x).spares = s.spares := (rfl)
@[simp] theorem putTime_paths (x : TimeSt) : (s.putTime x).paths = s.paths := (rfl)
@[simp] theorem putTime_lehr (x : TimeSt) : (s.putTime x).lehr = s.lehr := (rfl)
@[simp] theorem putTime_caps (x : TimeSt) : (s.putTime x).caps = s.caps := (rfl)
@[simp] theorem putTime_segments (x : TimeSt) : (s.putTime x).segments = s.segments := (rfl)
@[simp] theorem putTime_matrix (x : TimeSt) : (s.putTime x).matrix = s.matrix := (rfl)
@[simp] theorem putTime_ctxs (x : TimeSt) : (s.putTime x).ctxs = s.ctxs := (rfl)
@[simp] theorem putTime_jobs (x : TimeSt) : (s.putTime x).jobs = s.jobs := (rfl)
@[simp] theorem putTime_lanes (x : TimeSt) : (s.putTime x).lanes = s.lanes := (rfl)
@[simp] theorem putTime_mode (x : TimeSt) : (s.putTime x).mode = s.mode := (rfl)
@[simp] theorem putTime_mram (x : TimeSt) : (s.putTime x).mram = s.mram := (rfl)
@[simp] theorem putTime_cores (x : TimeSt) : (s.putTime x).cores = s.cores := (rfl)
@[simp] theorem putTime_amp (x : TimeSt) : (s.putTime x).amp = s.amp := (rfl)
@[simp] theorem putTime_poisoned (x : TimeSt) : (s.putTime x).poisoned = s.poisoned := (rfl)
@[simp] theorem putTime_out (x : TimeSt) : (s.putTime x).out = s.out := (rfl)
@[simp] theorem putTime_freeCount (x : TimeSt) : (s.putTime x).freeCount = s.freeCount := (rfl)
@[simp] theorem putTime_pending (x : TimeSt) : (s.putTime x).pending = s.pending := (rfl)
@[simp] theorem putTime_time (x : TimeSt) : (s.putTime x).time = x := (rfl)
@[simp] theorem putTime_session_read (x : TimeSt) (k : Nat) : (s.putTime x).session k = s.session k := (rfl)
@[simp] theorem putTime_clause_read (x : TimeSt) (k : Nat) : (s.putTime x).clause k = s.clause k := (rfl)
@[simp] theorem putTime_queue_read (x : TimeSt) (k : Nat) : (s.putTime x).queue k = s.queue k := (rfl)
@[simp] theorem putTime_dramCh_read (x : TimeSt) (k : Nat) : (s.putTime x).dramCh k = s.dramCh k := (rfl)
@[simp] theorem putTime_link_read (x : TimeSt) (k : Nat) : (s.putTime x).link k = s.link k := (rfl)
@[simp] theorem putTime_chan_read (x : TimeSt) (k : Nat) : (s.putTime x).chan k = s.chan k := (rfl)
@[simp] theorem putTime_quad_read (x : TimeSt) (k : Nat) : (s.putTime x).quad k = s.quad k := (rfl)
@[simp] theorem putTime_dieRef_read (x : TimeSt) (k : Nat) : (s.putTime x).dieRef k = s.dieRef k := (rfl)
@[simp] theorem putTime_spare_read (x : TimeSt) (k : Nat) : (s.putTime x).spare k = s.spare k := (rfl)
@[simp] theorem putTime_path_read (x : TimeSt) (k : Nat) : (s.putTime x).path k = s.path k := (rfl)
@[simp] theorem putTime_cap_read (x : TimeSt) (k : Nat) : (s.putTime x).cap k = s.cap k := (rfl)
@[simp] theorem putTime_ctx_read (x : TimeSt) (k : Nat) : (s.putTime x).ctx k = s.ctx k := (rfl)
@[simp] theorem putTime_job_read (x : TimeSt) (k : Nat) : (s.putTime x).job k = s.job k := (rfl)
@[simp] theorem putTime_lane_read (x : TimeSt) (k : Nat) : (s.putTime x).lane k = s.lane k := (rfl)
@[simp] theorem putTime_bundle_read (x : TimeSt) (k : Nat) : (s.putTime x).bundle k = s.bundle k := (rfl)
@[simp] theorem putTime_rd (x : TimeSt) (k : Reg) : (s.putTime x).rd k = s.rd k := (rfl)
@[simp] theorem putTime_rdDom (x : TimeSt) (k : Reg) : (s.putTime x).rdDom k = s.rdDom k := (rfl)

/-! ### `putDram` -/

@[simp] theorem putDram_part (x : Dram) : (s.putDram x).part = s.part := (rfl)
@[simp] theorem putDram_regs (x : Dram) : (s.putDram x).regs = s.regs := (rfl)
@[simp] theorem putDram_doms (x : Dram) : (s.putDram x).doms = s.doms := (rfl)
@[simp] theorem putDram_time (x : Dram) : (s.putDram x).time = s.time := (rfl)
@[simp] theorem putDram_sessions (x : Dram) : (s.putDram x).sessions = s.sessions := (rfl)
@[simp] theorem putDram_clauses (x : Dram) : (s.putDram x).clauses = s.clauses := (rfl)
@[simp] theorem putDram_lastClause (x : Dram) : (s.putDram x).lastClause = s.lastClause := (rfl)
@[simp] theorem putDram_canIn (x : Dram) : (s.putDram x).canIn = s.canIn := (rfl)
@[simp] theorem putDram_forwarded (x : Dram) : (s.putDram x).forwarded = s.forwarded := (rfl)
@[simp] theorem putDram_held (x : Dram) : (s.putDram x).held = s.held := (rfl)
@[simp] theorem putDram_queues (x : Dram) : (s.putDram x).queues = s.queues := (rfl)
@[simp] theorem putDram_links (x : Dram) : (s.putDram x).links = s.links := (rfl)
@[simp] theorem putDram_chans (x : Dram) : (s.putDram x).chans = s.chans := (rfl)
@[simp] theorem putDram_quads (x : Dram) : (s.putDram x).quads = s.quads := (rfl)
@[simp] theorem putDram_dieRefs (x : Dram) : (s.putDram x).dieRefs = s.dieRefs := (rfl)
@[simp] theorem putDram_spares (x : Dram) : (s.putDram x).spares = s.spares := (rfl)
@[simp] theorem putDram_paths (x : Dram) : (s.putDram x).paths = s.paths := (rfl)
@[simp] theorem putDram_lehr (x : Dram) : (s.putDram x).lehr = s.lehr := (rfl)
@[simp] theorem putDram_caps (x : Dram) : (s.putDram x).caps = s.caps := (rfl)
@[simp] theorem putDram_segments (x : Dram) : (s.putDram x).segments = s.segments := (rfl)
@[simp] theorem putDram_matrix (x : Dram) : (s.putDram x).matrix = s.matrix := (rfl)
@[simp] theorem putDram_ctxs (x : Dram) : (s.putDram x).ctxs = s.ctxs := (rfl)
@[simp] theorem putDram_jobs (x : Dram) : (s.putDram x).jobs = s.jobs := (rfl)
@[simp] theorem putDram_lanes (x : Dram) : (s.putDram x).lanes = s.lanes := (rfl)
@[simp] theorem putDram_mode (x : Dram) : (s.putDram x).mode = s.mode := (rfl)
@[simp] theorem putDram_mram (x : Dram) : (s.putDram x).mram = s.mram := (rfl)
@[simp] theorem putDram_cores (x : Dram) : (s.putDram x).cores = s.cores := (rfl)
@[simp] theorem putDram_amp (x : Dram) : (s.putDram x).amp = s.amp := (rfl)
@[simp] theorem putDram_poisoned (x : Dram) : (s.putDram x).poisoned = s.poisoned := (rfl)
@[simp] theorem putDram_out (x : Dram) : (s.putDram x).out = s.out := (rfl)
@[simp] theorem putDram_freeCount (x : Dram) : (s.putDram x).freeCount = s.freeCount := (rfl)
@[simp] theorem putDram_pending (x : Dram) : (s.putDram x).pending = s.pending := (rfl)
@[simp] theorem putDram_dram (x : Dram) : (s.putDram x).dram = x := (rfl)
@[simp] theorem putDram_session_read (x : Dram) (k : Nat) : (s.putDram x).session k = s.session k := (rfl)
@[simp] theorem putDram_clause_read (x : Dram) (k : Nat) : (s.putDram x).clause k = s.clause k := (rfl)
@[simp] theorem putDram_source_read (x : Dram) (k : Nat) : (s.putDram x).source k = s.source k := (rfl)
@[simp] theorem putDram_linkTime_read (x : Dram) (k : Nat) : (s.putDram x).linkTime k = s.linkTime k := (rfl)
@[simp] theorem putDram_ptp_read (x : Dram) (k : Nat) : (s.putDram x).ptp k = s.ptp k := (rfl)
@[simp] theorem putDram_queue_read (x : Dram) (k : Nat) : (s.putDram x).queue k = s.queue k := (rfl)
@[simp] theorem putDram_link_read (x : Dram) (k : Nat) : (s.putDram x).link k = s.link k := (rfl)
@[simp] theorem putDram_chan_read (x : Dram) (k : Nat) : (s.putDram x).chan k = s.chan k := (rfl)
@[simp] theorem putDram_quad_read (x : Dram) (k : Nat) : (s.putDram x).quad k = s.quad k := (rfl)
@[simp] theorem putDram_dieRef_read (x : Dram) (k : Nat) : (s.putDram x).dieRef k = s.dieRef k := (rfl)
@[simp] theorem putDram_spare_read (x : Dram) (k : Nat) : (s.putDram x).spare k = s.spare k := (rfl)
@[simp] theorem putDram_path_read (x : Dram) (k : Nat) : (s.putDram x).path k = s.path k := (rfl)
@[simp] theorem putDram_cap_read (x : Dram) (k : Nat) : (s.putDram x).cap k = s.cap k := (rfl)
@[simp] theorem putDram_ctx_read (x : Dram) (k : Nat) : (s.putDram x).ctx k = s.ctx k := (rfl)
@[simp] theorem putDram_job_read (x : Dram) (k : Nat) : (s.putDram x).job k = s.job k := (rfl)
@[simp] theorem putDram_lane_read (x : Dram) (k : Nat) : (s.putDram x).lane k = s.lane k := (rfl)
@[simp] theorem putDram_bundle_read (x : Dram) (k : Nat) : (s.putDram x).bundle k = s.bundle k := (rfl)
@[simp] theorem putDram_rd (x : Dram) (k : Reg) : (s.putDram x).rd k = s.rd k := (rfl)
@[simp] theorem putDram_rdDom (x : Dram) (k : Reg) : (s.putDram x).rdDom k = s.rdDom k := (rfl)

/-! ### `putLehr` -/

@[simp] theorem putLehr_part (x : Lehr) : (s.putLehr x).part = s.part := (rfl)
@[simp] theorem putLehr_regs (x : Lehr) : (s.putLehr x).regs = s.regs := (rfl)
@[simp] theorem putLehr_doms (x : Lehr) : (s.putLehr x).doms = s.doms := (rfl)
@[simp] theorem putLehr_time (x : Lehr) : (s.putLehr x).time = s.time := (rfl)
@[simp] theorem putLehr_sessions (x : Lehr) : (s.putLehr x).sessions = s.sessions := (rfl)
@[simp] theorem putLehr_clauses (x : Lehr) : (s.putLehr x).clauses = s.clauses := (rfl)
@[simp] theorem putLehr_lastClause (x : Lehr) : (s.putLehr x).lastClause = s.lastClause := (rfl)
@[simp] theorem putLehr_canIn (x : Lehr) : (s.putLehr x).canIn = s.canIn := (rfl)
@[simp] theorem putLehr_forwarded (x : Lehr) : (s.putLehr x).forwarded = s.forwarded := (rfl)
@[simp] theorem putLehr_held (x : Lehr) : (s.putLehr x).held = s.held := (rfl)
@[simp] theorem putLehr_queues (x : Lehr) : (s.putLehr x).queues = s.queues := (rfl)
@[simp] theorem putLehr_dram (x : Lehr) : (s.putLehr x).dram = s.dram := (rfl)
@[simp] theorem putLehr_links (x : Lehr) : (s.putLehr x).links = s.links := (rfl)
@[simp] theorem putLehr_chans (x : Lehr) : (s.putLehr x).chans = s.chans := (rfl)
@[simp] theorem putLehr_quads (x : Lehr) : (s.putLehr x).quads = s.quads := (rfl)
@[simp] theorem putLehr_dieRefs (x : Lehr) : (s.putLehr x).dieRefs = s.dieRefs := (rfl)
@[simp] theorem putLehr_spares (x : Lehr) : (s.putLehr x).spares = s.spares := (rfl)
@[simp] theorem putLehr_paths (x : Lehr) : (s.putLehr x).paths = s.paths := (rfl)
@[simp] theorem putLehr_caps (x : Lehr) : (s.putLehr x).caps = s.caps := (rfl)
@[simp] theorem putLehr_segments (x : Lehr) : (s.putLehr x).segments = s.segments := (rfl)
@[simp] theorem putLehr_matrix (x : Lehr) : (s.putLehr x).matrix = s.matrix := (rfl)
@[simp] theorem putLehr_ctxs (x : Lehr) : (s.putLehr x).ctxs = s.ctxs := (rfl)
@[simp] theorem putLehr_jobs (x : Lehr) : (s.putLehr x).jobs = s.jobs := (rfl)
@[simp] theorem putLehr_lanes (x : Lehr) : (s.putLehr x).lanes = s.lanes := (rfl)
@[simp] theorem putLehr_mode (x : Lehr) : (s.putLehr x).mode = s.mode := (rfl)
@[simp] theorem putLehr_mram (x : Lehr) : (s.putLehr x).mram = s.mram := (rfl)
@[simp] theorem putLehr_cores (x : Lehr) : (s.putLehr x).cores = s.cores := (rfl)
@[simp] theorem putLehr_amp (x : Lehr) : (s.putLehr x).amp = s.amp := (rfl)
@[simp] theorem putLehr_poisoned (x : Lehr) : (s.putLehr x).poisoned = s.poisoned := (rfl)
@[simp] theorem putLehr_out (x : Lehr) : (s.putLehr x).out = s.out := (rfl)
@[simp] theorem putLehr_freeCount (x : Lehr) : (s.putLehr x).freeCount = s.freeCount := (rfl)
@[simp] theorem putLehr_pending (x : Lehr) : (s.putLehr x).pending = s.pending := (rfl)
@[simp] theorem putLehr_lehr (x : Lehr) : (s.putLehr x).lehr = x := (rfl)
@[simp] theorem putLehr_session_read (x : Lehr) (k : Nat) : (s.putLehr x).session k = s.session k := (rfl)
@[simp] theorem putLehr_clause_read (x : Lehr) (k : Nat) : (s.putLehr x).clause k = s.clause k := (rfl)
@[simp] theorem putLehr_source_read (x : Lehr) (k : Nat) : (s.putLehr x).source k = s.source k := (rfl)
@[simp] theorem putLehr_linkTime_read (x : Lehr) (k : Nat) : (s.putLehr x).linkTime k = s.linkTime k := (rfl)
@[simp] theorem putLehr_ptp_read (x : Lehr) (k : Nat) : (s.putLehr x).ptp k = s.ptp k := (rfl)
@[simp] theorem putLehr_queue_read (x : Lehr) (k : Nat) : (s.putLehr x).queue k = s.queue k := (rfl)
@[simp] theorem putLehr_dramCh_read (x : Lehr) (k : Nat) : (s.putLehr x).dramCh k = s.dramCh k := (rfl)
@[simp] theorem putLehr_link_read (x : Lehr) (k : Nat) : (s.putLehr x).link k = s.link k := (rfl)
@[simp] theorem putLehr_chan_read (x : Lehr) (k : Nat) : (s.putLehr x).chan k = s.chan k := (rfl)
@[simp] theorem putLehr_quad_read (x : Lehr) (k : Nat) : (s.putLehr x).quad k = s.quad k := (rfl)
@[simp] theorem putLehr_dieRef_read (x : Lehr) (k : Nat) : (s.putLehr x).dieRef k = s.dieRef k := (rfl)
@[simp] theorem putLehr_spare_read (x : Lehr) (k : Nat) : (s.putLehr x).spare k = s.spare k := (rfl)
@[simp] theorem putLehr_path_read (x : Lehr) (k : Nat) : (s.putLehr x).path k = s.path k := (rfl)
@[simp] theorem putLehr_cap_read (x : Lehr) (k : Nat) : (s.putLehr x).cap k = s.cap k := (rfl)
@[simp] theorem putLehr_ctx_read (x : Lehr) (k : Nat) : (s.putLehr x).ctx k = s.ctx k := (rfl)
@[simp] theorem putLehr_job_read (x : Lehr) (k : Nat) : (s.putLehr x).job k = s.job k := (rfl)
@[simp] theorem putLehr_lane_read (x : Lehr) (k : Nat) : (s.putLehr x).lane k = s.lane k := (rfl)
@[simp] theorem putLehr_bundle_read (x : Lehr) (k : Nat) : (s.putLehr x).bundle k = s.bundle k := (rfl)
@[simp] theorem putLehr_rd (x : Lehr) (k : Reg) : (s.putLehr x).rd k = s.rd k := (rfl)
@[simp] theorem putLehr_rdDom (x : Lehr) (k : Reg) : (s.putLehr x).rdDom k = s.rdDom k := (rfl)

/-! ### `putMatrix` -/

@[simp] theorem putMatrix_part (x : Matrix) : (s.putMatrix x).part = s.part := (rfl)
@[simp] theorem putMatrix_regs (x : Matrix) : (s.putMatrix x).regs = s.regs := (rfl)
@[simp] theorem putMatrix_doms (x : Matrix) : (s.putMatrix x).doms = s.doms := (rfl)
@[simp] theorem putMatrix_time (x : Matrix) : (s.putMatrix x).time = s.time := (rfl)
@[simp] theorem putMatrix_sessions (x : Matrix) : (s.putMatrix x).sessions = s.sessions := (rfl)
@[simp] theorem putMatrix_clauses (x : Matrix) : (s.putMatrix x).clauses = s.clauses := (rfl)
@[simp] theorem putMatrix_lastClause (x : Matrix) : (s.putMatrix x).lastClause = s.lastClause := (rfl)
@[simp] theorem putMatrix_canIn (x : Matrix) : (s.putMatrix x).canIn = s.canIn := (rfl)
@[simp] theorem putMatrix_forwarded (x : Matrix) : (s.putMatrix x).forwarded = s.forwarded := (rfl)
@[simp] theorem putMatrix_held (x : Matrix) : (s.putMatrix x).held = s.held := (rfl)
@[simp] theorem putMatrix_queues (x : Matrix) : (s.putMatrix x).queues = s.queues := (rfl)
@[simp] theorem putMatrix_dram (x : Matrix) : (s.putMatrix x).dram = s.dram := (rfl)
@[simp] theorem putMatrix_links (x : Matrix) : (s.putMatrix x).links = s.links := (rfl)
@[simp] theorem putMatrix_chans (x : Matrix) : (s.putMatrix x).chans = s.chans := (rfl)
@[simp] theorem putMatrix_quads (x : Matrix) : (s.putMatrix x).quads = s.quads := (rfl)
@[simp] theorem putMatrix_dieRefs (x : Matrix) : (s.putMatrix x).dieRefs = s.dieRefs := (rfl)
@[simp] theorem putMatrix_spares (x : Matrix) : (s.putMatrix x).spares = s.spares := (rfl)
@[simp] theorem putMatrix_paths (x : Matrix) : (s.putMatrix x).paths = s.paths := (rfl)
@[simp] theorem putMatrix_lehr (x : Matrix) : (s.putMatrix x).lehr = s.lehr := (rfl)
@[simp] theorem putMatrix_caps (x : Matrix) : (s.putMatrix x).caps = s.caps := (rfl)
@[simp] theorem putMatrix_segments (x : Matrix) : (s.putMatrix x).segments = s.segments := (rfl)
@[simp] theorem putMatrix_ctxs (x : Matrix) : (s.putMatrix x).ctxs = s.ctxs := (rfl)
@[simp] theorem putMatrix_jobs (x : Matrix) : (s.putMatrix x).jobs = s.jobs := (rfl)
@[simp] theorem putMatrix_lanes (x : Matrix) : (s.putMatrix x).lanes = s.lanes := (rfl)
@[simp] theorem putMatrix_mode (x : Matrix) : (s.putMatrix x).mode = s.mode := (rfl)
@[simp] theorem putMatrix_mram (x : Matrix) : (s.putMatrix x).mram = s.mram := (rfl)
@[simp] theorem putMatrix_cores (x : Matrix) : (s.putMatrix x).cores = s.cores := (rfl)
@[simp] theorem putMatrix_amp (x : Matrix) : (s.putMatrix x).amp = s.amp := (rfl)
@[simp] theorem putMatrix_poisoned (x : Matrix) : (s.putMatrix x).poisoned = s.poisoned := (rfl)
@[simp] theorem putMatrix_out (x : Matrix) : (s.putMatrix x).out = s.out := (rfl)
@[simp] theorem putMatrix_freeCount (x : Matrix) : (s.putMatrix x).freeCount = s.freeCount := (rfl)
@[simp] theorem putMatrix_pending (x : Matrix) : (s.putMatrix x).pending = s.pending := (rfl)
@[simp] theorem putMatrix_matrix (x : Matrix) : (s.putMatrix x).matrix = x := (rfl)
@[simp] theorem putMatrix_session_read (x : Matrix) (k : Nat) : (s.putMatrix x).session k = s.session k := (rfl)
@[simp] theorem putMatrix_clause_read (x : Matrix) (k : Nat) : (s.putMatrix x).clause k = s.clause k := (rfl)
@[simp] theorem putMatrix_source_read (x : Matrix) (k : Nat) : (s.putMatrix x).source k = s.source k := (rfl)
@[simp] theorem putMatrix_linkTime_read (x : Matrix) (k : Nat) : (s.putMatrix x).linkTime k = s.linkTime k := (rfl)
@[simp] theorem putMatrix_ptp_read (x : Matrix) (k : Nat) : (s.putMatrix x).ptp k = s.ptp k := (rfl)
@[simp] theorem putMatrix_queue_read (x : Matrix) (k : Nat) : (s.putMatrix x).queue k = s.queue k := (rfl)
@[simp] theorem putMatrix_dramCh_read (x : Matrix) (k : Nat) : (s.putMatrix x).dramCh k = s.dramCh k := (rfl)
@[simp] theorem putMatrix_link_read (x : Matrix) (k : Nat) : (s.putMatrix x).link k = s.link k := (rfl)
@[simp] theorem putMatrix_chan_read (x : Matrix) (k : Nat) : (s.putMatrix x).chan k = s.chan k := (rfl)
@[simp] theorem putMatrix_quad_read (x : Matrix) (k : Nat) : (s.putMatrix x).quad k = s.quad k := (rfl)
@[simp] theorem putMatrix_dieRef_read (x : Matrix) (k : Nat) : (s.putMatrix x).dieRef k = s.dieRef k := (rfl)
@[simp] theorem putMatrix_spare_read (x : Matrix) (k : Nat) : (s.putMatrix x).spare k = s.spare k := (rfl)
@[simp] theorem putMatrix_path_read (x : Matrix) (k : Nat) : (s.putMatrix x).path k = s.path k := (rfl)
@[simp] theorem putMatrix_cap_read (x : Matrix) (k : Nat) : (s.putMatrix x).cap k = s.cap k := (rfl)
@[simp] theorem putMatrix_ctx_read (x : Matrix) (k : Nat) : (s.putMatrix x).ctx k = s.ctx k := (rfl)
@[simp] theorem putMatrix_job_read (x : Matrix) (k : Nat) : (s.putMatrix x).job k = s.job k := (rfl)
@[simp] theorem putMatrix_lane_read (x : Matrix) (k : Nat) : (s.putMatrix x).lane k = s.lane k := (rfl)
@[simp] theorem putMatrix_bundle_read (x : Matrix) (k : Nat) : (s.putMatrix x).bundle k = s.bundle k := (rfl)
@[simp] theorem putMatrix_rd (x : Matrix) (k : Reg) : (s.putMatrix x).rd k = s.rd k := (rfl)
@[simp] theorem putMatrix_rdDom (x : Matrix) (k : Reg) : (s.putMatrix x).rdDom k = s.rdDom k := (rfl)

/-! ### `putLanes` -/

@[simp] theorem putLanes_part (x : Lanes) : (s.putLanes x).part = s.part := (rfl)
@[simp] theorem putLanes_regs (x : Lanes) : (s.putLanes x).regs = s.regs := (rfl)
@[simp] theorem putLanes_doms (x : Lanes) : (s.putLanes x).doms = s.doms := (rfl)
@[simp] theorem putLanes_time (x : Lanes) : (s.putLanes x).time = s.time := (rfl)
@[simp] theorem putLanes_sessions (x : Lanes) : (s.putLanes x).sessions = s.sessions := (rfl)
@[simp] theorem putLanes_clauses (x : Lanes) : (s.putLanes x).clauses = s.clauses := (rfl)
@[simp] theorem putLanes_lastClause (x : Lanes) : (s.putLanes x).lastClause = s.lastClause := (rfl)
@[simp] theorem putLanes_canIn (x : Lanes) : (s.putLanes x).canIn = s.canIn := (rfl)
@[simp] theorem putLanes_forwarded (x : Lanes) : (s.putLanes x).forwarded = s.forwarded := (rfl)
@[simp] theorem putLanes_held (x : Lanes) : (s.putLanes x).held = s.held := (rfl)
@[simp] theorem putLanes_queues (x : Lanes) : (s.putLanes x).queues = s.queues := (rfl)
@[simp] theorem putLanes_dram (x : Lanes) : (s.putLanes x).dram = s.dram := (rfl)
@[simp] theorem putLanes_links (x : Lanes) : (s.putLanes x).links = s.links := (rfl)
@[simp] theorem putLanes_chans (x : Lanes) : (s.putLanes x).chans = s.chans := (rfl)
@[simp] theorem putLanes_quads (x : Lanes) : (s.putLanes x).quads = s.quads := (rfl)
@[simp] theorem putLanes_dieRefs (x : Lanes) : (s.putLanes x).dieRefs = s.dieRefs := (rfl)
@[simp] theorem putLanes_spares (x : Lanes) : (s.putLanes x).spares = s.spares := (rfl)
@[simp] theorem putLanes_paths (x : Lanes) : (s.putLanes x).paths = s.paths := (rfl)
@[simp] theorem putLanes_lehr (x : Lanes) : (s.putLanes x).lehr = s.lehr := (rfl)
@[simp] theorem putLanes_caps (x : Lanes) : (s.putLanes x).caps = s.caps := (rfl)
@[simp] theorem putLanes_segments (x : Lanes) : (s.putLanes x).segments = s.segments := (rfl)
@[simp] theorem putLanes_matrix (x : Lanes) : (s.putLanes x).matrix = s.matrix := (rfl)
@[simp] theorem putLanes_ctxs (x : Lanes) : (s.putLanes x).ctxs = s.ctxs := (rfl)
@[simp] theorem putLanes_jobs (x : Lanes) : (s.putLanes x).jobs = s.jobs := (rfl)
@[simp] theorem putLanes_mode (x : Lanes) : (s.putLanes x).mode = s.mode := (rfl)
@[simp] theorem putLanes_mram (x : Lanes) : (s.putLanes x).mram = s.mram := (rfl)
@[simp] theorem putLanes_cores (x : Lanes) : (s.putLanes x).cores = s.cores := (rfl)
@[simp] theorem putLanes_amp (x : Lanes) : (s.putLanes x).amp = s.amp := (rfl)
@[simp] theorem putLanes_poisoned (x : Lanes) : (s.putLanes x).poisoned = s.poisoned := (rfl)
@[simp] theorem putLanes_out (x : Lanes) : (s.putLanes x).out = s.out := (rfl)
@[simp] theorem putLanes_freeCount (x : Lanes) : (s.putLanes x).freeCount = s.freeCount := (rfl)
@[simp] theorem putLanes_pending (x : Lanes) : (s.putLanes x).pending = s.pending := (rfl)
@[simp] theorem putLanes_lanes (x : Lanes) : (s.putLanes x).lanes = x := (rfl)
@[simp] theorem putLanes_session_read (x : Lanes) (k : Nat) : (s.putLanes x).session k = s.session k := (rfl)
@[simp] theorem putLanes_clause_read (x : Lanes) (k : Nat) : (s.putLanes x).clause k = s.clause k := (rfl)
@[simp] theorem putLanes_source_read (x : Lanes) (k : Nat) : (s.putLanes x).source k = s.source k := (rfl)
@[simp] theorem putLanes_linkTime_read (x : Lanes) (k : Nat) : (s.putLanes x).linkTime k = s.linkTime k := (rfl)
@[simp] theorem putLanes_ptp_read (x : Lanes) (k : Nat) : (s.putLanes x).ptp k = s.ptp k := (rfl)
@[simp] theorem putLanes_queue_read (x : Lanes) (k : Nat) : (s.putLanes x).queue k = s.queue k := (rfl)
@[simp] theorem putLanes_dramCh_read (x : Lanes) (k : Nat) : (s.putLanes x).dramCh k = s.dramCh k := (rfl)
@[simp] theorem putLanes_link_read (x : Lanes) (k : Nat) : (s.putLanes x).link k = s.link k := (rfl)
@[simp] theorem putLanes_chan_read (x : Lanes) (k : Nat) : (s.putLanes x).chan k = s.chan k := (rfl)
@[simp] theorem putLanes_quad_read (x : Lanes) (k : Nat) : (s.putLanes x).quad k = s.quad k := (rfl)
@[simp] theorem putLanes_dieRef_read (x : Lanes) (k : Nat) : (s.putLanes x).dieRef k = s.dieRef k := (rfl)
@[simp] theorem putLanes_spare_read (x : Lanes) (k : Nat) : (s.putLanes x).spare k = s.spare k := (rfl)
@[simp] theorem putLanes_path_read (x : Lanes) (k : Nat) : (s.putLanes x).path k = s.path k := (rfl)
@[simp] theorem putLanes_cap_read (x : Lanes) (k : Nat) : (s.putLanes x).cap k = s.cap k := (rfl)
@[simp] theorem putLanes_ctx_read (x : Lanes) (k : Nat) : (s.putLanes x).ctx k = s.ctx k := (rfl)
@[simp] theorem putLanes_job_read (x : Lanes) (k : Nat) : (s.putLanes x).job k = s.job k := (rfl)
@[simp] theorem putLanes_rd (x : Lanes) (k : Reg) : (s.putLanes x).rd k = s.rd k := (rfl)
@[simp] theorem putLanes_rdDom (x : Lanes) (k : Reg) : (s.putLanes x).rdDom k = s.rdDom k := (rfl)

/-! ### `putMode` -/

@[simp] theorem putMode_part (x : ModeSt) : (s.putMode x).part = s.part := (rfl)
@[simp] theorem putMode_regs (x : ModeSt) : (s.putMode x).regs = s.regs := (rfl)
@[simp] theorem putMode_doms (x : ModeSt) : (s.putMode x).doms = s.doms := (rfl)
@[simp] theorem putMode_time (x : ModeSt) : (s.putMode x).time = s.time := (rfl)
@[simp] theorem putMode_sessions (x : ModeSt) : (s.putMode x).sessions = s.sessions := (rfl)
@[simp] theorem putMode_clauses (x : ModeSt) : (s.putMode x).clauses = s.clauses := (rfl)
@[simp] theorem putMode_lastClause (x : ModeSt) : (s.putMode x).lastClause = s.lastClause := (rfl)
@[simp] theorem putMode_canIn (x : ModeSt) : (s.putMode x).canIn = s.canIn := (rfl)
@[simp] theorem putMode_forwarded (x : ModeSt) : (s.putMode x).forwarded = s.forwarded := (rfl)
@[simp] theorem putMode_held (x : ModeSt) : (s.putMode x).held = s.held := (rfl)
@[simp] theorem putMode_queues (x : ModeSt) : (s.putMode x).queues = s.queues := (rfl)
@[simp] theorem putMode_dram (x : ModeSt) : (s.putMode x).dram = s.dram := (rfl)
@[simp] theorem putMode_links (x : ModeSt) : (s.putMode x).links = s.links := (rfl)
@[simp] theorem putMode_chans (x : ModeSt) : (s.putMode x).chans = s.chans := (rfl)
@[simp] theorem putMode_quads (x : ModeSt) : (s.putMode x).quads = s.quads := (rfl)
@[simp] theorem putMode_dieRefs (x : ModeSt) : (s.putMode x).dieRefs = s.dieRefs := (rfl)
@[simp] theorem putMode_spares (x : ModeSt) : (s.putMode x).spares = s.spares := (rfl)
@[simp] theorem putMode_paths (x : ModeSt) : (s.putMode x).paths = s.paths := (rfl)
@[simp] theorem putMode_lehr (x : ModeSt) : (s.putMode x).lehr = s.lehr := (rfl)
@[simp] theorem putMode_caps (x : ModeSt) : (s.putMode x).caps = s.caps := (rfl)
@[simp] theorem putMode_segments (x : ModeSt) : (s.putMode x).segments = s.segments := (rfl)
@[simp] theorem putMode_matrix (x : ModeSt) : (s.putMode x).matrix = s.matrix := (rfl)
@[simp] theorem putMode_ctxs (x : ModeSt) : (s.putMode x).ctxs = s.ctxs := (rfl)
@[simp] theorem putMode_jobs (x : ModeSt) : (s.putMode x).jobs = s.jobs := (rfl)
@[simp] theorem putMode_lanes (x : ModeSt) : (s.putMode x).lanes = s.lanes := (rfl)
@[simp] theorem putMode_mram (x : ModeSt) : (s.putMode x).mram = s.mram := (rfl)
@[simp] theorem putMode_cores (x : ModeSt) : (s.putMode x).cores = s.cores := (rfl)
@[simp] theorem putMode_amp (x : ModeSt) : (s.putMode x).amp = s.amp := (rfl)
@[simp] theorem putMode_poisoned (x : ModeSt) : (s.putMode x).poisoned = s.poisoned := (rfl)
@[simp] theorem putMode_out (x : ModeSt) : (s.putMode x).out = s.out := (rfl)
@[simp] theorem putMode_freeCount (x : ModeSt) : (s.putMode x).freeCount = s.freeCount := (rfl)
@[simp] theorem putMode_pending (x : ModeSt) : (s.putMode x).pending = s.pending := (rfl)
@[simp] theorem putMode_mode (x : ModeSt) : (s.putMode x).mode = x := (rfl)
@[simp] theorem putMode_session_read (x : ModeSt) (k : Nat) : (s.putMode x).session k = s.session k := (rfl)
@[simp] theorem putMode_clause_read (x : ModeSt) (k : Nat) : (s.putMode x).clause k = s.clause k := (rfl)
@[simp] theorem putMode_source_read (x : ModeSt) (k : Nat) : (s.putMode x).source k = s.source k := (rfl)
@[simp] theorem putMode_linkTime_read (x : ModeSt) (k : Nat) : (s.putMode x).linkTime k = s.linkTime k := (rfl)
@[simp] theorem putMode_ptp_read (x : ModeSt) (k : Nat) : (s.putMode x).ptp k = s.ptp k := (rfl)
@[simp] theorem putMode_queue_read (x : ModeSt) (k : Nat) : (s.putMode x).queue k = s.queue k := (rfl)
@[simp] theorem putMode_dramCh_read (x : ModeSt) (k : Nat) : (s.putMode x).dramCh k = s.dramCh k := (rfl)
@[simp] theorem putMode_link_read (x : ModeSt) (k : Nat) : (s.putMode x).link k = s.link k := (rfl)
@[simp] theorem putMode_chan_read (x : ModeSt) (k : Nat) : (s.putMode x).chan k = s.chan k := (rfl)
@[simp] theorem putMode_quad_read (x : ModeSt) (k : Nat) : (s.putMode x).quad k = s.quad k := (rfl)
@[simp] theorem putMode_dieRef_read (x : ModeSt) (k : Nat) : (s.putMode x).dieRef k = s.dieRef k := (rfl)
@[simp] theorem putMode_spare_read (x : ModeSt) (k : Nat) : (s.putMode x).spare k = s.spare k := (rfl)
@[simp] theorem putMode_path_read (x : ModeSt) (k : Nat) : (s.putMode x).path k = s.path k := (rfl)
@[simp] theorem putMode_cap_read (x : ModeSt) (k : Nat) : (s.putMode x).cap k = s.cap k := (rfl)
@[simp] theorem putMode_ctx_read (x : ModeSt) (k : Nat) : (s.putMode x).ctx k = s.ctx k := (rfl)
@[simp] theorem putMode_job_read (x : ModeSt) (k : Nat) : (s.putMode x).job k = s.job k := (rfl)
@[simp] theorem putMode_lane_read (x : ModeSt) (k : Nat) : (s.putMode x).lane k = s.lane k := (rfl)
@[simp] theorem putMode_bundle_read (x : ModeSt) (k : Nat) : (s.putMode x).bundle k = s.bundle k := (rfl)
@[simp] theorem putMode_rd (x : ModeSt) (k : Reg) : (s.putMode x).rd k = s.rd k := (rfl)
@[simp] theorem putMode_rdDom (x : ModeSt) (k : Reg) : (s.putMode x).rdDom k = s.rdDom k := (rfl)

/-! ### `putMram` -/

@[simp] theorem putMram_part (x : Mram) : (s.putMram x).part = s.part := (rfl)
@[simp] theorem putMram_regs (x : Mram) : (s.putMram x).regs = s.regs := (rfl)
@[simp] theorem putMram_doms (x : Mram) : (s.putMram x).doms = s.doms := (rfl)
@[simp] theorem putMram_time (x : Mram) : (s.putMram x).time = s.time := (rfl)
@[simp] theorem putMram_sessions (x : Mram) : (s.putMram x).sessions = s.sessions := (rfl)
@[simp] theorem putMram_clauses (x : Mram) : (s.putMram x).clauses = s.clauses := (rfl)
@[simp] theorem putMram_lastClause (x : Mram) : (s.putMram x).lastClause = s.lastClause := (rfl)
@[simp] theorem putMram_canIn (x : Mram) : (s.putMram x).canIn = s.canIn := (rfl)
@[simp] theorem putMram_forwarded (x : Mram) : (s.putMram x).forwarded = s.forwarded := (rfl)
@[simp] theorem putMram_held (x : Mram) : (s.putMram x).held = s.held := (rfl)
@[simp] theorem putMram_queues (x : Mram) : (s.putMram x).queues = s.queues := (rfl)
@[simp] theorem putMram_dram (x : Mram) : (s.putMram x).dram = s.dram := (rfl)
@[simp] theorem putMram_links (x : Mram) : (s.putMram x).links = s.links := (rfl)
@[simp] theorem putMram_chans (x : Mram) : (s.putMram x).chans = s.chans := (rfl)
@[simp] theorem putMram_quads (x : Mram) : (s.putMram x).quads = s.quads := (rfl)
@[simp] theorem putMram_dieRefs (x : Mram) : (s.putMram x).dieRefs = s.dieRefs := (rfl)
@[simp] theorem putMram_spares (x : Mram) : (s.putMram x).spares = s.spares := (rfl)
@[simp] theorem putMram_paths (x : Mram) : (s.putMram x).paths = s.paths := (rfl)
@[simp] theorem putMram_lehr (x : Mram) : (s.putMram x).lehr = s.lehr := (rfl)
@[simp] theorem putMram_caps (x : Mram) : (s.putMram x).caps = s.caps := (rfl)
@[simp] theorem putMram_segments (x : Mram) : (s.putMram x).segments = s.segments := (rfl)
@[simp] theorem putMram_matrix (x : Mram) : (s.putMram x).matrix = s.matrix := (rfl)
@[simp] theorem putMram_ctxs (x : Mram) : (s.putMram x).ctxs = s.ctxs := (rfl)
@[simp] theorem putMram_jobs (x : Mram) : (s.putMram x).jobs = s.jobs := (rfl)
@[simp] theorem putMram_lanes (x : Mram) : (s.putMram x).lanes = s.lanes := (rfl)
@[simp] theorem putMram_mode (x : Mram) : (s.putMram x).mode = s.mode := (rfl)
@[simp] theorem putMram_cores (x : Mram) : (s.putMram x).cores = s.cores := (rfl)
@[simp] theorem putMram_amp (x : Mram) : (s.putMram x).amp = s.amp := (rfl)
@[simp] theorem putMram_poisoned (x : Mram) : (s.putMram x).poisoned = s.poisoned := (rfl)
@[simp] theorem putMram_out (x : Mram) : (s.putMram x).out = s.out := (rfl)
@[simp] theorem putMram_freeCount (x : Mram) : (s.putMram x).freeCount = s.freeCount := (rfl)
@[simp] theorem putMram_pending (x : Mram) : (s.putMram x).pending = s.pending := (rfl)
@[simp] theorem putMram_mram (x : Mram) : (s.putMram x).mram = x := (rfl)
@[simp] theorem putMram_session_read (x : Mram) (k : Nat) : (s.putMram x).session k = s.session k := (rfl)
@[simp] theorem putMram_clause_read (x : Mram) (k : Nat) : (s.putMram x).clause k = s.clause k := (rfl)
@[simp] theorem putMram_source_read (x : Mram) (k : Nat) : (s.putMram x).source k = s.source k := (rfl)
@[simp] theorem putMram_linkTime_read (x : Mram) (k : Nat) : (s.putMram x).linkTime k = s.linkTime k := (rfl)
@[simp] theorem putMram_ptp_read (x : Mram) (k : Nat) : (s.putMram x).ptp k = s.ptp k := (rfl)
@[simp] theorem putMram_queue_read (x : Mram) (k : Nat) : (s.putMram x).queue k = s.queue k := (rfl)
@[simp] theorem putMram_dramCh_read (x : Mram) (k : Nat) : (s.putMram x).dramCh k = s.dramCh k := (rfl)
@[simp] theorem putMram_link_read (x : Mram) (k : Nat) : (s.putMram x).link k = s.link k := (rfl)
@[simp] theorem putMram_chan_read (x : Mram) (k : Nat) : (s.putMram x).chan k = s.chan k := (rfl)
@[simp] theorem putMram_quad_read (x : Mram) (k : Nat) : (s.putMram x).quad k = s.quad k := (rfl)
@[simp] theorem putMram_dieRef_read (x : Mram) (k : Nat) : (s.putMram x).dieRef k = s.dieRef k := (rfl)
@[simp] theorem putMram_spare_read (x : Mram) (k : Nat) : (s.putMram x).spare k = s.spare k := (rfl)
@[simp] theorem putMram_path_read (x : Mram) (k : Nat) : (s.putMram x).path k = s.path k := (rfl)
@[simp] theorem putMram_cap_read (x : Mram) (k : Nat) : (s.putMram x).cap k = s.cap k := (rfl)
@[simp] theorem putMram_ctx_read (x : Mram) (k : Nat) : (s.putMram x).ctx k = s.ctx k := (rfl)
@[simp] theorem putMram_job_read (x : Mram) (k : Nat) : (s.putMram x).job k = s.job k := (rfl)
@[simp] theorem putMram_lane_read (x : Mram) (k : Nat) : (s.putMram x).lane k = s.lane k := (rfl)
@[simp] theorem putMram_bundle_read (x : Mram) (k : Nat) : (s.putMram x).bundle k = s.bundle k := (rfl)
@[simp] theorem putMram_rd (x : Mram) (k : Reg) : (s.putMram x).rd k = s.rd k := (rfl)
@[simp] theorem putMram_rdDom (x : Mram) (k : Reg) : (s.putMram x).rdDom k = s.rdDom k := (rfl)

/-! ### `putCores` -/

@[simp] theorem putCores_part (x : Cores) : (s.putCores x).part = s.part := (rfl)
@[simp] theorem putCores_regs (x : Cores) : (s.putCores x).regs = s.regs := (rfl)
@[simp] theorem putCores_doms (x : Cores) : (s.putCores x).doms = s.doms := (rfl)
@[simp] theorem putCores_time (x : Cores) : (s.putCores x).time = s.time := (rfl)
@[simp] theorem putCores_sessions (x : Cores) : (s.putCores x).sessions = s.sessions := (rfl)
@[simp] theorem putCores_clauses (x : Cores) : (s.putCores x).clauses = s.clauses := (rfl)
@[simp] theorem putCores_lastClause (x : Cores) : (s.putCores x).lastClause = s.lastClause := (rfl)
@[simp] theorem putCores_canIn (x : Cores) : (s.putCores x).canIn = s.canIn := (rfl)
@[simp] theorem putCores_forwarded (x : Cores) : (s.putCores x).forwarded = s.forwarded := (rfl)
@[simp] theorem putCores_held (x : Cores) : (s.putCores x).held = s.held := (rfl)
@[simp] theorem putCores_queues (x : Cores) : (s.putCores x).queues = s.queues := (rfl)
@[simp] theorem putCores_dram (x : Cores) : (s.putCores x).dram = s.dram := (rfl)
@[simp] theorem putCores_links (x : Cores) : (s.putCores x).links = s.links := (rfl)
@[simp] theorem putCores_chans (x : Cores) : (s.putCores x).chans = s.chans := (rfl)
@[simp] theorem putCores_quads (x : Cores) : (s.putCores x).quads = s.quads := (rfl)
@[simp] theorem putCores_dieRefs (x : Cores) : (s.putCores x).dieRefs = s.dieRefs := (rfl)
@[simp] theorem putCores_spares (x : Cores) : (s.putCores x).spares = s.spares := (rfl)
@[simp] theorem putCores_paths (x : Cores) : (s.putCores x).paths = s.paths := (rfl)
@[simp] theorem putCores_lehr (x : Cores) : (s.putCores x).lehr = s.lehr := (rfl)
@[simp] theorem putCores_caps (x : Cores) : (s.putCores x).caps = s.caps := (rfl)
@[simp] theorem putCores_segments (x : Cores) : (s.putCores x).segments = s.segments := (rfl)
@[simp] theorem putCores_matrix (x : Cores) : (s.putCores x).matrix = s.matrix := (rfl)
@[simp] theorem putCores_ctxs (x : Cores) : (s.putCores x).ctxs = s.ctxs := (rfl)
@[simp] theorem putCores_jobs (x : Cores) : (s.putCores x).jobs = s.jobs := (rfl)
@[simp] theorem putCores_lanes (x : Cores) : (s.putCores x).lanes = s.lanes := (rfl)
@[simp] theorem putCores_mode (x : Cores) : (s.putCores x).mode = s.mode := (rfl)
@[simp] theorem putCores_mram (x : Cores) : (s.putCores x).mram = s.mram := (rfl)
@[simp] theorem putCores_amp (x : Cores) : (s.putCores x).amp = s.amp := (rfl)
@[simp] theorem putCores_poisoned (x : Cores) : (s.putCores x).poisoned = s.poisoned := (rfl)
@[simp] theorem putCores_out (x : Cores) : (s.putCores x).out = s.out := (rfl)
@[simp] theorem putCores_freeCount (x : Cores) : (s.putCores x).freeCount = s.freeCount := (rfl)
@[simp] theorem putCores_pending (x : Cores) : (s.putCores x).pending = s.pending := (rfl)
@[simp] theorem putCores_cores (x : Cores) : (s.putCores x).cores = x := (rfl)
@[simp] theorem putCores_session_read (x : Cores) (k : Nat) : (s.putCores x).session k = s.session k := (rfl)
@[simp] theorem putCores_clause_read (x : Cores) (k : Nat) : (s.putCores x).clause k = s.clause k := (rfl)
@[simp] theorem putCores_source_read (x : Cores) (k : Nat) : (s.putCores x).source k = s.source k := (rfl)
@[simp] theorem putCores_linkTime_read (x : Cores) (k : Nat) : (s.putCores x).linkTime k = s.linkTime k := (rfl)
@[simp] theorem putCores_ptp_read (x : Cores) (k : Nat) : (s.putCores x).ptp k = s.ptp k := (rfl)
@[simp] theorem putCores_queue_read (x : Cores) (k : Nat) : (s.putCores x).queue k = s.queue k := (rfl)
@[simp] theorem putCores_dramCh_read (x : Cores) (k : Nat) : (s.putCores x).dramCh k = s.dramCh k := (rfl)
@[simp] theorem putCores_link_read (x : Cores) (k : Nat) : (s.putCores x).link k = s.link k := (rfl)
@[simp] theorem putCores_chan_read (x : Cores) (k : Nat) : (s.putCores x).chan k = s.chan k := (rfl)
@[simp] theorem putCores_quad_read (x : Cores) (k : Nat) : (s.putCores x).quad k = s.quad k := (rfl)
@[simp] theorem putCores_dieRef_read (x : Cores) (k : Nat) : (s.putCores x).dieRef k = s.dieRef k := (rfl)
@[simp] theorem putCores_spare_read (x : Cores) (k : Nat) : (s.putCores x).spare k = s.spare k := (rfl)
@[simp] theorem putCores_path_read (x : Cores) (k : Nat) : (s.putCores x).path k = s.path k := (rfl)
@[simp] theorem putCores_cap_read (x : Cores) (k : Nat) : (s.putCores x).cap k = s.cap k := (rfl)
@[simp] theorem putCores_ctx_read (x : Cores) (k : Nat) : (s.putCores x).ctx k = s.ctx k := (rfl)
@[simp] theorem putCores_job_read (x : Cores) (k : Nat) : (s.putCores x).job k = s.job k := (rfl)
@[simp] theorem putCores_lane_read (x : Cores) (k : Nat) : (s.putCores x).lane k = s.lane k := (rfl)
@[simp] theorem putCores_bundle_read (x : Cores) (k : Nat) : (s.putCores x).bundle k = s.bundle k := (rfl)
@[simp] theorem putCores_rd (x : Cores) (k : Reg) : (s.putCores x).rd k = s.rd k := (rfl)
@[simp] theorem putCores_rdDom (x : Cores) (k : Reg) : (s.putCores x).rdDom k = s.rdDom k := (rfl)

/-! ### `putAmp` -/

@[simp] theorem putAmp_part (x : Ampoule) : (s.putAmp x).part = s.part := (rfl)
@[simp] theorem putAmp_regs (x : Ampoule) : (s.putAmp x).regs = s.regs := (rfl)
@[simp] theorem putAmp_doms (x : Ampoule) : (s.putAmp x).doms = s.doms := (rfl)
@[simp] theorem putAmp_time (x : Ampoule) : (s.putAmp x).time = s.time := (rfl)
@[simp] theorem putAmp_sessions (x : Ampoule) : (s.putAmp x).sessions = s.sessions := (rfl)
@[simp] theorem putAmp_clauses (x : Ampoule) : (s.putAmp x).clauses = s.clauses := (rfl)
@[simp] theorem putAmp_lastClause (x : Ampoule) : (s.putAmp x).lastClause = s.lastClause := (rfl)
@[simp] theorem putAmp_canIn (x : Ampoule) : (s.putAmp x).canIn = s.canIn := (rfl)
@[simp] theorem putAmp_forwarded (x : Ampoule) : (s.putAmp x).forwarded = s.forwarded := (rfl)
@[simp] theorem putAmp_held (x : Ampoule) : (s.putAmp x).held = s.held := (rfl)
@[simp] theorem putAmp_queues (x : Ampoule) : (s.putAmp x).queues = s.queues := (rfl)
@[simp] theorem putAmp_dram (x : Ampoule) : (s.putAmp x).dram = s.dram := (rfl)
@[simp] theorem putAmp_links (x : Ampoule) : (s.putAmp x).links = s.links := (rfl)
@[simp] theorem putAmp_chans (x : Ampoule) : (s.putAmp x).chans = s.chans := (rfl)
@[simp] theorem putAmp_quads (x : Ampoule) : (s.putAmp x).quads = s.quads := (rfl)
@[simp] theorem putAmp_dieRefs (x : Ampoule) : (s.putAmp x).dieRefs = s.dieRefs := (rfl)
@[simp] theorem putAmp_spares (x : Ampoule) : (s.putAmp x).spares = s.spares := (rfl)
@[simp] theorem putAmp_paths (x : Ampoule) : (s.putAmp x).paths = s.paths := (rfl)
@[simp] theorem putAmp_lehr (x : Ampoule) : (s.putAmp x).lehr = s.lehr := (rfl)
@[simp] theorem putAmp_caps (x : Ampoule) : (s.putAmp x).caps = s.caps := (rfl)
@[simp] theorem putAmp_segments (x : Ampoule) : (s.putAmp x).segments = s.segments := (rfl)
@[simp] theorem putAmp_matrix (x : Ampoule) : (s.putAmp x).matrix = s.matrix := (rfl)
@[simp] theorem putAmp_ctxs (x : Ampoule) : (s.putAmp x).ctxs = s.ctxs := (rfl)
@[simp] theorem putAmp_jobs (x : Ampoule) : (s.putAmp x).jobs = s.jobs := (rfl)
@[simp] theorem putAmp_lanes (x : Ampoule) : (s.putAmp x).lanes = s.lanes := (rfl)
@[simp] theorem putAmp_mode (x : Ampoule) : (s.putAmp x).mode = s.mode := (rfl)
@[simp] theorem putAmp_mram (x : Ampoule) : (s.putAmp x).mram = s.mram := (rfl)
@[simp] theorem putAmp_cores (x : Ampoule) : (s.putAmp x).cores = s.cores := (rfl)
@[simp] theorem putAmp_poisoned (x : Ampoule) : (s.putAmp x).poisoned = s.poisoned := (rfl)
@[simp] theorem putAmp_out (x : Ampoule) : (s.putAmp x).out = s.out := (rfl)
@[simp] theorem putAmp_freeCount (x : Ampoule) : (s.putAmp x).freeCount = s.freeCount := (rfl)
@[simp] theorem putAmp_pending (x : Ampoule) : (s.putAmp x).pending = s.pending := (rfl)
@[simp] theorem putAmp_amp (x : Ampoule) : (s.putAmp x).amp = x := (rfl)
@[simp] theorem putAmp_session_read (x : Ampoule) (k : Nat) : (s.putAmp x).session k = s.session k := (rfl)
@[simp] theorem putAmp_clause_read (x : Ampoule) (k : Nat) : (s.putAmp x).clause k = s.clause k := (rfl)
@[simp] theorem putAmp_source_read (x : Ampoule) (k : Nat) : (s.putAmp x).source k = s.source k := (rfl)
@[simp] theorem putAmp_linkTime_read (x : Ampoule) (k : Nat) : (s.putAmp x).linkTime k = s.linkTime k := (rfl)
@[simp] theorem putAmp_ptp_read (x : Ampoule) (k : Nat) : (s.putAmp x).ptp k = s.ptp k := (rfl)
@[simp] theorem putAmp_queue_read (x : Ampoule) (k : Nat) : (s.putAmp x).queue k = s.queue k := (rfl)
@[simp] theorem putAmp_dramCh_read (x : Ampoule) (k : Nat) : (s.putAmp x).dramCh k = s.dramCh k := (rfl)
@[simp] theorem putAmp_link_read (x : Ampoule) (k : Nat) : (s.putAmp x).link k = s.link k := (rfl)
@[simp] theorem putAmp_chan_read (x : Ampoule) (k : Nat) : (s.putAmp x).chan k = s.chan k := (rfl)
@[simp] theorem putAmp_quad_read (x : Ampoule) (k : Nat) : (s.putAmp x).quad k = s.quad k := (rfl)
@[simp] theorem putAmp_dieRef_read (x : Ampoule) (k : Nat) : (s.putAmp x).dieRef k = s.dieRef k := (rfl)
@[simp] theorem putAmp_spare_read (x : Ampoule) (k : Nat) : (s.putAmp x).spare k = s.spare k := (rfl)
@[simp] theorem putAmp_path_read (x : Ampoule) (k : Nat) : (s.putAmp x).path k = s.path k := (rfl)
@[simp] theorem putAmp_cap_read (x : Ampoule) (k : Nat) : (s.putAmp x).cap k = s.cap k := (rfl)
@[simp] theorem putAmp_ctx_read (x : Ampoule) (k : Nat) : (s.putAmp x).ctx k = s.ctx k := (rfl)
@[simp] theorem putAmp_job_read (x : Ampoule) (k : Nat) : (s.putAmp x).job k = s.job k := (rfl)
@[simp] theorem putAmp_lane_read (x : Ampoule) (k : Nat) : (s.putAmp x).lane k = s.lane k := (rfl)
@[simp] theorem putAmp_bundle_read (x : Ampoule) (k : Nat) : (s.putAmp x).bundle k = s.bundle k := (rfl)
@[simp] theorem putAmp_rd (x : Ampoule) (k : Reg) : (s.putAmp x).rd k = s.rd k := (rfl)
@[simp] theorem putAmp_rdDom (x : Ampoule) (k : Reg) : (s.putAmp x).rdDom k = s.rdDom k := (rfl)

/-! ### `putSegments` -/

@[simp] theorem putSegments_part (x : List Segment) : (s.putSegments x).part = s.part := (rfl)
@[simp] theorem putSegments_regs (x : List Segment) : (s.putSegments x).regs = s.regs := (rfl)
@[simp] theorem putSegments_doms (x : List Segment) : (s.putSegments x).doms = s.doms := (rfl)
@[simp] theorem putSegments_time (x : List Segment) : (s.putSegments x).time = s.time := (rfl)
@[simp] theorem putSegments_sessions (x : List Segment) : (s.putSegments x).sessions = s.sessions := (rfl)
@[simp] theorem putSegments_clauses (x : List Segment) : (s.putSegments x).clauses = s.clauses := (rfl)
@[simp] theorem putSegments_lastClause (x : List Segment) : (s.putSegments x).lastClause = s.lastClause := (rfl)
@[simp] theorem putSegments_canIn (x : List Segment) : (s.putSegments x).canIn = s.canIn := (rfl)
@[simp] theorem putSegments_forwarded (x : List Segment) : (s.putSegments x).forwarded = s.forwarded := (rfl)
@[simp] theorem putSegments_held (x : List Segment) : (s.putSegments x).held = s.held := (rfl)
@[simp] theorem putSegments_queues (x : List Segment) : (s.putSegments x).queues = s.queues := (rfl)
@[simp] theorem putSegments_dram (x : List Segment) : (s.putSegments x).dram = s.dram := (rfl)
@[simp] theorem putSegments_links (x : List Segment) : (s.putSegments x).links = s.links := (rfl)
@[simp] theorem putSegments_chans (x : List Segment) : (s.putSegments x).chans = s.chans := (rfl)
@[simp] theorem putSegments_quads (x : List Segment) : (s.putSegments x).quads = s.quads := (rfl)
@[simp] theorem putSegments_dieRefs (x : List Segment) : (s.putSegments x).dieRefs = s.dieRefs := (rfl)
@[simp] theorem putSegments_spares (x : List Segment) : (s.putSegments x).spares = s.spares := (rfl)
@[simp] theorem putSegments_paths (x : List Segment) : (s.putSegments x).paths = s.paths := (rfl)
@[simp] theorem putSegments_lehr (x : List Segment) : (s.putSegments x).lehr = s.lehr := (rfl)
@[simp] theorem putSegments_caps (x : List Segment) : (s.putSegments x).caps = s.caps := (rfl)
@[simp] theorem putSegments_matrix (x : List Segment) : (s.putSegments x).matrix = s.matrix := (rfl)
@[simp] theorem putSegments_ctxs (x : List Segment) : (s.putSegments x).ctxs = s.ctxs := (rfl)
@[simp] theorem putSegments_jobs (x : List Segment) : (s.putSegments x).jobs = s.jobs := (rfl)
@[simp] theorem putSegments_lanes (x : List Segment) : (s.putSegments x).lanes = s.lanes := (rfl)
@[simp] theorem putSegments_mode (x : List Segment) : (s.putSegments x).mode = s.mode := (rfl)
@[simp] theorem putSegments_mram (x : List Segment) : (s.putSegments x).mram = s.mram := (rfl)
@[simp] theorem putSegments_cores (x : List Segment) : (s.putSegments x).cores = s.cores := (rfl)
@[simp] theorem putSegments_amp (x : List Segment) : (s.putSegments x).amp = s.amp := (rfl)
@[simp] theorem putSegments_poisoned (x : List Segment) : (s.putSegments x).poisoned = s.poisoned := (rfl)
@[simp] theorem putSegments_out (x : List Segment) : (s.putSegments x).out = s.out := (rfl)
@[simp] theorem putSegments_freeCount (x : List Segment) : (s.putSegments x).freeCount = s.freeCount := (rfl)
@[simp] theorem putSegments_pending (x : List Segment) : (s.putSegments x).pending = s.pending := (rfl)
@[simp] theorem putSegments_segments (x : List Segment) : (s.putSegments x).segments = x := (rfl)
@[simp] theorem putSegments_session_read (x : List Segment) (k : Nat) : (s.putSegments x).session k = s.session k := (rfl)
@[simp] theorem putSegments_clause_read (x : List Segment) (k : Nat) : (s.putSegments x).clause k = s.clause k := (rfl)
@[simp] theorem putSegments_source_read (x : List Segment) (k : Nat) : (s.putSegments x).source k = s.source k := (rfl)
@[simp] theorem putSegments_linkTime_read (x : List Segment) (k : Nat) : (s.putSegments x).linkTime k = s.linkTime k := (rfl)
@[simp] theorem putSegments_ptp_read (x : List Segment) (k : Nat) : (s.putSegments x).ptp k = s.ptp k := (rfl)
@[simp] theorem putSegments_queue_read (x : List Segment) (k : Nat) : (s.putSegments x).queue k = s.queue k := (rfl)
@[simp] theorem putSegments_dramCh_read (x : List Segment) (k : Nat) : (s.putSegments x).dramCh k = s.dramCh k := (rfl)
@[simp] theorem putSegments_link_read (x : List Segment) (k : Nat) : (s.putSegments x).link k = s.link k := (rfl)
@[simp] theorem putSegments_chan_read (x : List Segment) (k : Nat) : (s.putSegments x).chan k = s.chan k := (rfl)
@[simp] theorem putSegments_quad_read (x : List Segment) (k : Nat) : (s.putSegments x).quad k = s.quad k := (rfl)
@[simp] theorem putSegments_dieRef_read (x : List Segment) (k : Nat) : (s.putSegments x).dieRef k = s.dieRef k := (rfl)
@[simp] theorem putSegments_spare_read (x : List Segment) (k : Nat) : (s.putSegments x).spare k = s.spare k := (rfl)
@[simp] theorem putSegments_path_read (x : List Segment) (k : Nat) : (s.putSegments x).path k = s.path k := (rfl)
@[simp] theorem putSegments_cap_read (x : List Segment) (k : Nat) : (s.putSegments x).cap k = s.cap k := (rfl)
@[simp] theorem putSegments_ctx_read (x : List Segment) (k : Nat) : (s.putSegments x).ctx k = s.ctx k := (rfl)
@[simp] theorem putSegments_job_read (x : List Segment) (k : Nat) : (s.putSegments x).job k = s.job k := (rfl)
@[simp] theorem putSegments_lane_read (x : List Segment) (k : Nat) : (s.putSegments x).lane k = s.lane k := (rfl)
@[simp] theorem putSegments_bundle_read (x : List Segment) (k : Nat) : (s.putSegments x).bundle k = s.bundle k := (rfl)
@[simp] theorem putSegments_rd (x : List Segment) (k : Reg) : (s.putSegments x).rd k = s.rd k := (rfl)
@[simp] theorem putSegments_rdDom (x : List Segment) (k : Reg) : (s.putSegments x).rdDom k = s.rdDom k := (rfl)

/-! ### `putForwarded` -/

@[simp] theorem putForwarded_part (x : List Fwd) : (s.putForwarded x).part = s.part := (rfl)
@[simp] theorem putForwarded_regs (x : List Fwd) : (s.putForwarded x).regs = s.regs := (rfl)
@[simp] theorem putForwarded_doms (x : List Fwd) : (s.putForwarded x).doms = s.doms := (rfl)
@[simp] theorem putForwarded_time (x : List Fwd) : (s.putForwarded x).time = s.time := (rfl)
@[simp] theorem putForwarded_sessions (x : List Fwd) : (s.putForwarded x).sessions = s.sessions := (rfl)
@[simp] theorem putForwarded_clauses (x : List Fwd) : (s.putForwarded x).clauses = s.clauses := (rfl)
@[simp] theorem putForwarded_lastClause (x : List Fwd) : (s.putForwarded x).lastClause = s.lastClause := (rfl)
@[simp] theorem putForwarded_canIn (x : List Fwd) : (s.putForwarded x).canIn = s.canIn := (rfl)
@[simp] theorem putForwarded_held (x : List Fwd) : (s.putForwarded x).held = s.held := (rfl)
@[simp] theorem putForwarded_queues (x : List Fwd) : (s.putForwarded x).queues = s.queues := (rfl)
@[simp] theorem putForwarded_dram (x : List Fwd) : (s.putForwarded x).dram = s.dram := (rfl)
@[simp] theorem putForwarded_links (x : List Fwd) : (s.putForwarded x).links = s.links := (rfl)
@[simp] theorem putForwarded_chans (x : List Fwd) : (s.putForwarded x).chans = s.chans := (rfl)
@[simp] theorem putForwarded_quads (x : List Fwd) : (s.putForwarded x).quads = s.quads := (rfl)
@[simp] theorem putForwarded_dieRefs (x : List Fwd) : (s.putForwarded x).dieRefs = s.dieRefs := (rfl)
@[simp] theorem putForwarded_spares (x : List Fwd) : (s.putForwarded x).spares = s.spares := (rfl)
@[simp] theorem putForwarded_paths (x : List Fwd) : (s.putForwarded x).paths = s.paths := (rfl)
@[simp] theorem putForwarded_lehr (x : List Fwd) : (s.putForwarded x).lehr = s.lehr := (rfl)
@[simp] theorem putForwarded_caps (x : List Fwd) : (s.putForwarded x).caps = s.caps := (rfl)
@[simp] theorem putForwarded_segments (x : List Fwd) : (s.putForwarded x).segments = s.segments := (rfl)
@[simp] theorem putForwarded_matrix (x : List Fwd) : (s.putForwarded x).matrix = s.matrix := (rfl)
@[simp] theorem putForwarded_ctxs (x : List Fwd) : (s.putForwarded x).ctxs = s.ctxs := (rfl)
@[simp] theorem putForwarded_jobs (x : List Fwd) : (s.putForwarded x).jobs = s.jobs := (rfl)
@[simp] theorem putForwarded_lanes (x : List Fwd) : (s.putForwarded x).lanes = s.lanes := (rfl)
@[simp] theorem putForwarded_mode (x : List Fwd) : (s.putForwarded x).mode = s.mode := (rfl)
@[simp] theorem putForwarded_mram (x : List Fwd) : (s.putForwarded x).mram = s.mram := (rfl)
@[simp] theorem putForwarded_cores (x : List Fwd) : (s.putForwarded x).cores = s.cores := (rfl)
@[simp] theorem putForwarded_amp (x : List Fwd) : (s.putForwarded x).amp = s.amp := (rfl)
@[simp] theorem putForwarded_poisoned (x : List Fwd) : (s.putForwarded x).poisoned = s.poisoned := (rfl)
@[simp] theorem putForwarded_out (x : List Fwd) : (s.putForwarded x).out = s.out := (rfl)
@[simp] theorem putForwarded_freeCount (x : List Fwd) : (s.putForwarded x).freeCount = s.freeCount := (rfl)
@[simp] theorem putForwarded_pending (x : List Fwd) : (s.putForwarded x).pending = s.pending := (rfl)
@[simp] theorem putForwarded_forwarded (x : List Fwd) : (s.putForwarded x).forwarded = x := (rfl)
@[simp] theorem putForwarded_session_read (x : List Fwd) (k : Nat) : (s.putForwarded x).session k = s.session k := (rfl)
@[simp] theorem putForwarded_clause_read (x : List Fwd) (k : Nat) : (s.putForwarded x).clause k = s.clause k := (rfl)
@[simp] theorem putForwarded_source_read (x : List Fwd) (k : Nat) : (s.putForwarded x).source k = s.source k := (rfl)
@[simp] theorem putForwarded_linkTime_read (x : List Fwd) (k : Nat) : (s.putForwarded x).linkTime k = s.linkTime k := (rfl)
@[simp] theorem putForwarded_ptp_read (x : List Fwd) (k : Nat) : (s.putForwarded x).ptp k = s.ptp k := (rfl)
@[simp] theorem putForwarded_queue_read (x : List Fwd) (k : Nat) : (s.putForwarded x).queue k = s.queue k := (rfl)
@[simp] theorem putForwarded_dramCh_read (x : List Fwd) (k : Nat) : (s.putForwarded x).dramCh k = s.dramCh k := (rfl)
@[simp] theorem putForwarded_link_read (x : List Fwd) (k : Nat) : (s.putForwarded x).link k = s.link k := (rfl)
@[simp] theorem putForwarded_chan_read (x : List Fwd) (k : Nat) : (s.putForwarded x).chan k = s.chan k := (rfl)
@[simp] theorem putForwarded_quad_read (x : List Fwd) (k : Nat) : (s.putForwarded x).quad k = s.quad k := (rfl)
@[simp] theorem putForwarded_dieRef_read (x : List Fwd) (k : Nat) : (s.putForwarded x).dieRef k = s.dieRef k := (rfl)
@[simp] theorem putForwarded_spare_read (x : List Fwd) (k : Nat) : (s.putForwarded x).spare k = s.spare k := (rfl)
@[simp] theorem putForwarded_path_read (x : List Fwd) (k : Nat) : (s.putForwarded x).path k = s.path k := (rfl)
@[simp] theorem putForwarded_cap_read (x : List Fwd) (k : Nat) : (s.putForwarded x).cap k = s.cap k := (rfl)
@[simp] theorem putForwarded_ctx_read (x : List Fwd) (k : Nat) : (s.putForwarded x).ctx k = s.ctx k := (rfl)
@[simp] theorem putForwarded_job_read (x : List Fwd) (k : Nat) : (s.putForwarded x).job k = s.job k := (rfl)
@[simp] theorem putForwarded_lane_read (x : List Fwd) (k : Nat) : (s.putForwarded x).lane k = s.lane k := (rfl)
@[simp] theorem putForwarded_bundle_read (x : List Fwd) (k : Nat) : (s.putForwarded x).bundle k = s.bundle k := (rfl)
@[simp] theorem putForwarded_rd (x : List Fwd) (k : Reg) : (s.putForwarded x).rd k = s.rd k := (rfl)
@[simp] theorem putForwarded_rdDom (x : List Fwd) (k : Reg) : (s.putForwarded x).rdDom k = s.rdDom k := (rfl)

/-! ### `putHeld` -/

@[simp] theorem putHeld_part (x : List HeldReq) : (s.putHeld x).part = s.part := (rfl)
@[simp] theorem putHeld_regs (x : List HeldReq) : (s.putHeld x).regs = s.regs := (rfl)
@[simp] theorem putHeld_doms (x : List HeldReq) : (s.putHeld x).doms = s.doms := (rfl)
@[simp] theorem putHeld_time (x : List HeldReq) : (s.putHeld x).time = s.time := (rfl)
@[simp] theorem putHeld_sessions (x : List HeldReq) : (s.putHeld x).sessions = s.sessions := (rfl)
@[simp] theorem putHeld_clauses (x : List HeldReq) : (s.putHeld x).clauses = s.clauses := (rfl)
@[simp] theorem putHeld_lastClause (x : List HeldReq) : (s.putHeld x).lastClause = s.lastClause := (rfl)
@[simp] theorem putHeld_canIn (x : List HeldReq) : (s.putHeld x).canIn = s.canIn := (rfl)
@[simp] theorem putHeld_forwarded (x : List HeldReq) : (s.putHeld x).forwarded = s.forwarded := (rfl)
@[simp] theorem putHeld_queues (x : List HeldReq) : (s.putHeld x).queues = s.queues := (rfl)
@[simp] theorem putHeld_dram (x : List HeldReq) : (s.putHeld x).dram = s.dram := (rfl)
@[simp] theorem putHeld_links (x : List HeldReq) : (s.putHeld x).links = s.links := (rfl)
@[simp] theorem putHeld_chans (x : List HeldReq) : (s.putHeld x).chans = s.chans := (rfl)
@[simp] theorem putHeld_quads (x : List HeldReq) : (s.putHeld x).quads = s.quads := (rfl)
@[simp] theorem putHeld_dieRefs (x : List HeldReq) : (s.putHeld x).dieRefs = s.dieRefs := (rfl)
@[simp] theorem putHeld_spares (x : List HeldReq) : (s.putHeld x).spares = s.spares := (rfl)
@[simp] theorem putHeld_paths (x : List HeldReq) : (s.putHeld x).paths = s.paths := (rfl)
@[simp] theorem putHeld_lehr (x : List HeldReq) : (s.putHeld x).lehr = s.lehr := (rfl)
@[simp] theorem putHeld_caps (x : List HeldReq) : (s.putHeld x).caps = s.caps := (rfl)
@[simp] theorem putHeld_segments (x : List HeldReq) : (s.putHeld x).segments = s.segments := (rfl)
@[simp] theorem putHeld_matrix (x : List HeldReq) : (s.putHeld x).matrix = s.matrix := (rfl)
@[simp] theorem putHeld_ctxs (x : List HeldReq) : (s.putHeld x).ctxs = s.ctxs := (rfl)
@[simp] theorem putHeld_jobs (x : List HeldReq) : (s.putHeld x).jobs = s.jobs := (rfl)
@[simp] theorem putHeld_lanes (x : List HeldReq) : (s.putHeld x).lanes = s.lanes := (rfl)
@[simp] theorem putHeld_mode (x : List HeldReq) : (s.putHeld x).mode = s.mode := (rfl)
@[simp] theorem putHeld_mram (x : List HeldReq) : (s.putHeld x).mram = s.mram := (rfl)
@[simp] theorem putHeld_cores (x : List HeldReq) : (s.putHeld x).cores = s.cores := (rfl)
@[simp] theorem putHeld_amp (x : List HeldReq) : (s.putHeld x).amp = s.amp := (rfl)
@[simp] theorem putHeld_poisoned (x : List HeldReq) : (s.putHeld x).poisoned = s.poisoned := (rfl)
@[simp] theorem putHeld_out (x : List HeldReq) : (s.putHeld x).out = s.out := (rfl)
@[simp] theorem putHeld_freeCount (x : List HeldReq) : (s.putHeld x).freeCount = s.freeCount := (rfl)
@[simp] theorem putHeld_pending (x : List HeldReq) : (s.putHeld x).pending = s.pending := (rfl)
@[simp] theorem putHeld_held (x : List HeldReq) : (s.putHeld x).held = x := (rfl)
@[simp] theorem putHeld_session_read (x : List HeldReq) (k : Nat) : (s.putHeld x).session k = s.session k := (rfl)
@[simp] theorem putHeld_clause_read (x : List HeldReq) (k : Nat) : (s.putHeld x).clause k = s.clause k := (rfl)
@[simp] theorem putHeld_source_read (x : List HeldReq) (k : Nat) : (s.putHeld x).source k = s.source k := (rfl)
@[simp] theorem putHeld_linkTime_read (x : List HeldReq) (k : Nat) : (s.putHeld x).linkTime k = s.linkTime k := (rfl)
@[simp] theorem putHeld_ptp_read (x : List HeldReq) (k : Nat) : (s.putHeld x).ptp k = s.ptp k := (rfl)
@[simp] theorem putHeld_queue_read (x : List HeldReq) (k : Nat) : (s.putHeld x).queue k = s.queue k := (rfl)
@[simp] theorem putHeld_dramCh_read (x : List HeldReq) (k : Nat) : (s.putHeld x).dramCh k = s.dramCh k := (rfl)
@[simp] theorem putHeld_link_read (x : List HeldReq) (k : Nat) : (s.putHeld x).link k = s.link k := (rfl)
@[simp] theorem putHeld_chan_read (x : List HeldReq) (k : Nat) : (s.putHeld x).chan k = s.chan k := (rfl)
@[simp] theorem putHeld_quad_read (x : List HeldReq) (k : Nat) : (s.putHeld x).quad k = s.quad k := (rfl)
@[simp] theorem putHeld_dieRef_read (x : List HeldReq) (k : Nat) : (s.putHeld x).dieRef k = s.dieRef k := (rfl)
@[simp] theorem putHeld_spare_read (x : List HeldReq) (k : Nat) : (s.putHeld x).spare k = s.spare k := (rfl)
@[simp] theorem putHeld_path_read (x : List HeldReq) (k : Nat) : (s.putHeld x).path k = s.path k := (rfl)
@[simp] theorem putHeld_cap_read (x : List HeldReq) (k : Nat) : (s.putHeld x).cap k = s.cap k := (rfl)
@[simp] theorem putHeld_ctx_read (x : List HeldReq) (k : Nat) : (s.putHeld x).ctx k = s.ctx k := (rfl)
@[simp] theorem putHeld_job_read (x : List HeldReq) (k : Nat) : (s.putHeld x).job k = s.job k := (rfl)
@[simp] theorem putHeld_lane_read (x : List HeldReq) (k : Nat) : (s.putHeld x).lane k = s.lane k := (rfl)
@[simp] theorem putHeld_bundle_read (x : List HeldReq) (k : Nat) : (s.putHeld x).bundle k = s.bundle k := (rfl)
@[simp] theorem putHeld_rd (x : List HeldReq) (k : Reg) : (s.putHeld x).rd k = s.rd k := (rfl)
@[simp] theorem putHeld_rdDom (x : List HeldReq) (k : Reg) : (s.putHeld x).rdDom k = s.rdDom k := (rfl)

/-! ### `putCanIn` -/

@[simp] theorem putCanIn_part (x : Option (Nat × List Byte)) : (s.putCanIn x).part = s.part := (rfl)
@[simp] theorem putCanIn_regs (x : Option (Nat × List Byte)) : (s.putCanIn x).regs = s.regs := (rfl)
@[simp] theorem putCanIn_doms (x : Option (Nat × List Byte)) : (s.putCanIn x).doms = s.doms := (rfl)
@[simp] theorem putCanIn_time (x : Option (Nat × List Byte)) : (s.putCanIn x).time = s.time := (rfl)
@[simp] theorem putCanIn_sessions (x : Option (Nat × List Byte)) : (s.putCanIn x).sessions = s.sessions := (rfl)
@[simp] theorem putCanIn_clauses (x : Option (Nat × List Byte)) : (s.putCanIn x).clauses = s.clauses := (rfl)
@[simp] theorem putCanIn_lastClause (x : Option (Nat × List Byte)) : (s.putCanIn x).lastClause = s.lastClause := (rfl)
@[simp] theorem putCanIn_forwarded (x : Option (Nat × List Byte)) : (s.putCanIn x).forwarded = s.forwarded := (rfl)
@[simp] theorem putCanIn_held (x : Option (Nat × List Byte)) : (s.putCanIn x).held = s.held := (rfl)
@[simp] theorem putCanIn_queues (x : Option (Nat × List Byte)) : (s.putCanIn x).queues = s.queues := (rfl)
@[simp] theorem putCanIn_dram (x : Option (Nat × List Byte)) : (s.putCanIn x).dram = s.dram := (rfl)
@[simp] theorem putCanIn_links (x : Option (Nat × List Byte)) : (s.putCanIn x).links = s.links := (rfl)
@[simp] theorem putCanIn_chans (x : Option (Nat × List Byte)) : (s.putCanIn x).chans = s.chans := (rfl)
@[simp] theorem putCanIn_quads (x : Option (Nat × List Byte)) : (s.putCanIn x).quads = s.quads := (rfl)
@[simp] theorem putCanIn_dieRefs (x : Option (Nat × List Byte)) : (s.putCanIn x).dieRefs = s.dieRefs := (rfl)
@[simp] theorem putCanIn_spares (x : Option (Nat × List Byte)) : (s.putCanIn x).spares = s.spares := (rfl)
@[simp] theorem putCanIn_paths (x : Option (Nat × List Byte)) : (s.putCanIn x).paths = s.paths := (rfl)
@[simp] theorem putCanIn_lehr (x : Option (Nat × List Byte)) : (s.putCanIn x).lehr = s.lehr := (rfl)
@[simp] theorem putCanIn_caps (x : Option (Nat × List Byte)) : (s.putCanIn x).caps = s.caps := (rfl)
@[simp] theorem putCanIn_segments (x : Option (Nat × List Byte)) : (s.putCanIn x).segments = s.segments := (rfl)
@[simp] theorem putCanIn_matrix (x : Option (Nat × List Byte)) : (s.putCanIn x).matrix = s.matrix := (rfl)
@[simp] theorem putCanIn_ctxs (x : Option (Nat × List Byte)) : (s.putCanIn x).ctxs = s.ctxs := (rfl)
@[simp] theorem putCanIn_jobs (x : Option (Nat × List Byte)) : (s.putCanIn x).jobs = s.jobs := (rfl)
@[simp] theorem putCanIn_lanes (x : Option (Nat × List Byte)) : (s.putCanIn x).lanes = s.lanes := (rfl)
@[simp] theorem putCanIn_mode (x : Option (Nat × List Byte)) : (s.putCanIn x).mode = s.mode := (rfl)
@[simp] theorem putCanIn_mram (x : Option (Nat × List Byte)) : (s.putCanIn x).mram = s.mram := (rfl)
@[simp] theorem putCanIn_cores (x : Option (Nat × List Byte)) : (s.putCanIn x).cores = s.cores := (rfl)
@[simp] theorem putCanIn_amp (x : Option (Nat × List Byte)) : (s.putCanIn x).amp = s.amp := (rfl)
@[simp] theorem putCanIn_poisoned (x : Option (Nat × List Byte)) : (s.putCanIn x).poisoned = s.poisoned := (rfl)
@[simp] theorem putCanIn_out (x : Option (Nat × List Byte)) : (s.putCanIn x).out = s.out := (rfl)
@[simp] theorem putCanIn_freeCount (x : Option (Nat × List Byte)) : (s.putCanIn x).freeCount = s.freeCount := (rfl)
@[simp] theorem putCanIn_pending (x : Option (Nat × List Byte)) : (s.putCanIn x).pending = s.pending := (rfl)
@[simp] theorem putCanIn_canIn (x : Option (Nat × List Byte)) : (s.putCanIn x).canIn = x := (rfl)
@[simp] theorem putCanIn_session_read (x : Option (Nat × List Byte)) (k : Nat) : (s.putCanIn x).session k = s.session k := (rfl)
@[simp] theorem putCanIn_clause_read (x : Option (Nat × List Byte)) (k : Nat) : (s.putCanIn x).clause k = s.clause k := (rfl)
@[simp] theorem putCanIn_source_read (x : Option (Nat × List Byte)) (k : Nat) : (s.putCanIn x).source k = s.source k := (rfl)
@[simp] theorem putCanIn_linkTime_read (x : Option (Nat × List Byte)) (k : Nat) : (s.putCanIn x).linkTime k = s.linkTime k := (rfl)
@[simp] theorem putCanIn_ptp_read (x : Option (Nat × List Byte)) (k : Nat) : (s.putCanIn x).ptp k = s.ptp k := (rfl)
@[simp] theorem putCanIn_queue_read (x : Option (Nat × List Byte)) (k : Nat) : (s.putCanIn x).queue k = s.queue k := (rfl)
@[simp] theorem putCanIn_dramCh_read (x : Option (Nat × List Byte)) (k : Nat) : (s.putCanIn x).dramCh k = s.dramCh k := (rfl)
@[simp] theorem putCanIn_link_read (x : Option (Nat × List Byte)) (k : Nat) : (s.putCanIn x).link k = s.link k := (rfl)
@[simp] theorem putCanIn_chan_read (x : Option (Nat × List Byte)) (k : Nat) : (s.putCanIn x).chan k = s.chan k := (rfl)
@[simp] theorem putCanIn_quad_read (x : Option (Nat × List Byte)) (k : Nat) : (s.putCanIn x).quad k = s.quad k := (rfl)
@[simp] theorem putCanIn_dieRef_read (x : Option (Nat × List Byte)) (k : Nat) : (s.putCanIn x).dieRef k = s.dieRef k := (rfl)
@[simp] theorem putCanIn_spare_read (x : Option (Nat × List Byte)) (k : Nat) : (s.putCanIn x).spare k = s.spare k := (rfl)
@[simp] theorem putCanIn_path_read (x : Option (Nat × List Byte)) (k : Nat) : (s.putCanIn x).path k = s.path k := (rfl)
@[simp] theorem putCanIn_cap_read (x : Option (Nat × List Byte)) (k : Nat) : (s.putCanIn x).cap k = s.cap k := (rfl)
@[simp] theorem putCanIn_ctx_read (x : Option (Nat × List Byte)) (k : Nat) : (s.putCanIn x).ctx k = s.ctx k := (rfl)
@[simp] theorem putCanIn_job_read (x : Option (Nat × List Byte)) (k : Nat) : (s.putCanIn x).job k = s.job k := (rfl)
@[simp] theorem putCanIn_lane_read (x : Option (Nat × List Byte)) (k : Nat) : (s.putCanIn x).lane k = s.lane k := (rfl)
@[simp] theorem putCanIn_bundle_read (x : Option (Nat × List Byte)) (k : Nat) : (s.putCanIn x).bundle k = s.bundle k := (rfl)
@[simp] theorem putCanIn_rd (x : Option (Nat × List Byte)) (k : Reg) : (s.putCanIn x).rd k = s.rd k := (rfl)
@[simp] theorem putCanIn_rdDom (x : Option (Nat × List Byte)) (k : Reg) : (s.putCanIn x).rdDom k = s.rdDom k := (rfl)

/-! ### `putPoisoned` -/

@[simp] theorem putPoisoned_part (x : Bool) : (s.putPoisoned x).part = s.part := (rfl)
@[simp] theorem putPoisoned_regs (x : Bool) : (s.putPoisoned x).regs = s.regs := (rfl)
@[simp] theorem putPoisoned_doms (x : Bool) : (s.putPoisoned x).doms = s.doms := (rfl)
@[simp] theorem putPoisoned_time (x : Bool) : (s.putPoisoned x).time = s.time := (rfl)
@[simp] theorem putPoisoned_sessions (x : Bool) : (s.putPoisoned x).sessions = s.sessions := (rfl)
@[simp] theorem putPoisoned_clauses (x : Bool) : (s.putPoisoned x).clauses = s.clauses := (rfl)
@[simp] theorem putPoisoned_lastClause (x : Bool) : (s.putPoisoned x).lastClause = s.lastClause := (rfl)
@[simp] theorem putPoisoned_canIn (x : Bool) : (s.putPoisoned x).canIn = s.canIn := (rfl)
@[simp] theorem putPoisoned_forwarded (x : Bool) : (s.putPoisoned x).forwarded = s.forwarded := (rfl)
@[simp] theorem putPoisoned_held (x : Bool) : (s.putPoisoned x).held = s.held := (rfl)
@[simp] theorem putPoisoned_queues (x : Bool) : (s.putPoisoned x).queues = s.queues := (rfl)
@[simp] theorem putPoisoned_dram (x : Bool) : (s.putPoisoned x).dram = s.dram := (rfl)
@[simp] theorem putPoisoned_links (x : Bool) : (s.putPoisoned x).links = s.links := (rfl)
@[simp] theorem putPoisoned_chans (x : Bool) : (s.putPoisoned x).chans = s.chans := (rfl)
@[simp] theorem putPoisoned_quads (x : Bool) : (s.putPoisoned x).quads = s.quads := (rfl)
@[simp] theorem putPoisoned_dieRefs (x : Bool) : (s.putPoisoned x).dieRefs = s.dieRefs := (rfl)
@[simp] theorem putPoisoned_spares (x : Bool) : (s.putPoisoned x).spares = s.spares := (rfl)
@[simp] theorem putPoisoned_paths (x : Bool) : (s.putPoisoned x).paths = s.paths := (rfl)
@[simp] theorem putPoisoned_lehr (x : Bool) : (s.putPoisoned x).lehr = s.lehr := (rfl)
@[simp] theorem putPoisoned_caps (x : Bool) : (s.putPoisoned x).caps = s.caps := (rfl)
@[simp] theorem putPoisoned_segments (x : Bool) : (s.putPoisoned x).segments = s.segments := (rfl)
@[simp] theorem putPoisoned_matrix (x : Bool) : (s.putPoisoned x).matrix = s.matrix := (rfl)
@[simp] theorem putPoisoned_ctxs (x : Bool) : (s.putPoisoned x).ctxs = s.ctxs := (rfl)
@[simp] theorem putPoisoned_jobs (x : Bool) : (s.putPoisoned x).jobs = s.jobs := (rfl)
@[simp] theorem putPoisoned_lanes (x : Bool) : (s.putPoisoned x).lanes = s.lanes := (rfl)
@[simp] theorem putPoisoned_mode (x : Bool) : (s.putPoisoned x).mode = s.mode := (rfl)
@[simp] theorem putPoisoned_mram (x : Bool) : (s.putPoisoned x).mram = s.mram := (rfl)
@[simp] theorem putPoisoned_cores (x : Bool) : (s.putPoisoned x).cores = s.cores := (rfl)
@[simp] theorem putPoisoned_amp (x : Bool) : (s.putPoisoned x).amp = s.amp := (rfl)
@[simp] theorem putPoisoned_out (x : Bool) : (s.putPoisoned x).out = s.out := (rfl)
@[simp] theorem putPoisoned_freeCount (x : Bool) : (s.putPoisoned x).freeCount = s.freeCount := (rfl)
@[simp] theorem putPoisoned_pending (x : Bool) : (s.putPoisoned x).pending = s.pending := (rfl)
@[simp] theorem putPoisoned_poisoned (x : Bool) : (s.putPoisoned x).poisoned = x := (rfl)
@[simp] theorem putPoisoned_session_read (x : Bool) (k : Nat) : (s.putPoisoned x).session k = s.session k := (rfl)
@[simp] theorem putPoisoned_clause_read (x : Bool) (k : Nat) : (s.putPoisoned x).clause k = s.clause k := (rfl)
@[simp] theorem putPoisoned_source_read (x : Bool) (k : Nat) : (s.putPoisoned x).source k = s.source k := (rfl)
@[simp] theorem putPoisoned_linkTime_read (x : Bool) (k : Nat) : (s.putPoisoned x).linkTime k = s.linkTime k := (rfl)
@[simp] theorem putPoisoned_ptp_read (x : Bool) (k : Nat) : (s.putPoisoned x).ptp k = s.ptp k := (rfl)
@[simp] theorem putPoisoned_queue_read (x : Bool) (k : Nat) : (s.putPoisoned x).queue k = s.queue k := (rfl)
@[simp] theorem putPoisoned_dramCh_read (x : Bool) (k : Nat) : (s.putPoisoned x).dramCh k = s.dramCh k := (rfl)
@[simp] theorem putPoisoned_link_read (x : Bool) (k : Nat) : (s.putPoisoned x).link k = s.link k := (rfl)
@[simp] theorem putPoisoned_chan_read (x : Bool) (k : Nat) : (s.putPoisoned x).chan k = s.chan k := (rfl)
@[simp] theorem putPoisoned_quad_read (x : Bool) (k : Nat) : (s.putPoisoned x).quad k = s.quad k := (rfl)
@[simp] theorem putPoisoned_dieRef_read (x : Bool) (k : Nat) : (s.putPoisoned x).dieRef k = s.dieRef k := (rfl)
@[simp] theorem putPoisoned_spare_read (x : Bool) (k : Nat) : (s.putPoisoned x).spare k = s.spare k := (rfl)
@[simp] theorem putPoisoned_path_read (x : Bool) (k : Nat) : (s.putPoisoned x).path k = s.path k := (rfl)
@[simp] theorem putPoisoned_cap_read (x : Bool) (k : Nat) : (s.putPoisoned x).cap k = s.cap k := (rfl)
@[simp] theorem putPoisoned_ctx_read (x : Bool) (k : Nat) : (s.putPoisoned x).ctx k = s.ctx k := (rfl)
@[simp] theorem putPoisoned_job_read (x : Bool) (k : Nat) : (s.putPoisoned x).job k = s.job k := (rfl)
@[simp] theorem putPoisoned_lane_read (x : Bool) (k : Nat) : (s.putPoisoned x).lane k = s.lane k := (rfl)
@[simp] theorem putPoisoned_bundle_read (x : Bool) (k : Nat) : (s.putPoisoned x).bundle k = s.bundle k := (rfl)
@[simp] theorem putPoisoned_rd (x : Bool) (k : Reg) : (s.putPoisoned x).rd k = s.rd k := (rfl)
@[simp] theorem putPoisoned_rdDom (x : Bool) (k : Reg) : (s.putPoisoned x).rdDom k = s.rdDom k := (rfl)

/-! ### `putLastClause` -/

@[simp] theorem putLastClause_part (x : Nat) : (s.putLastClause x).part = s.part := (rfl)
@[simp] theorem putLastClause_regs (x : Nat) : (s.putLastClause x).regs = s.regs := (rfl)
@[simp] theorem putLastClause_doms (x : Nat) : (s.putLastClause x).doms = s.doms := (rfl)
@[simp] theorem putLastClause_time (x : Nat) : (s.putLastClause x).time = s.time := (rfl)
@[simp] theorem putLastClause_sessions (x : Nat) : (s.putLastClause x).sessions = s.sessions := (rfl)
@[simp] theorem putLastClause_clauses (x : Nat) : (s.putLastClause x).clauses = s.clauses := (rfl)
@[simp] theorem putLastClause_canIn (x : Nat) : (s.putLastClause x).canIn = s.canIn := (rfl)
@[simp] theorem putLastClause_forwarded (x : Nat) : (s.putLastClause x).forwarded = s.forwarded := (rfl)
@[simp] theorem putLastClause_held (x : Nat) : (s.putLastClause x).held = s.held := (rfl)
@[simp] theorem putLastClause_queues (x : Nat) : (s.putLastClause x).queues = s.queues := (rfl)
@[simp] theorem putLastClause_dram (x : Nat) : (s.putLastClause x).dram = s.dram := (rfl)
@[simp] theorem putLastClause_links (x : Nat) : (s.putLastClause x).links = s.links := (rfl)
@[simp] theorem putLastClause_chans (x : Nat) : (s.putLastClause x).chans = s.chans := (rfl)
@[simp] theorem putLastClause_quads (x : Nat) : (s.putLastClause x).quads = s.quads := (rfl)
@[simp] theorem putLastClause_dieRefs (x : Nat) : (s.putLastClause x).dieRefs = s.dieRefs := (rfl)
@[simp] theorem putLastClause_spares (x : Nat) : (s.putLastClause x).spares = s.spares := (rfl)
@[simp] theorem putLastClause_paths (x : Nat) : (s.putLastClause x).paths = s.paths := (rfl)
@[simp] theorem putLastClause_lehr (x : Nat) : (s.putLastClause x).lehr = s.lehr := (rfl)
@[simp] theorem putLastClause_caps (x : Nat) : (s.putLastClause x).caps = s.caps := (rfl)
@[simp] theorem putLastClause_segments (x : Nat) : (s.putLastClause x).segments = s.segments := (rfl)
@[simp] theorem putLastClause_matrix (x : Nat) : (s.putLastClause x).matrix = s.matrix := (rfl)
@[simp] theorem putLastClause_ctxs (x : Nat) : (s.putLastClause x).ctxs = s.ctxs := (rfl)
@[simp] theorem putLastClause_jobs (x : Nat) : (s.putLastClause x).jobs = s.jobs := (rfl)
@[simp] theorem putLastClause_lanes (x : Nat) : (s.putLastClause x).lanes = s.lanes := (rfl)
@[simp] theorem putLastClause_mode (x : Nat) : (s.putLastClause x).mode = s.mode := (rfl)
@[simp] theorem putLastClause_mram (x : Nat) : (s.putLastClause x).mram = s.mram := (rfl)
@[simp] theorem putLastClause_cores (x : Nat) : (s.putLastClause x).cores = s.cores := (rfl)
@[simp] theorem putLastClause_amp (x : Nat) : (s.putLastClause x).amp = s.amp := (rfl)
@[simp] theorem putLastClause_poisoned (x : Nat) : (s.putLastClause x).poisoned = s.poisoned := (rfl)
@[simp] theorem putLastClause_out (x : Nat) : (s.putLastClause x).out = s.out := (rfl)
@[simp] theorem putLastClause_freeCount (x : Nat) : (s.putLastClause x).freeCount = s.freeCount := (rfl)
@[simp] theorem putLastClause_pending (x : Nat) : (s.putLastClause x).pending = s.pending := (rfl)
@[simp] theorem putLastClause_lastClause (x : Nat) : (s.putLastClause x).lastClause = x := (rfl)
@[simp] theorem putLastClause_session_read (x : Nat) (k : Nat) : (s.putLastClause x).session k = s.session k := (rfl)
@[simp] theorem putLastClause_clause_read (x : Nat) (k : Nat) : (s.putLastClause x).clause k = s.clause k := (rfl)
@[simp] theorem putLastClause_source_read (x : Nat) (k : Nat) : (s.putLastClause x).source k = s.source k := (rfl)
@[simp] theorem putLastClause_linkTime_read (x : Nat) (k : Nat) : (s.putLastClause x).linkTime k = s.linkTime k := (rfl)
@[simp] theorem putLastClause_ptp_read (x : Nat) (k : Nat) : (s.putLastClause x).ptp k = s.ptp k := (rfl)
@[simp] theorem putLastClause_queue_read (x : Nat) (k : Nat) : (s.putLastClause x).queue k = s.queue k := (rfl)
@[simp] theorem putLastClause_dramCh_read (x : Nat) (k : Nat) : (s.putLastClause x).dramCh k = s.dramCh k := (rfl)
@[simp] theorem putLastClause_link_read (x : Nat) (k : Nat) : (s.putLastClause x).link k = s.link k := (rfl)
@[simp] theorem putLastClause_chan_read (x : Nat) (k : Nat) : (s.putLastClause x).chan k = s.chan k := (rfl)
@[simp] theorem putLastClause_quad_read (x : Nat) (k : Nat) : (s.putLastClause x).quad k = s.quad k := (rfl)
@[simp] theorem putLastClause_dieRef_read (x : Nat) (k : Nat) : (s.putLastClause x).dieRef k = s.dieRef k := (rfl)
@[simp] theorem putLastClause_spare_read (x : Nat) (k : Nat) : (s.putLastClause x).spare k = s.spare k := (rfl)
@[simp] theorem putLastClause_path_read (x : Nat) (k : Nat) : (s.putLastClause x).path k = s.path k := (rfl)
@[simp] theorem putLastClause_cap_read (x : Nat) (k : Nat) : (s.putLastClause x).cap k = s.cap k := (rfl)
@[simp] theorem putLastClause_ctx_read (x : Nat) (k : Nat) : (s.putLastClause x).ctx k = s.ctx k := (rfl)
@[simp] theorem putLastClause_job_read (x : Nat) (k : Nat) : (s.putLastClause x).job k = s.job k := (rfl)
@[simp] theorem putLastClause_lane_read (x : Nat) (k : Nat) : (s.putLastClause x).lane k = s.lane k := (rfl)
@[simp] theorem putLastClause_bundle_read (x : Nat) (k : Nat) : (s.putLastClause x).bundle k = s.bundle k := (rfl)
@[simp] theorem putLastClause_rd (x : Nat) (k : Reg) : (s.putLastClause x).rd k = s.rd k := (rfl)
@[simp] theorem putLastClause_rdDom (x : Nat) (k : Reg) : (s.putLastClause x).rdDom k = s.rdDom k := (rfl)

/-! ### `setSession` -/

@[simp] theorem setSession_part (i : Nat) (x : Session) : (s.setSession i x).part = s.part := (rfl)
@[simp] theorem setSession_regs (i : Nat) (x : Session) : (s.setSession i x).regs = s.regs := (rfl)
@[simp] theorem setSession_doms (i : Nat) (x : Session) : (s.setSession i x).doms = s.doms := (rfl)
@[simp] theorem setSession_time (i : Nat) (x : Session) : (s.setSession i x).time = s.time := (rfl)
@[simp] theorem setSession_clauses (i : Nat) (x : Session) : (s.setSession i x).clauses = s.clauses := (rfl)
@[simp] theorem setSession_lastClause (i : Nat) (x : Session) : (s.setSession i x).lastClause = s.lastClause := (rfl)
@[simp] theorem setSession_canIn (i : Nat) (x : Session) : (s.setSession i x).canIn = s.canIn := (rfl)
@[simp] theorem setSession_forwarded (i : Nat) (x : Session) : (s.setSession i x).forwarded = s.forwarded := (rfl)
@[simp] theorem setSession_held (i : Nat) (x : Session) : (s.setSession i x).held = s.held := (rfl)
@[simp] theorem setSession_queues (i : Nat) (x : Session) : (s.setSession i x).queues = s.queues := (rfl)
@[simp] theorem setSession_dram (i : Nat) (x : Session) : (s.setSession i x).dram = s.dram := (rfl)
@[simp] theorem setSession_links (i : Nat) (x : Session) : (s.setSession i x).links = s.links := (rfl)
@[simp] theorem setSession_chans (i : Nat) (x : Session) : (s.setSession i x).chans = s.chans := (rfl)
@[simp] theorem setSession_quads (i : Nat) (x : Session) : (s.setSession i x).quads = s.quads := (rfl)
@[simp] theorem setSession_dieRefs (i : Nat) (x : Session) : (s.setSession i x).dieRefs = s.dieRefs := (rfl)
@[simp] theorem setSession_spares (i : Nat) (x : Session) : (s.setSession i x).spares = s.spares := (rfl)
@[simp] theorem setSession_paths (i : Nat) (x : Session) : (s.setSession i x).paths = s.paths := (rfl)
@[simp] theorem setSession_lehr (i : Nat) (x : Session) : (s.setSession i x).lehr = s.lehr := (rfl)
@[simp] theorem setSession_caps (i : Nat) (x : Session) : (s.setSession i x).caps = s.caps := (rfl)
@[simp] theorem setSession_segments (i : Nat) (x : Session) : (s.setSession i x).segments = s.segments := (rfl)
@[simp] theorem setSession_matrix (i : Nat) (x : Session) : (s.setSession i x).matrix = s.matrix := (rfl)
@[simp] theorem setSession_ctxs (i : Nat) (x : Session) : (s.setSession i x).ctxs = s.ctxs := (rfl)
@[simp] theorem setSession_jobs (i : Nat) (x : Session) : (s.setSession i x).jobs = s.jobs := (rfl)
@[simp] theorem setSession_lanes (i : Nat) (x : Session) : (s.setSession i x).lanes = s.lanes := (rfl)
@[simp] theorem setSession_mode (i : Nat) (x : Session) : (s.setSession i x).mode = s.mode := (rfl)
@[simp] theorem setSession_mram (i : Nat) (x : Session) : (s.setSession i x).mram = s.mram := (rfl)
@[simp] theorem setSession_cores (i : Nat) (x : Session) : (s.setSession i x).cores = s.cores := (rfl)
@[simp] theorem setSession_amp (i : Nat) (x : Session) : (s.setSession i x).amp = s.amp := (rfl)
@[simp] theorem setSession_poisoned (i : Nat) (x : Session) : (s.setSession i x).poisoned = s.poisoned := (rfl)
@[simp] theorem setSession_out (i : Nat) (x : Session) : (s.setSession i x).out = s.out := (rfl)
@[simp] theorem setSession_freeCount (i : Nat) (x : Session) : (s.setSession i x).freeCount = s.freeCount := (rfl)
@[simp] theorem setSession_pending (i : Nat) (x : Session) : (s.setSession i x).pending = s.pending := (rfl)
@[simp] theorem setSession_session_read (i k : Nat) (x : Session) : (s.setSession i x).session k = if k = i then x else s.session k := alGet_alPut _ _ _ _ _ _
@[simp] theorem setSession_setSession (i : Nat) (x y : Session) : (s.setSession i x).setSession i y = s.setSession i y := by
  unfold setSession tabPut; rw [alPut_alPut]
@[simp] theorem setSession_clause_read (i : Nat) (x : Session) (k : Nat) : (s.setSession i x).clause k = s.clause k := (rfl)
@[simp] theorem setSession_source_read (i : Nat) (x : Session) (k : Nat) : (s.setSession i x).source k = s.source k := (rfl)
@[simp] theorem setSession_linkTime_read (i : Nat) (x : Session) (k : Nat) : (s.setSession i x).linkTime k = s.linkTime k := (rfl)
@[simp] theorem setSession_ptp_read (i : Nat) (x : Session) (k : Nat) : (s.setSession i x).ptp k = s.ptp k := (rfl)
@[simp] theorem setSession_queue_read (i : Nat) (x : Session) (k : Nat) : (s.setSession i x).queue k = s.queue k := (rfl)
@[simp] theorem setSession_dramCh_read (i : Nat) (x : Session) (k : Nat) : (s.setSession i x).dramCh k = s.dramCh k := (rfl)
@[simp] theorem setSession_link_read (i : Nat) (x : Session) (k : Nat) : (s.setSession i x).link k = s.link k := (rfl)
@[simp] theorem setSession_chan_read (i : Nat) (x : Session) (k : Nat) : (s.setSession i x).chan k = s.chan k := (rfl)
@[simp] theorem setSession_quad_read (i : Nat) (x : Session) (k : Nat) : (s.setSession i x).quad k = s.quad k := (rfl)
@[simp] theorem setSession_dieRef_read (i : Nat) (x : Session) (k : Nat) : (s.setSession i x).dieRef k = s.dieRef k := (rfl)
@[simp] theorem setSession_spare_read (i : Nat) (x : Session) (k : Nat) : (s.setSession i x).spare k = s.spare k := (rfl)
@[simp] theorem setSession_path_read (i : Nat) (x : Session) (k : Nat) : (s.setSession i x).path k = s.path k := (rfl)
@[simp] theorem setSession_cap_read (i : Nat) (x : Session) (k : Nat) : (s.setSession i x).cap k = s.cap k := (rfl)
@[simp] theorem setSession_ctx_read (i : Nat) (x : Session) (k : Nat) : (s.setSession i x).ctx k = s.ctx k := (rfl)
@[simp] theorem setSession_job_read (i : Nat) (x : Session) (k : Nat) : (s.setSession i x).job k = s.job k := (rfl)
@[simp] theorem setSession_lane_read (i : Nat) (x : Session) (k : Nat) : (s.setSession i x).lane k = s.lane k := (rfl)
@[simp] theorem setSession_bundle_read (i : Nat) (x : Session) (k : Nat) : (s.setSession i x).bundle k = s.bundle k := (rfl)
@[simp] theorem setSession_rd (i : Nat) (x : Session) (k : Reg) : (s.setSession i x).rd k = s.rd k := (rfl)
@[simp] theorem setSession_rdDom (i : Nat) (x : Session) (k : Reg) : (s.setSession i x).rdDom k = s.rdDom k := (rfl)

/-! ### `setClause` -/

@[simp] theorem setClause_part (i : Nat) (x : Clause) : (s.setClause i x).part = s.part := (rfl)
@[simp] theorem setClause_regs (i : Nat) (x : Clause) : (s.setClause i x).regs = s.regs := (rfl)
@[simp] theorem setClause_doms (i : Nat) (x : Clause) : (s.setClause i x).doms = s.doms := (rfl)
@[simp] theorem setClause_time (i : Nat) (x : Clause) : (s.setClause i x).time = s.time := (rfl)
@[simp] theorem setClause_sessions (i : Nat) (x : Clause) : (s.setClause i x).sessions = s.sessions := (rfl)
@[simp] theorem setClause_lastClause (i : Nat) (x : Clause) : (s.setClause i x).lastClause = s.lastClause := (rfl)
@[simp] theorem setClause_canIn (i : Nat) (x : Clause) : (s.setClause i x).canIn = s.canIn := (rfl)
@[simp] theorem setClause_forwarded (i : Nat) (x : Clause) : (s.setClause i x).forwarded = s.forwarded := (rfl)
@[simp] theorem setClause_held (i : Nat) (x : Clause) : (s.setClause i x).held = s.held := (rfl)
@[simp] theorem setClause_queues (i : Nat) (x : Clause) : (s.setClause i x).queues = s.queues := (rfl)
@[simp] theorem setClause_dram (i : Nat) (x : Clause) : (s.setClause i x).dram = s.dram := (rfl)
@[simp] theorem setClause_links (i : Nat) (x : Clause) : (s.setClause i x).links = s.links := (rfl)
@[simp] theorem setClause_chans (i : Nat) (x : Clause) : (s.setClause i x).chans = s.chans := (rfl)
@[simp] theorem setClause_quads (i : Nat) (x : Clause) : (s.setClause i x).quads = s.quads := (rfl)
@[simp] theorem setClause_dieRefs (i : Nat) (x : Clause) : (s.setClause i x).dieRefs = s.dieRefs := (rfl)
@[simp] theorem setClause_spares (i : Nat) (x : Clause) : (s.setClause i x).spares = s.spares := (rfl)
@[simp] theorem setClause_paths (i : Nat) (x : Clause) : (s.setClause i x).paths = s.paths := (rfl)
@[simp] theorem setClause_lehr (i : Nat) (x : Clause) : (s.setClause i x).lehr = s.lehr := (rfl)
@[simp] theorem setClause_caps (i : Nat) (x : Clause) : (s.setClause i x).caps = s.caps := (rfl)
@[simp] theorem setClause_segments (i : Nat) (x : Clause) : (s.setClause i x).segments = s.segments := (rfl)
@[simp] theorem setClause_matrix (i : Nat) (x : Clause) : (s.setClause i x).matrix = s.matrix := (rfl)
@[simp] theorem setClause_ctxs (i : Nat) (x : Clause) : (s.setClause i x).ctxs = s.ctxs := (rfl)
@[simp] theorem setClause_jobs (i : Nat) (x : Clause) : (s.setClause i x).jobs = s.jobs := (rfl)
@[simp] theorem setClause_lanes (i : Nat) (x : Clause) : (s.setClause i x).lanes = s.lanes := (rfl)
@[simp] theorem setClause_mode (i : Nat) (x : Clause) : (s.setClause i x).mode = s.mode := (rfl)
@[simp] theorem setClause_mram (i : Nat) (x : Clause) : (s.setClause i x).mram = s.mram := (rfl)
@[simp] theorem setClause_cores (i : Nat) (x : Clause) : (s.setClause i x).cores = s.cores := (rfl)
@[simp] theorem setClause_amp (i : Nat) (x : Clause) : (s.setClause i x).amp = s.amp := (rfl)
@[simp] theorem setClause_poisoned (i : Nat) (x : Clause) : (s.setClause i x).poisoned = s.poisoned := (rfl)
@[simp] theorem setClause_out (i : Nat) (x : Clause) : (s.setClause i x).out = s.out := (rfl)
@[simp] theorem setClause_freeCount (i : Nat) (x : Clause) : (s.setClause i x).freeCount = s.freeCount := (rfl)
@[simp] theorem setClause_pending (i : Nat) (x : Clause) : (s.setClause i x).pending = s.pending := (rfl)
@[simp] theorem setClause_session_read (i : Nat) (x : Clause) (k : Nat) : (s.setClause i x).session k = s.session k := (rfl)
@[simp] theorem setClause_clause_read (i k : Nat) (x : Clause) : (s.setClause i x).clause k = if k = i then x else s.clause k := alGet_alPut _ _ _ _ _ _
@[simp] theorem setClause_setClause (i : Nat) (x y : Clause) : (s.setClause i x).setClause i y = s.setClause i y := by
  unfold setClause tabPut; rw [alPut_alPut]
@[simp] theorem setClause_source_read (i : Nat) (x : Clause) (k : Nat) : (s.setClause i x).source k = s.source k := (rfl)
@[simp] theorem setClause_linkTime_read (i : Nat) (x : Clause) (k : Nat) : (s.setClause i x).linkTime k = s.linkTime k := (rfl)
@[simp] theorem setClause_ptp_read (i : Nat) (x : Clause) (k : Nat) : (s.setClause i x).ptp k = s.ptp k := (rfl)
@[simp] theorem setClause_queue_read (i : Nat) (x : Clause) (k : Nat) : (s.setClause i x).queue k = s.queue k := (rfl)
@[simp] theorem setClause_dramCh_read (i : Nat) (x : Clause) (k : Nat) : (s.setClause i x).dramCh k = s.dramCh k := (rfl)
@[simp] theorem setClause_link_read (i : Nat) (x : Clause) (k : Nat) : (s.setClause i x).link k = s.link k := (rfl)
@[simp] theorem setClause_chan_read (i : Nat) (x : Clause) (k : Nat) : (s.setClause i x).chan k = s.chan k := (rfl)
@[simp] theorem setClause_quad_read (i : Nat) (x : Clause) (k : Nat) : (s.setClause i x).quad k = s.quad k := (rfl)
@[simp] theorem setClause_dieRef_read (i : Nat) (x : Clause) (k : Nat) : (s.setClause i x).dieRef k = s.dieRef k := (rfl)
@[simp] theorem setClause_spare_read (i : Nat) (x : Clause) (k : Nat) : (s.setClause i x).spare k = s.spare k := (rfl)
@[simp] theorem setClause_path_read (i : Nat) (x : Clause) (k : Nat) : (s.setClause i x).path k = s.path k := (rfl)
@[simp] theorem setClause_cap_read (i : Nat) (x : Clause) (k : Nat) : (s.setClause i x).cap k = s.cap k := (rfl)
@[simp] theorem setClause_ctx_read (i : Nat) (x : Clause) (k : Nat) : (s.setClause i x).ctx k = s.ctx k := (rfl)
@[simp] theorem setClause_job_read (i : Nat) (x : Clause) (k : Nat) : (s.setClause i x).job k = s.job k := (rfl)
@[simp] theorem setClause_lane_read (i : Nat) (x : Clause) (k : Nat) : (s.setClause i x).lane k = s.lane k := (rfl)
@[simp] theorem setClause_bundle_read (i : Nat) (x : Clause) (k : Nat) : (s.setClause i x).bundle k = s.bundle k := (rfl)
@[simp] theorem setClause_rd (i : Nat) (x : Clause) (k : Reg) : (s.setClause i x).rd k = s.rd k := (rfl)
@[simp] theorem setClause_rdDom (i : Nat) (x : Clause) (k : Reg) : (s.setClause i x).rdDom k = s.rdDom k := (rfl)

/-! ### `setSource` -/

@[simp] theorem setSource_part (i : Nat) (x : Source) : (s.setSource i x).part = s.part := (rfl)
@[simp] theorem setSource_regs (i : Nat) (x : Source) : (s.setSource i x).regs = s.regs := (rfl)
@[simp] theorem setSource_doms (i : Nat) (x : Source) : (s.setSource i x).doms = s.doms := (rfl)
@[simp] theorem setSource_sessions (i : Nat) (x : Source) : (s.setSource i x).sessions = s.sessions := (rfl)
@[simp] theorem setSource_clauses (i : Nat) (x : Source) : (s.setSource i x).clauses = s.clauses := (rfl)
@[simp] theorem setSource_lastClause (i : Nat) (x : Source) : (s.setSource i x).lastClause = s.lastClause := (rfl)
@[simp] theorem setSource_canIn (i : Nat) (x : Source) : (s.setSource i x).canIn = s.canIn := (rfl)
@[simp] theorem setSource_forwarded (i : Nat) (x : Source) : (s.setSource i x).forwarded = s.forwarded := (rfl)
@[simp] theorem setSource_held (i : Nat) (x : Source) : (s.setSource i x).held = s.held := (rfl)
@[simp] theorem setSource_queues (i : Nat) (x : Source) : (s.setSource i x).queues = s.queues := (rfl)
@[simp] theorem setSource_dram (i : Nat) (x : Source) : (s.setSource i x).dram = s.dram := (rfl)
@[simp] theorem setSource_links (i : Nat) (x : Source) : (s.setSource i x).links = s.links := (rfl)
@[simp] theorem setSource_chans (i : Nat) (x : Source) : (s.setSource i x).chans = s.chans := (rfl)
@[simp] theorem setSource_quads (i : Nat) (x : Source) : (s.setSource i x).quads = s.quads := (rfl)
@[simp] theorem setSource_dieRefs (i : Nat) (x : Source) : (s.setSource i x).dieRefs = s.dieRefs := (rfl)
@[simp] theorem setSource_spares (i : Nat) (x : Source) : (s.setSource i x).spares = s.spares := (rfl)
@[simp] theorem setSource_paths (i : Nat) (x : Source) : (s.setSource i x).paths = s.paths := (rfl)
@[simp] theorem setSource_lehr (i : Nat) (x : Source) : (s.setSource i x).lehr = s.lehr := (rfl)
@[simp] theorem setSource_caps (i : Nat) (x : Source) : (s.setSource i x).caps = s.caps := (rfl)
@[simp] theorem setSource_segments (i : Nat) (x : Source) : (s.setSource i x).segments = s.segments := (rfl)
@[simp] theorem setSource_matrix (i : Nat) (x : Source) : (s.setSource i x).matrix = s.matrix := (rfl)
@[simp] theorem setSource_ctxs (i : Nat) (x : Source) : (s.setSource i x).ctxs = s.ctxs := (rfl)
@[simp] theorem setSource_jobs (i : Nat) (x : Source) : (s.setSource i x).jobs = s.jobs := (rfl)
@[simp] theorem setSource_lanes (i : Nat) (x : Source) : (s.setSource i x).lanes = s.lanes := (rfl)
@[simp] theorem setSource_mode (i : Nat) (x : Source) : (s.setSource i x).mode = s.mode := (rfl)
@[simp] theorem setSource_mram (i : Nat) (x : Source) : (s.setSource i x).mram = s.mram := (rfl)
@[simp] theorem setSource_cores (i : Nat) (x : Source) : (s.setSource i x).cores = s.cores := (rfl)
@[simp] theorem setSource_amp (i : Nat) (x : Source) : (s.setSource i x).amp = s.amp := (rfl)
@[simp] theorem setSource_poisoned (i : Nat) (x : Source) : (s.setSource i x).poisoned = s.poisoned := (rfl)
@[simp] theorem setSource_out (i : Nat) (x : Source) : (s.setSource i x).out = s.out := (rfl)
@[simp] theorem setSource_freeCount (i : Nat) (x : Source) : (s.setSource i x).freeCount = s.freeCount := (rfl)
@[simp] theorem setSource_pending (i : Nat) (x : Source) : (s.setSource i x).pending = s.pending := (rfl)
@[simp] theorem setSource_time_ticks (i : Nat) (x : Source) : (s.setSource i x).time.ticks = s.time.ticks := (rfl)
@[simp] theorem setSource_time_frac (i : Nat) (x : Source) : (s.setSource i x).time.frac = s.time.frac := (rfl)
@[simp] theorem setSource_time_edge (i : Nat) (x : Source) : (s.setSource i x).time.edge = s.time.edge := (rfl)
@[simp] theorem setSource_time_running (i : Nat) (x : Source) : (s.setSource i x).time.running = s.time.running := (rfl)
@[simp] theorem setSource_time_run (i : Nat) (x : Source) : (s.setSource i x).time.run = s.time.run := (rfl)
@[simp] theorem setSource_time_wordHist (i : Nat) (x : Source) : (s.setSource i x).time.wordHist = s.time.wordHist := (rfl)
@[simp] theorem setSource_time_wordEdge (i : Nat) (x : Source) : (s.setSource i x).time.wordEdge = s.time.wordEdge := (rfl)
@[simp] theorem setSource_time_lockedSinceUnset (i : Nat) (x : Source) : (s.setSource i x).time.lockedSinceUnset = s.time.lockedSinceUnset := (rfl)
@[simp] theorem setSource_time_integ (i : Nat) (x : Source) : (s.setSource i x).time.integ = s.time.integ := (rfl)
@[simp] theorem setSource_time_links (i : Nat) (x : Source) : (s.setSource i x).time.links = s.time.links := (rfl)
@[simp] theorem setSource_time_ptp (i : Nat) (x : Source) : (s.setSource i x).time.ptp = s.time.ptp := (rfl)
@[simp] theorem setSource_time_ppsHigh (i : Nat) (x : Source) : (s.setSource i x).time.ppsHigh = s.time.ppsHigh := (rfl)
@[simp] theorem setSource_time_lastPps (i : Nat) (x : Source) : (s.setSource i x).time.lastPps = s.time.lastPps := (rfl)
@[simp] theorem setSource_time_hist (i : Nat) (x : Source) : (s.setSource i x).time.hist = s.time.hist := (rfl)
@[simp] theorem setSource_time_slew (i : Nat) (x : Source) : (s.setSource i x).time.slew = s.time.slew := (rfl)
@[simp] theorem setSource_time_breach (i : Nat) (x : Source) : (s.setSource i x).time.breach = s.time.breach := (rfl)
@[simp] theorem setSource_time_ppsFall (i : Nat) (x : Source) : (s.setSource i x).time.ppsFall = s.time.ppsFall := (rfl)
@[simp] theorem setSource_time_jumps (i : Nat) (x : Source) : (s.setSource i x).time.jumps = s.time.jumps := (rfl)
@[simp] theorem setSource_session_read (i : Nat) (x : Source) (k : Nat) : (s.setSource i x).session k = s.session k := (rfl)
@[simp] theorem setSource_clause_read (i : Nat) (x : Source) (k : Nat) : (s.setSource i x).clause k = s.clause k := (rfl)
@[simp] theorem setSource_source_read (i k : Nat) (x : Source) : (s.setSource i x).source k = if k = i then x else s.source k := alGet_alPut _ _ _ _ _ _
@[simp] theorem setSource_setSource (i : Nat) (x y : Source) : (s.setSource i x).setSource i y = s.setSource i y := by
  unfold setSource tabPut; rw [alPut_alPut]
@[simp] theorem setSource_linkTime_read (i : Nat) (x : Source) (k : Nat) : (s.setSource i x).linkTime k = s.linkTime k := (rfl)
@[simp] theorem setSource_ptp_read (i : Nat) (x : Source) (k : Nat) : (s.setSource i x).ptp k = s.ptp k := (rfl)
@[simp] theorem setSource_queue_read (i : Nat) (x : Source) (k : Nat) : (s.setSource i x).queue k = s.queue k := (rfl)
@[simp] theorem setSource_dramCh_read (i : Nat) (x : Source) (k : Nat) : (s.setSource i x).dramCh k = s.dramCh k := (rfl)
@[simp] theorem setSource_link_read (i : Nat) (x : Source) (k : Nat) : (s.setSource i x).link k = s.link k := (rfl)
@[simp] theorem setSource_chan_read (i : Nat) (x : Source) (k : Nat) : (s.setSource i x).chan k = s.chan k := (rfl)
@[simp] theorem setSource_quad_read (i : Nat) (x : Source) (k : Nat) : (s.setSource i x).quad k = s.quad k := (rfl)
@[simp] theorem setSource_dieRef_read (i : Nat) (x : Source) (k : Nat) : (s.setSource i x).dieRef k = s.dieRef k := (rfl)
@[simp] theorem setSource_spare_read (i : Nat) (x : Source) (k : Nat) : (s.setSource i x).spare k = s.spare k := (rfl)
@[simp] theorem setSource_path_read (i : Nat) (x : Source) (k : Nat) : (s.setSource i x).path k = s.path k := (rfl)
@[simp] theorem setSource_cap_read (i : Nat) (x : Source) (k : Nat) : (s.setSource i x).cap k = s.cap k := (rfl)
@[simp] theorem setSource_ctx_read (i : Nat) (x : Source) (k : Nat) : (s.setSource i x).ctx k = s.ctx k := (rfl)
@[simp] theorem setSource_job_read (i : Nat) (x : Source) (k : Nat) : (s.setSource i x).job k = s.job k := (rfl)
@[simp] theorem setSource_lane_read (i : Nat) (x : Source) (k : Nat) : (s.setSource i x).lane k = s.lane k := (rfl)
@[simp] theorem setSource_bundle_read (i : Nat) (x : Source) (k : Nat) : (s.setSource i x).bundle k = s.bundle k := (rfl)
@[simp] theorem setSource_rd (i : Nat) (x : Source) (k : Reg) : (s.setSource i x).rd k = s.rd k := (rfl)
@[simp] theorem setSource_rdDom (i : Nat) (x : Source) (k : Reg) : (s.setSource i x).rdDom k = s.rdDom k := (rfl)

/-! ### `setLinkTime` -/

@[simp] theorem setLinkTime_part (i : Nat) (x : LinkTime) : (s.setLinkTime i x).part = s.part := (rfl)
@[simp] theorem setLinkTime_regs (i : Nat) (x : LinkTime) : (s.setLinkTime i x).regs = s.regs := (rfl)
@[simp] theorem setLinkTime_doms (i : Nat) (x : LinkTime) : (s.setLinkTime i x).doms = s.doms := (rfl)
@[simp] theorem setLinkTime_sessions (i : Nat) (x : LinkTime) : (s.setLinkTime i x).sessions = s.sessions := (rfl)
@[simp] theorem setLinkTime_clauses (i : Nat) (x : LinkTime) : (s.setLinkTime i x).clauses = s.clauses := (rfl)
@[simp] theorem setLinkTime_lastClause (i : Nat) (x : LinkTime) : (s.setLinkTime i x).lastClause = s.lastClause := (rfl)
@[simp] theorem setLinkTime_canIn (i : Nat) (x : LinkTime) : (s.setLinkTime i x).canIn = s.canIn := (rfl)
@[simp] theorem setLinkTime_forwarded (i : Nat) (x : LinkTime) : (s.setLinkTime i x).forwarded = s.forwarded := (rfl)
@[simp] theorem setLinkTime_held (i : Nat) (x : LinkTime) : (s.setLinkTime i x).held = s.held := (rfl)
@[simp] theorem setLinkTime_queues (i : Nat) (x : LinkTime) : (s.setLinkTime i x).queues = s.queues := (rfl)
@[simp] theorem setLinkTime_dram (i : Nat) (x : LinkTime) : (s.setLinkTime i x).dram = s.dram := (rfl)
@[simp] theorem setLinkTime_links (i : Nat) (x : LinkTime) : (s.setLinkTime i x).links = s.links := (rfl)
@[simp] theorem setLinkTime_chans (i : Nat) (x : LinkTime) : (s.setLinkTime i x).chans = s.chans := (rfl)
@[simp] theorem setLinkTime_quads (i : Nat) (x : LinkTime) : (s.setLinkTime i x).quads = s.quads := (rfl)
@[simp] theorem setLinkTime_dieRefs (i : Nat) (x : LinkTime) : (s.setLinkTime i x).dieRefs = s.dieRefs := (rfl)
@[simp] theorem setLinkTime_spares (i : Nat) (x : LinkTime) : (s.setLinkTime i x).spares = s.spares := (rfl)
@[simp] theorem setLinkTime_paths (i : Nat) (x : LinkTime) : (s.setLinkTime i x).paths = s.paths := (rfl)
@[simp] theorem setLinkTime_lehr (i : Nat) (x : LinkTime) : (s.setLinkTime i x).lehr = s.lehr := (rfl)
@[simp] theorem setLinkTime_caps (i : Nat) (x : LinkTime) : (s.setLinkTime i x).caps = s.caps := (rfl)
@[simp] theorem setLinkTime_segments (i : Nat) (x : LinkTime) : (s.setLinkTime i x).segments = s.segments := (rfl)
@[simp] theorem setLinkTime_matrix (i : Nat) (x : LinkTime) : (s.setLinkTime i x).matrix = s.matrix := (rfl)
@[simp] theorem setLinkTime_ctxs (i : Nat) (x : LinkTime) : (s.setLinkTime i x).ctxs = s.ctxs := (rfl)
@[simp] theorem setLinkTime_jobs (i : Nat) (x : LinkTime) : (s.setLinkTime i x).jobs = s.jobs := (rfl)
@[simp] theorem setLinkTime_lanes (i : Nat) (x : LinkTime) : (s.setLinkTime i x).lanes = s.lanes := (rfl)
@[simp] theorem setLinkTime_mode (i : Nat) (x : LinkTime) : (s.setLinkTime i x).mode = s.mode := (rfl)
@[simp] theorem setLinkTime_mram (i : Nat) (x : LinkTime) : (s.setLinkTime i x).mram = s.mram := (rfl)
@[simp] theorem setLinkTime_cores (i : Nat) (x : LinkTime) : (s.setLinkTime i x).cores = s.cores := (rfl)
@[simp] theorem setLinkTime_amp (i : Nat) (x : LinkTime) : (s.setLinkTime i x).amp = s.amp := (rfl)
@[simp] theorem setLinkTime_poisoned (i : Nat) (x : LinkTime) : (s.setLinkTime i x).poisoned = s.poisoned := (rfl)
@[simp] theorem setLinkTime_out (i : Nat) (x : LinkTime) : (s.setLinkTime i x).out = s.out := (rfl)
@[simp] theorem setLinkTime_freeCount (i : Nat) (x : LinkTime) : (s.setLinkTime i x).freeCount = s.freeCount := (rfl)
@[simp] theorem setLinkTime_pending (i : Nat) (x : LinkTime) : (s.setLinkTime i x).pending = s.pending := (rfl)
@[simp] theorem setLinkTime_time_ticks (i : Nat) (x : LinkTime) : (s.setLinkTime i x).time.ticks = s.time.ticks := (rfl)
@[simp] theorem setLinkTime_time_frac (i : Nat) (x : LinkTime) : (s.setLinkTime i x).time.frac = s.time.frac := (rfl)
@[simp] theorem setLinkTime_time_edge (i : Nat) (x : LinkTime) : (s.setLinkTime i x).time.edge = s.time.edge := (rfl)
@[simp] theorem setLinkTime_time_running (i : Nat) (x : LinkTime) : (s.setLinkTime i x).time.running = s.time.running := (rfl)
@[simp] theorem setLinkTime_time_sources (i : Nat) (x : LinkTime) : (s.setLinkTime i x).time.sources = s.time.sources := (rfl)
@[simp] theorem setLinkTime_time_run (i : Nat) (x : LinkTime) : (s.setLinkTime i x).time.run = s.time.run := (rfl)
@[simp] theorem setLinkTime_time_wordHist (i : Nat) (x : LinkTime) : (s.setLinkTime i x).time.wordHist = s.time.wordHist := (rfl)
@[simp] theorem setLinkTime_time_wordEdge (i : Nat) (x : LinkTime) : (s.setLinkTime i x).time.wordEdge = s.time.wordEdge := (rfl)
@[simp] theorem setLinkTime_time_lockedSinceUnset (i : Nat) (x : LinkTime) : (s.setLinkTime i x).time.lockedSinceUnset = s.time.lockedSinceUnset := (rfl)
@[simp] theorem setLinkTime_time_integ (i : Nat) (x : LinkTime) : (s.setLinkTime i x).time.integ = s.time.integ := (rfl)
@[simp] theorem setLinkTime_time_ptp (i : Nat) (x : LinkTime) : (s.setLinkTime i x).time.ptp = s.time.ptp := (rfl)
@[simp] theorem setLinkTime_time_ppsHigh (i : Nat) (x : LinkTime) : (s.setLinkTime i x).time.ppsHigh = s.time.ppsHigh := (rfl)
@[simp] theorem setLinkTime_time_lastPps (i : Nat) (x : LinkTime) : (s.setLinkTime i x).time.lastPps = s.time.lastPps := (rfl)
@[simp] theorem setLinkTime_time_hist (i : Nat) (x : LinkTime) : (s.setLinkTime i x).time.hist = s.time.hist := (rfl)
@[simp] theorem setLinkTime_time_slew (i : Nat) (x : LinkTime) : (s.setLinkTime i x).time.slew = s.time.slew := (rfl)
@[simp] theorem setLinkTime_time_breach (i : Nat) (x : LinkTime) : (s.setLinkTime i x).time.breach = s.time.breach := (rfl)
@[simp] theorem setLinkTime_time_ppsFall (i : Nat) (x : LinkTime) : (s.setLinkTime i x).time.ppsFall = s.time.ppsFall := (rfl)
@[simp] theorem setLinkTime_time_jumps (i : Nat) (x : LinkTime) : (s.setLinkTime i x).time.jumps = s.time.jumps := (rfl)
@[simp] theorem setLinkTime_session_read (i : Nat) (x : LinkTime) (k : Nat) : (s.setLinkTime i x).session k = s.session k := (rfl)
@[simp] theorem setLinkTime_clause_read (i : Nat) (x : LinkTime) (k : Nat) : (s.setLinkTime i x).clause k = s.clause k := (rfl)
@[simp] theorem setLinkTime_source_read (i : Nat) (x : LinkTime) (k : Nat) : (s.setLinkTime i x).source k = s.source k := (rfl)
@[simp] theorem setLinkTime_linkTime_read (i k : Nat) (x : LinkTime) : (s.setLinkTime i x).linkTime k = if k = i then x else s.linkTime k := alGet_alPut _ _ _ _ _ _
@[simp] theorem setLinkTime_setLinkTime (i : Nat) (x y : LinkTime) : (s.setLinkTime i x).setLinkTime i y = s.setLinkTime i y := by
  unfold setLinkTime tabPut; rw [alPut_alPut]
@[simp] theorem setLinkTime_ptp_read (i : Nat) (x : LinkTime) (k : Nat) : (s.setLinkTime i x).ptp k = s.ptp k := (rfl)
@[simp] theorem setLinkTime_queue_read (i : Nat) (x : LinkTime) (k : Nat) : (s.setLinkTime i x).queue k = s.queue k := (rfl)
@[simp] theorem setLinkTime_dramCh_read (i : Nat) (x : LinkTime) (k : Nat) : (s.setLinkTime i x).dramCh k = s.dramCh k := (rfl)
@[simp] theorem setLinkTime_link_read (i : Nat) (x : LinkTime) (k : Nat) : (s.setLinkTime i x).link k = s.link k := (rfl)
@[simp] theorem setLinkTime_chan_read (i : Nat) (x : LinkTime) (k : Nat) : (s.setLinkTime i x).chan k = s.chan k := (rfl)
@[simp] theorem setLinkTime_quad_read (i : Nat) (x : LinkTime) (k : Nat) : (s.setLinkTime i x).quad k = s.quad k := (rfl)
@[simp] theorem setLinkTime_dieRef_read (i : Nat) (x : LinkTime) (k : Nat) : (s.setLinkTime i x).dieRef k = s.dieRef k := (rfl)
@[simp] theorem setLinkTime_spare_read (i : Nat) (x : LinkTime) (k : Nat) : (s.setLinkTime i x).spare k = s.spare k := (rfl)
@[simp] theorem setLinkTime_path_read (i : Nat) (x : LinkTime) (k : Nat) : (s.setLinkTime i x).path k = s.path k := (rfl)
@[simp] theorem setLinkTime_cap_read (i : Nat) (x : LinkTime) (k : Nat) : (s.setLinkTime i x).cap k = s.cap k := (rfl)
@[simp] theorem setLinkTime_ctx_read (i : Nat) (x : LinkTime) (k : Nat) : (s.setLinkTime i x).ctx k = s.ctx k := (rfl)
@[simp] theorem setLinkTime_job_read (i : Nat) (x : LinkTime) (k : Nat) : (s.setLinkTime i x).job k = s.job k := (rfl)
@[simp] theorem setLinkTime_lane_read (i : Nat) (x : LinkTime) (k : Nat) : (s.setLinkTime i x).lane k = s.lane k := (rfl)
@[simp] theorem setLinkTime_bundle_read (i : Nat) (x : LinkTime) (k : Nat) : (s.setLinkTime i x).bundle k = s.bundle k := (rfl)
@[simp] theorem setLinkTime_rd (i : Nat) (x : LinkTime) (k : Reg) : (s.setLinkTime i x).rd k = s.rd k := (rfl)
@[simp] theorem setLinkTime_rdDom (i : Nat) (x : LinkTime) (k : Reg) : (s.setLinkTime i x).rdDom k = s.rdDom k := (rfl)

/-! ### `setPtp` -/

@[simp] theorem setPtp_part (i : Nat) (x : PtpPort) : (s.setPtp i x).part = s.part := (rfl)
@[simp] theorem setPtp_regs (i : Nat) (x : PtpPort) : (s.setPtp i x).regs = s.regs := (rfl)
@[simp] theorem setPtp_doms (i : Nat) (x : PtpPort) : (s.setPtp i x).doms = s.doms := (rfl)
@[simp] theorem setPtp_sessions (i : Nat) (x : PtpPort) : (s.setPtp i x).sessions = s.sessions := (rfl)
@[simp] theorem setPtp_clauses (i : Nat) (x : PtpPort) : (s.setPtp i x).clauses = s.clauses := (rfl)
@[simp] theorem setPtp_lastClause (i : Nat) (x : PtpPort) : (s.setPtp i x).lastClause = s.lastClause := (rfl)
@[simp] theorem setPtp_canIn (i : Nat) (x : PtpPort) : (s.setPtp i x).canIn = s.canIn := (rfl)
@[simp] theorem setPtp_forwarded (i : Nat) (x : PtpPort) : (s.setPtp i x).forwarded = s.forwarded := (rfl)
@[simp] theorem setPtp_held (i : Nat) (x : PtpPort) : (s.setPtp i x).held = s.held := (rfl)
@[simp] theorem setPtp_queues (i : Nat) (x : PtpPort) : (s.setPtp i x).queues = s.queues := (rfl)
@[simp] theorem setPtp_dram (i : Nat) (x : PtpPort) : (s.setPtp i x).dram = s.dram := (rfl)
@[simp] theorem setPtp_links (i : Nat) (x : PtpPort) : (s.setPtp i x).links = s.links := (rfl)
@[simp] theorem setPtp_chans (i : Nat) (x : PtpPort) : (s.setPtp i x).chans = s.chans := (rfl)
@[simp] theorem setPtp_quads (i : Nat) (x : PtpPort) : (s.setPtp i x).quads = s.quads := (rfl)
@[simp] theorem setPtp_dieRefs (i : Nat) (x : PtpPort) : (s.setPtp i x).dieRefs = s.dieRefs := (rfl)
@[simp] theorem setPtp_spares (i : Nat) (x : PtpPort) : (s.setPtp i x).spares = s.spares := (rfl)
@[simp] theorem setPtp_paths (i : Nat) (x : PtpPort) : (s.setPtp i x).paths = s.paths := (rfl)
@[simp] theorem setPtp_lehr (i : Nat) (x : PtpPort) : (s.setPtp i x).lehr = s.lehr := (rfl)
@[simp] theorem setPtp_caps (i : Nat) (x : PtpPort) : (s.setPtp i x).caps = s.caps := (rfl)
@[simp] theorem setPtp_segments (i : Nat) (x : PtpPort) : (s.setPtp i x).segments = s.segments := (rfl)
@[simp] theorem setPtp_matrix (i : Nat) (x : PtpPort) : (s.setPtp i x).matrix = s.matrix := (rfl)
@[simp] theorem setPtp_ctxs (i : Nat) (x : PtpPort) : (s.setPtp i x).ctxs = s.ctxs := (rfl)
@[simp] theorem setPtp_jobs (i : Nat) (x : PtpPort) : (s.setPtp i x).jobs = s.jobs := (rfl)
@[simp] theorem setPtp_lanes (i : Nat) (x : PtpPort) : (s.setPtp i x).lanes = s.lanes := (rfl)
@[simp] theorem setPtp_mode (i : Nat) (x : PtpPort) : (s.setPtp i x).mode = s.mode := (rfl)
@[simp] theorem setPtp_mram (i : Nat) (x : PtpPort) : (s.setPtp i x).mram = s.mram := (rfl)
@[simp] theorem setPtp_cores (i : Nat) (x : PtpPort) : (s.setPtp i x).cores = s.cores := (rfl)
@[simp] theorem setPtp_amp (i : Nat) (x : PtpPort) : (s.setPtp i x).amp = s.amp := (rfl)
@[simp] theorem setPtp_poisoned (i : Nat) (x : PtpPort) : (s.setPtp i x).poisoned = s.poisoned := (rfl)
@[simp] theorem setPtp_out (i : Nat) (x : PtpPort) : (s.setPtp i x).out = s.out := (rfl)
@[simp] theorem setPtp_freeCount (i : Nat) (x : PtpPort) : (s.setPtp i x).freeCount = s.freeCount := (rfl)
@[simp] theorem setPtp_pending (i : Nat) (x : PtpPort) : (s.setPtp i x).pending = s.pending := (rfl)
@[simp] theorem setPtp_time_ticks (i : Nat) (x : PtpPort) : (s.setPtp i x).time.ticks = s.time.ticks := (rfl)
@[simp] theorem setPtp_time_frac (i : Nat) (x : PtpPort) : (s.setPtp i x).time.frac = s.time.frac := (rfl)
@[simp] theorem setPtp_time_edge (i : Nat) (x : PtpPort) : (s.setPtp i x).time.edge = s.time.edge := (rfl)
@[simp] theorem setPtp_time_running (i : Nat) (x : PtpPort) : (s.setPtp i x).time.running = s.time.running := (rfl)
@[simp] theorem setPtp_time_sources (i : Nat) (x : PtpPort) : (s.setPtp i x).time.sources = s.time.sources := (rfl)
@[simp] theorem setPtp_time_run (i : Nat) (x : PtpPort) : (s.setPtp i x).time.run = s.time.run := (rfl)
@[simp] theorem setPtp_time_wordHist (i : Nat) (x : PtpPort) : (s.setPtp i x).time.wordHist = s.time.wordHist := (rfl)
@[simp] theorem setPtp_time_wordEdge (i : Nat) (x : PtpPort) : (s.setPtp i x).time.wordEdge = s.time.wordEdge := (rfl)
@[simp] theorem setPtp_time_lockedSinceUnset (i : Nat) (x : PtpPort) : (s.setPtp i x).time.lockedSinceUnset = s.time.lockedSinceUnset := (rfl)
@[simp] theorem setPtp_time_integ (i : Nat) (x : PtpPort) : (s.setPtp i x).time.integ = s.time.integ := (rfl)
@[simp] theorem setPtp_time_links (i : Nat) (x : PtpPort) : (s.setPtp i x).time.links = s.time.links := (rfl)
@[simp] theorem setPtp_time_ppsHigh (i : Nat) (x : PtpPort) : (s.setPtp i x).time.ppsHigh = s.time.ppsHigh := (rfl)
@[simp] theorem setPtp_time_lastPps (i : Nat) (x : PtpPort) : (s.setPtp i x).time.lastPps = s.time.lastPps := (rfl)
@[simp] theorem setPtp_time_hist (i : Nat) (x : PtpPort) : (s.setPtp i x).time.hist = s.time.hist := (rfl)
@[simp] theorem setPtp_time_slew (i : Nat) (x : PtpPort) : (s.setPtp i x).time.slew = s.time.slew := (rfl)
@[simp] theorem setPtp_time_breach (i : Nat) (x : PtpPort) : (s.setPtp i x).time.breach = s.time.breach := (rfl)
@[simp] theorem setPtp_time_ppsFall (i : Nat) (x : PtpPort) : (s.setPtp i x).time.ppsFall = s.time.ppsFall := (rfl)
@[simp] theorem setPtp_time_jumps (i : Nat) (x : PtpPort) : (s.setPtp i x).time.jumps = s.time.jumps := (rfl)
@[simp] theorem setPtp_session_read (i : Nat) (x : PtpPort) (k : Nat) : (s.setPtp i x).session k = s.session k := (rfl)
@[simp] theorem setPtp_clause_read (i : Nat) (x : PtpPort) (k : Nat) : (s.setPtp i x).clause k = s.clause k := (rfl)
@[simp] theorem setPtp_source_read (i : Nat) (x : PtpPort) (k : Nat) : (s.setPtp i x).source k = s.source k := (rfl)
@[simp] theorem setPtp_linkTime_read (i : Nat) (x : PtpPort) (k : Nat) : (s.setPtp i x).linkTime k = s.linkTime k := (rfl)
@[simp] theorem setPtp_ptp_read (i k : Nat) (x : PtpPort) : (s.setPtp i x).ptp k = if k = i then x else s.ptp k := alGet_alPut _ _ _ _ _ _
@[simp] theorem setPtp_setPtp (i : Nat) (x y : PtpPort) : (s.setPtp i x).setPtp i y = s.setPtp i y := by
  unfold setPtp tabPut; rw [alPut_alPut]
@[simp] theorem setPtp_queue_read (i : Nat) (x : PtpPort) (k : Nat) : (s.setPtp i x).queue k = s.queue k := (rfl)
@[simp] theorem setPtp_dramCh_read (i : Nat) (x : PtpPort) (k : Nat) : (s.setPtp i x).dramCh k = s.dramCh k := (rfl)
@[simp] theorem setPtp_link_read (i : Nat) (x : PtpPort) (k : Nat) : (s.setPtp i x).link k = s.link k := (rfl)
@[simp] theorem setPtp_chan_read (i : Nat) (x : PtpPort) (k : Nat) : (s.setPtp i x).chan k = s.chan k := (rfl)
@[simp] theorem setPtp_quad_read (i : Nat) (x : PtpPort) (k : Nat) : (s.setPtp i x).quad k = s.quad k := (rfl)
@[simp] theorem setPtp_dieRef_read (i : Nat) (x : PtpPort) (k : Nat) : (s.setPtp i x).dieRef k = s.dieRef k := (rfl)
@[simp] theorem setPtp_spare_read (i : Nat) (x : PtpPort) (k : Nat) : (s.setPtp i x).spare k = s.spare k := (rfl)
@[simp] theorem setPtp_path_read (i : Nat) (x : PtpPort) (k : Nat) : (s.setPtp i x).path k = s.path k := (rfl)
@[simp] theorem setPtp_cap_read (i : Nat) (x : PtpPort) (k : Nat) : (s.setPtp i x).cap k = s.cap k := (rfl)
@[simp] theorem setPtp_ctx_read (i : Nat) (x : PtpPort) (k : Nat) : (s.setPtp i x).ctx k = s.ctx k := (rfl)
@[simp] theorem setPtp_job_read (i : Nat) (x : PtpPort) (k : Nat) : (s.setPtp i x).job k = s.job k := (rfl)
@[simp] theorem setPtp_lane_read (i : Nat) (x : PtpPort) (k : Nat) : (s.setPtp i x).lane k = s.lane k := (rfl)
@[simp] theorem setPtp_bundle_read (i : Nat) (x : PtpPort) (k : Nat) : (s.setPtp i x).bundle k = s.bundle k := (rfl)
@[simp] theorem setPtp_rd (i : Nat) (x : PtpPort) (k : Reg) : (s.setPtp i x).rd k = s.rd k := (rfl)
@[simp] theorem setPtp_rdDom (i : Nat) (x : PtpPort) (k : Reg) : (s.setPtp i x).rdDom k = s.rdDom k := (rfl)

/-! ### `setQueue` -/

@[simp] theorem setQueue_part (i : Nat) (x : Queue) : (s.setQueue i x).part = s.part := (rfl)
@[simp] theorem setQueue_regs (i : Nat) (x : Queue) : (s.setQueue i x).regs = s.regs := (rfl)
@[simp] theorem setQueue_doms (i : Nat) (x : Queue) : (s.setQueue i x).doms = s.doms := (rfl)
@[simp] theorem setQueue_time (i : Nat) (x : Queue) : (s.setQueue i x).time = s.time := (rfl)
@[simp] theorem setQueue_sessions (i : Nat) (x : Queue) : (s.setQueue i x).sessions = s.sessions := (rfl)
@[simp] theorem setQueue_clauses (i : Nat) (x : Queue) : (s.setQueue i x).clauses = s.clauses := (rfl)
@[simp] theorem setQueue_lastClause (i : Nat) (x : Queue) : (s.setQueue i x).lastClause = s.lastClause := (rfl)
@[simp] theorem setQueue_canIn (i : Nat) (x : Queue) : (s.setQueue i x).canIn = s.canIn := (rfl)
@[simp] theorem setQueue_forwarded (i : Nat) (x : Queue) : (s.setQueue i x).forwarded = s.forwarded := (rfl)
@[simp] theorem setQueue_held (i : Nat) (x : Queue) : (s.setQueue i x).held = s.held := (rfl)
@[simp] theorem setQueue_dram (i : Nat) (x : Queue) : (s.setQueue i x).dram = s.dram := (rfl)
@[simp] theorem setQueue_links (i : Nat) (x : Queue) : (s.setQueue i x).links = s.links := (rfl)
@[simp] theorem setQueue_chans (i : Nat) (x : Queue) : (s.setQueue i x).chans = s.chans := (rfl)
@[simp] theorem setQueue_quads (i : Nat) (x : Queue) : (s.setQueue i x).quads = s.quads := (rfl)
@[simp] theorem setQueue_dieRefs (i : Nat) (x : Queue) : (s.setQueue i x).dieRefs = s.dieRefs := (rfl)
@[simp] theorem setQueue_spares (i : Nat) (x : Queue) : (s.setQueue i x).spares = s.spares := (rfl)
@[simp] theorem setQueue_paths (i : Nat) (x : Queue) : (s.setQueue i x).paths = s.paths := (rfl)
@[simp] theorem setQueue_lehr (i : Nat) (x : Queue) : (s.setQueue i x).lehr = s.lehr := (rfl)
@[simp] theorem setQueue_caps (i : Nat) (x : Queue) : (s.setQueue i x).caps = s.caps := (rfl)
@[simp] theorem setQueue_segments (i : Nat) (x : Queue) : (s.setQueue i x).segments = s.segments := (rfl)
@[simp] theorem setQueue_matrix (i : Nat) (x : Queue) : (s.setQueue i x).matrix = s.matrix := (rfl)
@[simp] theorem setQueue_ctxs (i : Nat) (x : Queue) : (s.setQueue i x).ctxs = s.ctxs := (rfl)
@[simp] theorem setQueue_jobs (i : Nat) (x : Queue) : (s.setQueue i x).jobs = s.jobs := (rfl)
@[simp] theorem setQueue_lanes (i : Nat) (x : Queue) : (s.setQueue i x).lanes = s.lanes := (rfl)
@[simp] theorem setQueue_mode (i : Nat) (x : Queue) : (s.setQueue i x).mode = s.mode := (rfl)
@[simp] theorem setQueue_mram (i : Nat) (x : Queue) : (s.setQueue i x).mram = s.mram := (rfl)
@[simp] theorem setQueue_cores (i : Nat) (x : Queue) : (s.setQueue i x).cores = s.cores := (rfl)
@[simp] theorem setQueue_amp (i : Nat) (x : Queue) : (s.setQueue i x).amp = s.amp := (rfl)
@[simp] theorem setQueue_poisoned (i : Nat) (x : Queue) : (s.setQueue i x).poisoned = s.poisoned := (rfl)
@[simp] theorem setQueue_out (i : Nat) (x : Queue) : (s.setQueue i x).out = s.out := (rfl)
@[simp] theorem setQueue_freeCount (i : Nat) (x : Queue) : (s.setQueue i x).freeCount = s.freeCount := (rfl)
@[simp] theorem setQueue_pending (i : Nat) (x : Queue) : (s.setQueue i x).pending = s.pending := (rfl)
@[simp] theorem setQueue_session_read (i : Nat) (x : Queue) (k : Nat) : (s.setQueue i x).session k = s.session k := (rfl)
@[simp] theorem setQueue_clause_read (i : Nat) (x : Queue) (k : Nat) : (s.setQueue i x).clause k = s.clause k := (rfl)
@[simp] theorem setQueue_source_read (i : Nat) (x : Queue) (k : Nat) : (s.setQueue i x).source k = s.source k := (rfl)
@[simp] theorem setQueue_linkTime_read (i : Nat) (x : Queue) (k : Nat) : (s.setQueue i x).linkTime k = s.linkTime k := (rfl)
@[simp] theorem setQueue_ptp_read (i : Nat) (x : Queue) (k : Nat) : (s.setQueue i x).ptp k = s.ptp k := (rfl)
@[simp] theorem setQueue_queue_read (i k : Nat) (x : Queue) : (s.setQueue i x).queue k = if k = i then x else s.queue k := alGet_alPut _ _ _ _ _ _
@[simp] theorem setQueue_setQueue (i : Nat) (x y : Queue) : (s.setQueue i x).setQueue i y = s.setQueue i y := by
  unfold setQueue tabPut; rw [alPut_alPut]
@[simp] theorem setQueue_dramCh_read (i : Nat) (x : Queue) (k : Nat) : (s.setQueue i x).dramCh k = s.dramCh k := (rfl)
@[simp] theorem setQueue_link_read (i : Nat) (x : Queue) (k : Nat) : (s.setQueue i x).link k = s.link k := (rfl)
@[simp] theorem setQueue_chan_read (i : Nat) (x : Queue) (k : Nat) : (s.setQueue i x).chan k = s.chan k := (rfl)
@[simp] theorem setQueue_quad_read (i : Nat) (x : Queue) (k : Nat) : (s.setQueue i x).quad k = s.quad k := (rfl)
@[simp] theorem setQueue_dieRef_read (i : Nat) (x : Queue) (k : Nat) : (s.setQueue i x).dieRef k = s.dieRef k := (rfl)
@[simp] theorem setQueue_spare_read (i : Nat) (x : Queue) (k : Nat) : (s.setQueue i x).spare k = s.spare k := (rfl)
@[simp] theorem setQueue_path_read (i : Nat) (x : Queue) (k : Nat) : (s.setQueue i x).path k = s.path k := (rfl)
@[simp] theorem setQueue_cap_read (i : Nat) (x : Queue) (k : Nat) : (s.setQueue i x).cap k = s.cap k := (rfl)
@[simp] theorem setQueue_ctx_read (i : Nat) (x : Queue) (k : Nat) : (s.setQueue i x).ctx k = s.ctx k := (rfl)
@[simp] theorem setQueue_job_read (i : Nat) (x : Queue) (k : Nat) : (s.setQueue i x).job k = s.job k := (rfl)
@[simp] theorem setQueue_lane_read (i : Nat) (x : Queue) (k : Nat) : (s.setQueue i x).lane k = s.lane k := (rfl)
@[simp] theorem setQueue_bundle_read (i : Nat) (x : Queue) (k : Nat) : (s.setQueue i x).bundle k = s.bundle k := (rfl)
@[simp] theorem setQueue_rd (i : Nat) (x : Queue) (k : Reg) : (s.setQueue i x).rd k = s.rd k := (rfl)
@[simp] theorem setQueue_rdDom (i : Nat) (x : Queue) (k : Reg) : (s.setQueue i x).rdDom k = s.rdDom k := (rfl)

/-! ### `setDramCh` -/

@[simp] theorem setDramCh_part (i : Nat) (x : DramCh) : (s.setDramCh i x).part = s.part := (rfl)
@[simp] theorem setDramCh_regs (i : Nat) (x : DramCh) : (s.setDramCh i x).regs = s.regs := (rfl)
@[simp] theorem setDramCh_doms (i : Nat) (x : DramCh) : (s.setDramCh i x).doms = s.doms := (rfl)
@[simp] theorem setDramCh_time (i : Nat) (x : DramCh) : (s.setDramCh i x).time = s.time := (rfl)
@[simp] theorem setDramCh_sessions (i : Nat) (x : DramCh) : (s.setDramCh i x).sessions = s.sessions := (rfl)
@[simp] theorem setDramCh_clauses (i : Nat) (x : DramCh) : (s.setDramCh i x).clauses = s.clauses := (rfl)
@[simp] theorem setDramCh_lastClause (i : Nat) (x : DramCh) : (s.setDramCh i x).lastClause = s.lastClause := (rfl)
@[simp] theorem setDramCh_canIn (i : Nat) (x : DramCh) : (s.setDramCh i x).canIn = s.canIn := (rfl)
@[simp] theorem setDramCh_forwarded (i : Nat) (x : DramCh) : (s.setDramCh i x).forwarded = s.forwarded := (rfl)
@[simp] theorem setDramCh_held (i : Nat) (x : DramCh) : (s.setDramCh i x).held = s.held := (rfl)
@[simp] theorem setDramCh_queues (i : Nat) (x : DramCh) : (s.setDramCh i x).queues = s.queues := (rfl)
@[simp] theorem setDramCh_links (i : Nat) (x : DramCh) : (s.setDramCh i x).links = s.links := (rfl)
@[simp] theorem setDramCh_chans (i : Nat) (x : DramCh) : (s.setDramCh i x).chans = s.chans := (rfl)
@[simp] theorem setDramCh_quads (i : Nat) (x : DramCh) : (s.setDramCh i x).quads = s.quads := (rfl)
@[simp] theorem setDramCh_dieRefs (i : Nat) (x : DramCh) : (s.setDramCh i x).dieRefs = s.dieRefs := (rfl)
@[simp] theorem setDramCh_spares (i : Nat) (x : DramCh) : (s.setDramCh i x).spares = s.spares := (rfl)
@[simp] theorem setDramCh_paths (i : Nat) (x : DramCh) : (s.setDramCh i x).paths = s.paths := (rfl)
@[simp] theorem setDramCh_lehr (i : Nat) (x : DramCh) : (s.setDramCh i x).lehr = s.lehr := (rfl)
@[simp] theorem setDramCh_caps (i : Nat) (x : DramCh) : (s.setDramCh i x).caps = s.caps := (rfl)
@[simp] theorem setDramCh_segments (i : Nat) (x : DramCh) : (s.setDramCh i x).segments = s.segments := (rfl)
@[simp] theorem setDramCh_matrix (i : Nat) (x : DramCh) : (s.setDramCh i x).matrix = s.matrix := (rfl)
@[simp] theorem setDramCh_ctxs (i : Nat) (x : DramCh) : (s.setDramCh i x).ctxs = s.ctxs := (rfl)
@[simp] theorem setDramCh_jobs (i : Nat) (x : DramCh) : (s.setDramCh i x).jobs = s.jobs := (rfl)
@[simp] theorem setDramCh_lanes (i : Nat) (x : DramCh) : (s.setDramCh i x).lanes = s.lanes := (rfl)
@[simp] theorem setDramCh_mode (i : Nat) (x : DramCh) : (s.setDramCh i x).mode = s.mode := (rfl)
@[simp] theorem setDramCh_mram (i : Nat) (x : DramCh) : (s.setDramCh i x).mram = s.mram := (rfl)
@[simp] theorem setDramCh_cores (i : Nat) (x : DramCh) : (s.setDramCh i x).cores = s.cores := (rfl)
@[simp] theorem setDramCh_amp (i : Nat) (x : DramCh) : (s.setDramCh i x).amp = s.amp := (rfl)
@[simp] theorem setDramCh_poisoned (i : Nat) (x : DramCh) : (s.setDramCh i x).poisoned = s.poisoned := (rfl)
@[simp] theorem setDramCh_out (i : Nat) (x : DramCh) : (s.setDramCh i x).out = s.out := (rfl)
@[simp] theorem setDramCh_freeCount (i : Nat) (x : DramCh) : (s.setDramCh i x).freeCount = s.freeCount := (rfl)
@[simp] theorem setDramCh_pending (i : Nat) (x : DramCh) : (s.setDramCh i x).pending = s.pending := (rfl)
@[simp] theorem setDramCh_dram_mem (i : Nat) (x : DramCh) : (s.setDramCh i x).dram.mem = s.dram.mem := (rfl)
@[simp] theorem setDramCh_dram_regions (i : Nat) (x : DramCh) : (s.setDramCh i x).dram.regions = s.dram.regions := (rfl)
@[simp] theorem setDramCh_dram_buckets (i : Nat) (x : DramCh) : (s.setDramCh i x).dram.buckets = s.dram.buckets := (rfl)
@[simp] theorem setDramCh_dram_archive (i : Nat) (x : DramCh) : (s.setDramCh i x).dram.archive = s.dram.archive := (rfl)
@[simp] theorem setDramCh_dram_failed (i : Nat) (x : DramCh) : (s.setDramCh i x).dram.failed = s.dram.failed := (rfl)
@[simp] theorem setDramCh_dram_portHeld (i : Nat) (x : DramCh) : (s.setDramCh i x).dram.portHeld = s.dram.portHeld := (rfl)
@[simp] theorem setDramCh_dram_chSet (i : Nat) (x : DramCh) : (s.setDramCh i x).dram.chSet = s.dram.chSet := (rfl)
@[simp] theorem setDramCh_dram_masks (i : Nat) (x : DramCh) : (s.setDramCh i x).dram.masks = s.dram.masks := (rfl)
@[simp] theorem setDramCh_dram_config (i : Nat) (x : DramCh) : (s.setDramCh i x).dram.config = s.dram.config := (rfl)
@[simp] theorem setDramCh_dram_rate (i : Nat) (x : DramCh) : (s.setDramCh i x).dram.rate = s.dram.rate := (rfl)
@[simp] theorem setDramCh_dram_bad (i : Nat) (x : DramCh) : (s.setDramCh i x).dram.bad = s.dram.bad := (rfl)
@[simp] theorem setDramCh_session_read (i : Nat) (x : DramCh) (k : Nat) : (s.setDramCh i x).session k = s.session k := (rfl)
@[simp] theorem setDramCh_clause_read (i : Nat) (x : DramCh) (k : Nat) : (s.setDramCh i x).clause k = s.clause k := (rfl)
@[simp] theorem setDramCh_source_read (i : Nat) (x : DramCh) (k : Nat) : (s.setDramCh i x).source k = s.source k := (rfl)
@[simp] theorem setDramCh_linkTime_read (i : Nat) (x : DramCh) (k : Nat) : (s.setDramCh i x).linkTime k = s.linkTime k := (rfl)
@[simp] theorem setDramCh_ptp_read (i : Nat) (x : DramCh) (k : Nat) : (s.setDramCh i x).ptp k = s.ptp k := (rfl)
@[simp] theorem setDramCh_queue_read (i : Nat) (x : DramCh) (k : Nat) : (s.setDramCh i x).queue k = s.queue k := (rfl)
@[simp] theorem setDramCh_dramCh_read (i k : Nat) (x : DramCh) : (s.setDramCh i x).dramCh k = if k = i then x else s.dramCh k := alGet_alPut _ _ _ _ _ _
@[simp] theorem setDramCh_setDramCh (i : Nat) (x y : DramCh) : (s.setDramCh i x).setDramCh i y = s.setDramCh i y := by
  unfold setDramCh tabPut; rw [alPut_alPut]
@[simp] theorem setDramCh_link_read (i : Nat) (x : DramCh) (k : Nat) : (s.setDramCh i x).link k = s.link k := (rfl)
@[simp] theorem setDramCh_chan_read (i : Nat) (x : DramCh) (k : Nat) : (s.setDramCh i x).chan k = s.chan k := (rfl)
@[simp] theorem setDramCh_quad_read (i : Nat) (x : DramCh) (k : Nat) : (s.setDramCh i x).quad k = s.quad k := (rfl)
@[simp] theorem setDramCh_dieRef_read (i : Nat) (x : DramCh) (k : Nat) : (s.setDramCh i x).dieRef k = s.dieRef k := (rfl)
@[simp] theorem setDramCh_spare_read (i : Nat) (x : DramCh) (k : Nat) : (s.setDramCh i x).spare k = s.spare k := (rfl)
@[simp] theorem setDramCh_path_read (i : Nat) (x : DramCh) (k : Nat) : (s.setDramCh i x).path k = s.path k := (rfl)
@[simp] theorem setDramCh_cap_read (i : Nat) (x : DramCh) (k : Nat) : (s.setDramCh i x).cap k = s.cap k := (rfl)
@[simp] theorem setDramCh_ctx_read (i : Nat) (x : DramCh) (k : Nat) : (s.setDramCh i x).ctx k = s.ctx k := (rfl)
@[simp] theorem setDramCh_job_read (i : Nat) (x : DramCh) (k : Nat) : (s.setDramCh i x).job k = s.job k := (rfl)
@[simp] theorem setDramCh_lane_read (i : Nat) (x : DramCh) (k : Nat) : (s.setDramCh i x).lane k = s.lane k := (rfl)
@[simp] theorem setDramCh_bundle_read (i : Nat) (x : DramCh) (k : Nat) : (s.setDramCh i x).bundle k = s.bundle k := (rfl)
@[simp] theorem setDramCh_rd (i : Nat) (x : DramCh) (k : Reg) : (s.setDramCh i x).rd k = s.rd k := (rfl)
@[simp] theorem setDramCh_rdDom (i : Nat) (x : DramCh) (k : Reg) : (s.setDramCh i x).rdDom k = s.rdDom k := (rfl)

/-! ### `setLink` -/

@[simp] theorem setLink_part (i : Nat) (x : DieLink) : (s.setLink i x).part = s.part := (rfl)
@[simp] theorem setLink_regs (i : Nat) (x : DieLink) : (s.setLink i x).regs = s.regs := (rfl)
@[simp] theorem setLink_doms (i : Nat) (x : DieLink) : (s.setLink i x).doms = s.doms := (rfl)
@[simp] theorem setLink_time (i : Nat) (x : DieLink) : (s.setLink i x).time = s.time := (rfl)
@[simp] theorem setLink_sessions (i : Nat) (x : DieLink) : (s.setLink i x).sessions = s.sessions := (rfl)
@[simp] theorem setLink_clauses (i : Nat) (x : DieLink) : (s.setLink i x).clauses = s.clauses := (rfl)
@[simp] theorem setLink_lastClause (i : Nat) (x : DieLink) : (s.setLink i x).lastClause = s.lastClause := (rfl)
@[simp] theorem setLink_canIn (i : Nat) (x : DieLink) : (s.setLink i x).canIn = s.canIn := (rfl)
@[simp] theorem setLink_forwarded (i : Nat) (x : DieLink) : (s.setLink i x).forwarded = s.forwarded := (rfl)
@[simp] theorem setLink_held (i : Nat) (x : DieLink) : (s.setLink i x).held = s.held := (rfl)
@[simp] theorem setLink_queues (i : Nat) (x : DieLink) : (s.setLink i x).queues = s.queues := (rfl)
@[simp] theorem setLink_dram (i : Nat) (x : DieLink) : (s.setLink i x).dram = s.dram := (rfl)
@[simp] theorem setLink_chans (i : Nat) (x : DieLink) : (s.setLink i x).chans = s.chans := (rfl)
@[simp] theorem setLink_quads (i : Nat) (x : DieLink) : (s.setLink i x).quads = s.quads := (rfl)
@[simp] theorem setLink_dieRefs (i : Nat) (x : DieLink) : (s.setLink i x).dieRefs = s.dieRefs := (rfl)
@[simp] theorem setLink_spares (i : Nat) (x : DieLink) : (s.setLink i x).spares = s.spares := (rfl)
@[simp] theorem setLink_paths (i : Nat) (x : DieLink) : (s.setLink i x).paths = s.paths := (rfl)
@[simp] theorem setLink_lehr (i : Nat) (x : DieLink) : (s.setLink i x).lehr = s.lehr := (rfl)
@[simp] theorem setLink_caps (i : Nat) (x : DieLink) : (s.setLink i x).caps = s.caps := (rfl)
@[simp] theorem setLink_segments (i : Nat) (x : DieLink) : (s.setLink i x).segments = s.segments := (rfl)
@[simp] theorem setLink_matrix (i : Nat) (x : DieLink) : (s.setLink i x).matrix = s.matrix := (rfl)
@[simp] theorem setLink_ctxs (i : Nat) (x : DieLink) : (s.setLink i x).ctxs = s.ctxs := (rfl)
@[simp] theorem setLink_jobs (i : Nat) (x : DieLink) : (s.setLink i x).jobs = s.jobs := (rfl)
@[simp] theorem setLink_lanes (i : Nat) (x : DieLink) : (s.setLink i x).lanes = s.lanes := (rfl)
@[simp] theorem setLink_mode (i : Nat) (x : DieLink) : (s.setLink i x).mode = s.mode := (rfl)
@[simp] theorem setLink_mram (i : Nat) (x : DieLink) : (s.setLink i x).mram = s.mram := (rfl)
@[simp] theorem setLink_cores (i : Nat) (x : DieLink) : (s.setLink i x).cores = s.cores := (rfl)
@[simp] theorem setLink_amp (i : Nat) (x : DieLink) : (s.setLink i x).amp = s.amp := (rfl)
@[simp] theorem setLink_poisoned (i : Nat) (x : DieLink) : (s.setLink i x).poisoned = s.poisoned := (rfl)
@[simp] theorem setLink_out (i : Nat) (x : DieLink) : (s.setLink i x).out = s.out := (rfl)
@[simp] theorem setLink_freeCount (i : Nat) (x : DieLink) : (s.setLink i x).freeCount = s.freeCount := (rfl)
@[simp] theorem setLink_pending (i : Nat) (x : DieLink) : (s.setLink i x).pending = s.pending := (rfl)
@[simp] theorem setLink_session_read (i : Nat) (x : DieLink) (k : Nat) : (s.setLink i x).session k = s.session k := (rfl)
@[simp] theorem setLink_clause_read (i : Nat) (x : DieLink) (k : Nat) : (s.setLink i x).clause k = s.clause k := (rfl)
@[simp] theorem setLink_source_read (i : Nat) (x : DieLink) (k : Nat) : (s.setLink i x).source k = s.source k := (rfl)
@[simp] theorem setLink_linkTime_read (i : Nat) (x : DieLink) (k : Nat) : (s.setLink i x).linkTime k = s.linkTime k := (rfl)
@[simp] theorem setLink_ptp_read (i : Nat) (x : DieLink) (k : Nat) : (s.setLink i x).ptp k = s.ptp k := (rfl)
@[simp] theorem setLink_queue_read (i : Nat) (x : DieLink) (k : Nat) : (s.setLink i x).queue k = s.queue k := (rfl)
@[simp] theorem setLink_dramCh_read (i : Nat) (x : DieLink) (k : Nat) : (s.setLink i x).dramCh k = s.dramCh k := (rfl)
@[simp] theorem setLink_link_read (i k : Nat) (x : DieLink) : (s.setLink i x).link k = if k = i then x else s.link k := alGet_alPut _ _ _ _ _ _
@[simp] theorem setLink_setLink (i : Nat) (x y : DieLink) : (s.setLink i x).setLink i y = s.setLink i y := by
  unfold setLink tabPut; rw [alPut_alPut]
@[simp] theorem setLink_chan_read (i : Nat) (x : DieLink) (k : Nat) : (s.setLink i x).chan k = s.chan k := (rfl)
@[simp] theorem setLink_quad_read (i : Nat) (x : DieLink) (k : Nat) : (s.setLink i x).quad k = s.quad k := (rfl)
@[simp] theorem setLink_dieRef_read (i : Nat) (x : DieLink) (k : Nat) : (s.setLink i x).dieRef k = s.dieRef k := (rfl)
@[simp] theorem setLink_spare_read (i : Nat) (x : DieLink) (k : Nat) : (s.setLink i x).spare k = s.spare k := (rfl)
@[simp] theorem setLink_path_read (i : Nat) (x : DieLink) (k : Nat) : (s.setLink i x).path k = s.path k := (rfl)
@[simp] theorem setLink_cap_read (i : Nat) (x : DieLink) (k : Nat) : (s.setLink i x).cap k = s.cap k := (rfl)
@[simp] theorem setLink_ctx_read (i : Nat) (x : DieLink) (k : Nat) : (s.setLink i x).ctx k = s.ctx k := (rfl)
@[simp] theorem setLink_job_read (i : Nat) (x : DieLink) (k : Nat) : (s.setLink i x).job k = s.job k := (rfl)
@[simp] theorem setLink_lane_read (i : Nat) (x : DieLink) (k : Nat) : (s.setLink i x).lane k = s.lane k := (rfl)
@[simp] theorem setLink_bundle_read (i : Nat) (x : DieLink) (k : Nat) : (s.setLink i x).bundle k = s.bundle k := (rfl)
@[simp] theorem setLink_rd (i : Nat) (x : DieLink) (k : Reg) : (s.setLink i x).rd k = s.rd k := (rfl)
@[simp] theorem setLink_rdDom (i : Nat) (x : DieLink) (k : Reg) : (s.setLink i x).rdDom k = s.rdDom k := (rfl)

/-! ### `setChan` -/

@[simp] theorem setChan_part (i : Nat) (x : Chan) : (s.setChan i x).part = s.part := (rfl)
@[simp] theorem setChan_regs (i : Nat) (x : Chan) : (s.setChan i x).regs = s.regs := (rfl)
@[simp] theorem setChan_doms (i : Nat) (x : Chan) : (s.setChan i x).doms = s.doms := (rfl)
@[simp] theorem setChan_time (i : Nat) (x : Chan) : (s.setChan i x).time = s.time := (rfl)
@[simp] theorem setChan_sessions (i : Nat) (x : Chan) : (s.setChan i x).sessions = s.sessions := (rfl)
@[simp] theorem setChan_clauses (i : Nat) (x : Chan) : (s.setChan i x).clauses = s.clauses := (rfl)
@[simp] theorem setChan_lastClause (i : Nat) (x : Chan) : (s.setChan i x).lastClause = s.lastClause := (rfl)
@[simp] theorem setChan_canIn (i : Nat) (x : Chan) : (s.setChan i x).canIn = s.canIn := (rfl)
@[simp] theorem setChan_forwarded (i : Nat) (x : Chan) : (s.setChan i x).forwarded = s.forwarded := (rfl)
@[simp] theorem setChan_held (i : Nat) (x : Chan) : (s.setChan i x).held = s.held := (rfl)
@[simp] theorem setChan_queues (i : Nat) (x : Chan) : (s.setChan i x).queues = s.queues := (rfl)
@[simp] theorem setChan_dram (i : Nat) (x : Chan) : (s.setChan i x).dram = s.dram := (rfl)
@[simp] theorem setChan_links (i : Nat) (x : Chan) : (s.setChan i x).links = s.links := (rfl)
@[simp] theorem setChan_quads (i : Nat) (x : Chan) : (s.setChan i x).quads = s.quads := (rfl)
@[simp] theorem setChan_dieRefs (i : Nat) (x : Chan) : (s.setChan i x).dieRefs = s.dieRefs := (rfl)
@[simp] theorem setChan_spares (i : Nat) (x : Chan) : (s.setChan i x).spares = s.spares := (rfl)
@[simp] theorem setChan_paths (i : Nat) (x : Chan) : (s.setChan i x).paths = s.paths := (rfl)
@[simp] theorem setChan_lehr (i : Nat) (x : Chan) : (s.setChan i x).lehr = s.lehr := (rfl)
@[simp] theorem setChan_caps (i : Nat) (x : Chan) : (s.setChan i x).caps = s.caps := (rfl)
@[simp] theorem setChan_segments (i : Nat) (x : Chan) : (s.setChan i x).segments = s.segments := (rfl)
@[simp] theorem setChan_matrix (i : Nat) (x : Chan) : (s.setChan i x).matrix = s.matrix := (rfl)
@[simp] theorem setChan_ctxs (i : Nat) (x : Chan) : (s.setChan i x).ctxs = s.ctxs := (rfl)
@[simp] theorem setChan_jobs (i : Nat) (x : Chan) : (s.setChan i x).jobs = s.jobs := (rfl)
@[simp] theorem setChan_lanes (i : Nat) (x : Chan) : (s.setChan i x).lanes = s.lanes := (rfl)
@[simp] theorem setChan_mode (i : Nat) (x : Chan) : (s.setChan i x).mode = s.mode := (rfl)
@[simp] theorem setChan_mram (i : Nat) (x : Chan) : (s.setChan i x).mram = s.mram := (rfl)
@[simp] theorem setChan_cores (i : Nat) (x : Chan) : (s.setChan i x).cores = s.cores := (rfl)
@[simp] theorem setChan_amp (i : Nat) (x : Chan) : (s.setChan i x).amp = s.amp := (rfl)
@[simp] theorem setChan_poisoned (i : Nat) (x : Chan) : (s.setChan i x).poisoned = s.poisoned := (rfl)
@[simp] theorem setChan_out (i : Nat) (x : Chan) : (s.setChan i x).out = s.out := (rfl)
@[simp] theorem setChan_freeCount (i : Nat) (x : Chan) : (s.setChan i x).freeCount = s.freeCount := (rfl)
@[simp] theorem setChan_pending (i : Nat) (x : Chan) : (s.setChan i x).pending = s.pending := (rfl)
@[simp] theorem setChan_session_read (i : Nat) (x : Chan) (k : Nat) : (s.setChan i x).session k = s.session k := (rfl)
@[simp] theorem setChan_clause_read (i : Nat) (x : Chan) (k : Nat) : (s.setChan i x).clause k = s.clause k := (rfl)
@[simp] theorem setChan_source_read (i : Nat) (x : Chan) (k : Nat) : (s.setChan i x).source k = s.source k := (rfl)
@[simp] theorem setChan_linkTime_read (i : Nat) (x : Chan) (k : Nat) : (s.setChan i x).linkTime k = s.linkTime k := (rfl)
@[simp] theorem setChan_ptp_read (i : Nat) (x : Chan) (k : Nat) : (s.setChan i x).ptp k = s.ptp k := (rfl)
@[simp] theorem setChan_queue_read (i : Nat) (x : Chan) (k : Nat) : (s.setChan i x).queue k = s.queue k := (rfl)
@[simp] theorem setChan_dramCh_read (i : Nat) (x : Chan) (k : Nat) : (s.setChan i x).dramCh k = s.dramCh k := (rfl)
@[simp] theorem setChan_link_read (i : Nat) (x : Chan) (k : Nat) : (s.setChan i x).link k = s.link k := (rfl)
@[simp] theorem setChan_chan_read (i k : Nat) (x : Chan) : (s.setChan i x).chan k = if k = i then x else s.chan k := alGet_alPut _ _ _ _ _ _
@[simp] theorem setChan_setChan (i : Nat) (x y : Chan) : (s.setChan i x).setChan i y = s.setChan i y := by
  unfold setChan tabPut; rw [alPut_alPut]
@[simp] theorem setChan_quad_read (i : Nat) (x : Chan) (k : Nat) : (s.setChan i x).quad k = s.quad k := (rfl)
@[simp] theorem setChan_dieRef_read (i : Nat) (x : Chan) (k : Nat) : (s.setChan i x).dieRef k = s.dieRef k := (rfl)
@[simp] theorem setChan_spare_read (i : Nat) (x : Chan) (k : Nat) : (s.setChan i x).spare k = s.spare k := (rfl)
@[simp] theorem setChan_path_read (i : Nat) (x : Chan) (k : Nat) : (s.setChan i x).path k = s.path k := (rfl)
@[simp] theorem setChan_cap_read (i : Nat) (x : Chan) (k : Nat) : (s.setChan i x).cap k = s.cap k := (rfl)
@[simp] theorem setChan_ctx_read (i : Nat) (x : Chan) (k : Nat) : (s.setChan i x).ctx k = s.ctx k := (rfl)
@[simp] theorem setChan_job_read (i : Nat) (x : Chan) (k : Nat) : (s.setChan i x).job k = s.job k := (rfl)
@[simp] theorem setChan_lane_read (i : Nat) (x : Chan) (k : Nat) : (s.setChan i x).lane k = s.lane k := (rfl)
@[simp] theorem setChan_bundle_read (i : Nat) (x : Chan) (k : Nat) : (s.setChan i x).bundle k = s.bundle k := (rfl)
@[simp] theorem setChan_rd (i : Nat) (x : Chan) (k : Reg) : (s.setChan i x).rd k = s.rd k := (rfl)
@[simp] theorem setChan_rdDom (i : Nat) (x : Chan) (k : Reg) : (s.setChan i x).rdDom k = s.rdDom k := (rfl)

/-! ### `setQuad` -/

@[simp] theorem setQuad_part (i : Nat) (x : Quad) : (s.setQuad i x).part = s.part := (rfl)
@[simp] theorem setQuad_regs (i : Nat) (x : Quad) : (s.setQuad i x).regs = s.regs := (rfl)
@[simp] theorem setQuad_doms (i : Nat) (x : Quad) : (s.setQuad i x).doms = s.doms := (rfl)
@[simp] theorem setQuad_time (i : Nat) (x : Quad) : (s.setQuad i x).time = s.time := (rfl)
@[simp] theorem setQuad_sessions (i : Nat) (x : Quad) : (s.setQuad i x).sessions = s.sessions := (rfl)
@[simp] theorem setQuad_clauses (i : Nat) (x : Quad) : (s.setQuad i x).clauses = s.clauses := (rfl)
@[simp] theorem setQuad_lastClause (i : Nat) (x : Quad) : (s.setQuad i x).lastClause = s.lastClause := (rfl)
@[simp] theorem setQuad_canIn (i : Nat) (x : Quad) : (s.setQuad i x).canIn = s.canIn := (rfl)
@[simp] theorem setQuad_forwarded (i : Nat) (x : Quad) : (s.setQuad i x).forwarded = s.forwarded := (rfl)
@[simp] theorem setQuad_held (i : Nat) (x : Quad) : (s.setQuad i x).held = s.held := (rfl)
@[simp] theorem setQuad_queues (i : Nat) (x : Quad) : (s.setQuad i x).queues = s.queues := (rfl)
@[simp] theorem setQuad_dram (i : Nat) (x : Quad) : (s.setQuad i x).dram = s.dram := (rfl)
@[simp] theorem setQuad_links (i : Nat) (x : Quad) : (s.setQuad i x).links = s.links := (rfl)
@[simp] theorem setQuad_chans (i : Nat) (x : Quad) : (s.setQuad i x).chans = s.chans := (rfl)
@[simp] theorem setQuad_dieRefs (i : Nat) (x : Quad) : (s.setQuad i x).dieRefs = s.dieRefs := (rfl)
@[simp] theorem setQuad_spares (i : Nat) (x : Quad) : (s.setQuad i x).spares = s.spares := (rfl)
@[simp] theorem setQuad_paths (i : Nat) (x : Quad) : (s.setQuad i x).paths = s.paths := (rfl)
@[simp] theorem setQuad_lehr (i : Nat) (x : Quad) : (s.setQuad i x).lehr = s.lehr := (rfl)
@[simp] theorem setQuad_caps (i : Nat) (x : Quad) : (s.setQuad i x).caps = s.caps := (rfl)
@[simp] theorem setQuad_segments (i : Nat) (x : Quad) : (s.setQuad i x).segments = s.segments := (rfl)
@[simp] theorem setQuad_matrix (i : Nat) (x : Quad) : (s.setQuad i x).matrix = s.matrix := (rfl)
@[simp] theorem setQuad_ctxs (i : Nat) (x : Quad) : (s.setQuad i x).ctxs = s.ctxs := (rfl)
@[simp] theorem setQuad_jobs (i : Nat) (x : Quad) : (s.setQuad i x).jobs = s.jobs := (rfl)
@[simp] theorem setQuad_lanes (i : Nat) (x : Quad) : (s.setQuad i x).lanes = s.lanes := (rfl)
@[simp] theorem setQuad_mode (i : Nat) (x : Quad) : (s.setQuad i x).mode = s.mode := (rfl)
@[simp] theorem setQuad_mram (i : Nat) (x : Quad) : (s.setQuad i x).mram = s.mram := (rfl)
@[simp] theorem setQuad_cores (i : Nat) (x : Quad) : (s.setQuad i x).cores = s.cores := (rfl)
@[simp] theorem setQuad_amp (i : Nat) (x : Quad) : (s.setQuad i x).amp = s.amp := (rfl)
@[simp] theorem setQuad_poisoned (i : Nat) (x : Quad) : (s.setQuad i x).poisoned = s.poisoned := (rfl)
@[simp] theorem setQuad_out (i : Nat) (x : Quad) : (s.setQuad i x).out = s.out := (rfl)
@[simp] theorem setQuad_freeCount (i : Nat) (x : Quad) : (s.setQuad i x).freeCount = s.freeCount := (rfl)
@[simp] theorem setQuad_pending (i : Nat) (x : Quad) : (s.setQuad i x).pending = s.pending := (rfl)
@[simp] theorem setQuad_session_read (i : Nat) (x : Quad) (k : Nat) : (s.setQuad i x).session k = s.session k := (rfl)
@[simp] theorem setQuad_clause_read (i : Nat) (x : Quad) (k : Nat) : (s.setQuad i x).clause k = s.clause k := (rfl)
@[simp] theorem setQuad_source_read (i : Nat) (x : Quad) (k : Nat) : (s.setQuad i x).source k = s.source k := (rfl)
@[simp] theorem setQuad_linkTime_read (i : Nat) (x : Quad) (k : Nat) : (s.setQuad i x).linkTime k = s.linkTime k := (rfl)
@[simp] theorem setQuad_ptp_read (i : Nat) (x : Quad) (k : Nat) : (s.setQuad i x).ptp k = s.ptp k := (rfl)
@[simp] theorem setQuad_queue_read (i : Nat) (x : Quad) (k : Nat) : (s.setQuad i x).queue k = s.queue k := (rfl)
@[simp] theorem setQuad_dramCh_read (i : Nat) (x : Quad) (k : Nat) : (s.setQuad i x).dramCh k = s.dramCh k := (rfl)
@[simp] theorem setQuad_link_read (i : Nat) (x : Quad) (k : Nat) : (s.setQuad i x).link k = s.link k := (rfl)
@[simp] theorem setQuad_chan_read (i : Nat) (x : Quad) (k : Nat) : (s.setQuad i x).chan k = s.chan k := (rfl)
@[simp] theorem setQuad_quad_read (i k : Nat) (x : Quad) : (s.setQuad i x).quad k = if k = i then x else s.quad k := alGet_alPut _ _ _ _ _ _
@[simp] theorem setQuad_setQuad (i : Nat) (x y : Quad) : (s.setQuad i x).setQuad i y = s.setQuad i y := by
  unfold setQuad tabPut; rw [alPut_alPut]
@[simp] theorem setQuad_dieRef_read (i : Nat) (x : Quad) (k : Nat) : (s.setQuad i x).dieRef k = s.dieRef k := (rfl)
@[simp] theorem setQuad_spare_read (i : Nat) (x : Quad) (k : Nat) : (s.setQuad i x).spare k = s.spare k := (rfl)
@[simp] theorem setQuad_path_read (i : Nat) (x : Quad) (k : Nat) : (s.setQuad i x).path k = s.path k := (rfl)
@[simp] theorem setQuad_cap_read (i : Nat) (x : Quad) (k : Nat) : (s.setQuad i x).cap k = s.cap k := (rfl)
@[simp] theorem setQuad_ctx_read (i : Nat) (x : Quad) (k : Nat) : (s.setQuad i x).ctx k = s.ctx k := (rfl)
@[simp] theorem setQuad_job_read (i : Nat) (x : Quad) (k : Nat) : (s.setQuad i x).job k = s.job k := (rfl)
@[simp] theorem setQuad_lane_read (i : Nat) (x : Quad) (k : Nat) : (s.setQuad i x).lane k = s.lane k := (rfl)
@[simp] theorem setQuad_bundle_read (i : Nat) (x : Quad) (k : Nat) : (s.setQuad i x).bundle k = s.bundle k := (rfl)
@[simp] theorem setQuad_rd (i : Nat) (x : Quad) (k : Reg) : (s.setQuad i x).rd k = s.rd k := (rfl)
@[simp] theorem setQuad_rdDom (i : Nat) (x : Quad) (k : Reg) : (s.setQuad i x).rdDom k = s.rdDom k := (rfl)

/-! ### `setDieRef` -/

@[simp] theorem setDieRef_part (i : Nat) (x : DieRef) : (s.setDieRef i x).part = s.part := (rfl)
@[simp] theorem setDieRef_regs (i : Nat) (x : DieRef) : (s.setDieRef i x).regs = s.regs := (rfl)
@[simp] theorem setDieRef_doms (i : Nat) (x : DieRef) : (s.setDieRef i x).doms = s.doms := (rfl)
@[simp] theorem setDieRef_time (i : Nat) (x : DieRef) : (s.setDieRef i x).time = s.time := (rfl)
@[simp] theorem setDieRef_sessions (i : Nat) (x : DieRef) : (s.setDieRef i x).sessions = s.sessions := (rfl)
@[simp] theorem setDieRef_clauses (i : Nat) (x : DieRef) : (s.setDieRef i x).clauses = s.clauses := (rfl)
@[simp] theorem setDieRef_lastClause (i : Nat) (x : DieRef) : (s.setDieRef i x).lastClause = s.lastClause := (rfl)
@[simp] theorem setDieRef_canIn (i : Nat) (x : DieRef) : (s.setDieRef i x).canIn = s.canIn := (rfl)
@[simp] theorem setDieRef_forwarded (i : Nat) (x : DieRef) : (s.setDieRef i x).forwarded = s.forwarded := (rfl)
@[simp] theorem setDieRef_held (i : Nat) (x : DieRef) : (s.setDieRef i x).held = s.held := (rfl)
@[simp] theorem setDieRef_queues (i : Nat) (x : DieRef) : (s.setDieRef i x).queues = s.queues := (rfl)
@[simp] theorem setDieRef_dram (i : Nat) (x : DieRef) : (s.setDieRef i x).dram = s.dram := (rfl)
@[simp] theorem setDieRef_links (i : Nat) (x : DieRef) : (s.setDieRef i x).links = s.links := (rfl)
@[simp] theorem setDieRef_chans (i : Nat) (x : DieRef) : (s.setDieRef i x).chans = s.chans := (rfl)
@[simp] theorem setDieRef_quads (i : Nat) (x : DieRef) : (s.setDieRef i x).quads = s.quads := (rfl)
@[simp] theorem setDieRef_spares (i : Nat) (x : DieRef) : (s.setDieRef i x).spares = s.spares := (rfl)
@[simp] theorem setDieRef_paths (i : Nat) (x : DieRef) : (s.setDieRef i x).paths = s.paths := (rfl)
@[simp] theorem setDieRef_lehr (i : Nat) (x : DieRef) : (s.setDieRef i x).lehr = s.lehr := (rfl)
@[simp] theorem setDieRef_caps (i : Nat) (x : DieRef) : (s.setDieRef i x).caps = s.caps := (rfl)
@[simp] theorem setDieRef_segments (i : Nat) (x : DieRef) : (s.setDieRef i x).segments = s.segments := (rfl)
@[simp] theorem setDieRef_matrix (i : Nat) (x : DieRef) : (s.setDieRef i x).matrix = s.matrix := (rfl)
@[simp] theorem setDieRef_ctxs (i : Nat) (x : DieRef) : (s.setDieRef i x).ctxs = s.ctxs := (rfl)
@[simp] theorem setDieRef_jobs (i : Nat) (x : DieRef) : (s.setDieRef i x).jobs = s.jobs := (rfl)
@[simp] theorem setDieRef_lanes (i : Nat) (x : DieRef) : (s.setDieRef i x).lanes = s.lanes := (rfl)
@[simp] theorem setDieRef_mode (i : Nat) (x : DieRef) : (s.setDieRef i x).mode = s.mode := (rfl)
@[simp] theorem setDieRef_mram (i : Nat) (x : DieRef) : (s.setDieRef i x).mram = s.mram := (rfl)
@[simp] theorem setDieRef_cores (i : Nat) (x : DieRef) : (s.setDieRef i x).cores = s.cores := (rfl)
@[simp] theorem setDieRef_amp (i : Nat) (x : DieRef) : (s.setDieRef i x).amp = s.amp := (rfl)
@[simp] theorem setDieRef_poisoned (i : Nat) (x : DieRef) : (s.setDieRef i x).poisoned = s.poisoned := (rfl)
@[simp] theorem setDieRef_out (i : Nat) (x : DieRef) : (s.setDieRef i x).out = s.out := (rfl)
@[simp] theorem setDieRef_freeCount (i : Nat) (x : DieRef) : (s.setDieRef i x).freeCount = s.freeCount := (rfl)
@[simp] theorem setDieRef_pending (i : Nat) (x : DieRef) : (s.setDieRef i x).pending = s.pending := (rfl)
@[simp] theorem setDieRef_session_read (i : Nat) (x : DieRef) (k : Nat) : (s.setDieRef i x).session k = s.session k := (rfl)
@[simp] theorem setDieRef_clause_read (i : Nat) (x : DieRef) (k : Nat) : (s.setDieRef i x).clause k = s.clause k := (rfl)
@[simp] theorem setDieRef_source_read (i : Nat) (x : DieRef) (k : Nat) : (s.setDieRef i x).source k = s.source k := (rfl)
@[simp] theorem setDieRef_linkTime_read (i : Nat) (x : DieRef) (k : Nat) : (s.setDieRef i x).linkTime k = s.linkTime k := (rfl)
@[simp] theorem setDieRef_ptp_read (i : Nat) (x : DieRef) (k : Nat) : (s.setDieRef i x).ptp k = s.ptp k := (rfl)
@[simp] theorem setDieRef_queue_read (i : Nat) (x : DieRef) (k : Nat) : (s.setDieRef i x).queue k = s.queue k := (rfl)
@[simp] theorem setDieRef_dramCh_read (i : Nat) (x : DieRef) (k : Nat) : (s.setDieRef i x).dramCh k = s.dramCh k := (rfl)
@[simp] theorem setDieRef_link_read (i : Nat) (x : DieRef) (k : Nat) : (s.setDieRef i x).link k = s.link k := (rfl)
@[simp] theorem setDieRef_chan_read (i : Nat) (x : DieRef) (k : Nat) : (s.setDieRef i x).chan k = s.chan k := (rfl)
@[simp] theorem setDieRef_quad_read (i : Nat) (x : DieRef) (k : Nat) : (s.setDieRef i x).quad k = s.quad k := (rfl)
@[simp] theorem setDieRef_dieRef_read (i k : Nat) (x : DieRef) : (s.setDieRef i x).dieRef k = if k = i then x else s.dieRef k := alGet_alPut _ _ _ _ _ _
@[simp] theorem setDieRef_setDieRef (i : Nat) (x y : DieRef) : (s.setDieRef i x).setDieRef i y = s.setDieRef i y := by
  unfold setDieRef tabPut; rw [alPut_alPut]
@[simp] theorem setDieRef_spare_read (i : Nat) (x : DieRef) (k : Nat) : (s.setDieRef i x).spare k = s.spare k := (rfl)
@[simp] theorem setDieRef_path_read (i : Nat) (x : DieRef) (k : Nat) : (s.setDieRef i x).path k = s.path k := (rfl)
@[simp] theorem setDieRef_cap_read (i : Nat) (x : DieRef) (k : Nat) : (s.setDieRef i x).cap k = s.cap k := (rfl)
@[simp] theorem setDieRef_ctx_read (i : Nat) (x : DieRef) (k : Nat) : (s.setDieRef i x).ctx k = s.ctx k := (rfl)
@[simp] theorem setDieRef_job_read (i : Nat) (x : DieRef) (k : Nat) : (s.setDieRef i x).job k = s.job k := (rfl)
@[simp] theorem setDieRef_lane_read (i : Nat) (x : DieRef) (k : Nat) : (s.setDieRef i x).lane k = s.lane k := (rfl)
@[simp] theorem setDieRef_bundle_read (i : Nat) (x : DieRef) (k : Nat) : (s.setDieRef i x).bundle k = s.bundle k := (rfl)
@[simp] theorem setDieRef_rd (i : Nat) (x : DieRef) (k : Reg) : (s.setDieRef i x).rd k = s.rd k := (rfl)
@[simp] theorem setDieRef_rdDom (i : Nat) (x : DieRef) (k : Reg) : (s.setDieRef i x).rdDom k = s.rdDom k := (rfl)

/-! ### `setSpare` -/

@[simp] theorem setSpare_part (i : Nat) (x : Spare) : (s.setSpare i x).part = s.part := (rfl)
@[simp] theorem setSpare_regs (i : Nat) (x : Spare) : (s.setSpare i x).regs = s.regs := (rfl)
@[simp] theorem setSpare_doms (i : Nat) (x : Spare) : (s.setSpare i x).doms = s.doms := (rfl)
@[simp] theorem setSpare_time (i : Nat) (x : Spare) : (s.setSpare i x).time = s.time := (rfl)
@[simp] theorem setSpare_sessions (i : Nat) (x : Spare) : (s.setSpare i x).sessions = s.sessions := (rfl)
@[simp] theorem setSpare_clauses (i : Nat) (x : Spare) : (s.setSpare i x).clauses = s.clauses := (rfl)
@[simp] theorem setSpare_lastClause (i : Nat) (x : Spare) : (s.setSpare i x).lastClause = s.lastClause := (rfl)
@[simp] theorem setSpare_canIn (i : Nat) (x : Spare) : (s.setSpare i x).canIn = s.canIn := (rfl)
@[simp] theorem setSpare_forwarded (i : Nat) (x : Spare) : (s.setSpare i x).forwarded = s.forwarded := (rfl)
@[simp] theorem setSpare_held (i : Nat) (x : Spare) : (s.setSpare i x).held = s.held := (rfl)
@[simp] theorem setSpare_queues (i : Nat) (x : Spare) : (s.setSpare i x).queues = s.queues := (rfl)
@[simp] theorem setSpare_dram (i : Nat) (x : Spare) : (s.setSpare i x).dram = s.dram := (rfl)
@[simp] theorem setSpare_links (i : Nat) (x : Spare) : (s.setSpare i x).links = s.links := (rfl)
@[simp] theorem setSpare_chans (i : Nat) (x : Spare) : (s.setSpare i x).chans = s.chans := (rfl)
@[simp] theorem setSpare_quads (i : Nat) (x : Spare) : (s.setSpare i x).quads = s.quads := (rfl)
@[simp] theorem setSpare_dieRefs (i : Nat) (x : Spare) : (s.setSpare i x).dieRefs = s.dieRefs := (rfl)
@[simp] theorem setSpare_paths (i : Nat) (x : Spare) : (s.setSpare i x).paths = s.paths := (rfl)
@[simp] theorem setSpare_lehr (i : Nat) (x : Spare) : (s.setSpare i x).lehr = s.lehr := (rfl)
@[simp] theorem setSpare_caps (i : Nat) (x : Spare) : (s.setSpare i x).caps = s.caps := (rfl)
@[simp] theorem setSpare_segments (i : Nat) (x : Spare) : (s.setSpare i x).segments = s.segments := (rfl)
@[simp] theorem setSpare_matrix (i : Nat) (x : Spare) : (s.setSpare i x).matrix = s.matrix := (rfl)
@[simp] theorem setSpare_ctxs (i : Nat) (x : Spare) : (s.setSpare i x).ctxs = s.ctxs := (rfl)
@[simp] theorem setSpare_jobs (i : Nat) (x : Spare) : (s.setSpare i x).jobs = s.jobs := (rfl)
@[simp] theorem setSpare_lanes (i : Nat) (x : Spare) : (s.setSpare i x).lanes = s.lanes := (rfl)
@[simp] theorem setSpare_mode (i : Nat) (x : Spare) : (s.setSpare i x).mode = s.mode := (rfl)
@[simp] theorem setSpare_mram (i : Nat) (x : Spare) : (s.setSpare i x).mram = s.mram := (rfl)
@[simp] theorem setSpare_cores (i : Nat) (x : Spare) : (s.setSpare i x).cores = s.cores := (rfl)
@[simp] theorem setSpare_amp (i : Nat) (x : Spare) : (s.setSpare i x).amp = s.amp := (rfl)
@[simp] theorem setSpare_poisoned (i : Nat) (x : Spare) : (s.setSpare i x).poisoned = s.poisoned := (rfl)
@[simp] theorem setSpare_out (i : Nat) (x : Spare) : (s.setSpare i x).out = s.out := (rfl)
@[simp] theorem setSpare_freeCount (i : Nat) (x : Spare) : (s.setSpare i x).freeCount = s.freeCount := (rfl)
@[simp] theorem setSpare_pending (i : Nat) (x : Spare) : (s.setSpare i x).pending = s.pending := (rfl)
@[simp] theorem setSpare_session_read (i : Nat) (x : Spare) (k : Nat) : (s.setSpare i x).session k = s.session k := (rfl)
@[simp] theorem setSpare_clause_read (i : Nat) (x : Spare) (k : Nat) : (s.setSpare i x).clause k = s.clause k := (rfl)
@[simp] theorem setSpare_source_read (i : Nat) (x : Spare) (k : Nat) : (s.setSpare i x).source k = s.source k := (rfl)
@[simp] theorem setSpare_linkTime_read (i : Nat) (x : Spare) (k : Nat) : (s.setSpare i x).linkTime k = s.linkTime k := (rfl)
@[simp] theorem setSpare_ptp_read (i : Nat) (x : Spare) (k : Nat) : (s.setSpare i x).ptp k = s.ptp k := (rfl)
@[simp] theorem setSpare_queue_read (i : Nat) (x : Spare) (k : Nat) : (s.setSpare i x).queue k = s.queue k := (rfl)
@[simp] theorem setSpare_dramCh_read (i : Nat) (x : Spare) (k : Nat) : (s.setSpare i x).dramCh k = s.dramCh k := (rfl)
@[simp] theorem setSpare_link_read (i : Nat) (x : Spare) (k : Nat) : (s.setSpare i x).link k = s.link k := (rfl)
@[simp] theorem setSpare_chan_read (i : Nat) (x : Spare) (k : Nat) : (s.setSpare i x).chan k = s.chan k := (rfl)
@[simp] theorem setSpare_quad_read (i : Nat) (x : Spare) (k : Nat) : (s.setSpare i x).quad k = s.quad k := (rfl)
@[simp] theorem setSpare_dieRef_read (i : Nat) (x : Spare) (k : Nat) : (s.setSpare i x).dieRef k = s.dieRef k := (rfl)
@[simp] theorem setSpare_spare_read (i k : Nat) (x : Spare) : (s.setSpare i x).spare k = if k = i then x else s.spare k := alGet_alPut _ _ _ _ _ _
@[simp] theorem setSpare_setSpare (i : Nat) (x y : Spare) : (s.setSpare i x).setSpare i y = s.setSpare i y := by
  unfold setSpare tabPut; rw [alPut_alPut]
@[simp] theorem setSpare_path_read (i : Nat) (x : Spare) (k : Nat) : (s.setSpare i x).path k = s.path k := (rfl)
@[simp] theorem setSpare_cap_read (i : Nat) (x : Spare) (k : Nat) : (s.setSpare i x).cap k = s.cap k := (rfl)
@[simp] theorem setSpare_ctx_read (i : Nat) (x : Spare) (k : Nat) : (s.setSpare i x).ctx k = s.ctx k := (rfl)
@[simp] theorem setSpare_job_read (i : Nat) (x : Spare) (k : Nat) : (s.setSpare i x).job k = s.job k := (rfl)
@[simp] theorem setSpare_lane_read (i : Nat) (x : Spare) (k : Nat) : (s.setSpare i x).lane k = s.lane k := (rfl)
@[simp] theorem setSpare_bundle_read (i : Nat) (x : Spare) (k : Nat) : (s.setSpare i x).bundle k = s.bundle k := (rfl)
@[simp] theorem setSpare_rd (i : Nat) (x : Spare) (k : Reg) : (s.setSpare i x).rd k = s.rd k := (rfl)
@[simp] theorem setSpare_rdDom (i : Nat) (x : Spare) (k : Reg) : (s.setSpare i x).rdDom k = s.rdDom k := (rfl)

/-! ### `setPath` -/

@[simp] theorem setPath_part (i : Nat) (x : Path) : (s.setPath i x).part = s.part := (rfl)
@[simp] theorem setPath_regs (i : Nat) (x : Path) : (s.setPath i x).regs = s.regs := (rfl)
@[simp] theorem setPath_doms (i : Nat) (x : Path) : (s.setPath i x).doms = s.doms := (rfl)
@[simp] theorem setPath_time (i : Nat) (x : Path) : (s.setPath i x).time = s.time := (rfl)
@[simp] theorem setPath_sessions (i : Nat) (x : Path) : (s.setPath i x).sessions = s.sessions := (rfl)
@[simp] theorem setPath_clauses (i : Nat) (x : Path) : (s.setPath i x).clauses = s.clauses := (rfl)
@[simp] theorem setPath_lastClause (i : Nat) (x : Path) : (s.setPath i x).lastClause = s.lastClause := (rfl)
@[simp] theorem setPath_canIn (i : Nat) (x : Path) : (s.setPath i x).canIn = s.canIn := (rfl)
@[simp] theorem setPath_forwarded (i : Nat) (x : Path) : (s.setPath i x).forwarded = s.forwarded := (rfl)
@[simp] theorem setPath_held (i : Nat) (x : Path) : (s.setPath i x).held = s.held := (rfl)
@[simp] theorem setPath_queues (i : Nat) (x : Path) : (s.setPath i x).queues = s.queues := (rfl)
@[simp] theorem setPath_dram (i : Nat) (x : Path) : (s.setPath i x).dram = s.dram := (rfl)
@[simp] theorem setPath_links (i : Nat) (x : Path) : (s.setPath i x).links = s.links := (rfl)
@[simp] theorem setPath_chans (i : Nat) (x : Path) : (s.setPath i x).chans = s.chans := (rfl)
@[simp] theorem setPath_quads (i : Nat) (x : Path) : (s.setPath i x).quads = s.quads := (rfl)
@[simp] theorem setPath_dieRefs (i : Nat) (x : Path) : (s.setPath i x).dieRefs = s.dieRefs := (rfl)
@[simp] theorem setPath_spares (i : Nat) (x : Path) : (s.setPath i x).spares = s.spares := (rfl)
@[simp] theorem setPath_lehr (i : Nat) (x : Path) : (s.setPath i x).lehr = s.lehr := (rfl)
@[simp] theorem setPath_caps (i : Nat) (x : Path) : (s.setPath i x).caps = s.caps := (rfl)
@[simp] theorem setPath_segments (i : Nat) (x : Path) : (s.setPath i x).segments = s.segments := (rfl)
@[simp] theorem setPath_matrix (i : Nat) (x : Path) : (s.setPath i x).matrix = s.matrix := (rfl)
@[simp] theorem setPath_ctxs (i : Nat) (x : Path) : (s.setPath i x).ctxs = s.ctxs := (rfl)
@[simp] theorem setPath_jobs (i : Nat) (x : Path) : (s.setPath i x).jobs = s.jobs := (rfl)
@[simp] theorem setPath_lanes (i : Nat) (x : Path) : (s.setPath i x).lanes = s.lanes := (rfl)
@[simp] theorem setPath_mode (i : Nat) (x : Path) : (s.setPath i x).mode = s.mode := (rfl)
@[simp] theorem setPath_mram (i : Nat) (x : Path) : (s.setPath i x).mram = s.mram := (rfl)
@[simp] theorem setPath_cores (i : Nat) (x : Path) : (s.setPath i x).cores = s.cores := (rfl)
@[simp] theorem setPath_amp (i : Nat) (x : Path) : (s.setPath i x).amp = s.amp := (rfl)
@[simp] theorem setPath_poisoned (i : Nat) (x : Path) : (s.setPath i x).poisoned = s.poisoned := (rfl)
@[simp] theorem setPath_out (i : Nat) (x : Path) : (s.setPath i x).out = s.out := (rfl)
@[simp] theorem setPath_freeCount (i : Nat) (x : Path) : (s.setPath i x).freeCount = s.freeCount := (rfl)
@[simp] theorem setPath_pending (i : Nat) (x : Path) : (s.setPath i x).pending = s.pending := (rfl)
@[simp] theorem setPath_session_read (i : Nat) (x : Path) (k : Nat) : (s.setPath i x).session k = s.session k := (rfl)
@[simp] theorem setPath_clause_read (i : Nat) (x : Path) (k : Nat) : (s.setPath i x).clause k = s.clause k := (rfl)
@[simp] theorem setPath_source_read (i : Nat) (x : Path) (k : Nat) : (s.setPath i x).source k = s.source k := (rfl)
@[simp] theorem setPath_linkTime_read (i : Nat) (x : Path) (k : Nat) : (s.setPath i x).linkTime k = s.linkTime k := (rfl)
@[simp] theorem setPath_ptp_read (i : Nat) (x : Path) (k : Nat) : (s.setPath i x).ptp k = s.ptp k := (rfl)
@[simp] theorem setPath_queue_read (i : Nat) (x : Path) (k : Nat) : (s.setPath i x).queue k = s.queue k := (rfl)
@[simp] theorem setPath_dramCh_read (i : Nat) (x : Path) (k : Nat) : (s.setPath i x).dramCh k = s.dramCh k := (rfl)
@[simp] theorem setPath_link_read (i : Nat) (x : Path) (k : Nat) : (s.setPath i x).link k = s.link k := (rfl)
@[simp] theorem setPath_chan_read (i : Nat) (x : Path) (k : Nat) : (s.setPath i x).chan k = s.chan k := (rfl)
@[simp] theorem setPath_quad_read (i : Nat) (x : Path) (k : Nat) : (s.setPath i x).quad k = s.quad k := (rfl)
@[simp] theorem setPath_dieRef_read (i : Nat) (x : Path) (k : Nat) : (s.setPath i x).dieRef k = s.dieRef k := (rfl)
@[simp] theorem setPath_spare_read (i : Nat) (x : Path) (k : Nat) : (s.setPath i x).spare k = s.spare k := (rfl)
@[simp] theorem setPath_path_read (i k : Nat) (x : Path) : (s.setPath i x).path k = if k = i then x else s.path k := alGet_alPut _ _ _ _ _ _
@[simp] theorem setPath_setPath (i : Nat) (x y : Path) : (s.setPath i x).setPath i y = s.setPath i y := by
  unfold setPath tabPut; rw [alPut_alPut]
@[simp] theorem setPath_cap_read (i : Nat) (x : Path) (k : Nat) : (s.setPath i x).cap k = s.cap k := (rfl)
@[simp] theorem setPath_ctx_read (i : Nat) (x : Path) (k : Nat) : (s.setPath i x).ctx k = s.ctx k := (rfl)
@[simp] theorem setPath_job_read (i : Nat) (x : Path) (k : Nat) : (s.setPath i x).job k = s.job k := (rfl)
@[simp] theorem setPath_lane_read (i : Nat) (x : Path) (k : Nat) : (s.setPath i x).lane k = s.lane k := (rfl)
@[simp] theorem setPath_bundle_read (i : Nat) (x : Path) (k : Nat) : (s.setPath i x).bundle k = s.bundle k := (rfl)
@[simp] theorem setPath_rd (i : Nat) (x : Path) (k : Reg) : (s.setPath i x).rd k = s.rd k := (rfl)
@[simp] theorem setPath_rdDom (i : Nat) (x : Path) (k : Reg) : (s.setPath i x).rdDom k = s.rdDom k := (rfl)

/-! ### `setCap` -/

@[simp] theorem setCap_part (i : Nat) (x : Cap) : (s.setCap i x).part = s.part := (rfl)
@[simp] theorem setCap_regs (i : Nat) (x : Cap) : (s.setCap i x).regs = s.regs := (rfl)
@[simp] theorem setCap_doms (i : Nat) (x : Cap) : (s.setCap i x).doms = s.doms := (rfl)
@[simp] theorem setCap_time (i : Nat) (x : Cap) : (s.setCap i x).time = s.time := (rfl)
@[simp] theorem setCap_sessions (i : Nat) (x : Cap) : (s.setCap i x).sessions = s.sessions := (rfl)
@[simp] theorem setCap_clauses (i : Nat) (x : Cap) : (s.setCap i x).clauses = s.clauses := (rfl)
@[simp] theorem setCap_lastClause (i : Nat) (x : Cap) : (s.setCap i x).lastClause = s.lastClause := (rfl)
@[simp] theorem setCap_canIn (i : Nat) (x : Cap) : (s.setCap i x).canIn = s.canIn := (rfl)
@[simp] theorem setCap_forwarded (i : Nat) (x : Cap) : (s.setCap i x).forwarded = s.forwarded := (rfl)
@[simp] theorem setCap_held (i : Nat) (x : Cap) : (s.setCap i x).held = s.held := (rfl)
@[simp] theorem setCap_queues (i : Nat) (x : Cap) : (s.setCap i x).queues = s.queues := (rfl)
@[simp] theorem setCap_dram (i : Nat) (x : Cap) : (s.setCap i x).dram = s.dram := (rfl)
@[simp] theorem setCap_links (i : Nat) (x : Cap) : (s.setCap i x).links = s.links := (rfl)
@[simp] theorem setCap_chans (i : Nat) (x : Cap) : (s.setCap i x).chans = s.chans := (rfl)
@[simp] theorem setCap_quads (i : Nat) (x : Cap) : (s.setCap i x).quads = s.quads := (rfl)
@[simp] theorem setCap_dieRefs (i : Nat) (x : Cap) : (s.setCap i x).dieRefs = s.dieRefs := (rfl)
@[simp] theorem setCap_spares (i : Nat) (x : Cap) : (s.setCap i x).spares = s.spares := (rfl)
@[simp] theorem setCap_paths (i : Nat) (x : Cap) : (s.setCap i x).paths = s.paths := (rfl)
@[simp] theorem setCap_lehr (i : Nat) (x : Cap) : (s.setCap i x).lehr = s.lehr := (rfl)
@[simp] theorem setCap_segments (i : Nat) (x : Cap) : (s.setCap i x).segments = s.segments := (rfl)
@[simp] theorem setCap_matrix (i : Nat) (x : Cap) : (s.setCap i x).matrix = s.matrix := (rfl)
@[simp] theorem setCap_ctxs (i : Nat) (x : Cap) : (s.setCap i x).ctxs = s.ctxs := (rfl)
@[simp] theorem setCap_jobs (i : Nat) (x : Cap) : (s.setCap i x).jobs = s.jobs := (rfl)
@[simp] theorem setCap_lanes (i : Nat) (x : Cap) : (s.setCap i x).lanes = s.lanes := (rfl)
@[simp] theorem setCap_mode (i : Nat) (x : Cap) : (s.setCap i x).mode = s.mode := (rfl)
@[simp] theorem setCap_mram (i : Nat) (x : Cap) : (s.setCap i x).mram = s.mram := (rfl)
@[simp] theorem setCap_cores (i : Nat) (x : Cap) : (s.setCap i x).cores = s.cores := (rfl)
@[simp] theorem setCap_amp (i : Nat) (x : Cap) : (s.setCap i x).amp = s.amp := (rfl)
@[simp] theorem setCap_poisoned (i : Nat) (x : Cap) : (s.setCap i x).poisoned = s.poisoned := (rfl)
@[simp] theorem setCap_out (i : Nat) (x : Cap) : (s.setCap i x).out = s.out := (rfl)
@[simp] theorem setCap_freeCount (i : Nat) (x : Cap) : (s.setCap i x).freeCount = s.freeCount := (rfl)
@[simp] theorem setCap_pending (i : Nat) (x : Cap) : (s.setCap i x).pending = s.pending := (rfl)
@[simp] theorem setCap_session_read (i : Nat) (x : Cap) (k : Nat) : (s.setCap i x).session k = s.session k := (rfl)
@[simp] theorem setCap_clause_read (i : Nat) (x : Cap) (k : Nat) : (s.setCap i x).clause k = s.clause k := (rfl)
@[simp] theorem setCap_source_read (i : Nat) (x : Cap) (k : Nat) : (s.setCap i x).source k = s.source k := (rfl)
@[simp] theorem setCap_linkTime_read (i : Nat) (x : Cap) (k : Nat) : (s.setCap i x).linkTime k = s.linkTime k := (rfl)
@[simp] theorem setCap_ptp_read (i : Nat) (x : Cap) (k : Nat) : (s.setCap i x).ptp k = s.ptp k := (rfl)
@[simp] theorem setCap_queue_read (i : Nat) (x : Cap) (k : Nat) : (s.setCap i x).queue k = s.queue k := (rfl)
@[simp] theorem setCap_dramCh_read (i : Nat) (x : Cap) (k : Nat) : (s.setCap i x).dramCh k = s.dramCh k := (rfl)
@[simp] theorem setCap_link_read (i : Nat) (x : Cap) (k : Nat) : (s.setCap i x).link k = s.link k := (rfl)
@[simp] theorem setCap_chan_read (i : Nat) (x : Cap) (k : Nat) : (s.setCap i x).chan k = s.chan k := (rfl)
@[simp] theorem setCap_quad_read (i : Nat) (x : Cap) (k : Nat) : (s.setCap i x).quad k = s.quad k := (rfl)
@[simp] theorem setCap_dieRef_read (i : Nat) (x : Cap) (k : Nat) : (s.setCap i x).dieRef k = s.dieRef k := (rfl)
@[simp] theorem setCap_spare_read (i : Nat) (x : Cap) (k : Nat) : (s.setCap i x).spare k = s.spare k := (rfl)
@[simp] theorem setCap_path_read (i : Nat) (x : Cap) (k : Nat) : (s.setCap i x).path k = s.path k := (rfl)
@[simp] theorem setCap_cap_read (i k : Nat) (x : Cap) : (s.setCap i x).cap k = if k = i then x else s.cap k := alGet_alPut _ _ _ _ _ _
@[simp] theorem setCap_setCap (i : Nat) (x y : Cap) : (s.setCap i x).setCap i y = s.setCap i y := by
  unfold setCap tabPut; rw [alPut_alPut]
@[simp] theorem setCap_ctx_read (i : Nat) (x : Cap) (k : Nat) : (s.setCap i x).ctx k = s.ctx k := (rfl)
@[simp] theorem setCap_job_read (i : Nat) (x : Cap) (k : Nat) : (s.setCap i x).job k = s.job k := (rfl)
@[simp] theorem setCap_lane_read (i : Nat) (x : Cap) (k : Nat) : (s.setCap i x).lane k = s.lane k := (rfl)
@[simp] theorem setCap_bundle_read (i : Nat) (x : Cap) (k : Nat) : (s.setCap i x).bundle k = s.bundle k := (rfl)
@[simp] theorem setCap_rd (i : Nat) (x : Cap) (k : Reg) : (s.setCap i x).rd k = s.rd k := (rfl)
@[simp] theorem setCap_rdDom (i : Nat) (x : Cap) (k : Reg) : (s.setCap i x).rdDom k = s.rdDom k := (rfl)

/-! ### `setCtx` -/

@[simp] theorem setCtx_part (i : Nat) (x : FritCtx) : (s.setCtx i x).part = s.part := (rfl)
@[simp] theorem setCtx_regs (i : Nat) (x : FritCtx) : (s.setCtx i x).regs = s.regs := (rfl)
@[simp] theorem setCtx_doms (i : Nat) (x : FritCtx) : (s.setCtx i x).doms = s.doms := (rfl)
@[simp] theorem setCtx_time (i : Nat) (x : FritCtx) : (s.setCtx i x).time = s.time := (rfl)
@[simp] theorem setCtx_sessions (i : Nat) (x : FritCtx) : (s.setCtx i x).sessions = s.sessions := (rfl)
@[simp] theorem setCtx_clauses (i : Nat) (x : FritCtx) : (s.setCtx i x).clauses = s.clauses := (rfl)
@[simp] theorem setCtx_lastClause (i : Nat) (x : FritCtx) : (s.setCtx i x).lastClause = s.lastClause := (rfl)
@[simp] theorem setCtx_canIn (i : Nat) (x : FritCtx) : (s.setCtx i x).canIn = s.canIn := (rfl)
@[simp] theorem setCtx_forwarded (i : Nat) (x : FritCtx) : (s.setCtx i x).forwarded = s.forwarded := (rfl)
@[simp] theorem setCtx_held (i : Nat) (x : FritCtx) : (s.setCtx i x).held = s.held := (rfl)
@[simp] theorem setCtx_queues (i : Nat) (x : FritCtx) : (s.setCtx i x).queues = s.queues := (rfl)
@[simp] theorem setCtx_dram (i : Nat) (x : FritCtx) : (s.setCtx i x).dram = s.dram := (rfl)
@[simp] theorem setCtx_links (i : Nat) (x : FritCtx) : (s.setCtx i x).links = s.links := (rfl)
@[simp] theorem setCtx_chans (i : Nat) (x : FritCtx) : (s.setCtx i x).chans = s.chans := (rfl)
@[simp] theorem setCtx_quads (i : Nat) (x : FritCtx) : (s.setCtx i x).quads = s.quads := (rfl)
@[simp] theorem setCtx_dieRefs (i : Nat) (x : FritCtx) : (s.setCtx i x).dieRefs = s.dieRefs := (rfl)
@[simp] theorem setCtx_spares (i : Nat) (x : FritCtx) : (s.setCtx i x).spares = s.spares := (rfl)
@[simp] theorem setCtx_paths (i : Nat) (x : FritCtx) : (s.setCtx i x).paths = s.paths := (rfl)
@[simp] theorem setCtx_lehr (i : Nat) (x : FritCtx) : (s.setCtx i x).lehr = s.lehr := (rfl)
@[simp] theorem setCtx_caps (i : Nat) (x : FritCtx) : (s.setCtx i x).caps = s.caps := (rfl)
@[simp] theorem setCtx_segments (i : Nat) (x : FritCtx) : (s.setCtx i x).segments = s.segments := (rfl)
@[simp] theorem setCtx_matrix (i : Nat) (x : FritCtx) : (s.setCtx i x).matrix = s.matrix := (rfl)
@[simp] theorem setCtx_jobs (i : Nat) (x : FritCtx) : (s.setCtx i x).jobs = s.jobs := (rfl)
@[simp] theorem setCtx_lanes (i : Nat) (x : FritCtx) : (s.setCtx i x).lanes = s.lanes := (rfl)
@[simp] theorem setCtx_mode (i : Nat) (x : FritCtx) : (s.setCtx i x).mode = s.mode := (rfl)
@[simp] theorem setCtx_mram (i : Nat) (x : FritCtx) : (s.setCtx i x).mram = s.mram := (rfl)
@[simp] theorem setCtx_cores (i : Nat) (x : FritCtx) : (s.setCtx i x).cores = s.cores := (rfl)
@[simp] theorem setCtx_amp (i : Nat) (x : FritCtx) : (s.setCtx i x).amp = s.amp := (rfl)
@[simp] theorem setCtx_poisoned (i : Nat) (x : FritCtx) : (s.setCtx i x).poisoned = s.poisoned := (rfl)
@[simp] theorem setCtx_out (i : Nat) (x : FritCtx) : (s.setCtx i x).out = s.out := (rfl)
@[simp] theorem setCtx_freeCount (i : Nat) (x : FritCtx) : (s.setCtx i x).freeCount = s.freeCount := (rfl)
@[simp] theorem setCtx_pending (i : Nat) (x : FritCtx) : (s.setCtx i x).pending = s.pending := (rfl)
@[simp] theorem setCtx_session_read (i : Nat) (x : FritCtx) (k : Nat) : (s.setCtx i x).session k = s.session k := (rfl)
@[simp] theorem setCtx_clause_read (i : Nat) (x : FritCtx) (k : Nat) : (s.setCtx i x).clause k = s.clause k := (rfl)
@[simp] theorem setCtx_source_read (i : Nat) (x : FritCtx) (k : Nat) : (s.setCtx i x).source k = s.source k := (rfl)
@[simp] theorem setCtx_linkTime_read (i : Nat) (x : FritCtx) (k : Nat) : (s.setCtx i x).linkTime k = s.linkTime k := (rfl)
@[simp] theorem setCtx_ptp_read (i : Nat) (x : FritCtx) (k : Nat) : (s.setCtx i x).ptp k = s.ptp k := (rfl)
@[simp] theorem setCtx_queue_read (i : Nat) (x : FritCtx) (k : Nat) : (s.setCtx i x).queue k = s.queue k := (rfl)
@[simp] theorem setCtx_dramCh_read (i : Nat) (x : FritCtx) (k : Nat) : (s.setCtx i x).dramCh k = s.dramCh k := (rfl)
@[simp] theorem setCtx_link_read (i : Nat) (x : FritCtx) (k : Nat) : (s.setCtx i x).link k = s.link k := (rfl)
@[simp] theorem setCtx_chan_read (i : Nat) (x : FritCtx) (k : Nat) : (s.setCtx i x).chan k = s.chan k := (rfl)
@[simp] theorem setCtx_quad_read (i : Nat) (x : FritCtx) (k : Nat) : (s.setCtx i x).quad k = s.quad k := (rfl)
@[simp] theorem setCtx_dieRef_read (i : Nat) (x : FritCtx) (k : Nat) : (s.setCtx i x).dieRef k = s.dieRef k := (rfl)
@[simp] theorem setCtx_spare_read (i : Nat) (x : FritCtx) (k : Nat) : (s.setCtx i x).spare k = s.spare k := (rfl)
@[simp] theorem setCtx_path_read (i : Nat) (x : FritCtx) (k : Nat) : (s.setCtx i x).path k = s.path k := (rfl)
@[simp] theorem setCtx_cap_read (i : Nat) (x : FritCtx) (k : Nat) : (s.setCtx i x).cap k = s.cap k := (rfl)
@[simp] theorem setCtx_ctx_read (i k : Nat) (x : FritCtx) : (s.setCtx i x).ctx k = if k = i then x else s.ctx k := alGet_alPut _ _ _ _ _ _
@[simp] theorem setCtx_setCtx (i : Nat) (x y : FritCtx) : (s.setCtx i x).setCtx i y = s.setCtx i y := by
  unfold setCtx tabPut; rw [alPut_alPut]
@[simp] theorem setCtx_job_read (i : Nat) (x : FritCtx) (k : Nat) : (s.setCtx i x).job k = s.job k := (rfl)
@[simp] theorem setCtx_lane_read (i : Nat) (x : FritCtx) (k : Nat) : (s.setCtx i x).lane k = s.lane k := (rfl)
@[simp] theorem setCtx_bundle_read (i : Nat) (x : FritCtx) (k : Nat) : (s.setCtx i x).bundle k = s.bundle k := (rfl)
@[simp] theorem setCtx_rd (i : Nat) (x : FritCtx) (k : Reg) : (s.setCtx i x).rd k = s.rd k := (rfl)
@[simp] theorem setCtx_rdDom (i : Nat) (x : FritCtx) (k : Reg) : (s.setCtx i x).rdDom k = s.rdDom k := (rfl)

/-! ### `setJob` -/

@[simp] theorem setJob_part (i : Nat) (x : FritJob) : (s.setJob i x).part = s.part := (rfl)
@[simp] theorem setJob_regs (i : Nat) (x : FritJob) : (s.setJob i x).regs = s.regs := (rfl)
@[simp] theorem setJob_doms (i : Nat) (x : FritJob) : (s.setJob i x).doms = s.doms := (rfl)
@[simp] theorem setJob_time (i : Nat) (x : FritJob) : (s.setJob i x).time = s.time := (rfl)
@[simp] theorem setJob_sessions (i : Nat) (x : FritJob) : (s.setJob i x).sessions = s.sessions := (rfl)
@[simp] theorem setJob_clauses (i : Nat) (x : FritJob) : (s.setJob i x).clauses = s.clauses := (rfl)
@[simp] theorem setJob_lastClause (i : Nat) (x : FritJob) : (s.setJob i x).lastClause = s.lastClause := (rfl)
@[simp] theorem setJob_canIn (i : Nat) (x : FritJob) : (s.setJob i x).canIn = s.canIn := (rfl)
@[simp] theorem setJob_forwarded (i : Nat) (x : FritJob) : (s.setJob i x).forwarded = s.forwarded := (rfl)
@[simp] theorem setJob_held (i : Nat) (x : FritJob) : (s.setJob i x).held = s.held := (rfl)
@[simp] theorem setJob_queues (i : Nat) (x : FritJob) : (s.setJob i x).queues = s.queues := (rfl)
@[simp] theorem setJob_dram (i : Nat) (x : FritJob) : (s.setJob i x).dram = s.dram := (rfl)
@[simp] theorem setJob_links (i : Nat) (x : FritJob) : (s.setJob i x).links = s.links := (rfl)
@[simp] theorem setJob_chans (i : Nat) (x : FritJob) : (s.setJob i x).chans = s.chans := (rfl)
@[simp] theorem setJob_quads (i : Nat) (x : FritJob) : (s.setJob i x).quads = s.quads := (rfl)
@[simp] theorem setJob_dieRefs (i : Nat) (x : FritJob) : (s.setJob i x).dieRefs = s.dieRefs := (rfl)
@[simp] theorem setJob_spares (i : Nat) (x : FritJob) : (s.setJob i x).spares = s.spares := (rfl)
@[simp] theorem setJob_paths (i : Nat) (x : FritJob) : (s.setJob i x).paths = s.paths := (rfl)
@[simp] theorem setJob_lehr (i : Nat) (x : FritJob) : (s.setJob i x).lehr = s.lehr := (rfl)
@[simp] theorem setJob_caps (i : Nat) (x : FritJob) : (s.setJob i x).caps = s.caps := (rfl)
@[simp] theorem setJob_segments (i : Nat) (x : FritJob) : (s.setJob i x).segments = s.segments := (rfl)
@[simp] theorem setJob_matrix (i : Nat) (x : FritJob) : (s.setJob i x).matrix = s.matrix := (rfl)
@[simp] theorem setJob_ctxs (i : Nat) (x : FritJob) : (s.setJob i x).ctxs = s.ctxs := (rfl)
@[simp] theorem setJob_lanes (i : Nat) (x : FritJob) : (s.setJob i x).lanes = s.lanes := (rfl)
@[simp] theorem setJob_mode (i : Nat) (x : FritJob) : (s.setJob i x).mode = s.mode := (rfl)
@[simp] theorem setJob_mram (i : Nat) (x : FritJob) : (s.setJob i x).mram = s.mram := (rfl)
@[simp] theorem setJob_cores (i : Nat) (x : FritJob) : (s.setJob i x).cores = s.cores := (rfl)
@[simp] theorem setJob_amp (i : Nat) (x : FritJob) : (s.setJob i x).amp = s.amp := (rfl)
@[simp] theorem setJob_poisoned (i : Nat) (x : FritJob) : (s.setJob i x).poisoned = s.poisoned := (rfl)
@[simp] theorem setJob_out (i : Nat) (x : FritJob) : (s.setJob i x).out = s.out := (rfl)
@[simp] theorem setJob_freeCount (i : Nat) (x : FritJob) : (s.setJob i x).freeCount = s.freeCount := (rfl)
@[simp] theorem setJob_pending (i : Nat) (x : FritJob) : (s.setJob i x).pending = s.pending := (rfl)
@[simp] theorem setJob_session_read (i : Nat) (x : FritJob) (k : Nat) : (s.setJob i x).session k = s.session k := (rfl)
@[simp] theorem setJob_clause_read (i : Nat) (x : FritJob) (k : Nat) : (s.setJob i x).clause k = s.clause k := (rfl)
@[simp] theorem setJob_source_read (i : Nat) (x : FritJob) (k : Nat) : (s.setJob i x).source k = s.source k := (rfl)
@[simp] theorem setJob_linkTime_read (i : Nat) (x : FritJob) (k : Nat) : (s.setJob i x).linkTime k = s.linkTime k := (rfl)
@[simp] theorem setJob_ptp_read (i : Nat) (x : FritJob) (k : Nat) : (s.setJob i x).ptp k = s.ptp k := (rfl)
@[simp] theorem setJob_queue_read (i : Nat) (x : FritJob) (k : Nat) : (s.setJob i x).queue k = s.queue k := (rfl)
@[simp] theorem setJob_dramCh_read (i : Nat) (x : FritJob) (k : Nat) : (s.setJob i x).dramCh k = s.dramCh k := (rfl)
@[simp] theorem setJob_link_read (i : Nat) (x : FritJob) (k : Nat) : (s.setJob i x).link k = s.link k := (rfl)
@[simp] theorem setJob_chan_read (i : Nat) (x : FritJob) (k : Nat) : (s.setJob i x).chan k = s.chan k := (rfl)
@[simp] theorem setJob_quad_read (i : Nat) (x : FritJob) (k : Nat) : (s.setJob i x).quad k = s.quad k := (rfl)
@[simp] theorem setJob_dieRef_read (i : Nat) (x : FritJob) (k : Nat) : (s.setJob i x).dieRef k = s.dieRef k := (rfl)
@[simp] theorem setJob_spare_read (i : Nat) (x : FritJob) (k : Nat) : (s.setJob i x).spare k = s.spare k := (rfl)
@[simp] theorem setJob_path_read (i : Nat) (x : FritJob) (k : Nat) : (s.setJob i x).path k = s.path k := (rfl)
@[simp] theorem setJob_cap_read (i : Nat) (x : FritJob) (k : Nat) : (s.setJob i x).cap k = s.cap k := (rfl)
@[simp] theorem setJob_ctx_read (i : Nat) (x : FritJob) (k : Nat) : (s.setJob i x).ctx k = s.ctx k := (rfl)
@[simp] theorem setJob_job_read (i k : Nat) (x : FritJob) : (s.setJob i x).job k = if k = i then x else s.job k := alGet_alPut _ _ _ _ _ _
@[simp] theorem setJob_setJob (i : Nat) (x y : FritJob) : (s.setJob i x).setJob i y = s.setJob i y := by
  unfold setJob tabPut; rw [alPut_alPut]
@[simp] theorem setJob_lane_read (i : Nat) (x : FritJob) (k : Nat) : (s.setJob i x).lane k = s.lane k := (rfl)
@[simp] theorem setJob_bundle_read (i : Nat) (x : FritJob) (k : Nat) : (s.setJob i x).bundle k = s.bundle k := (rfl)
@[simp] theorem setJob_rd (i : Nat) (x : FritJob) (k : Reg) : (s.setJob i x).rd k = s.rd k := (rfl)
@[simp] theorem setJob_rdDom (i : Nat) (x : FritJob) (k : Reg) : (s.setJob i x).rdDom k = s.rdDom k := (rfl)

/-! ### `setLane` -/

@[simp] theorem setLane_part (i : Nat) (x : Lane) : (s.setLane i x).part = s.part := (rfl)
@[simp] theorem setLane_regs (i : Nat) (x : Lane) : (s.setLane i x).regs = s.regs := (rfl)
@[simp] theorem setLane_doms (i : Nat) (x : Lane) : (s.setLane i x).doms = s.doms := (rfl)
@[simp] theorem setLane_time (i : Nat) (x : Lane) : (s.setLane i x).time = s.time := (rfl)
@[simp] theorem setLane_sessions (i : Nat) (x : Lane) : (s.setLane i x).sessions = s.sessions := (rfl)
@[simp] theorem setLane_clauses (i : Nat) (x : Lane) : (s.setLane i x).clauses = s.clauses := (rfl)
@[simp] theorem setLane_lastClause (i : Nat) (x : Lane) : (s.setLane i x).lastClause = s.lastClause := (rfl)
@[simp] theorem setLane_canIn (i : Nat) (x : Lane) : (s.setLane i x).canIn = s.canIn := (rfl)
@[simp] theorem setLane_forwarded (i : Nat) (x : Lane) : (s.setLane i x).forwarded = s.forwarded := (rfl)
@[simp] theorem setLane_held (i : Nat) (x : Lane) : (s.setLane i x).held = s.held := (rfl)
@[simp] theorem setLane_queues (i : Nat) (x : Lane) : (s.setLane i x).queues = s.queues := (rfl)
@[simp] theorem setLane_dram (i : Nat) (x : Lane) : (s.setLane i x).dram = s.dram := (rfl)
@[simp] theorem setLane_links (i : Nat) (x : Lane) : (s.setLane i x).links = s.links := (rfl)
@[simp] theorem setLane_chans (i : Nat) (x : Lane) : (s.setLane i x).chans = s.chans := (rfl)
@[simp] theorem setLane_quads (i : Nat) (x : Lane) : (s.setLane i x).quads = s.quads := (rfl)
@[simp] theorem setLane_dieRefs (i : Nat) (x : Lane) : (s.setLane i x).dieRefs = s.dieRefs := (rfl)
@[simp] theorem setLane_spares (i : Nat) (x : Lane) : (s.setLane i x).spares = s.spares := (rfl)
@[simp] theorem setLane_paths (i : Nat) (x : Lane) : (s.setLane i x).paths = s.paths := (rfl)
@[simp] theorem setLane_lehr (i : Nat) (x : Lane) : (s.setLane i x).lehr = s.lehr := (rfl)
@[simp] theorem setLane_caps (i : Nat) (x : Lane) : (s.setLane i x).caps = s.caps := (rfl)
@[simp] theorem setLane_segments (i : Nat) (x : Lane) : (s.setLane i x).segments = s.segments := (rfl)
@[simp] theorem setLane_matrix (i : Nat) (x : Lane) : (s.setLane i x).matrix = s.matrix := (rfl)
@[simp] theorem setLane_ctxs (i : Nat) (x : Lane) : (s.setLane i x).ctxs = s.ctxs := (rfl)
@[simp] theorem setLane_jobs (i : Nat) (x : Lane) : (s.setLane i x).jobs = s.jobs := (rfl)
@[simp] theorem setLane_mode (i : Nat) (x : Lane) : (s.setLane i x).mode = s.mode := (rfl)
@[simp] theorem setLane_mram (i : Nat) (x : Lane) : (s.setLane i x).mram = s.mram := (rfl)
@[simp] theorem setLane_cores (i : Nat) (x : Lane) : (s.setLane i x).cores = s.cores := (rfl)
@[simp] theorem setLane_amp (i : Nat) (x : Lane) : (s.setLane i x).amp = s.amp := (rfl)
@[simp] theorem setLane_poisoned (i : Nat) (x : Lane) : (s.setLane i x).poisoned = s.poisoned := (rfl)
@[simp] theorem setLane_out (i : Nat) (x : Lane) : (s.setLane i x).out = s.out := (rfl)
@[simp] theorem setLane_freeCount (i : Nat) (x : Lane) : (s.setLane i x).freeCount = s.freeCount := (rfl)
@[simp] theorem setLane_pending (i : Nat) (x : Lane) : (s.setLane i x).pending = s.pending := (rfl)
@[simp] theorem setLane_lanes_bundles (i : Nat) (x : Lane) : (s.setLane i x).lanes.bundles = s.lanes.bundles := (rfl)
@[simp] theorem setLane_lanes_expected (i : Nat) (x : Lane) : (s.setLane i x).lanes.expected = s.lanes.expected := (rfl)
@[simp] theorem setLane_lanes_holding (i : Nat) (x : Lane) : (s.setLane i x).lanes.holding = s.lanes.holding := (rfl)
@[simp] theorem setLane_lanes_portHeld (i : Nat) (x : Lane) : (s.setLane i x).lanes.portHeld = s.lanes.portHeld := (rfl)
@[simp] theorem setLane_lanes_injCount (i : Nat) (x : Lane) : (s.setLane i x).lanes.injCount = s.lanes.injCount := (rfl)
@[simp] theorem setLane_lanes_injHeld (i : Nat) (x : Lane) : (s.setLane i x).lanes.injHeld = s.lanes.injHeld := (rfl)
@[simp] theorem setLane_lanes_injDelayed (i : Nat) (x : Lane) : (s.setLane i x).lanes.injDelayed = s.lanes.injDelayed := (rfl)
@[simp] theorem setLane_lanes_gateway (i : Nat) (x : Lane) : (s.setLane i x).lanes.gateway = s.lanes.gateway := (rfl)
@[simp] theorem setLane_lanes_paused (i : Nat) (x : Lane) : (s.setLane i x).lanes.paused = s.lanes.paused := (rfl)
@[simp] theorem setLane_session_read (i : Nat) (x : Lane) (k : Nat) : (s.setLane i x).session k = s.session k := (rfl)
@[simp] theorem setLane_clause_read (i : Nat) (x : Lane) (k : Nat) : (s.setLane i x).clause k = s.clause k := (rfl)
@[simp] theorem setLane_source_read (i : Nat) (x : Lane) (k : Nat) : (s.setLane i x).source k = s.source k := (rfl)
@[simp] theorem setLane_linkTime_read (i : Nat) (x : Lane) (k : Nat) : (s.setLane i x).linkTime k = s.linkTime k := (rfl)
@[simp] theorem setLane_ptp_read (i : Nat) (x : Lane) (k : Nat) : (s.setLane i x).ptp k = s.ptp k := (rfl)
@[simp] theorem setLane_queue_read (i : Nat) (x : Lane) (k : Nat) : (s.setLane i x).queue k = s.queue k := (rfl)
@[simp] theorem setLane_dramCh_read (i : Nat) (x : Lane) (k : Nat) : (s.setLane i x).dramCh k = s.dramCh k := (rfl)
@[simp] theorem setLane_link_read (i : Nat) (x : Lane) (k : Nat) : (s.setLane i x).link k = s.link k := (rfl)
@[simp] theorem setLane_chan_read (i : Nat) (x : Lane) (k : Nat) : (s.setLane i x).chan k = s.chan k := (rfl)
@[simp] theorem setLane_quad_read (i : Nat) (x : Lane) (k : Nat) : (s.setLane i x).quad k = s.quad k := (rfl)
@[simp] theorem setLane_dieRef_read (i : Nat) (x : Lane) (k : Nat) : (s.setLane i x).dieRef k = s.dieRef k := (rfl)
@[simp] theorem setLane_spare_read (i : Nat) (x : Lane) (k : Nat) : (s.setLane i x).spare k = s.spare k := (rfl)
@[simp] theorem setLane_path_read (i : Nat) (x : Lane) (k : Nat) : (s.setLane i x).path k = s.path k := (rfl)
@[simp] theorem setLane_cap_read (i : Nat) (x : Lane) (k : Nat) : (s.setLane i x).cap k = s.cap k := (rfl)
@[simp] theorem setLane_ctx_read (i : Nat) (x : Lane) (k : Nat) : (s.setLane i x).ctx k = s.ctx k := (rfl)
@[simp] theorem setLane_job_read (i : Nat) (x : Lane) (k : Nat) : (s.setLane i x).job k = s.job k := (rfl)
@[simp] theorem setLane_lane_read (i k : Nat) (x : Lane) : (s.setLane i x).lane k = if k = i then x else s.lane k := alGet_alPut _ _ _ _ _ _
@[simp] theorem setLane_setLane (i : Nat) (x y : Lane) : (s.setLane i x).setLane i y = s.setLane i y := by
  unfold setLane tabPut; rw [alPut_alPut]
@[simp] theorem setLane_bundle_read (i : Nat) (x : Lane) (k : Nat) : (s.setLane i x).bundle k = s.bundle k := (rfl)
@[simp] theorem setLane_rd (i : Nat) (x : Lane) (k : Reg) : (s.setLane i x).rd k = s.rd k := (rfl)
@[simp] theorem setLane_rdDom (i : Nat) (x : Lane) (k : Reg) : (s.setLane i x).rdDom k = s.rdDom k := (rfl)

/-! ### `setBundle` -/

@[simp] theorem setBundle_part (i : Nat) (x : Bundle) : (s.setBundle i x).part = s.part := (rfl)
@[simp] theorem setBundle_regs (i : Nat) (x : Bundle) : (s.setBundle i x).regs = s.regs := (rfl)
@[simp] theorem setBundle_doms (i : Nat) (x : Bundle) : (s.setBundle i x).doms = s.doms := (rfl)
@[simp] theorem setBundle_time (i : Nat) (x : Bundle) : (s.setBundle i x).time = s.time := (rfl)
@[simp] theorem setBundle_sessions (i : Nat) (x : Bundle) : (s.setBundle i x).sessions = s.sessions := (rfl)
@[simp] theorem setBundle_clauses (i : Nat) (x : Bundle) : (s.setBundle i x).clauses = s.clauses := (rfl)
@[simp] theorem setBundle_lastClause (i : Nat) (x : Bundle) : (s.setBundle i x).lastClause = s.lastClause := (rfl)
@[simp] theorem setBundle_canIn (i : Nat) (x : Bundle) : (s.setBundle i x).canIn = s.canIn := (rfl)
@[simp] theorem setBundle_forwarded (i : Nat) (x : Bundle) : (s.setBundle i x).forwarded = s.forwarded := (rfl)
@[simp] theorem setBundle_held (i : Nat) (x : Bundle) : (s.setBundle i x).held = s.held := (rfl)
@[simp] theorem setBundle_queues (i : Nat) (x : Bundle) : (s.setBundle i x).queues = s.queues := (rfl)
@[simp] theorem setBundle_dram (i : Nat) (x : Bundle) : (s.setBundle i x).dram = s.dram := (rfl)
@[simp] theorem setBundle_links (i : Nat) (x : Bundle) : (s.setBundle i x).links = s.links := (rfl)
@[simp] theorem setBundle_chans (i : Nat) (x : Bundle) : (s.setBundle i x).chans = s.chans := (rfl)
@[simp] theorem setBundle_quads (i : Nat) (x : Bundle) : (s.setBundle i x).quads = s.quads := (rfl)
@[simp] theorem setBundle_dieRefs (i : Nat) (x : Bundle) : (s.setBundle i x).dieRefs = s.dieRefs := (rfl)
@[simp] theorem setBundle_spares (i : Nat) (x : Bundle) : (s.setBundle i x).spares = s.spares := (rfl)
@[simp] theorem setBundle_paths (i : Nat) (x : Bundle) : (s.setBundle i x).paths = s.paths := (rfl)
@[simp] theorem setBundle_lehr (i : Nat) (x : Bundle) : (s.setBundle i x).lehr = s.lehr := (rfl)
@[simp] theorem setBundle_caps (i : Nat) (x : Bundle) : (s.setBundle i x).caps = s.caps := (rfl)
@[simp] theorem setBundle_segments (i : Nat) (x : Bundle) : (s.setBundle i x).segments = s.segments := (rfl)
@[simp] theorem setBundle_matrix (i : Nat) (x : Bundle) : (s.setBundle i x).matrix = s.matrix := (rfl)
@[simp] theorem setBundle_ctxs (i : Nat) (x : Bundle) : (s.setBundle i x).ctxs = s.ctxs := (rfl)
@[simp] theorem setBundle_jobs (i : Nat) (x : Bundle) : (s.setBundle i x).jobs = s.jobs := (rfl)
@[simp] theorem setBundle_mode (i : Nat) (x : Bundle) : (s.setBundle i x).mode = s.mode := (rfl)
@[simp] theorem setBundle_mram (i : Nat) (x : Bundle) : (s.setBundle i x).mram = s.mram := (rfl)
@[simp] theorem setBundle_cores (i : Nat) (x : Bundle) : (s.setBundle i x).cores = s.cores := (rfl)
@[simp] theorem setBundle_amp (i : Nat) (x : Bundle) : (s.setBundle i x).amp = s.amp := (rfl)
@[simp] theorem setBundle_poisoned (i : Nat) (x : Bundle) : (s.setBundle i x).poisoned = s.poisoned := (rfl)
@[simp] theorem setBundle_out (i : Nat) (x : Bundle) : (s.setBundle i x).out = s.out := (rfl)
@[simp] theorem setBundle_freeCount (i : Nat) (x : Bundle) : (s.setBundle i x).freeCount = s.freeCount := (rfl)
@[simp] theorem setBundle_pending (i : Nat) (x : Bundle) : (s.setBundle i x).pending = s.pending := (rfl)
@[simp] theorem setBundle_lanes_lanes (i : Nat) (x : Bundle) : (s.setBundle i x).lanes.lanes = s.lanes.lanes := (rfl)
@[simp] theorem setBundle_lanes_expected (i : Nat) (x : Bundle) : (s.setBundle i x).lanes.expected = s.lanes.expected := (rfl)
@[simp] theorem setBundle_lanes_holding (i : Nat) (x : Bundle) : (s.setBundle i x).lanes.holding = s.lanes.holding := (rfl)
@[simp] theorem setBundle_lanes_portHeld (i : Nat) (x : Bundle) : (s.setBundle i x).lanes.portHeld = s.lanes.portHeld := (rfl)
@[simp] theorem setBundle_lanes_injCount (i : Nat) (x : Bundle) : (s.setBundle i x).lanes.injCount = s.lanes.injCount := (rfl)
@[simp] theorem setBundle_lanes_injHeld (i : Nat) (x : Bundle) : (s.setBundle i x).lanes.injHeld = s.lanes.injHeld := (rfl)
@[simp] theorem setBundle_lanes_injDelayed (i : Nat) (x : Bundle) : (s.setBundle i x).lanes.injDelayed = s.lanes.injDelayed := (rfl)
@[simp] theorem setBundle_lanes_gateway (i : Nat) (x : Bundle) : (s.setBundle i x).lanes.gateway = s.lanes.gateway := (rfl)
@[simp] theorem setBundle_lanes_paused (i : Nat) (x : Bundle) : (s.setBundle i x).lanes.paused = s.lanes.paused := (rfl)
@[simp] theorem setBundle_session_read (i : Nat) (x : Bundle) (k : Nat) : (s.setBundle i x).session k = s.session k := (rfl)
@[simp] theorem setBundle_clause_read (i : Nat) (x : Bundle) (k : Nat) : (s.setBundle i x).clause k = s.clause k := (rfl)
@[simp] theorem setBundle_source_read (i : Nat) (x : Bundle) (k : Nat) : (s.setBundle i x).source k = s.source k := (rfl)
@[simp] theorem setBundle_linkTime_read (i : Nat) (x : Bundle) (k : Nat) : (s.setBundle i x).linkTime k = s.linkTime k := (rfl)
@[simp] theorem setBundle_ptp_read (i : Nat) (x : Bundle) (k : Nat) : (s.setBundle i x).ptp k = s.ptp k := (rfl)
@[simp] theorem setBundle_queue_read (i : Nat) (x : Bundle) (k : Nat) : (s.setBundle i x).queue k = s.queue k := (rfl)
@[simp] theorem setBundle_dramCh_read (i : Nat) (x : Bundle) (k : Nat) : (s.setBundle i x).dramCh k = s.dramCh k := (rfl)
@[simp] theorem setBundle_link_read (i : Nat) (x : Bundle) (k : Nat) : (s.setBundle i x).link k = s.link k := (rfl)
@[simp] theorem setBundle_chan_read (i : Nat) (x : Bundle) (k : Nat) : (s.setBundle i x).chan k = s.chan k := (rfl)
@[simp] theorem setBundle_quad_read (i : Nat) (x : Bundle) (k : Nat) : (s.setBundle i x).quad k = s.quad k := (rfl)
@[simp] theorem setBundle_dieRef_read (i : Nat) (x : Bundle) (k : Nat) : (s.setBundle i x).dieRef k = s.dieRef k := (rfl)
@[simp] theorem setBundle_spare_read (i : Nat) (x : Bundle) (k : Nat) : (s.setBundle i x).spare k = s.spare k := (rfl)
@[simp] theorem setBundle_path_read (i : Nat) (x : Bundle) (k : Nat) : (s.setBundle i x).path k = s.path k := (rfl)
@[simp] theorem setBundle_cap_read (i : Nat) (x : Bundle) (k : Nat) : (s.setBundle i x).cap k = s.cap k := (rfl)
@[simp] theorem setBundle_ctx_read (i : Nat) (x : Bundle) (k : Nat) : (s.setBundle i x).ctx k = s.ctx k := (rfl)
@[simp] theorem setBundle_job_read (i : Nat) (x : Bundle) (k : Nat) : (s.setBundle i x).job k = s.job k := (rfl)
@[simp] theorem setBundle_lane_read (i : Nat) (x : Bundle) (k : Nat) : (s.setBundle i x).lane k = s.lane k := (rfl)
@[simp] theorem setBundle_bundle_read (i k : Nat) (x : Bundle) : (s.setBundle i x).bundle k = if k = i then x else s.bundle k := alGet_alPut _ _ _ _ _ _
@[simp] theorem setBundle_setBundle (i : Nat) (x y : Bundle) : (s.setBundle i x).setBundle i y = s.setBundle i y := by
  unfold setBundle tabPut; rw [alPut_alPut]
@[simp] theorem setBundle_rd (i : Nat) (x : Bundle) (k : Reg) : (s.setBundle i x).rd k = s.rd k := (rfl)
@[simp] theorem setBundle_rdDom (i : Nat) (x : Bundle) (k : Reg) : (s.setBundle i x).rdDom k = s.rdDom k := (rfl)

/-! ### Reads after the writes they meet, and the reads and writes said by others -/

@[simp] theorem wr_rd (r k : Reg) (v : Nat) : (s.wr r v).rd k = if k = r then v else s.rd k :=
  alGet_alPut_dfl _ _ _ _ _ _

/-- What a counter holds after n more (R6; log entry 3 where it overflows). -/
@[simp] theorem count_rd (r k : Reg) (n : Nat) : (s.count r n).rd k = if k = r then s.counted r n else s.rd k :=
  wr_rd _ _ _ _

@[simp] theorem wr_wr (r : Reg) (v w : Nat) : (s.wr r v).wr r w = s.wr r w := by
  unfold wr; rw [alPut_alPut]

@[simp] theorem wrDom_rdDom (r k : Reg) (l : List Byte) : (s.wrDom r l).rdDom k = if k = r then l else s.rdDom k :=
  alGet_alPut _ _ _ _ _ _

@[simp] theorem emit_out (o : Out) : (s.emit o).out = s.out ++ [o] := (rfl)
@[simp] theorem bump_freeCount : s.bump.freeCount = s.freeCount + 1 := (rfl)
@[simp] theorem raise_eq (c i : Nat) : s.raise c i = s.emit (.raised c i) := (rfl)
@[simp] theorem wrI_eq (r : Reg) (n : Nat) (v : Int) : s.wrI r n v = s.wr r (ofSigned n v) := (rfl)
@[simp] theorem wrBit_eq (r : Reg) (i : Nat) (b : Bool) : s.wrBit r i b = s.wr r (putBit (s.rd r) i b) := (rfl)
@[simp] theorem rdB_eq (r : Reg) : s.rdB r = (s.rd r != 0) := (rfl)
@[simp] theorem rdI_eq (r : Reg) (n : Nat) : s.rdI r n = toSigned n (s.rd r) := (rfl)
@[simp] theorem now_eq : s.now = s.time.ticks := (rfl)
@[simp] theorem now96_eq : s.now96 = t96OfTicks s.time.ticks := (rfl)
@[simp] theorem each_nil {α : Type} (f : State → α → State) : s.each [] f = s := (rfl)
@[simp] theorem each_cons {α : Type} (a : α) (l : List α) (f : State → α → State) :
    s.each (a :: l) f = (f s a).each l f := (rfl)

end Sys2Proof.Machine.State
end

