-- ==== Sys2Proof/Laws/Frame.lean ====
section
/-! SUPPORT. Frames: what is unchanged in the fields that a list does not name, for each update of the state. -/

namespace Sys2Proof.Machine

namespace Keeps

theorem refl (s : State) (l : List Field) : Keeps s s l := by
  refine ⟨fun f _ => ?_⟩; cases f <;> simp [State.same]

theorem trans {s t u : State} {l m : List Field} (h : Keeps s t l) (k : Keeps t u m) : Keeps s u (l ++ m) := by
  refine ⟨fun f hf => ?_⟩
  simp only [List.mem_append, not_or] at hf
  have h1 := h.same f hf.1
  have h2 := k.same f hf.2
  cases f <;> exact Eq.trans h2 h1

theorem mono {s t : State} {l m : List Field} (h : Keeps s t l) (hm : ∀ f ∈ l, f ∈ m) : Keeps s t m :=
  ⟨fun f hf => h.same f fun hl => hf (hm f hl)⟩

/-- A further operation whose changes are among those listed. -/
theorem then_ {s t u : State} {l m : List Field} (h : Keeps s t l) (k : Keeps t u m) (hm : ∀ f ∈ m, f ∈ l) :
    Keeps s u l := (h.trans k).mono (by simpa [or_imp, forall_and] using hm)

theorem each {α : Type} {f : State → α → State} {l : List Field} (hf : ∀ s a, Keeps s (f s a) l) (s : State)
    (L : List α) : Keeps s (s.each L f) l := by
  induction L generalizing s with
  | nil => exact refl s l
  | cons a t ih => exact (hf s a).then_ (ih (f s a)) (by simp)

variable {s u : State} {ch : List Field} (h : Keeps s u ch)
include h

theorem wr (r : Reg) (v : Nat) (hm : Field.regs ∈ ch) : Keeps s (u.wr r v) ch := by
  refine h.then_ (m := [.regs]) ⟨fun f hf => ?_⟩ (by simpa using hm)
  cases f <;> simp_all [State.same]

theorem count (r : Reg) (n : Nat) (hm : Field.regs ∈ ch) : Keeps s (u.count r n) ch := by
  refine h.then_ (m := [.regs]) ⟨fun f hf => ?_⟩ (by simpa using hm)
  cases f <;> simp_all [State.same]

theorem wrDom (r : Reg) (l : List Byte) (hm : Field.doms ∈ ch) : Keeps s (u.wrDom r l) ch := by
  refine h.then_ (m := [.doms]) ⟨fun f hf => ?_⟩ (by simpa using hm)
  cases f <;> simp_all [State.same]

theorem emit (o : Out) (hm : Field.out ∈ ch) : Keeps s (u.emit o) ch := by
  refine h.then_ (m := [.out]) ⟨fun f hf => ?_⟩ (by simpa using hm)
  cases f <;> simp_all [State.same]

theorem bump (hm : Field.freeCount ∈ ch) : Keeps s (u.bump) ch := by
  refine h.then_ (m := [.freeCount]) ⟨fun f hf => ?_⟩ (by simpa using hm)
  cases f <;> simp_all [State.same]

theorem putTime (x : TimeSt) (hm : Field.time ∈ ch) : Keeps s (u.putTime x) ch := by
  refine h.then_ (m := [.time]) ⟨fun f hf => ?_⟩ (by simpa using hm)
  cases f <;> simp_all [State.same]

theorem putDram (x : Dram) (hm : Field.dram ∈ ch) : Keeps s (u.putDram x) ch := by
  refine h.then_ (m := [.dram]) ⟨fun f hf => ?_⟩ (by simpa using hm)
  cases f <;> simp_all [State.same]

theorem putLehr (x : Lehr) (hm : Field.lehr ∈ ch) : Keeps s (u.putLehr x) ch := by
  refine h.then_ (m := [.lehr]) ⟨fun f hf => ?_⟩ (by simpa using hm)
  cases f <;> simp_all [State.same]

theorem putMatrix (x : Matrix) (hm : Field.matrix ∈ ch) : Keeps s (u.putMatrix x) ch := by
  refine h.then_ (m := [.matrix]) ⟨fun f hf => ?_⟩ (by simpa using hm)
  cases f <;> simp_all [State.same]

theorem putLanes (x : Lanes) (hm : Field.lanes ∈ ch) : Keeps s (u.putLanes x) ch := by
  refine h.then_ (m := [.lanes]) ⟨fun f hf => ?_⟩ (by simpa using hm)
  cases f <;> simp_all [State.same]

theorem putMode (x : ModeSt) (hm : Field.mode ∈ ch) : Keeps s (u.putMode x) ch := by
  refine h.then_ (m := [.mode]) ⟨fun f hf => ?_⟩ (by simpa using hm)
  cases f <;> simp_all [State.same]

theorem putMram (x : Mram) (hm : Field.mram ∈ ch) : Keeps s (u.putMram x) ch := by
  refine h.then_ (m := [.mram]) ⟨fun f hf => ?_⟩ (by simpa using hm)
  cases f <;> simp_all [State.same]

theorem putCores (x : Cores) (hm : Field.cores ∈ ch) : Keeps s (u.putCores x) ch := by
  refine h.then_ (m := [.cores]) ⟨fun f hf => ?_⟩ (by simpa using hm)
  cases f <;> simp_all [State.same]

theorem putAmp (x : Ampoule) (hm : Field.amp ∈ ch) : Keeps s (u.putAmp x) ch := by
  refine h.then_ (m := [.amp]) ⟨fun f hf => ?_⟩ (by simpa using hm)
  cases f <;> simp_all [State.same]

theorem putSegments (x : List Segment) (hm : Field.segments ∈ ch) : Keeps s (u.putSegments x) ch := by
  refine h.then_ (m := [.segments]) ⟨fun f hf => ?_⟩ (by simpa using hm)
  cases f <;> simp_all [State.same]

theorem putForwarded (x : List Fwd) (hm : Field.forwarded ∈ ch) : Keeps s (u.putForwarded x) ch := by
  refine h.then_ (m := [.forwarded]) ⟨fun f hf => ?_⟩ (by simpa using hm)
  cases f <;> simp_all [State.same]

theorem putHeld (x : List HeldReq) (hm : Field.held ∈ ch) : Keeps s (u.putHeld x) ch := by
  refine h.then_ (m := [.held]) ⟨fun f hf => ?_⟩ (by simpa using hm)
  cases f <;> simp_all [State.same]

theorem putCanIn (x : Option (Nat × List Byte)) (hm : Field.canIn ∈ ch) : Keeps s (u.putCanIn x) ch := by
  refine h.then_ (m := [.canIn]) ⟨fun f hf => ?_⟩ (by simpa using hm)
  cases f <;> simp_all [State.same]

theorem putPoisoned (x : Bool) (hm : Field.poisoned ∈ ch) : Keeps s (u.putPoisoned x) ch := by
  refine h.then_ (m := [.poisoned]) ⟨fun f hf => ?_⟩ (by simpa using hm)
  cases f <;> simp_all [State.same]

theorem putLastClause (x : Nat) (hm : Field.lastClause ∈ ch) : Keeps s (u.putLastClause x) ch := by
  refine h.then_ (m := [.lastClause]) ⟨fun f hf => ?_⟩ (by simpa using hm)
  cases f <;> simp_all [State.same]

theorem setSession (i : Nat) (x : Session) (hm : Field.sessions ∈ ch) : Keeps s (u.setSession i x) ch := by
  refine h.then_ (m := [.sessions]) ⟨fun f hf => ?_⟩ (by simpa using hm)
  cases f <;> simp_all [State.same]

theorem setClause (i : Nat) (x : Clause) (hm : Field.clauses ∈ ch) : Keeps s (u.setClause i x) ch := by
  refine h.then_ (m := [.clauses]) ⟨fun f hf => ?_⟩ (by simpa using hm)
  cases f <;> simp_all [State.same]

theorem setSource (i : Nat) (x : Source) (hm : Field.time ∈ ch) : Keeps s (u.setSource i x) ch := by
  refine h.then_ (m := [.time]) ⟨fun f hf => ?_⟩ (by simpa using hm)
  cases f <;> simp_all [State.same]

theorem setLinkTime (i : Nat) (x : LinkTime) (hm : Field.time ∈ ch) : Keeps s (u.setLinkTime i x) ch := by
  refine h.then_ (m := [.time]) ⟨fun f hf => ?_⟩ (by simpa using hm)
  cases f <;> simp_all [State.same]

theorem setPtp (i : Nat) (x : PtpPort) (hm : Field.time ∈ ch) : Keeps s (u.setPtp i x) ch := by
  refine h.then_ (m := [.time]) ⟨fun f hf => ?_⟩ (by simpa using hm)
  cases f <;> simp_all [State.same]

theorem setQueue (i : Nat) (x : Queue) (hm : Field.queues ∈ ch) : Keeps s (u.setQueue i x) ch := by
  refine h.then_ (m := [.queues]) ⟨fun f hf => ?_⟩ (by simpa using hm)
  cases f <;> simp_all [State.same]

theorem setDramCh (i : Nat) (x : DramCh) (hm : Field.dram ∈ ch) : Keeps s (u.setDramCh i x) ch := by
  refine h.then_ (m := [.dram]) ⟨fun f hf => ?_⟩ (by simpa using hm)
  cases f <;> simp_all [State.same]

theorem setLink (i : Nat) (x : DieLink) (hm : Field.links ∈ ch) : Keeps s (u.setLink i x) ch := by
  refine h.then_ (m := [.links]) ⟨fun f hf => ?_⟩ (by simpa using hm)
  cases f <;> simp_all [State.same]

theorem setChan (i : Nat) (x : Chan) (hm : Field.chans ∈ ch) : Keeps s (u.setChan i x) ch := by
  refine h.then_ (m := [.chans]) ⟨fun f hf => ?_⟩ (by simpa using hm)
  cases f <;> simp_all [State.same]

theorem setQuad (i : Nat) (x : Quad) (hm : Field.quads ∈ ch) : Keeps s (u.setQuad i x) ch := by
  refine h.then_ (m := [.quads]) ⟨fun f hf => ?_⟩ (by simpa using hm)
  cases f <;> simp_all [State.same]

theorem setDieRef (i : Nat) (x : DieRef) (hm : Field.dieRefs ∈ ch) : Keeps s (u.setDieRef i x) ch := by
  refine h.then_ (m := [.dieRefs]) ⟨fun f hf => ?_⟩ (by simpa using hm)
  cases f <;> simp_all [State.same]

theorem setSpare (i : Nat) (x : Spare) (hm : Field.spares ∈ ch) : Keeps s (u.setSpare i x) ch := by
  refine h.then_ (m := [.spares]) ⟨fun f hf => ?_⟩ (by simpa using hm)
  cases f <;> simp_all [State.same]

theorem setPath (i : Nat) (x : Path) (hm : Field.paths ∈ ch) : Keeps s (u.setPath i x) ch := by
  refine h.then_ (m := [.paths]) ⟨fun f hf => ?_⟩ (by simpa using hm)
  cases f <;> simp_all [State.same]

theorem setCap (i : Nat) (x : Cap) (hm : Field.caps ∈ ch) : Keeps s (u.setCap i x) ch := by
  refine h.then_ (m := [.caps]) ⟨fun f hf => ?_⟩ (by simpa using hm)
  cases f <;> simp_all [State.same]

theorem setCtx (i : Nat) (x : FritCtx) (hm : Field.ctxs ∈ ch) : Keeps s (u.setCtx i x) ch := by
  refine h.then_ (m := [.ctxs]) ⟨fun f hf => ?_⟩ (by simpa using hm)
  cases f <;> simp_all [State.same]

theorem setJob (i : Nat) (x : FritJob) (hm : Field.jobs ∈ ch) : Keeps s (u.setJob i x) ch := by
  refine h.then_ (m := [.jobs]) ⟨fun f hf => ?_⟩ (by simpa using hm)
  cases f <;> simp_all [State.same]

theorem setLane (i : Nat) (x : Lane) (hm : Field.lanes ∈ ch) : Keeps s (u.setLane i x) ch := by
  refine h.then_ (m := [.lanes]) ⟨fun f hf => ?_⟩ (by simpa using hm)
  cases f <;> simp_all [State.same]

theorem setBundle (i : Nat) (x : Bundle) (hm : Field.lanes ∈ ch) : Keeps s (u.setBundle i x) ch := by
  refine h.then_ (m := [.lanes]) ⟨fun f hf => ?_⟩ (by simpa using hm)
  cases f <;> simp_all [State.same]

end Keeps

end Sys2Proof.Machine
end

