-- ==== Sys2Proof/Laws/Link.lean ====
section
/-! SUPPORT. What sealing a flit under a sequence number does to its fields, once. -/

namespace Sys2Proof.Machine

theorem crcMsbBit_lt (c : Nat) (b : Bool) : crcMsbBit 32 0x04C11DB7 c b < 2 ^ 32 := by
  unfold crcMsbBit
  have h : c * 2 % 2 ^ 32 < 2 ^ 32 := Nat.mod_lt _ (by decide)
  dsimp only
  split
  · exact Nat.xor_lt_two_pow h (by decide)
  · exact h

/-- The check of a flit fits its field. -/
theorem flitCrc_lt (f : Flit) (seq : Nat) : flitCrc f seq < 2 ^ 32 := by
  have h : 0xFFFFFFFF ^^^ (seq % 4096) < 2 ^ 32 :=
    Nat.xor_lt_two_pow (by decide) (Nat.lt_of_lt_of_le (Nat.mod_lt _ (by decide)) (by decide))
  unfold flitCrc
  generalize bitsDown 991 (f.toNat / 2 ^ 32) = l
  generalize 0xFFFFFFFF ^^^ (seq % 4096) = c at h
  induction l generalizing c with
  | nil => exact h
  | cons b l ih => exact ih _ (crcMsbBit_lt c b)

/-- The check depends on the bits above it and on the sequence number. -/
theorem flitCrc_congr {f g : Flit} (h : f.toNat / 2 ^ 32 = g.toNat / 2 ^ 32) (seq : Nat) : flitCrc f seq = flitCrc g seq := by
  unfold flitCrc
  rw [h]

theorem reseal_toNat (f : Flit) (seq : Nat) :
    (reseal f seq).toNat = f.toNat / 2 ^ 32 * 2 ^ 32 + flitCrc f seq := by
  have hf := f.isLt
  have hc := flitCrc_lt f seq
  have hk : (2 : Nat) ^ 1024 = 2 ^ 992 * 2 ^ 32 := by rw [← Nat.pow_add]
  unfold reseal
  dsimp only
  rw [flitCrc_congr (g := f) (by
      rw [BitVec.toNat_ofNat, Nat.mod_eq_of_lt (Nat.lt_of_le_of_lt (Nat.div_mul_le_self _ _) hf),
        Nat.mul_div_cancel _ (Nat.two_pow_pos 32)]), BitVec.toNat_ofNat, Nat.mod_eq_of_lt]
  rw [hk] at hf ⊢
  have hq := Nat.div_lt_of_lt_mul (Nat.mul_comm (2 ^ 992) (2 ^ 32) ▸ hf)
  generalize (2 : Nat) ^ 992 = k at hq ⊢
  omega

/-- Sealing a flit keeps every bit above its check. -/
theorem reseal_high (f : Flit) (seq : Nat) : (reseal f seq).toNat / 2 ^ 32 = f.toNat / 2 ^ 32 := by
  have hc := flitCrc_lt f seq
  rw [reseal_toNat]
  omega

theorem field_high {v w : Nat} (h : v / 2 ^ 32 = w / 2 ^ 32) (hi lo : Nat) (hl : 32 ≤ lo) : field v hi lo = field w hi lo := by
  unfold field
  obtain ⟨k, rfl⟩ := Nat.exists_eq_add_of_le hl
  rw [Nat.pow_add, ← Nat.div_div_eq_div_mul, ← Nat.div_div_eq_div_mul, h]

theorem flitType_reseal (f : Flit) (seq : Nat) : flitType (reseal f seq) = flitType f :=
  field_high (reseal_high f seq) _ _ (by decide)

theorem flitCount_reseal (f : Flit) (seq : Nat) : flitCount (reseal f seq) = flitCount f :=
  field_high (reseal_high f seq) _ _ (by decide)

/-- A flit of a TYPE above 5 fails its check. -/
theorem flitOk_type (f : Flit) (seq : Nat) (h : 5 < flitType f) : flitOk f seq = false := by
  unfold flitOk
  have : decide (flitType f ≤ 5) = false := decide_eq_false (by omega)
  simp [this]

/-- A sealed flit passes its check under that sequence number when its fields are those of a flit. -/
theorem flitOk_reseal (f : Flit) (seq : Nat) (ht : 1 ≤ flitType f ∧ flitType f ≤ 5) (hz : field f.toNat 1000 992 = 0)
    (hn : flitCount f ≤ 30) (hc : 1 ≤ flitCount f ∨ flitType f = 4 ∨ flitEnd f = true) :
    flitOk (reseal f seq) seq = true := by
  have hh := reseal_high f seq
  have t := flitType_reseal f seq
  have n := flitCount_reseal f seq
  have z : field (reseal f seq).toNat 1000 992 = field f.toNat 1000 992 := field_high hh _ _ (by decide)
  have e : flitEnd (reseal f seq) = flitEnd f := by
    have := field_high hh 1001 1001 (by decide)
    unfold flitEnd bitAt
    unfold field at this
    exact congrArg (· == 1) this
  have c : field (reseal f seq).toNat 31 0 = flitCrc (reseal f seq) seq := by
    have hcl := flitCrc_lt f seq
    rw [flitCrc_congr hh, reseal_toNat]
    unfold field
    omega
  unfold flitOk
  rw [t, n, z, e, c]
  simp only [beq_self_eq_true, Bool.true_and, hz, Bool.and_true, Bool.and_eq_true, Bool.or_eq_true, decide_eq_true_eq,
    beq_iff_eq]
  exact ⟨⟨ht, hn⟩, or_assoc.2 hc⟩

end Sys2Proof.Machine
end

