-- ==== Sys2Proof/Laws/Serve.lean ====
section
/-! SUPPORT. What serving a request does, once: the entry an index names, the note of the message on its session, and a
write of an action entry by the Owner. -/

namespace Sys2Proof.Machine

/-- More instances than any part has of a group (R4, Table 12-1). -/
def Grp.bound : Grp → Nat
  | .channel | .punty => 896 | .quad | .sliceSpare => 224 | .bank => 28 | .die => 7 | .ageing => 8 | .path => 4096
  | .queue => 8192 | .tenant => 1024 | .session | .fritCtx | .route => 64 | .clauseSlot => 65
  | .ptp | .mac | .dramCh => 4 | .trigger | .injRule | .dramPort => 16 | .fritJob => 32 | .lane => 18 | .bundle => 2
  | .capList => 256 | _ => 1

theorem inst_bound (p : Part) (hp : p.fronts ≤ 7) (g : Grp) (i : Nat) (h : instFitted p g i = true) :
    i < g.bound ∧ (g = .clauseSlot → 1 ≤ i) := by
  cases g <;> simp only [instFitted, Part.channels, Part.quads, Part.banks, Part.drams, Part.portFitted, Part.laneFitted,
    Part.lanes, Part.spareLanes, decide_eq_true_eq, Bool.and_eq_true, Bool.or_eq_true, beq_iff_eq] at h <;>
  refine ⟨?_, by simp; try omega⟩ <;> simp only [Grp.bound] <;>
  first
  | omega
  | (have := of_decide_eq_true h; omega)
  | (split_ifs at h <;> first | omega | (simp only [decide_eq_true_eq] at h; omega))

/-- The index map gives back the group and the instance that an index was made of. -/
theorem groupAt_base (p : Part) (hp : p.fronts ≤ 7) (g : Grp) (i : Nat) (h : instFitted p g i = true) :
    groupAt (g.base + i) = some (g, i) := by
  obtain ⟨hi, h1⟩ := inst_bound p hp g i h
  clear h
  unfold groupAt
  rcases Nat.eq_zero_or_pos i with rfl | hpos
  · cases g <;> first | rfl | simp at h1
  · cases g <;> simp only [Grp.base, Grp.bound, true_implies, reduceCtorEq, false_implies] at hi h1 ⊢ <;>
    first
    | (exfalso; omega)
    | (repeat refine (if_neg (by omega)).trans ?_
       refine (if_pos (by omega)).trans ?_
       simp)

/-- The entry that the index of a fitted instance names. -/
theorem entryAt_indexOf (s : State) (hp : s.part.fronts ≤ 7) (g : Grp) (i sub : Nat) (w : Row)
    (hi : instFitted s.part g i = true) (hs : subFitted s.part g sub = true) (hw : rowAt g sub = some w) :
    entryAt s.part (s.indexOf g i) sub = some (⟨g, i, sub⟩, w) := by
  simp [entryAt, State.indexOf, hi, groupAt_base s.part hp g i hi, hs, hw]

/-! ### The note of a message on its session -/

namespace State

theorem touch_open (s : State) (x : Nat) (h : s.sessionOpen x = true) : s.touch x =
    (s.wr (R.se_S_LAST_RX x) s.now96).setSession x { s.session x with lastRx := s.time.edge } := by
  rw [touch, if_pos h]

/-- A message changes S_LAST_RX of its session and nothing else of the registers. -/
theorem touch_rd (s : State) (x : Nat) (h : s.sessionOpen x = true) (r : Reg) :
    (s.touch x).rd r = if r = R.se_S_LAST_RX x then s.now96 else s.rd r := by
  simp [touch_open s x h]

/-- What a message changes of the state. -/
theorem touch_keeps (s : State) (x : Nat) : Keeps s (s.touch x) [.regs, .sessions] := by
  unfold touch
  split
  · exact ((Keeps.refl s _).wr _ _ (by simp)).setSession _ _ (by simp)
  · exact .refl s _

theorem touch_sub_rd (s : State) (x : Nat) (r : Reg) (h : r.grp ≠ .session ∨ r.sub ≠ 0x04) :
    (s.touch x).rd r = s.rd r := by
  by_cases ho : s.sessionOpen x = true
  · rw [touch_rd s x ho, if_neg]
    rintro rfl
    simp at h
  · rw [touch, if_neg ho]

theorem touch_session_read (s : State) (x : Nat) (h : s.sessionOpen x = true) :
    (s.touch x).session x = { s.session x with lastRx := s.time.edge } := by
  simp [touch_open s x h]

@[simp] theorem touch_part (s : State) (x : Nat) : (s.touch x).part = s.part :=
  (touch_keeps s x).same .part (by simp)
@[simp] theorem touch_mode (s : State) (x : Nat) : (s.touch x).mode = s.mode :=
  (touch_keeps s x).same .mode (by simp)
@[simp] theorem touch_time (s : State) (x : Nat) : (s.touch x).time = s.time :=
  (touch_keeps s x).same .time (by simp)
@[simp] theorem touch_clauses (s : State) (x : Nat) : (s.touch x).clauses = s.clauses :=
  (touch_keeps s x).same .clauses (by simp)
@[simp] theorem touch_amp (s : State) (x : Nat) : (s.touch x).amp = s.amp :=
  (touch_keeps s x).same .amp (by simp)
@[simp] theorem touch_out (s : State) (x : Nat) : (s.touch x).out = s.out :=
  (touch_keeps s x).same .out (by simp)

theorem clause_congr (s t : State) (h : t.clauses = s.clauses) (c : Nat) : t.clause c = s.clause c := by
  simp [clause, h]

/-- A message does not change who locks an entry. -/
theorem touch_lockHolder (s : State) (x : Nat) (r : Reg) : (s.touch x).lockHolder r = s.lockHolder r := by
  simp [lockHolder, clauseUsed, touch_sub_rd, clause_congr s (s.touch x) (touch_clauses s x)]

/-- A message does not change what is fenced. -/
theorem touch_fenced (s : State) (x : Nat) (r : Reg) : (s.touch x).fenced r = s.fenced r := by
  simp [fenced, touch_sub_rd]

@[simp] theorem touch_links (s : State) (x : Nat) : (s.touch x).links = s.links :=
  (touch_keeps s x).same .links (by simp)

/-- A message does not change which dies can be reached. -/
theorem touch_reachCode (s : State) (x : Nat) (r : Reg) : (s.touch x).reachCode r = s.reachCode r := by
  simp [reachCode, dieUnreachable, linkUp, link, touch_sub_rd]

@[simp] theorem touch_forwarded (s : State) (x : Nat) : (s.touch x).forwarded = s.forwarded :=
  (touch_keeps s x).same .forwarded (by simp)
@[simp] theorem touch_held (s : State) (x : Nat) : (s.touch x).held = s.held :=
  (touch_keeps s x).same .held (by simp)

/-- A message does not change which sessions wait for an answer. -/
theorem touch_awaits (s : State) (x k : Nat) : (s.touch x).awaits k = s.awaits k := by
  simp [awaits, coordinates, touch_sub_rd, clause_congr s (s.touch x) (touch_clauses s x)]

/-- With no request waiting, none is served after another. -/
theorem thenHeld_none (t s : State) (h : s.held = []) : t.thenHeld s = t := by
  simp [thenHeld, h]

/-- Hub time that has not stepped forward commits no clause. -/
theorem jumpClauses_same (t s : State) (h : t.time.ticks = s.time.ticks) : t.jumpClauses s = t := by
  simp [jumpClauses, h]

theorem afterJump_same (t : State) (n : Nat) (h : t.time.ticks = n) : t.afterJump n = t := by
  simp [afterJump, h]

/-- Answers of a session of the hub's own leave it and change nothing else. -/
theorem sendAnswers_keeps (t : State) (w : Who) (typ : Nat) (l : Answers) (hx : w.key < 256) :
    Keeps t (t.sendAnswers w typ l) [.out] := by
  refine Keeps.each (fun s a => ?_) t l
  dsimp only
  rw [if_pos hx]
  exact (Keeps.refl s _).emit _ (by simp)

/-- A reply to a session of the hub's own goes out and is kept for R300, and changes nothing else. -/
theorem reply_keeps (t : State) (w : Who) (typ : Nat) (l : Answers) (hx : w.key < 256) :
    Keeps t (t.reply w typ l) [.sessions, .out] :=
  ((Keeps.refl t _).setSession _ _ (by simp)).then_ (sendAnswers_keeps _ w typ l hx) (by simp)

/-- What a reply leaves of the registers. -/
theorem reply_one_rd (t : State) (w : Who) (typ : Nat) (a : Nat × Bool × List Byte) (r : Reg) (hx : w.key < 256) :
    (t.reply w typ [a]).rd r = t.rd r := by
  unfold reply sendAnswers
  simp [hx]

theorem reply_one_out (t : State) (x : Nat) (o : Option Nat) (tag typ : Nat) (r : Option Nat)
    (a : Nat × Bool × List Byte) (hx : x < 256) :
    (t.reply ⟨x, o, tag, r⟩ typ [a]).out = t.out ++ [.adp r x typ tag a.1 a.2.1 a.2.2] := by
  unfold reply sendAnswers
  simp [hx]

end State

/-- The request of the Owner is performed and answered (R298 to R302). -/
theorem serve_owner (s : State) (h : Hdr) (q : Req) (a : OwnerAsks s h q.typ) (hq : q.formOk = true) (t : State)
    (l : Answers) (hl : l ≠ []) (hp : (s.touch h.session).perform ⟨h.session, some 0, h.tag, none⟩ q = (t, l))
    (ht : t.time.ticks = s.time.ticks) :
    s.serve h q = t.reply ⟨h.session, some 0, h.tag, none⟩ q.typ l := by
  have hb : (s.mode.base == BaseMode.boot) = false := by simpa using a.started
  have hx : h.session < 64 := by have := a.opened; simp [State.sessionOpen] at this; exact this.1
  have hT : (s.touch h.session).sessionTenant h.session = some 0 := by
    rw [← a.owner]; simp [State.sessionTenant, State.canOwner, State.touch_sub_rd, State.inCommission]
  have hs : (s.touch h.session).session h.session = { s.session h.session with lastRx := s.time.edge } :=
    State.touch_session_read s _ a.opened
  have hr : (t.reply ⟨h.session, some 0, h.tag, none⟩ q.typ l).time = t.time :=
    (State.reply_keeps _ _ _ _ (by simp only; omega)).same .time (by simp)
  unfold State.serve
  simp only [a.form, hq, a.here, a.hub, a.opened, a.standing, State.answers, a.running, hT]
  simp [State.thenHeld_none, State.serveInOrder, State.touch_awaits, a.ready, a.answered, State.serveTurn, State.serveFrom, hs, a.fresh, hb, hp, hl, State.afterJump_same, ht, hr]

/-- A write of an action entry by the Owner, outside a clause: the action runs and the request is answered with 0x0000
(R301). -/
theorem serve_action (s : State) (h : Hdr) (g : Grp) (i sub : Nat) (w : Row) (value : List Byte) (v : Val) (t : State)
    (a : OwnerAsks s h 0x02) (hp : s.part.fronts ≤ 7)
    (hi : instFitted s.part g i = true) (hsub : subFitted s.part g sub = true) (hw : rowAt g sub = some w)
    (hact : isAction ⟨g, i, sub⟩ = true) (hro : (w.acc == .ro) = false) (hcl : w.acc.clauseOnly = false)
    (hrights : (s.touch h.session).rightsCode (some 0) ⟨g, i, sub⟩ w true = 0)
    (hlegal : (s.touch h.session).legalCode ⟨g, i, sub⟩ = 0)
    (hfree : s.free_ ⟨g, i, sub⟩) (hval : decodeVal w value = .ok v)
    (hcheck : (s.touch h.session).valueCheck ⟨g, i, sub⟩ w v = 0)
    (hrun : (s.touch h.session).runAction h.session 0 ⟨g, i, sub⟩ v = (0, t)) (ht : t.time.ticks = s.time.ticks) :
    s.serve h (.write (s.indexOf g i) sub 0 value) = t.reply ⟨h.session, some 0, h.tag, none⟩ 0x02 (answer 0) := by
  have hx : h.session < 64 := by have := a.opened; simp [State.sessionOpen] at this; exact this.1
  have he := entryAt_indexOf s hp g i sub w hi hsub hw
  refine serve_owner s h (.write (s.indexOf g i) sub 0 value) a rfl t (answer 0) (by simp [answer]) ?_ ht
  have hslot : (s.touch h.session).slotFor h.session 0 = 0 := by simp [State.slotFor]
  have hrenew : (s.touch h.session).renewLease h.session 0 = s.touch h.session := by
    simp [State.renewLease]
  simp only [State.perform, hslot, hrenew, State.doWrite, State.writeEntry, State.touch_part, he]
  have hplace : (s.touch h.session).placeCode [(⟨g, i, sub⟩, v)] = 0 := by
    simp [State.placeCode, firstCode, codeIf, State.touch_fenced, State.touch_reachCode, hfree.2.1, hfree.2.2, hlegal]
  simp [firstCode, codeIf, hro, hrights, hlegal, State.lockCode, hcl, State.touch_lockHolder, hfree.1, hval, hcheck,
    State.putValue, State.commitWrites, hact, hplace, State.runActions, hrun, Who.num, answer, ok]

end Sys2Proof.Machine
end

