-- ==== Sys2Proof/Laws/Time.lean ====
section
/-! SUPPORT. What the shared operations of hub time do, each said once (chapter 2). -/

namespace Sys2Proof.Machine.State

/-- The registers that setting the oscillator word and INCR may change. -/
abbrev wordRegs : List Reg := [R.tm_FREQ_ADJ, R.tm_INCR, R.tm_STATE_FLAGS]

@[simp] theorem closeWord_rd (s : State) (r : Reg) : s.closeWord.rd r = s.rd r := by
  unfold closeWord; split <;> simp

theorem closeWord_keeps (s : State) : Keeps s s.closeWord [.time] := by
  unfold closeWord
  split
  · exact .refl s _
  · exact (Keeps.refl s _).putTime _ (by simp)

@[simp] theorem closeWord_ticks (s : State) : s.closeWord.time.ticks = s.time.ticks := by
  unfold closeWord; split <;> simp

@[simp] theorem closeWord_edge (s : State) : s.closeWord.time.edge = s.time.edge := by
  unfold closeWord; split <;> simp

@[simp] theorem closeWord_sources (s : State) : s.closeWord.time.sources = s.time.sources := by
  unfold closeWord; split <;> simp

@[simp] theorem closeWord_run (s : State) : s.closeWord.time.run = s.time.run := by
  unfold closeWord; split <;> simp

/-- What is in force follows the loop's word and slew: FREQ_ADJ, INCR and STATE_FLAGS bit 4, and nothing else. -/
theorem steer_rd (s : State) (r : Reg) (h : r ∉ wordRegs) : s.steer.rd r = s.rd r := by
  simp only [List.mem_cons, List.not_mem_nil, or_false, not_or] at h
  unfold steer; simp [h]

theorem steer_keeps (s : State) : Keeps s s.steer [.regs] := by
  unfold steer
  exact (((Keeps.refl s _).wr _ _ (by simp)).wr _ _ (by simp)).wr _ _ (by simp)

@[simp] theorem steer_time (s : State) : s.steer.time = s.time := (steer_keeps s).same .time (by simp)

theorem steer_flags (s : State) :
    s.steer.rd R.tm_STATE_FLAGS = putBit (s.rd R.tm_STATE_FLAGS) 4 (s.time.slew != 0) := by
  unfold steer; simp

theorem setWord_rd (s : State) (w v : Int) (r : Reg) (h : r ∉ wordRegs) : (s.setWord w v).rd r = s.rd r := by
  unfold setWord; dsimp only; rw [steer_rd _ _ h]; simp

theorem setWord_flags (s : State) (w v : Int) :
    (s.setWord w v).rd R.tm_STATE_FLAGS = putBit (s.rd R.tm_STATE_FLAGS) 4 (v != 0) := by
  unfold setWord; dsimp only; rw [steer_flags]; simp

theorem setWord_keeps (s : State) (w v : Int) : Keeps s (s.setWord w v) [.regs, .time] := by
  unfold setWord; dsimp only
  exact Keeps.then_ (((closeWord_keeps s).mono (m := [.regs, .time]) (by simp)).putTime _ (by simp)) (steer_keeps _) (by simp)

@[simp] theorem setWord_time (s : State) (w v : Int) :
    (s.setWord w v).time = { s.closeWord.time with integ := w, slew := v } := by
  unfold setWord; simp

/-- PPS_OUT changes nothing but its level and what goes out. -/
theorem setPps_keeps (s : State) (on : Bool) : Keeps s (s.setPps on) [.time, .out] := by
  unfold setPps; split
  · exact .refl s _
  · exact ((Keeps.refl s _).putTime _ (by simp)).emit _ (by simp)

theorem settlePps_keeps (s : State) : Keeps s s.settlePps [.time, .out] := by
  unfold settlePps; split
  · exact .refl s _
  · exact setPps_keeps s false

@[simp] theorem settlePps_rd (s : State) (r : Reg) : s.settlePps.rd r = s.rd r := by
  have := (settlePps_keeps s).same .regs (by simp)
  simp only [State.same] at this
  simp [State.rd, this]

/-- What PPS_OUT following its condition leaves of hub time. -/
theorem settlePps_time (s : State) : s.settlePps.time = s.time ∨ s.settlePps.time = { s.time with ppsHigh := false } := by
  unfold settlePps setPps
  split
  · exact .inl rfl
  · split
    · exact .inl rfl
    · exact .inr (by simp)

@[simp] theorem settlePps_ticks (s : State) : s.settlePps.time.ticks = s.time.ticks := by
  rcases settlePps_time s with h | h <;> rw [h]
@[simp] theorem settlePps_edge (s : State) : s.settlePps.time.edge = s.time.edge := by
  rcases settlePps_time s with h | h <;> rw [h]
@[simp] theorem settlePps_sources (s : State) : s.settlePps.time.sources = s.time.sources := by
  rcases settlePps_time s with h | h <;> rw [h]
@[simp] theorem settlePps_run (s : State) : s.settlePps.time.run = s.time.run := by
  rcases settlePps_time s with h | h <;> rw [h]

/-- What entering HOLDOVER does to the registers (R36, R43). -/
theorem enterHoldover_regs (s : State) (h : s.rd R.tm_TIME_STATE ≠ 3) :
    s.enterHoldover.rd R.tm_TIME_STATE = 3 ∧ s.enterHoldover.rd R.tm_HOLDOVER_SINCE = s.now96
    ∧ s.enterHoldover.rd R.tm_STATE_FLAGS = putBit (s.rd R.tm_STATE_FLAGS) 4 false
    ∧ RegsBut s s.enterHoldover [R.tm_TIME_STATE, R.tm_HOLDOVER_SINCE, R.tm_STATE_FLAGS, R.tm_FREQ_ADJ, R.tm_INCR] := by
  have hb : (s.rd R.tm_TIME_STATE == 3) = false := by simpa using h
  unfold enterHoldover setTimeState
  refine ⟨?_, ?_, ?_, fun r hr => ?_⟩ <;> simp_all [setWord_rd, setWord_flags]

/-- What entering HOLDOVER leaves alone. -/
theorem enterHoldover_keeps (s : State) : Keeps s s.enterHoldover [.regs, .time, .out]
    ∧ s.enterHoldover.time.ticks = s.time.ticks ∧ s.enterHoldover.time.sources = s.time.sources
    ∧ s.enterHoldover.time.run = s.time.run := by
  unfold enterHoldover
  split
  · exact ⟨.refl s _, rfl, rfl, rfl⟩
  · dsimp only
    generalize hw : ((((s.closeWord.setTimeState 3).wr R.tm_HOLDOVER_SINCE _).holdWord)) = w
    refine ⟨?_, ?_⟩
    · refine Keeps.then_ (Keeps.wr ?_ _ _ (by simp)) (setWord_keeps _ w 0) (by simp)
      exact Keeps.then_ (((closeWord_keeps s).mono (m := [.regs, .time, .out]) (by simp)).wr _ _ (by simp))
        (settlePps_keeps _) (by simp)
    · simp [setTimeState]

/-! ### The selection among the directions -/

theorem settleDir_keeps (s : State) : Keeps s s.settleDir [.regs] := by
  unfold settleDir; dsimp only
  split_ifs <;> first
  | exact (((Keeps.refl s _).wr _ _ (by simp)).wr _ _ (by simp)).wr _ _ (by simp)
  | exact ((Keeps.refl s _).wr _ _ (by simp)).wr _ _ (by simp)

/-- SEL_DIR, HOPS and GM_ADDR are all that following the selection may change (R48). -/
theorem settleDir_rd (s : State) (r : Reg) (h : r ≠ R.bl_SEL_DIR ∧ r ≠ R.bl_HOPS ∧ r ≠ R.bl_GM_ADDR) :
    s.settleDir.rd r = s.rd r := by
  unfold settleDir; dsimp only; split_ifs <;> simp [h]

@[simp] theorem settleDir_time (s : State) : s.settleDir.time = s.time := (settleDir_keeps s).same .time (by simp)
@[simp] theorem settleDir_source (s : State) (k : Nat) : s.settleDir.source k = s.source k := by simp [source]

/-! ### Measurements -/

theorem dropRun_rd (s : State) (r : Reg) (h : r ≠ R.tm_OUTLIERS) : s.dropRun.rd r = s.rd r := by
  unfold dropRun; split <;> simp [h]
theorem dropRun_keeps (s : State) : Keeps s s.dropRun [.regs, .time] := by
  unfold dropRun; split
  · exact .refl s _
  · exact ((Keeps.refl s _).count _ _ (by simp)).putTime _ (by simp)
@[simp] theorem dropRun_ticks (s : State) : s.dropRun.time.ticks = s.time.ticks := by
  unfold dropRun; split <;> simp
@[simp] theorem dropRun_sources (s : State) : s.dropRun.time.sources = s.time.sources := by
  unfold dropRun; split <;> simp
@[simp] theorem dropRun_run (s : State) : s.dropRun.time.run = 0 := by
  unfold dropRun; split
  · next h => simpa using h
  · simp

/-- Where no source has breached R35, nothing is disqualified for it. -/
theorem settleBreach_idle (k : Nat) (s : State) (h : s.time.breach = false) : settleBreach k s = s := by
  cases k <;> simp [settleBreach, h]

/-- A measurement of a source that is not selected (R38, R39). -/
theorem measure_other (s : State) (c : Nat) (off : Int) (h1 : 1 ≤ c) (h2 : c ≤ 6) (h3 : s.rd R.tm_SRC_SELECTED ≠ c) :
    s.measure c off = (s.setSource c { s.source c with seen := true, offset := off, last := s.time.edge }).settleDir := by
  have hb : (c == 0 || decide (7 < c) || (c == 7 && !s.mode.refclk)) = false := by simp; omega
  have hs : (s.rd R.tm_SRC_SELECTED == c) = false := by simpa using h3
  have h7 : ¬ c = 7 := by omega
  simp only [State.measure, hb, setSource_rd, hs]
  simp [h7]

/-- A measurement of the selected source: it is judged, and noted (R38, R39, R396). -/
theorem measure_selected (s : State) (c : Nat) (off : Int) (h1 : 1 ≤ c) (h2 : c ≤ 6) (h3 : s.rd R.tm_SRC_SELECTED = c)
    (u : State) (hu : (s.setSource c { s.source c with seen := true, offset := off }).noBreach.judge off = u)
    (hf : u.time.breach = false) :
    s.measure c off = (u.setSource c { u.source c with last := u.time.edge }).settleDir := by
  subst hu
  have h0 : ¬ c = 0 := by omega
  have h7 : ¬ 7 < c := by omega
  have h77 : ¬ c = 7 := by omega
  unfold State.measure
  simp [h0, h7, h77, h3, settleBreach_idle, hf]

end Sys2Proof.Machine.State
end

