-- ==== Sys2Proof/WellFormed.lean ====
section
/-! DEFINITION. Which commands are well formed: their operands lie in the ranges that the manual's fields and units give
them (R4, Tables 12-3 and 12-4, Table 1-3, Table 11-4, the instance numbers of Table 12-1). The meanings do not need it:
they answer every command. -/

namespace Sys2Proof

/-- A header: a session number and TAG of 16 bits, a chain address of 8, zero without REMOTE (Table 12-3). -/
def Hdr.wf (h : Hdr) : Bool := h.session < 65536 && h.tag < 65536 && h.hub < 256 && (h.remote || h.hub == 0)

/-- INDEX, SUB and CLAUSE of a request (Table 12-4). -/
def entryWf (idx sub clause : Nat) : Bool := idx < 65536 && sub < 256 && clause < 256

/-- A lock item (Table 12-4). -/
def LockItem.wf (i : LockItem) : Bool := i.idx < 65536 && i.sub < 256 && i.hub < 256

/-- A chain address. -/
def addrWf (a : Nat) : Bool := a < 256
/-- A clause number. -/
def clauseWf (c : Nat) : Bool := 1 ≤ c && c ≤ 64
/-- A channel (R4). -/
def chanWf (n : Nat) : Bool := n < 896
/-- A quad (R4). -/
def quadWf (q : Nat) : Bool := q < 224
/-- A bank (R4). -/
def bankWf (b : Nat) : Bool := b < 28
/-- A front die, F1 to F7 (R4). -/
def dieWf (d : Nat) : Bool := 1 ≤ d && d ≤ 7
/-- A Lehr path. -/
def pathWf (p : Nat) : Bool := p < 4096
/-- A queue. -/
def queueWf (q : Nat) : Bool := q < 8192
/-- A lane, 16 and 17 the spares. -/
def laneWf (l : Nat) : Bool := l < 18
/-- A bundle: 0 west, 1 east. -/
def bundleWf (b : Nat) : Bool := b < 2
/-- A port, a MAC or a PTP port. -/
def macWf (m : Nat) : Bool := m < 4
/-- A DRAM channel. -/
def dramWf (c : Nat) : Bool := c < 4
/-- A check of a burst of eight words. -/
def checkWf : WordCheck → Bool
  | .clean | .corrected => true
  | .doubleBit w | .addressCrc w => w < 8
/-- A Frit context. -/
def ctxWf (c : Nat) : Bool := c < 64
/-- A Frit job slot. -/
def jobWf (j : Nat) : Bool := j < 32
/-- A matrix output. -/
def outWf (o : Nat) : Bool := o < 32
/-- A port of the fabric. -/
def portWf (p : Nat) : Bool := p < 16
/-- A transmit port and a route (R53, R284). -/
def txWf (port route : Nat) : Bool := port < 8 && route < 64

/-- A source of the matrix (R188). -/
def TrigSrc.wf : TrigSrc → Bool
  | .channel n => chanWf n
  | .trig k => k < 8
  | .iline l => l < 4
  | .timer k => k < 16
  | .remote t => t < 16

/-- A sideband message: a target of INDEX and SUB, and at most 64 octets (R19). -/
def SbMsg.wf (m : SbMsg) : Bool := m.target < 2 ^ 24 && m.data.length ≤ 64

/-- Are a command's operands in range. -/
def Instr.wf : Instr → Bool
  | .adpRead h idx sub clause => h.wf && entryWf idx sub clause
  | .adpWrite h idx sub clause value => h.wf && entryWf idx sub clause && value.length ≤ 16368
  | .blockRead h idx sub clause offset length => h.wf && entryWf idx sub clause && offset < 2 ^ 32 && 1 ≤ length && length ≤ 65536
  | .blockWrite h idx sub clause offset data _ => h.wf && entryWf idx sub clause && offset < 2 ^ 32 && data.length ≤ 16364
  | .blockTransferTimeout session tag => session < 384 && tag < 65536
  | .walk h idx sub max => h.wf && idx < 65536 && sub < 256 && 1 ≤ max && max ≤ 64
  | .clauseOpen h lease _ items => h.wf && lease < 2 ^ 32 && items.length < 256 && items.all LockItem.wf
  | .clauseCommit h clause => h.wf && clause < 256
  | .clauseCommitAt h clause whn => h.wf && clause < 256 && 0 < whn && whn < 2 ^ 64
  | .scheduledClauseInstant clause => clauseWf clause
  | .clauseAbandon h clause => h.wf && clause < 256
  | .clauseLeaseExpiry clause => clauseWf clause
  | .chainLockBackoffExpiry clause => clauseWf clause
  | .chainLockWaitTimeout clause => clauseWf clause
  | .chainMemberAdmitRequest coordinator coordClause whn => addrWf coordinator && clauseWf coordClause && whn < 2 ^ 64
  | .chainPhase1Timeout clause member => clauseWf clause && addrWf member
  | .chainGoAhead coordinator coordClause => addrWf coordinator && clauseWf coordClause
  | .chainGoAheadDeadline clause => clauseWf clause
  | .chainMemberDeadline coordinator coordClause => addrWf coordinator && clauseWf coordClause
  | .subscribe h queue credit => h.wf && queue < 65536 && credit < 65536
  | .unsubscribe h queue => h.wf && queue < 65536
  | .abortCapture h channel => h.wf && channel < 65536
  | .abortTdr h channel => h.wf && channel < 65536
  | .abortPath h path => h.wf && path < 65536
  | .abortTenantPaths h => h.wf
  | .abortFritJob h slot => h.wf && slot < 65536
  | .abortDramTransfer h xferTag => h.wf && xferTag < 65536
  | .abortClause h clause => h.wf && clause < 65536
  | .abortBlockTransfer h xferTag => h.wf && xferTag < 65536
  | .abortAll h => h.wf
  | .dtlsHandshake keyDigest => keyDigest < 2 ^ 256
  | .canSegmentRx _ _ seq octets => seq < 64 && octets.length ≤ 63
  | .canBusOff => true
  | .sessionTimeout session => session < 64
  | .relayedAdpRx bundle origin tenant gwSession _ => bundleWf bundle && origin < 256 && tenant < 65536 && gwSession < 64
  | .remoteAnswerTimeout session tag => session < 64 && tag < 65536
  | .timeMeasurement source _ => 1 ≤ source && source ≤ 7
  | .sourceQualified source => 1 ≤ source && source ≤ 7
  | .sourceDisqualified source => 1 ≤ source && source ≤ 7
  | .lockWindowElapsed => true
  | .freqLimitClear => true
  | .setTime h clause _ => h.wf && clause < 256
  | .acceptStep h clause _ => h.wf && clause < 256
  | .refclkLost => true
  | .refclkRelock => true
  | .beacon dir lane _ _ => bundleWf dir && laneWf lane
  | .beaconTx => true
  | .ptpMessageRx port domain _ _ => macWf port && domain < 256
  | .ptpMessageTx port _ _ => macWf port
  | .timeTriggerFire k => k < 16
  | .ppsOutEdge => true
  | .ppsOutWidthEnd => true
  | .ppsInEdge _ => true
  | .launchTimeReached port route => txWf port route
  | .portFrameTx port route => txWf port route
  | .txtsPop h mac clause _ => h.wf && macWf mac && clause < 256
  | .txtsStickyClr h mac clause _ => h.wf && macWf mac && clause < 256
  | .flitRx die _ _ => dieWf die
  | .linkReplayRequest die _ seq => dieWf die && seq < 4096
  | .linkRetrainDone die => dieWf die
  | .linkReplayWindow die => dieWf die
  | .sidebandRequest die hub front _ => dieWf die && hub.all SbMsg.wf && front.all SbMsg.wf
  | .sidebandBackoffExpiry die => dieWf die
  | .fabricParityError port dest _ => portWf port && portWf dest
  | .slipLimitShed die _ => dieWf die
  | .shedRestore die _ => dieWf die
  | .ebufPeakClr h die clause _ => h.wf && dieWf die && clause < 256
  | .stageChangeDone n => chanWf n
  | .inputOverRange n _ _ _ => chanWf n
  | .terminationOvervoltage n => chanWf n
  | .terminationReclose n => chanWf n
  | .excSenseLoopFault q => quadWf q
  | .excCurrentLimit q _ _ => quadWf q
  | .vinFallClamp q _ => quadWf q
  | .vinRecovered q _ => quadWf q
  | .pwmRisingEdge q => quadWf q
  | .pwmFallingEdge q => quadWf q
  | .owSlotDue n => chanWf n
  | .owNow h n clause _ => h.wf && chanWf n && clause < 256
  | .owSlotStart n => chanWf n
  | .owSlotEnd n _ _ => chanWf n
  | .tdrStart h n clause _ => h.wf && chanWf n && clause < 256
  | .tdrNoEdge n => chanWf n
  | .tdrRunEnd n _ => chanWf n
  | .burstStartEvent q => quadWf q
  | .sliceWake q => quadWf q
  | .burstEnd q _ => quadWf q
  | .bankReadyAt b => bankWf b
  | .refBufferTimeout b => bankWf b
  | .refSupervisionAverage d _ _ _ => dieWf d
  | .refFlagClear d _ => dieWf d
  | .refRecal h d clause _ => h.wf && dieWf d && clause < 256
  | .refRecalDone d _ _ _ => dieWf d
  | .calNow h b clause _ => h.wf && bankWf b && clause < 256
  | .calNowDone b => bankWf b
  | .backgroundTrackingCycle q slice _ _ _ _ _ => quadWf q && slice < 5
  | .bankConversionStop b => bankWf b
  | .bankDrainDone b => bankWf b
  | .gobOutput n _ _ _ _ => chanWf n
  | .coarseValuePublish n => chanWf n
  | .coarseBlockEnd n => chanWf n
  | .shadowSumRestart n stage _ => chanWf n && stage < 5
  | .gobFlushInterval n => chanWf n
  | .mainsCrossing d _ => dieWf d
  | .mainsMissedCycles d => dieWf d
  | .lehrRound mismatchLane => (match mismatchLane with | some l => decide (l < 68) | none => true)
  | .lehrBlockMaxage p => pathWf p
  | .pathSourceStart p => pathWf p
  | .pathSourceEnd p => pathWf p
  | .detectorFire n _ _ _ _ => chanWf n
  | .trigInputEdge k _ _ => k < 8
  | .ilineEdge l => l < 4
  | .ilinePulseEnd lines => lines < 16
  | .matrixEvent src _ _ => src.wf
  | .matrixEventExpiry output => outWf output
  | .matrixHoldoffEnd output => outWf output
  | .remoteTrigger dir lane _ => bundleWf dir && laneWf lane
  | .segmentComplete n _ => chanWf n
  | .segmentRearm n => chanWf n
  | .arm h n clause _ => h.wf && chanWf n && clause < 256
  | .disarm h n clause _ => h.wf && chanWf n && clause < 256
  | .force h n clause _ => h.wf && chanWf n && clause < 256
  | .ovfResumeRearm n => chanWf n
  | .collectorPass d => dieWf d
  | .frameEnqueue q ftype src payload _ => queueWf q && ftype < 16 && src < 4096 && payload.length ≤ 65504
  | .spillHeadRefill q => queueWf q
  | .frameIn h q clause _ => h.wf && queueWf q && clause < 256
  | .framePop h q clause _ => h.wf && queueWf q && clause < 256
  | .hwConsumerStart q check => queueWf q && (match check with | .uncorrectable cell => cell < 256 | _ => true)
  | .fritBlockDone c => ctxWf c
  | .fritBlockMaxage c => ctxWf c
  | .flush h c clause _ => h.wf && ctxWf c && clause < 256
  | .submit h j clause _ => h.wf && jobWf j && clause < 256
  | .fritJobStart j => jobWf j
  | .fritJobBlock j => jobWf j
  | .continue_ h j clause _ => h.wf && jobWf j && clause < 256
  | .dramRequest ch port _ addr _ tenant _ => dramWf ch && portWf port && addr < 2 ^ 64 && tenant < 1024
  | .urgencyLevelChange port _ => portWf port
  | .dramAccessComplete ch _ check _ => dramWf ch && checkWf check
  | .writeCrcError ch => dramWf ch
  | .refreshDue ch _ _ => dramWf ch
  | .patrolScrub ch addr check _ => dramWf ch && addr < 2 ^ 64 && checkWf check
  | .odeccHourly ch _ => dramWf ch
  | .selfRefreshIdle ch => dramWf ch
  | .diagRead h clause _ => h.wf && clause < 256
  | .releaseResume h clause => h.wf && clause < 256
  | .releaseDiscard h clause => h.wf && clause < 256
  | .dramTrainingDone ch _ _ => dramWf ch
  | .pprNow h clause _ => h.wf && clause < 256
  | .pprRowDone ch => dramWf ch
  | .huntWindow lane line => laneWf lane && line.length ≤ 268
  | .dataBlock lane line => laneWf lane && line.length ≤ 268
  | .idleEnter lane _ => laneWf lane
  | .train lane _ => laneWf lane
  | .fullTrainingDone bundle eyes => bundleWf bundle && eyes.all (· < 256)
  | .ack bundle lane _ => bundleWf bundle && laneWf lane
  | .nak bundle lane _ => bundleWf bundle && laneWf lane
  | .fill lane _ => laneWf lane
  | .sof bundle lane _ => bundleWf bundle && laneWf lane
  | .eof bundle lane _ => bundleWf bundle && laneWf lane
  | .trainingBurst lane => laneWf lane
  | .idleExitLockTimeout lane => laneWf lane
  | .eyeAlarmTimeout lane => laneWf lane
  | .ackInterval bundle => bundleWf bundle
  | .resendTimeout bundle => bundleWf bundle
  | .bundleDownTimeout bundle => bundleWf bundle
  | .reorderHoldExpiry origin route => addrWf origin && route < 64
  | .relayLoadMeasure bundle _ => bundleWf bundle
  | .ethernetFrameRx mac _ _ => macWf mac
  | .injectionPermitExpiry => true
  | .laneRestore h clause _ => h.wf && clause < 256
  | .vinPowerOn => true
  | .rstNLow => true
  | .rstNRelease => true
  | .brownOut _ => true
  | .bootImageVerified _ _ => true
  | .calibrateDone => true
  | .modeReqAcquire h clause => h.wf && clause < 256
  | .modeReqCommission h clause => h.wf && clause < 256
  | .modeReqTest h clause => h.wf && clause < 256
  | .modeReqLeaveTest h clause => h.wf && clause < 256
  | .modeReqSafe h clause => h.wf && clause < 256
  | .modeReqLeaveSafe h clause => h.wf && clause < 256
  | .modeReqDormant h clause => h.wf && clause < 256
  | .dormantLanesIdle => true
  | .wakePin => true
  | .wakeAt => true
  | .tjThrottleStep die _ => die < 8
  | .throttleRestore die _ => die < 8
  | .vinCurrentLimit => true
  | .vinCurrentSustained => true
  | .tjLimit die _ _ => die < 8
  | .fwActivateNow h clause => h.wf && clause < 256
  | .fwActivateNextStart h clause => h.wf && clause < 256
  | .coreHandoverDone _ => true
  | .vddqTimeout => true
  | .jtagInstruction _ => true
  | .sliceHardFault n => chanWf n
  | .substReqMove h q c clause => h.wf && quadWf q && c < 4 && clause < 256
  | .substReqRestore h q clause => h.wf && quadWf q && clause < 256
  | .substShadowEnd q => quadWf q
  | .substMatchDone q => quadWf q
  | .substFadeEnd q => quadWf q
  | .coreWatchdogMiss core => core < 5
  | .sramRowRemap mem => (match mem with | .frontDie d => dieWf d | .queueCells => true)
  | .ageingMeasurement d _ => d < 8
  | .sealLoopSample _ => true
  | .seal h clause _ => h.wf && clause < 256
  | .sealingDone => true
  | .unseal h clause _ => h.wf && clause < 256
  | .progActivate h clause _ => h.wf && clause < 256
  | .legalBlockCopy p _ => pathWf p
  | .legalNotice _ => true
  | .legalMissingTimeout p => pathWf p
  | .ampWatchdogMiss => true
  | .ampRestart h clause _ => h.wf && clause < 256
  | .ampTimeUpdate => true
  | .auditSel h clause _ => h.wf && clause < 256
  | .lrecPop h clause _ => h.wf && clause < 256
  | .dtlsAssociationEnd session => session < 64
  | .chainMemberLockRequest coordinator coordClause items => addrWf coordinator && clauseWf coordClause && items.all LockItem.wf
  | .chainMemberAnswer clause member _ status => clauseWf clause && addrWf member && status < 65536
  | .chainMemberAbandon coordinator coordClause => addrWf coordinator && clauseWf coordClause
  | .unsealingDone => true
  | .ampouleRestartComplete => true
  | .sidebandTransferEnd die _ => dieWf die
  | .macLinkChange mac _ => macWf mac

end Sys2Proof
end

