-- ==== Sys2Proof/Tests/Slice0.lean ====
section
/-! SUPPORT. The author's tests: what WellFormed refuses, a few values from the manual, and for every clause of the statements
a state and operands that meet its hypotheses together. -/

set_option Elab.async false
set_option linter.unusedVariables false

namespace Sys2Proof.Tests

open Sys2Proof Sys2Proof.Machine

/-- The state after reset with some registers set. -/
def presets (l : List (Reg × Nat)) : State := l.foldl (fun s e => s.wr e.1 e.2) State.reset

/-- A running hub in Acquire with the Owner's DTLS session 3, and some registers set. -/
def running (l : List (Reg × Nat)) : State :=
  let s := presets ([(R.se_S_TRANSPORT 3, 1), (R.se_S_TENANT 3, 0), (R.tm_INCR, 40000 * 2 ^ 32)] ++ l)
  { s with
    mode := { s.mode with base := .acquire, coresRun := true, started := true }
    time := { s.time with running := true, ticks := 123456789012345678 } }

/-- The same, long after it started. -/
def runningLate (l : List (Reg × Nat)) : State :=
  let s := running l
  s.putTime { s.time with edge := 2000000000 }

/-- A register that is not among the presets reads as after reset. -/
theorem presets_rd (l : List (Reg × Nat)) (r : Reg) (h : ∀ e ∈ l, r ≠ e.1) : (presets l).rd r = State.reset.rd r := by
  suffices k : ∀ s : State, (l.foldl (fun s e => s.wr e.1 e.2) s).rd r = s.rd r from k _
  induction l with
  | nil => exact fun _ => rfl
  | cons e l ih =>
    intro s
    rw [List.foldl_cons, ih (fun x m => h x (List.mem_cons_of_mem _ m)), State.wr_rd, if_neg (h e List.mem_cons_self)]

theorem running_rd (l : List (Reg × Nat)) (r : Reg)
    (h : ∀ e ∈ [(R.se_S_TRANSPORT 3, 1), (R.se_S_TENANT 3, 0), (R.tm_INCR, 40000 * 2 ^ 32)] ++ l, r ≠ e.1) :
    (running l).rd r = State.reset.rd r :=
  presets_rd _ r h

/-- A request's header on that session. -/
def ownHdr : Hdr := ⟨3, 7, false, 0, true⟩

/-- The test of `OwnerAsks`. -/
def asksOk (s : State) (h : Hdr) (typ : Nat) : Bool :=
  s.mode.coresRun && s.mode.base != .boot && h.formOk && !h.remote && h.hub == 0 && s.sessionOpen h.session
    && !(s.session h.session).withdrawn && s.sessionTenant h.session == some 0
    && (s.held == [] && !s.awaits h.session) && ((s.session h.session).store.find? (fun e => e.typ == typ && e.tag == h.tag)).isNone

theorem asks_of (s : State) (h : Hdr) (typ : Nat) (k : asksOk s h typ = true) : OwnerAsks s h typ := by
  simp only [asksOk, Bool.and_eq_true, bne_iff_ne, Bool.not_eq_true', beq_iff_eq, Option.isNone_iff_eq_none] at k
  obtain ⟨⟨⟨⟨⟨⟨⟨⟨⟨a, b⟩, c⟩, d⟩, e⟩, f⟩, g⟩, i⟩, l, m⟩, j⟩ := k
  exact ⟨a, b, c, d, e, f, g, i, l, m, j⟩

/-- An answer whose code is 0. -/
theorem okPair (p : Nat × State) (h : p.1 = 0) : p = (0, p.2) := Prod.ext h rfl

/-! ### What WellFormed refuses, and what it takes -/

/-- Operands one beyond their range, one at a time, are not well formed. -/
theorem test_illFormed_1 : ([
    .adpRead ⟨65536, 7, false, 0, true⟩ 65535 255 255,
    .adpRead ⟨3, 7, false, 0, true⟩ 65536 255 255,
    .adpRead ⟨3, 7, false, 0, true⟩ 65535 256 255,
    .adpRead ⟨3, 7, false, 0, true⟩ 65535 255 256,
    .adpWrite ⟨65536, 7, false, 0, true⟩ 65535 255 255 [],
    .adpWrite ⟨3, 7, false, 0, true⟩ 65536 255 255 [],
    .adpWrite ⟨3, 7, false, 0, true⟩ 65535 256 255 [],
    .adpWrite ⟨3, 7, false, 0, true⟩ 65535 255 256 [],
    .blockRead ⟨65536, 7, false, 0, true⟩ 65535 255 255 4294967295 65536,
    .blockRead ⟨3, 7, false, 0, true⟩ 65536 255 255 4294967295 65536,
    .blockRead ⟨3, 7, false, 0, true⟩ 65535 256 255 4294967295 65536,
    .blockRead ⟨3, 7, false, 0, true⟩ 65535 255 256 4294967295 65536,
    .blockRead ⟨3, 7, false, 0, true⟩ 65535 255 255 4294967296 65536,
    .blockRead ⟨3, 7, false, 0, true⟩ 65535 255 255 4294967295 0,
    .blockRead ⟨3, 7, false, 0, true⟩ 65535 255 255 4294967295 65537,
    .blockWrite ⟨65536, 7, false, 0, true⟩ 65535 255 255 4294967295 [] true,
    .blockWrite ⟨3, 7, false, 0, true⟩ 65536 255 255 4294967295 [] true,
    .blockWrite ⟨3, 7, false, 0, true⟩ 65535 256 255 4294967295 [] true,
    .blockWrite ⟨3, 7, false, 0, true⟩ 65535 255 256 4294967295 [] true,
    .blockWrite ⟨3, 7, false, 0, true⟩ 65535 255 255 4294967296 [] true,
    .blockTransferTimeout 384 65535,
    .blockTransferTimeout 383 65536,
    .walk ⟨65536, 7, false, 0, true⟩ 65535 255 64,
    .walk ⟨3, 7, false, 0, true⟩ 65536 255 64,
    .walk ⟨3, 7, false, 0, true⟩ 65535 256 64] : List Instr).all (fun c => !c.wf) = true := by decide +kernel

/-- Operands one beyond their range, one at a time, are not well formed. -/
theorem test_illFormed_2 : ([
    .walk ⟨3, 7, false, 0, true⟩ 65535 255 0,
    .walk ⟨3, 7, false, 0, true⟩ 65535 255 65,
    .clauseOpen ⟨65536, 7, false, 0, true⟩ 4294967295 true [],
    .clauseOpen ⟨3, 7, false, 0, true⟩ 4294967296 true [],
    .clauseOpen ⟨3, 7, false, 0, true⟩ 4294967295 true (List.replicate 256 ⟨1, 1, 0⟩),
    .clauseOpen ⟨3, 7, false, 0, true⟩ 4294967295 true [⟨65536, 0, 0⟩],
    .clauseCommit ⟨65536, 7, false, 0, true⟩ 255,
    .clauseCommit ⟨3, 7, false, 0, true⟩ 256,
    .clauseCommitAt ⟨65536, 7, false, 0, true⟩ 255 18446744073709551615,
    .clauseCommitAt ⟨3, 7, false, 0, true⟩ 256 18446744073709551615,
    .clauseCommitAt ⟨3, 7, false, 0, true⟩ 255 0,
    .clauseCommitAt ⟨3, 7, false, 0, true⟩ 255 18446744073709551616,
    .scheduledClauseInstant 0,
    .scheduledClauseInstant 65,
    .clauseAbandon ⟨65536, 7, false, 0, true⟩ 255,
    .clauseAbandon ⟨3, 7, false, 0, true⟩ 256,
    .clauseLeaseExpiry 0,
    .clauseLeaseExpiry 65,
    .chainLockBackoffExpiry 0,
    .chainLockBackoffExpiry 65,
    .chainLockWaitTimeout 0,
    .chainLockWaitTimeout 65,
    .chainMemberAdmitRequest 256 64 18446744073709551615,
    .chainMemberAdmitRequest 255 0 18446744073709551615,
    .chainMemberAdmitRequest 255 65 18446744073709551615] : List Instr).all (fun c => !c.wf) = true := by decide +kernel

/-- Operands one beyond their range, one at a time, are not well formed. -/
theorem test_illFormed_3 : ([
    .chainMemberAdmitRequest 255 64 18446744073709551616,
    .chainPhase1Timeout 0 255,
    .chainPhase1Timeout 65 255,
    .chainPhase1Timeout 64 256,
    .chainGoAhead 256 64,
    .chainGoAhead 255 0,
    .chainGoAhead 255 65,
    .chainGoAheadDeadline 0,
    .chainGoAheadDeadline 65,
    .chainMemberDeadline 256 64,
    .chainMemberDeadline 255 0,
    .chainMemberDeadline 255 65,
    .subscribe ⟨65536, 7, false, 0, true⟩ 65535 65535,
    .subscribe ⟨3, 7, false, 0, true⟩ 65536 65535,
    .subscribe ⟨3, 7, false, 0, true⟩ 65535 65536,
    .unsubscribe ⟨65536, 7, false, 0, true⟩ 65535,
    .unsubscribe ⟨3, 7, false, 0, true⟩ 65536,
    .abortCapture ⟨65536, 7, false, 0, true⟩ 65535,
    .abortCapture ⟨3, 7, false, 0, true⟩ 65536,
    .abortTdr ⟨65536, 7, false, 0, true⟩ 65535,
    .abortTdr ⟨3, 7, false, 0, true⟩ 65536,
    .abortPath ⟨65536, 7, false, 0, true⟩ 65535,
    .abortPath ⟨3, 7, false, 0, true⟩ 65536,
    .abortTenantPaths ⟨65536, 7, false, 0, true⟩,
    .abortFritJob ⟨65536, 7, false, 0, true⟩ 65535] : List Instr).all (fun c => !c.wf) = true := by decide +kernel

/-- Operands one beyond their range, one at a time, are not well formed. -/
theorem test_illFormed_4 : ([
    .abortFritJob ⟨3, 7, false, 0, true⟩ 65536,
    .abortDramTransfer ⟨65536, 7, false, 0, true⟩ 65535,
    .abortDramTransfer ⟨3, 7, false, 0, true⟩ 65536,
    .abortClause ⟨65536, 7, false, 0, true⟩ 65535,
    .abortClause ⟨3, 7, false, 0, true⟩ 65536,
    .abortBlockTransfer ⟨65536, 7, false, 0, true⟩ 65535,
    .abortBlockTransfer ⟨3, 7, false, 0, true⟩ 65536,
    .abortAll ⟨65536, 7, false, 0, true⟩,
    .dtlsHandshake 115792089237316195423570985008687907853269984665640564039457584007913129639936,
    .canSegmentRx true true 64 [],
    .canSegmentRx true true 63 (List.replicate 64 0#8),
    .sessionTimeout 64,
    .relayedAdpRx 2 255 65535 63 [],
    .relayedAdpRx 1 256 65535 63 [],
    .relayedAdpRx 1 255 65536 63 [],
    .relayedAdpRx 1 255 65535 64 [],
    .remoteAnswerTimeout 64 65535,
    .remoteAnswerTimeout 63 65536,
    .timeMeasurement 0 0,
    .timeMeasurement 8 0,
    .sourceQualified 0,
    .sourceQualified 8,
    .sourceDisqualified 0,
    .sourceDisqualified 8,
    .setTime ⟨65536, 7, false, 0, true⟩ 255 []] : List Instr).all (fun c => !c.wf) = true := by decide +kernel

/-- Operands one beyond their range, one at a time, are not well formed. -/
theorem test_illFormed_5 : ([
    .setTime ⟨3, 7, false, 0, true⟩ 256 [],
    .acceptStep ⟨65536, 7, false, 0, true⟩ 255 [],
    .acceptStep ⟨3, 7, false, 0, true⟩ 256 [],
    .beacon 2 17 0#256 1,
    .beacon 1 18 0#256 1,
    .ptpMessageRx 4 255 (.delayReq 1 0) 0,
    .ptpMessageRx 3 256 (.delayReq 1 0) 0,
    .ptpMessageTx 4 .sync 0,
    .timeTriggerFire 16,
    .launchTimeReached 8 63,
    .launchTimeReached 7 64,
    .portFrameTx 8 63,
    .portFrameTx 7 64,
    .txtsPop ⟨65536, 7, false, 0, true⟩ 3 255 [],
    .txtsPop ⟨3, 7, false, 0, true⟩ 4 255 [],
    .txtsPop ⟨3, 7, false, 0, true⟩ 3 256 [],
    .txtsStickyClr ⟨65536, 7, false, 0, true⟩ 3 255 [],
    .txtsStickyClr ⟨3, 7, false, 0, true⟩ 4 255 [],
    .txtsStickyClr ⟨3, 7, false, 0, true⟩ 3 256 [],
    .flitRx 0 true 0#1024,
    .flitRx 8 true 0#1024,
    .linkReplayRequest 0 true 4095,
    .linkReplayRequest 8 true 4095,
    .linkReplayRequest 7 true 4096,
    .linkRetrainDone 0] : List Instr).all (fun c => !c.wf) = true := by decide +kernel

/-- Operands one beyond their range, one at a time, are not well formed. -/
theorem test_illFormed_6 : ([
    .linkRetrainDone 8,
    .linkReplayWindow 0,
    .linkReplayWindow 8,
    .sidebandRequest 0 none none true,
    .sidebandRequest 8 none none true,
    .sidebandRequest 7 (some ⟨2 ^ 24, []⟩) none true,
    .sidebandRequest 7 (some ⟨1, List.replicate 65 0#8⟩) none true,
    .sidebandRequest 7 none (some ⟨2 ^ 24, []⟩) true,
    .sidebandRequest 7 none (some ⟨1, List.replicate 65 0#8⟩) true,
    .sidebandBackoffExpiry 0,
    .sidebandBackoffExpiry 8,
    .fabricParityError 16 15 true,
    .fabricParityError 15 16 true,
    .slipLimitShed 0 1,
    .slipLimitShed 8 1,
    .shedRestore 0 1,
    .shedRestore 8 1,
    .ebufPeakClr ⟨65536, 7, false, 0, true⟩ 7 255 [],
    .ebufPeakClr ⟨3, 7, false, 0, true⟩ 0 255 [],
    .ebufPeakClr ⟨3, 7, false, 0, true⟩ 8 255 [],
    .ebufPeakClr ⟨3, 7, false, 0, true⟩ 7 256 [],
    .stageChangeDone 896,
    .inputOverRange 896 true true true,
    .terminationOvervoltage 896,
    .terminationReclose 896] : List Instr).all (fun c => !c.wf) = true := by decide +kernel

/-- Operands one beyond their range, one at a time, are not well formed. -/
theorem test_illFormed_7 : ([
    .excSenseLoopFault 224,
    .excCurrentLimit 224 true true,
    .vinFallClamp 224 1,
    .vinRecovered 224 1,
    .pwmRisingEdge 224,
    .pwmFallingEdge 224,
    .owSlotDue 896,
    .owNow ⟨65536, 7, false, 0, true⟩ 895 255 [],
    .owNow ⟨3, 7, false, 0, true⟩ 896 255 [],
    .owNow ⟨3, 7, false, 0, true⟩ 895 256 [],
    .owSlotStart 896,
    .owSlotEnd 896 0 true,
    .tdrStart ⟨65536, 7, false, 0, true⟩ 895 255 [],
    .tdrStart ⟨3, 7, false, 0, true⟩ 896 255 [],
    .tdrStart ⟨3, 7, false, 0, true⟩ 895 256 [],
    .tdrNoEdge 896,
    .tdrRunEnd 896 [],
    .burstStartEvent 224,
    .sliceWake 224,
    .burstEnd 224 [],
    .bankReadyAt 28,
    .refBufferTimeout 28,
    .refSupervisionAverage 0 1 1 1,
    .refSupervisionAverage 8 1 1 1,
    .refFlagClear 0 true] : List Instr).all (fun c => !c.wf) = true := by decide +kernel

/-- Operands one beyond their range, one at a time, are not well formed. -/
theorem test_illFormed_8 : ([
    .refFlagClear 8 true,
    .refRecal ⟨65536, 7, false, 0, true⟩ 7 255 [],
    .refRecal ⟨3, 7, false, 0, true⟩ 0 255 [],
    .refRecal ⟨3, 7, false, 0, true⟩ 8 255 [],
    .refRecal ⟨3, 7, false, 0, true⟩ 7 256 [],
    .refRecalDone 0 1 1 1,
    .refRecalDone 8 1 1 1,
    .calNow ⟨65536, 7, false, 0, true⟩ 27 255 [],
    .calNow ⟨3, 7, false, 0, true⟩ 28 255 [],
    .calNow ⟨3, 7, false, 0, true⟩ 27 256 [],
    .calNowDone 28,
    .backgroundTrackingCycle 224 4 0 0 0 0 true,
    .backgroundTrackingCycle 223 5 0 0 0 0 true,
    .bankConversionStop 28,
    .bankDrainDone 28,
    .gobOutput 896 0 0 ⟨false, false, false, false, false, false, false⟩ 1,
    .coarseValuePublish 896,
    .coarseBlockEnd 896,
    .shadowSumRestart 896 4 true,
    .shadowSumRestart 895 5 true,
    .gobFlushInterval 896,
    .mainsCrossing 0 0,
    .mainsCrossing 8 0,
    .mainsMissedCycles 0,
    .mainsMissedCycles 8] : List Instr).all (fun c => !c.wf) = true := by decide +kernel

/-- Operands one beyond their range, one at a time, are not well formed. -/
theorem test_illFormed_9 : ([
    .lehrRound (some 68),
    .lehrBlockMaxage 4096,
    .pathSourceStart 4096,
    .pathSourceEnd 4096,
    .detectorFire 896 0 0 1 1,
    .trigInputEdge 8 true 1,
    .ilineEdge 4,
    .ilinePulseEnd 16,
    .matrixEvent (.channel 896) 1 true,
    .matrixEvent (.trig 8) 1 true,
    .matrixEvent (.iline 4) 1 true,
    .matrixEvent (.timer 16) 1 true,
    .matrixEvent (.remote 16) 1 true,
    .matrixEventExpiry 32,
    .matrixHoldoffEnd 32,
    .remoteTrigger 2 17 0#256,
    .remoteTrigger 1 18 0#256,
    .segmentComplete 896 [],
    .segmentRearm 896,
    .arm ⟨65536, 7, false, 0, true⟩ 895 255 [],
    .arm ⟨3, 7, false, 0, true⟩ 896 255 [],
    .arm ⟨3, 7, false, 0, true⟩ 895 256 [],
    .disarm ⟨65536, 7, false, 0, true⟩ 895 255 [],
    .disarm ⟨3, 7, false, 0, true⟩ 896 255 [],
    .disarm ⟨3, 7, false, 0, true⟩ 895 256 []] : List Instr).all (fun c => !c.wf) = true := by decide +kernel

/-- Operands one beyond their range, one at a time, are not well formed. -/
theorem test_illFormed_10 : ([
    .force ⟨65536, 7, false, 0, true⟩ 895 255 [],
    .force ⟨3, 7, false, 0, true⟩ 896 255 [],
    .force ⟨3, 7, false, 0, true⟩ 895 256 [],
    .ovfResumeRearm 896,
    .collectorPass 0,
    .collectorPass 8,
    .frameEnqueue 8192 15 4095 [] none,
    .frameEnqueue 8191 16 4095 [] none,
    .frameEnqueue 8191 15 4096 [] none,
    .spillHeadRefill 8192,
    .frameIn ⟨65536, 7, false, 0, true⟩ 8191 255 [],
    .frameIn ⟨3, 7, false, 0, true⟩ 8192 255 [],
    .frameIn ⟨3, 7, false, 0, true⟩ 8191 256 [],
    .framePop ⟨65536, 7, false, 0, true⟩ 8191 255 [],
    .framePop ⟨3, 7, false, 0, true⟩ 8192 255 [],
    .framePop ⟨3, 7, false, 0, true⟩ 8191 256 [],
    .hwConsumerStart 8192 (.uncorrectable 255),
    .hwConsumerStart 8191 (.uncorrectable 256),
    .fritBlockDone 64,
    .fritBlockMaxage 64,
    .flush ⟨65536, 7, false, 0, true⟩ 63 255 [],
    .flush ⟨3, 7, false, 0, true⟩ 64 255 [],
    .flush ⟨3, 7, false, 0, true⟩ 63 256 [],
    .submit ⟨65536, 7, false, 0, true⟩ 31 255 [],
    .submit ⟨3, 7, false, 0, true⟩ 32 255 []] : List Instr).all (fun c => !c.wf) = true := by decide +kernel

/-- Operands one beyond their range, one at a time, are not well formed. -/
theorem test_illFormed_11 : ([
    .submit ⟨3, 7, false, 0, true⟩ 31 256 [],
    .fritJobStart 32,
    .fritJobBlock 32,
    .continue_ ⟨65536, 7, false, 0, true⟩ 31 255 [],
    .continue_ ⟨3, 7, false, 0, true⟩ 32 255 [],
    .continue_ ⟨3, 7, false, 0, true⟩ 31 256 [],
    .dramRequest 4 15 true 18446744073709551615 [] 1023 true,
    .dramRequest 3 16 true 18446744073709551615 [] 1023 true,
    .dramRequest 3 15 true 18446744073709551616 [] 1023 true,
    .dramRequest 3 15 true 18446744073709551615 [] 1024 true,
    .urgencyLevelChange 16 1,
    .dramAccessComplete 4 true (.doubleBit 7) 1,
    .dramAccessComplete 3 true (.doubleBit 8) 1,
    .dramAccessComplete 3 true (.addressCrc 8) 1,
    .writeCrcError 4,
    .refreshDue 4 1 true,
    .patrolScrub 4 18446744073709551615 (.doubleBit 7) 1,
    .patrolScrub 3 18446744073709551616 (.doubleBit 7) 1,
    .patrolScrub 3 18446744073709551615 (.doubleBit 8) 1,
    .patrolScrub 3 18446744073709551615 (.addressCrc 8) 1,
    .odeccHourly 4 1,
    .selfRefreshIdle 4,
    .diagRead ⟨65536, 7, false, 0, true⟩ 255 [],
    .diagRead ⟨3, 7, false, 0, true⟩ 256 [],
    .releaseResume ⟨65536, 7, false, 0, true⟩ 255] : List Instr).all (fun c => !c.wf) = true := by decide +kernel

/-- Operands one beyond their range, one at a time, are not well formed. -/
theorem test_illFormed_12 : ([
    .releaseResume ⟨3, 7, false, 0, true⟩ 256,
    .releaseDiscard ⟨65536, 7, false, 0, true⟩ 255,
    .releaseDiscard ⟨3, 7, false, 0, true⟩ 256,
    .dramTrainingDone 4 true 1,
    .pprNow ⟨65536, 7, false, 0, true⟩ 255 [],
    .pprNow ⟨3, 7, false, 0, true⟩ 256 [],
    .pprRowDone 4,
    .huntWindow 18 [],
    .huntWindow 17 (List.replicate 269 false),
    .dataBlock 18 [],
    .dataBlock 17 (List.replicate 269 false),
    .idleEnter 18 0#256,
    .train 18 0#256,
    .fullTrainingDone 2 [],
    .fullTrainingDone 1 [255, 256],
    .ack 2 17 0#256,
    .ack 1 18 0#256,
    .nak 2 17 0#256,
    .nak 1 18 0#256,
    .fill 18 0#256,
    .sof 2 17 0#256,
    .sof 1 18 0#256,
    .eof 2 17 0#256,
    .eof 1 18 0#256,
    .trainingBurst 18] : List Instr).all (fun c => !c.wf) = true := by decide +kernel

/-- Operands one beyond their range, one at a time, are not well formed. -/
theorem test_illFormed_13 : ([
    .idleExitLockTimeout 18,
    .eyeAlarmTimeout 18,
    .ackInterval 2,
    .resendTimeout 2,
    .bundleDownTimeout 2,
    .reorderHoldExpiry 256 63,
    .reorderHoldExpiry 255 64,
    .relayLoadMeasure 2 1,
    .ethernetFrameRx 4 true .other,
    .laneRestore ⟨65536, 7, false, 0, true⟩ 255 [],
    .laneRestore ⟨3, 7, false, 0, true⟩ 256 [],
    .modeReqAcquire ⟨65536, 7, false, 0, true⟩ 255,
    .modeReqAcquire ⟨3, 7, false, 0, true⟩ 256,
    .modeReqCommission ⟨65536, 7, false, 0, true⟩ 255,
    .modeReqCommission ⟨3, 7, false, 0, true⟩ 256,
    .modeReqTest ⟨65536, 7, false, 0, true⟩ 255,
    .modeReqTest ⟨3, 7, false, 0, true⟩ 256,
    .modeReqLeaveTest ⟨65536, 7, false, 0, true⟩ 255,
    .modeReqLeaveTest ⟨3, 7, false, 0, true⟩ 256,
    .modeReqSafe ⟨65536, 7, false, 0, true⟩ 255,
    .modeReqSafe ⟨3, 7, false, 0, true⟩ 256,
    .modeReqLeaveSafe ⟨65536, 7, false, 0, true⟩ 255,
    .modeReqLeaveSafe ⟨3, 7, false, 0, true⟩ 256,
    .modeReqDormant ⟨65536, 7, false, 0, true⟩ 255,
    .modeReqDormant ⟨3, 7, false, 0, true⟩ 256] : List Instr).all (fun c => !c.wf) = true := by decide +kernel

/-- Operands one beyond their range, one at a time, are not well formed. -/
theorem test_illFormed_14 : ([
    .tjThrottleStep 8 0,
    .throttleRestore 8 0,
    .tjLimit 8 0 true,
    .fwActivateNow ⟨65536, 7, false, 0, true⟩ 255,
    .fwActivateNow ⟨3, 7, false, 0, true⟩ 256,
    .fwActivateNextStart ⟨65536, 7, false, 0, true⟩ 255,
    .fwActivateNextStart ⟨3, 7, false, 0, true⟩ 256,
    .sliceHardFault 896,
    .substReqMove ⟨65536, 7, false, 0, true⟩ 223 3 255,
    .substReqMove ⟨3, 7, false, 0, true⟩ 224 3 255,
    .substReqMove ⟨3, 7, false, 0, true⟩ 223 4 255,
    .substReqMove ⟨3, 7, false, 0, true⟩ 223 3 256,
    .substReqRestore ⟨65536, 7, false, 0, true⟩ 223 255,
    .substReqRestore ⟨3, 7, false, 0, true⟩ 224 255,
    .substReqRestore ⟨3, 7, false, 0, true⟩ 223 256,
    .substShadowEnd 224,
    .substMatchDone 224,
    .substFadeEnd 224,
    .coreWatchdogMiss 5,
    .sramRowRemap (.frontDie 8),
    .ageingMeasurement 8 1,
    .seal ⟨65536, 7, false, 0, true⟩ 255 [],
    .seal ⟨3, 7, false, 0, true⟩ 256 [],
    .unseal ⟨65536, 7, false, 0, true⟩ 255 [],
    .unseal ⟨3, 7, false, 0, true⟩ 256 []] : List Instr).all (fun c => !c.wf) = true := by decide +kernel

/-- Operands one beyond their range, one at a time, are not well formed. -/
theorem test_illFormed_15 : ([
    .progActivate ⟨65536, 7, false, 0, true⟩ 255 [],
    .progActivate ⟨3, 7, false, 0, true⟩ 256 [],
    .legalBlockCopy 4096 [],
    .legalMissingTimeout 4096,
    .ampRestart ⟨65536, 7, false, 0, true⟩ 255 [],
    .ampRestart ⟨3, 7, false, 0, true⟩ 256 [],
    .auditSel ⟨65536, 7, false, 0, true⟩ 255 [],
    .auditSel ⟨3, 7, false, 0, true⟩ 256 [],
    .lrecPop ⟨65536, 7, false, 0, true⟩ 255 [],
    .lrecPop ⟨3, 7, false, 0, true⟩ 256 [],
    .dtlsAssociationEnd 64,
    .chainMemberLockRequest 256 64 [],
    .chainMemberLockRequest 255 0 [],
    .chainMemberLockRequest 255 65 [],
    .chainMemberLockRequest 255 64 [⟨65536, 0, 0⟩],
    .chainMemberAnswer 0 255 .lock 65535,
    .chainMemberAnswer 65 255 .lock 65535,
    .chainMemberAnswer 64 256 .lock 65535,
    .chainMemberAnswer 64 255 .lock 65536,
    .chainMemberAbandon 256 64,
    .chainMemberAbandon 255 0,
    .chainMemberAbandon 255 65,
    .sidebandTransferEnd 0 true,
    .sidebandTransferEnd 8 true,
    .macLinkChange 4 true] : List Instr).all (fun c => !c.wf) = true := by decide +kernel

/-- Operands one beyond their range, one at a time, are not well formed. -/
theorem test_illFormed_16 : ([
    .clauseOpen ⟨3, 65536, false, 0, true⟩ 0 true [],
    .clauseOpen ⟨3, 7, false, 2, true⟩ 0 true [],
    .clauseOpen ⟨3, 7, true, 256, true⟩ 0 true [],
    .adpWrite ⟨3, 7, false, 0, true⟩ 1 1 0 (List.replicate 16369 0#8),
    .blockWrite ⟨3, 7, false, 0, true⟩ 1 1 0 0 (List.replicate 16365 0#8) true,
    .clauseOpen ⟨3, 7, false, 0, true⟩ 0 true [⟨1, 256, 0⟩],
    .clauseOpen ⟨3, 7, false, 0, true⟩ 0 true [⟨1, 0, 256⟩]] : List Instr).all (fun c => !c.wf) = true := by decide +kernel

/-- Operands at the top of their ranges are well formed. -/
theorem test_wellFormed_1 : ([
    .adpRead ⟨3, 7, false, 0, true⟩ 65535 255 255,
    .adpWrite ⟨3, 7, false, 0, true⟩ 65535 255 255 [],
    .blockRead ⟨3, 7, false, 0, true⟩ 65535 255 255 4294967295 65536,
    .blockWrite ⟨3, 7, false, 0, true⟩ 65535 255 255 4294967295 [] true,
    .blockTransferTimeout 383 65535,
    .walk ⟨3, 7, false, 0, true⟩ 65535 255 64,
    .clauseOpen ⟨3, 7, false, 0, true⟩ 4294967295 true [],
    .clauseCommit ⟨3, 7, false, 0, true⟩ 255,
    .clauseCommitAt ⟨3, 7, false, 0, true⟩ 255 18446744073709551615,
    .scheduledClauseInstant 64,
    .clauseAbandon ⟨3, 7, false, 0, true⟩ 255,
    .clauseLeaseExpiry 64,
    .chainLockBackoffExpiry 64,
    .chainLockWaitTimeout 64,
    .chainMemberAdmitRequest 255 64 18446744073709551615,
    .chainPhase1Timeout 64 255,
    .chainGoAhead 255 64,
    .chainGoAheadDeadline 64,
    .chainMemberDeadline 255 64,
    .subscribe ⟨3, 7, false, 0, true⟩ 65535 65535,
    .unsubscribe ⟨3, 7, false, 0, true⟩ 65535,
    .abortCapture ⟨3, 7, false, 0, true⟩ 65535,
    .abortTdr ⟨3, 7, false, 0, true⟩ 65535,
    .abortPath ⟨3, 7, false, 0, true⟩ 65535,
    .abortTenantPaths ⟨3, 7, false, 0, true⟩] : List Instr).all (fun c => c.wf) = true := by decide +kernel

/-- Operands at the top of their ranges are well formed. -/
theorem test_wellFormed_2 : ([
    .abortFritJob ⟨3, 7, false, 0, true⟩ 65535,
    .abortDramTransfer ⟨3, 7, false, 0, true⟩ 65535,
    .abortClause ⟨3, 7, false, 0, true⟩ 65535,
    .abortBlockTransfer ⟨3, 7, false, 0, true⟩ 65535,
    .abortAll ⟨3, 7, false, 0, true⟩,
    .dtlsHandshake 115792089237316195423570985008687907853269984665640564039457584007913129639935,
    .canSegmentRx true true 63 [],
    .canBusOff,
    .sessionTimeout 63,
    .relayedAdpRx 1 255 65535 63 [],
    .remoteAnswerTimeout 63 65535,
    .timeMeasurement 7 0,
    .sourceQualified 7,
    .sourceDisqualified 7,
    .lockWindowElapsed,
    .freqLimitClear,
    .setTime ⟨3, 7, false, 0, true⟩ 255 [],
    .acceptStep ⟨3, 7, false, 0, true⟩ 255 [],
    .refclkLost,
    .refclkRelock,
    .beacon 1 17 0#256 1,
    .beaconTx,
    .ptpMessageRx 3 255 (.delayReq 1 0) 0,
    .ptpMessageTx 3 .sync 0,
    .timeTriggerFire 15] : List Instr).all (fun c => c.wf) = true := by decide +kernel

/-- Operands at the top of their ranges are well formed. -/
theorem test_wellFormed_3 : ([
    .ppsOutEdge,
    .ppsOutWidthEnd,
    .ppsInEdge 1,
    .launchTimeReached 7 63,
    .portFrameTx 7 63,
    .txtsPop ⟨3, 7, false, 0, true⟩ 3 255 [],
    .txtsStickyClr ⟨3, 7, false, 0, true⟩ 3 255 [],
    .flitRx 7 true 0#1024,
    .linkReplayRequest 7 true 4095,
    .linkRetrainDone 7,
    .linkReplayWindow 7,
    .sidebandRequest 7 none none true,
    .sidebandBackoffExpiry 7,
    .fabricParityError 15 15 true,
    .slipLimitShed 7 1,
    .shedRestore 7 1,
    .ebufPeakClr ⟨3, 7, false, 0, true⟩ 7 255 [],
    .stageChangeDone 895,
    .inputOverRange 895 true true true,
    .terminationOvervoltage 895,
    .terminationReclose 895,
    .excSenseLoopFault 223,
    .excCurrentLimit 223 true true,
    .vinFallClamp 223 1,
    .vinRecovered 223 1] : List Instr).all (fun c => c.wf) = true := by decide +kernel

/-- Operands at the top of their ranges are well formed. -/
theorem test_wellFormed_4 : ([
    .pwmRisingEdge 223,
    .pwmFallingEdge 223,
    .owSlotDue 895,
    .owNow ⟨3, 7, false, 0, true⟩ 895 255 [],
    .owSlotStart 895,
    .owSlotEnd 895 0 true,
    .tdrStart ⟨3, 7, false, 0, true⟩ 895 255 [],
    .tdrNoEdge 895,
    .tdrRunEnd 895 [],
    .burstStartEvent 223,
    .sliceWake 223,
    .burstEnd 223 [],
    .bankReadyAt 27,
    .refBufferTimeout 27,
    .refSupervisionAverage 7 1 1 1,
    .refFlagClear 7 true,
    .refRecal ⟨3, 7, false, 0, true⟩ 7 255 [],
    .refRecalDone 7 1 1 1,
    .calNow ⟨3, 7, false, 0, true⟩ 27 255 [],
    .calNowDone 27,
    .backgroundTrackingCycle 223 4 0 0 0 0 true,
    .bankConversionStop 27,
    .bankDrainDone 27,
    .gobOutput 895 0 0 ⟨false, false, false, false, false, false, false⟩ 1,
    .coarseValuePublish 895] : List Instr).all (fun c => c.wf) = true := by decide +kernel

/-- Operands at the top of their ranges are well formed. -/
theorem test_wellFormed_5 : ([
    .coarseBlockEnd 895,
    .shadowSumRestart 895 4 true,
    .gobFlushInterval 895,
    .mainsCrossing 7 0,
    .mainsMissedCycles 7,
    .lehrRound (some 67),
    .lehrBlockMaxage 4095,
    .pathSourceStart 4095,
    .pathSourceEnd 4095,
    .detectorFire 895 0 0 1 1,
    .trigInputEdge 7 true 1,
    .ilineEdge 3,
    .ilinePulseEnd 15,
    .matrixEvent (.trig 1) 1 true,
    .matrixEventExpiry 31,
    .matrixHoldoffEnd 31,
    .remoteTrigger 1 17 0#256,
    .segmentComplete 895 [],
    .segmentRearm 895,
    .arm ⟨3, 7, false, 0, true⟩ 895 255 [],
    .disarm ⟨3, 7, false, 0, true⟩ 895 255 [],
    .force ⟨3, 7, false, 0, true⟩ 895 255 [],
    .ovfResumeRearm 895,
    .collectorPass 7,
    .frameEnqueue 8191 15 4095 [] none] : List Instr).all (fun c => c.wf) = true := by decide +kernel

/-- Operands at the top of their ranges are well formed. -/
theorem test_wellFormed_6 : ([
    .spillHeadRefill 8191,
    .frameIn ⟨3, 7, false, 0, true⟩ 8191 255 [],
    .framePop ⟨3, 7, false, 0, true⟩ 8191 255 [],
    .hwConsumerStart 8191 (.uncorrectable 255),
    .fritBlockDone 63,
    .fritBlockMaxage 63,
    .flush ⟨3, 7, false, 0, true⟩ 63 255 [],
    .submit ⟨3, 7, false, 0, true⟩ 31 255 [],
    .fritJobStart 31,
    .fritJobBlock 31,
    .continue_ ⟨3, 7, false, 0, true⟩ 31 255 [],
    .dramRequest 3 15 true 18446744073709551615 [] 1023 true,
    .urgencyLevelChange 15 1,
    .dramAccessComplete 3 true (.doubleBit 7) 1,
    .writeCrcError 3,
    .refreshDue 3 1 true,
    .patrolScrub 3 18446744073709551615 (.doubleBit 7) 1,
    .odeccHourly 3 1,
    .selfRefreshIdle 3,
    .diagRead ⟨3, 7, false, 0, true⟩ 255 [],
    .releaseResume ⟨3, 7, false, 0, true⟩ 255,
    .releaseDiscard ⟨3, 7, false, 0, true⟩ 255,
    .dramTrainingDone 3 true 1,
    .pprNow ⟨3, 7, false, 0, true⟩ 255 [],
    .pprRowDone 3] : List Instr).all (fun c => c.wf) = true := by decide +kernel

/-- Operands at the top of their ranges are well formed. -/
theorem test_wellFormed_7 : ([
    .huntWindow 17 [],
    .dataBlock 17 [],
    .idleEnter 17 0#256,
    .train 17 0#256,
    .fullTrainingDone 1 [],
    .ack 1 17 0#256,
    .nak 1 17 0#256,
    .fill 17 0#256,
    .sof 1 17 0#256,
    .eof 1 17 0#256,
    .trainingBurst 17,
    .idleExitLockTimeout 17,
    .eyeAlarmTimeout 17,
    .ackInterval 1,
    .resendTimeout 1,
    .bundleDownTimeout 1,
    .reorderHoldExpiry 255 63,
    .relayLoadMeasure 1 1,
    .ethernetFrameRx 3 true .other,
    .injectionPermitExpiry,
    .laneRestore ⟨3, 7, false, 0, true⟩ 255 [],
    .vinPowerOn,
    .rstNLow,
    .rstNRelease,
    .brownOut true] : List Instr).all (fun c => c.wf) = true := by decide +kernel

/-- Operands at the top of their ranges are well formed. -/
theorem test_wellFormed_8 : ([
    .bootImageVerified true true,
    .calibrateDone,
    .modeReqAcquire ⟨3, 7, false, 0, true⟩ 255,
    .modeReqCommission ⟨3, 7, false, 0, true⟩ 255,
    .modeReqTest ⟨3, 7, false, 0, true⟩ 255,
    .modeReqLeaveTest ⟨3, 7, false, 0, true⟩ 255,
    .modeReqSafe ⟨3, 7, false, 0, true⟩ 255,
    .modeReqLeaveSafe ⟨3, 7, false, 0, true⟩ 255,
    .modeReqDormant ⟨3, 7, false, 0, true⟩ 255,
    .dormantLanesIdle,
    .wakePin,
    .wakeAt,
    .tjThrottleStep 7 0,
    .throttleRestore 7 0,
    .vinCurrentLimit,
    .vinCurrentSustained,
    .tjLimit 7 0 true,
    .fwActivateNow ⟨3, 7, false, 0, true⟩ 255,
    .fwActivateNextStart ⟨3, 7, false, 0, true⟩ 255,
    .coreHandoverDone true,
    .vddqTimeout,
    .jtagInstruction .bypass,
    .sliceHardFault 895,
    .substReqMove ⟨3, 7, false, 0, true⟩ 223 3 255,
    .substReqRestore ⟨3, 7, false, 0, true⟩ 223 255] : List Instr).all (fun c => c.wf) = true := by decide +kernel

/-- Operands at the top of their ranges are well formed. -/
theorem test_wellFormed_9 : ([
    .substShadowEnd 223,
    .substMatchDone 223,
    .substFadeEnd 223,
    .coreWatchdogMiss 4,
    .sramRowRemap (.frontDie 7),
    .ageingMeasurement 7 1,
    .sealLoopSample 1,
    .seal ⟨3, 7, false, 0, true⟩ 255 [],
    .sealingDone,
    .unseal ⟨3, 7, false, 0, true⟩ 255 [],
    .progActivate ⟨3, 7, false, 0, true⟩ 255 [],
    .legalBlockCopy 4095 [],
    .legalNotice (.refSuspect 1),
    .legalMissingTimeout 4095,
    .ampWatchdogMiss,
    .ampRestart ⟨3, 7, false, 0, true⟩ 255 [],
    .ampTimeUpdate,
    .auditSel ⟨3, 7, false, 0, true⟩ 255 [],
    .lrecPop ⟨3, 7, false, 0, true⟩ 255 [],
    .dtlsAssociationEnd 63,
    .chainMemberLockRequest 255 64 [],
    .chainMemberAnswer 64 255 .lock 65535,
    .chainMemberAbandon 255 64,
    .unsealingDone,
    .ampouleRestartComplete] : List Instr).all (fun c => c.wf) = true := by decide +kernel

/-- Operands at the top of their ranges are well formed. -/
theorem test_wellFormed_10 : ([
    .sidebandTransferEnd 7 true,
    .macLinkChange 3 true] : List Instr).all (fun c => c.wf) = true := by decide +kernel

/-! ### A few values of the manual -/

/-- The answer of a step, for tests. -/
def after (o : Host.Outcome State Fault Refusal) : Option State :=
  match o with
  | .next t => some t
  | _ => none

/-- R4's example: channel F3.B2.Q5.C1 is entry 0x4155, its Punty entry 0x6155, its quad 0x4455, its bank 0x450A, its front die
0x4602. -/
theorem test_indexExample : [0x4155, 0x6155, 0x4455, 0x450A, 0x4602].map groupAt =
    [some (.channel, 341), some (.punty, 341), some (.quad, 85), some (.bank, 10), some (.die, 2)] := by decide +kernel

/-- The T96 of 1,715,432,000 s + 123,456,789 ns + 0x4000, where 0x4000 is a quarter of a nanosecond (R6). -/
theorem test_t96Example : ticksOfT96 (1715432000 * 2 ^ 48 + 123456789 * 2 ^ 16 + 0x4000) =
    1715432000123456789 * 65536 + 16384 := by decide +kernel

/-- A link delay of 128,057,344 ticks is 1,954 ns (the worked example of chapter 7). -/
theorem test_linkDelayExample : 128057344 = 1954 * ticksPerNs := by decide +kernel

/-- A READ of 0x3000:01 in the octets of Table 12-3: VER 1, TYPE 1, TAG 0x1234, no SESSION, no STATUS, LEN 4, INDEX least octet
first. -/
theorem test_readMessage :
    (State.messageReq [0x01, 0x01, 0x34, 0x12, 0, 0, 0, 0, 4, 0, 0, 0, 0x00, 0x30, 0x01, 0x00]).map
      (fun q => decide (q = .read 0x3000 1 0)) = some true := by decide +kernel

/-- The same message with a reserved octet bit set is no request (R299). -/
theorem test_readMessageReserved :
    (State.messageReq [0x01, 0x01, 0x34, 0x12, 0, 0, 0, 0, 4, 0, 8, 0, 0x00, 0x30, 0x01, 0x00]).isNone = true := by decide +kernel

/-- The commissioning example of chapter 12: the 17 octets with TAG 7 write 17 to 0xA800:01, and one CAN FD frame of 20 octets carries
them behind segment octet 0xC0 (R304). -/
theorem test_canExample : canSegments ([0x01, 0x02, 0x07, 0, 0, 0, 0, 0, 0x05, 0, 0, 0, 0, 0xA8, 0x01, 0, 0x11] : List Byte) =
      [[0xC0] ++ [0x01, 0x02, 0x07, 0, 0, 0, 0, 0, 0x05, 0, 0, 0, 0, 0xA8, 0x01, 0, 0x11] ++ [0, 0]] ∧
    (State.messageReq [0x01, 0x02, 0x07, 0, 0, 0, 0, 0, 0x05, 0, 0, 0, 0, 0xA8, 0x01, 0, 0x11]).map
      (fun q => decide (q = .write 0xA800 1 0 [0x11])) = some true := by decide +kernel

/-- The CRC-32C of the nine digits is its check value. -/
theorem test_crc32c : crc32c [0x31, 0x32, 0x33, 0x34, 0x35, 0x36, 0x37, 0x38, 0x39] = 0xE3069283 := by decide +kernel

theorem test_resetCanonical : State.reset.canonical = true := by decide +kernel

theorem test_noWordSpells (s : State) (nbits w : Nat) : s.withFetchWord nbits w = s := rfl

/-- One edge of the main clock at INCR of reset: 40,000 ticks (R31). -/
theorem test_tick : (after (step (running []))).map (fun t => t.time.ticks) = some (123456789012345678 + 40000) := by
  decide +kernel

/-- A command in the queue runs before the clock does. -/
theorem test_frontRuns : (after (step { running [] with pending := [.ppsOutWidthEnd, .wakePin] })).map
    (fun t => (t.pending, t.time.ticks)) = some ([.wakePin], 123456789012345678) := by decide +kernel

/-- A READ of an index that Table 12-1 leaves out answers 0x2001 (R297). -/
theorem test_readUnknown : (after (exec (.adpRead ownHdr 0x0FFF 1 0) (running []))).map (fun t => t.out.getLast?) =
    some (some (.adp none 3 0x01 7 0x2001 false [])) := by decide +kernel

/-! ### Witnesses of the statements about the whole machine -/

theorem hyps_StepRunsTheFront_1 : ∃ (s : State) (c : Instr) (l : List Instr), s.pending = c :: l :=
  ⟨{ running [] with pending := [.wakePin] }, .wakePin, [], rfl⟩

theorem hyps_StepRunsTheFront_3 : ∃ s : State, s.pending = [] ∧ s.time.running = true := ⟨running [], rfl, rfl⟩

theorem hyps_StepRunsTheFront_4 : ∃ s : State, s.pending = [] ∧ s.time.running = true ∧
    (∀ e ∈ s.lanes.injDelayed, s.time.edge + 1 < e.1) :=
  ⟨(running []).putLanes { (running []).lanes with injDelayed := [(2, .alert 0 false)] }, by decide +kernel⟩

theorem hyps_StepRunsTheFront_5 : ∃ (s : State) (e : Nat) (o : Out), s.pending = [] ∧ s.time.running = true ∧
    s.lanes.injDelayed = [(e, o)] ∧ e ≤ s.time.edge + 1 :=
  ⟨(running []).putLanes { (running []).lanes with injDelayed := [(1, .alert 0 false)] }, 1, .alert 0 false, by decide +kernel⟩

theorem hyps_StepRunsTheFront_6 : ∃ s : State, s.pending = [] ∧ s.time.running = false := ⟨State.reset, rfl, rfl⟩

theorem hyps_TickAndMainClock_3 : ∃ s : State, s.pending = [] ∧ s.time.running = true ∧ s.rd R.tm_INCR = 40000 * 2 ^ 32 ∧
    s.time.frac < 2 ^ 32 :=
  ⟨running [], rfl, rfl, by decide +kernel, by decide +kernel⟩

theorem hyps_T96Values_1 : ∃ sec ns frac : Nat, ns < 1000000000 ∧ frac < 65536 ∧ sec < 2 ^ 48 :=
  ⟨2 ^ 48 - 1, 999999999, 65535, by decide, by decide, by decide⟩

theorem hyps_T96Values_2 : ∃ (w : Row) (v : Nat), w.ty = .t96 ∧ v < 2 ^ 96 ∧ 1000000000 ≤ v / 2 ^ 16 % 2 ^ 32 :=
  ⟨(rowAt .time R.tm_SET_TIME.sub).get (by decide +kernel), 1000000000 * 2 ^ 16, by decide +kernel, by decide +kernel, by decide +kernel⟩

theorem hyps_T96Values_3 : ∃ (s : State) (h : Hdr) (v : Nat), OwnerAsks s h 0x02 ∧ s.part.fronts ≤ 7 ∧ s.free_ R.tm_SET_TIME ∧
    v < 2 ^ 96 ∧ 1000000000 ≤ v / 2 ^ 16 % 2 ^ 32 :=
  ⟨running [], ownHdr, 2 ^ 46, asks_of _ _ _ (by decide +kernel), by decide +kernel, by decide +kernel, by decide +kernel,
    by decide +kernel⟩

theorem hyps_T64Targets_2 : ∃ now target : Nat, (target : Int) - now < 2 ^ 63 ∧ -2 ^ 63 < (target : Int) - now :=
  ⟨5, 2 ^ 63 + 4, by decide, by decide⟩

theorem hyps_T64Targets_3 : ∃ (_ k : Nat), 2 ^ 47 * ticksPerNs < k ∧ k < 2 ^ 48 * ticksPerNs :=
  ⟨5, 2 ^ 63 + 1, by decide +kernel, by decide +kernel⟩

theorem hyps_RequestRoundTrip_1 : ∃ q : Req, q.wf = true := ⟨.read 65535 255 255, by decide +kernel⟩

theorem hyps_RequestRoundTrip_2 : ∃ (q : Req) (tag : Nat), q.wf = true ∧ q.formOk = true ∧ tag < 65536 ∧ q.body.length ≤ 16372 :=
  ⟨.read 65535 255 255, 65535, by decide +kernel, by decide +kernel, by decide, by decide +kernel⟩

theorem hyps_StepKeepsForm : ∃ s t : State, s.canonical = true ∧ step s = .next t :=
  ⟨{ running [] with pending := [.ppsOutWidthEnd] }, _, by decide +kernel, rfl⟩

theorem hyps_EventCountNeverFalls : ∃ s t : State, s.rd R.am_EVENT_COUNT < 2 ^ 32 ∧
    (∀ c, ∀ e ∈ (s.clause c).staged, e.1 ≠ R.am_EVENT_COUNT) ∧ step s = .next t :=
  ⟨{ presets [(R.am_EVENT_COUNT, 2 ^ 32 - 1)] with pending := [.ppsOutWidthEnd] }, _, by decide +kernel,
    fun c e m => absurd (show e ∈ [] from m) List.not_mem_nil, rfl⟩

/-! ### Witnesses of the clauses about commands -/

theorem hyps_DieLinkFlits_1 : ∃ (s : State) (d : Nat) (b : Bool) (f : Flit), flitOk f (s.linkDir d b).rxSeq = true ∧ (b = false ∨ (4 ≤ flitType f ∧ s.rd (R.di_DIE_STATE (d - 1)) ≠ 0)) ∧ s.linkUp d = true ∧ ((s.linkDir d b).rxWait = false ∨ (s.linkDir d b).replaying = true) :=
  ⟨(running [(R.di_LINK_STATE 1,2),(R.di_DIE_STATE 1,1)]).setLinkDir 2 true { LinkDir.init with rxSeq := 9 }, 2, true, reseal (BitVec.ofNat 1024 (4 * 2^1020 + 3*2^960)) 9,
    flitOk_reseal _ _ (by decide +kernel) (by decide +kernel) (by decide +kernel) (by decide +kernel), .inr (by rw [flitType_reseal]; decide +kernel), by decide +kernel⟩

theorem hyps_DieLinkFlits_2 : ∃ (s : State) (d : Nat) (f : Flit), flitOk f (s.linkDir d true).rxSeq = true ∧ flitType f ≤ 3 ∧ s.ebufOctets d + 4 * flitCount f ≤ 1048576 ∧ s.linkUp d = true ∧ ((s.linkDir d true).rxWait = false ∨ (s.linkDir d true).replaying = true) :=
  ⟨(running [(R.di_LINK_STATE 1,2),(R.di_DIE_STATE 1,1)]).setLinkDir 2 true { LinkDir.init with rxSeq := 9 }, 2, reseal (BitVec.ofNat 1024 (1 * 2^1020 + 7*2^1008 + 2*2^1003 + 3*2^960)) 9,
    flitOk_reseal _ _ (by decide +kernel) (by decide +kernel) (by decide +kernel) (by decide +kernel), by rw [flitType_reseal]; decide +kernel, by rw [flitCount_reseal]; decide +kernel, by decide +kernel⟩

theorem hyps_DieLinkFlits_3 : ∃ (s : State) (d : Nat) (f : Flit), flitOk f (s.linkDir d true).rxSeq = true ∧ flitType f ≤ 3 ∧ s.ebufOctets d + 4 * flitCount f ≤ 917504 ∧ s.linkUp d = true ∧ ((s.linkDir d true).rxWait = false ∨ (s.linkDir d true).replaying = true) ∧ (s.link d).creditHeld = false ∧ s.rd (R.di_DIE_STATE (d - 1)) ≠ 0 :=
  ⟨(running [(R.di_LINK_STATE 1,2),(R.di_DIE_STATE 1,1)]).setLinkDir 2 true { LinkDir.init with rxSeq := 9 }, 2, reseal (BitVec.ofNat 1024 (1 * 2^1020 + 7*2^1008 + 2*2^1003 + 3*2^960)) 9,
    flitOk_reseal _ _ (by decide +kernel) (by decide +kernel) (by decide +kernel) (by decide +kernel), by rw [flitType_reseal]; decide +kernel, by rw [flitCount_reseal]; decide +kernel, by decide +kernel⟩

theorem hyps_DieLinkFlits_4 : ∃ (s : State) (d : Nat) (b : Bool) (f : Flit), flitOk f (s.linkDir d b).rxSeq = false ∧ s.linkUp d = true ∧ (s.linkDir d b).rxWait = false ∧ (s.linkDir d b).replaying = false :=
  ⟨(running [(R.di_LINK_STATE 1,2),(R.di_DIE_STATE 1,1)]).setLinkDir 2 true { LinkDir.init with rxSeq := 9 }, 2, true, BitVec.ofNat 1024 (6 * 2^1020),
    flitOk_type _ _ (by decide +kernel), by decide +kernel⟩

theorem hyps_DieLinkFlits_5 : ∃ (s : State) (d : Nat) (seq : Nat) (n : Nat) (b : Bool), s.linkUp d = true ∧ s.noInjection ∧ 1 ≤ n ∧ n ≤ (s.linkDir d b).history.length ∧ ((s.linkDir d b).txSeq + 4096 - seq % 4096) % 4096 = n :=
  ⟨(running [(R.di_LINK_STATE 1,2)]).setLinkDir 2 true { LinkDir.init with txSeq := 1, history := [5#1024, 6#1024, 7#1024] }, 2, 4095, 2, true,
    by decide +kernel⟩

theorem hyps_DieLinkFlits_6 : ∃ (s : State) (d : Nat) (b : Bool) (f : Flit), flitOk f (s.linkDir d b).rxSeq = false ∧ s.linkUp d = true ∧ (s.linkDir d b).rxWait = true ∧ (s.linkDir d b).replaying = true ∧ 1 ≤ (s.linkDir d b).behind :=
  ⟨(running [(R.di_LINK_STATE 1,2)]).setLinkDir 2 true { LinkDir.init with rxSeq := 9, rxWait := true, replaying := true, behind := 2 }, 2, true, BitVec.ofNat 1024 (6 * 2^1020),
    flitOk_type _ _ (by decide +kernel), by decide +kernel⟩

theorem hyps_DieLinkFlits_7 : ∃ (s : State) (d : Nat) (f : Flit), flitOk f (s.linkDir d true).rxSeq = true ∧ s.ebufOctets d + 4 * flitCount f ≤ 1048576 ∧ s.linkUp d = true ∧ (s.linkDir d true).rxWait = false ∧ s.rd (R.di_DIE_STATE (d - 1)) = 0 ∧ (s.linkDir d true).held = [] ∧ ((s.linkDir d true).rxSeq + 1) % 4096 = (s.linkDir d true).txSeq :=
  ⟨(running [(R.di_LINK_STATE 1,2),(R.di_DIE_STATE 1,0)]).setLinkDir 2 true { LinkDir.init with rxSeq := 9, txSeq := 10 }, 2, reseal (BitVec.ofNat 1024 (2 * 2^1020 + 7*2^1008 + 2*2^1003 + 2^1001 + 3*2^960)) 9,
    flitOk_reseal _ _ (by decide +kernel) (by decide +kernel) (by decide +kernel) (by decide +kernel), by rw [flitCount_reseal]; decide +kernel, by decide +kernel⟩

theorem hyps_DieLinkFlits_8 : ∃ (s : State) (d : Nat), 1 ≤ d ∧ d ≤ s.part.fronts ∧ (s.rd (R.di_LINK_STATE (d - 1)) = 1 ∨ s.rd (R.di_LINK_STATE (d - 1)) = 4) ∧ s.rd (R.di_DIE_STATE (d - 1)) ≠ 3 ∧ (∀ b, (s.linkDir d b).txSeq = (s.linkDir d b).rxSeq) ∧ (∀ b, (s.linkDir d b).held = []) :=
  ⟨(running [(R.di_LINK_STATE 1,4)]).setLinkDir 2 true { LinkDir.init with txSeq := 5, rxSeq := 5, history := [5#1024, 6#1024, 7#1024] }, 2,
    by decide +kernel⟩

theorem hyps_DieLinkFlits_9 : ∃ (s : State) (d : Nat) (f : Flit), 1 ≤ d ∧ d ≤ s.part.fronts ∧ (s.rd (R.di_LINK_STATE (d - 1)) = 1 ∨ s.rd (R.di_LINK_STATE (d - 1)) = 4) ∧ s.rd (R.di_DIE_STATE (d - 1)) ≠ 3 ∧ s.noInjection ∧ (s.linkDir d true).txSeq = ((s.linkDir d true).rxSeq + 1) % 4096 ∧ (s.linkDir d true).rxSeq < 4096 ∧ (s.linkDir d true).history.getLast? = some f ∧ (∀ b, (s.linkDir d b).held = []) ∧ (s.linkDir d false).txSeq = (s.linkDir d false).rxSeq :=
  ⟨(running [(R.di_LINK_STATE 1,4),(R.di_SPARES_IN 1,1)]).setLinkDir 2 true { LinkDir.init with txSeq := 0, rxSeq := 4095, history := [5#1024, 6#1024, 7#1024] }, 2, 7#1024,
    by decide +kernel⟩

theorem hyps_DieLinkFlits_10 : ∃ (s : State) (d : Nat), 64 * (s.link d).windowReplays ≤ (s.link d).windowFlits :=
  ⟨(running [(R.di_LINK_STATE 1,2)]).setLink 2 { DieLink.init with windowFlits := 64, windowReplays := 1, degraded := true }, 2,
    by decide +kernel⟩

theorem hyps_DieLinkFlits_11 : ∃ (s : State) (d : Nat), (s.link d).windowFlits < 64 * (s.link d).windowReplays ∧ s.rd R.ig_EVT_SEQ + 4 < 2 ^ 32 :=
  ⟨(running [(R.di_LINK_STATE 1,2)]).setLink 2 { DieLink.init with windowFlits := 63, windowReplays := 1 }, 2,
    by decide +kernel⟩

theorem hyps_Sideband_1 : ∃ (s : State) (d : Nat) (m : SbMsg) (e : Bool), (s.link d).sbPhase = .idle ∧ (s.link d).sbHub = [] ∧ (s.link d).sbFront = [] ∧ s.sbFenced m = true :=
  ⟨running [(R.bk_BANK_STATE 0,4)], 1, ⟨0x4500 * 256 + 3, [1#8]⟩, true,
    by decide +kernel⟩

theorem hyps_Sideband_2 : ∃ (s : State) (d : Nat) (m : SbMsg) (e : Bool), (s.link d).sbPhase = .idle ∧ (s.link d).sbHub = [] ∧ (s.link d).sbFront = [] ∧ s.sbFenced m = false :=
  ⟨running [], 3, ⟨5, [1#8]⟩, true,
    by decide +kernel⟩

theorem hyps_Sideband_3 : ∃ (s : State) (d : Nat) (m : SbMsg) (e : Bool), (s.link d).sbPhase = .idle ∧ (s.link d).sbHub = [] ∧ (s.link d).sbFront = [] :=
  ⟨running [], 3, ⟨5, [1#8]⟩, false,
    by decide +kernel⟩

theorem hyps_Sideband_4 : ∃ (s : State) (d : Nat) (m : SbMsg) (n : SbMsg) (e : Bool), (s.link d).sbPhase = .idle ∧ (s.link d).sbHub = [] ∧ (s.link d).sbFront = [] ∧ s.sbFenced m = false :=
  ⟨running [], 3, ⟨5, [1#8]⟩, ⟨6, [2#8]⟩, false,
    by decide +kernel⟩

theorem hyps_Sideband_5 : ∃ (s : State) (d : Nat) (m : SbMsg), (s.link d).sbPhase = .front ∧ (s.link d).sbHub = [] ∧ s.sbFenced m = false :=
  ⟨(running []).setLink 3 { DieLink.init with sbPhase := .front, sbFront := [⟨6, [2#8]⟩] }, 3, ⟨5, [1#8]⟩,
    by decide +kernel⟩

theorem hyps_Sideband_6 : ∃ (s : State) (d : Nat), (s.link d).sbPhase = .backoff :=
  ⟨(running []).setLink 3 { DieLink.init with sbPhase := .backoff, sbFront := [⟨6, [2#8]⟩] }, 3,
    by decide +kernel⟩

theorem hyps_Sideband_7 : ∃ (s : State) (d : Nat) (m : SbMsg), (s.link d).sbPhase = .retry ∧ s.sbFenced m = false :=
  ⟨(running []).setLink 3 { DieLink.init with sbPhase := .retry, sbFront := [⟨6, [2#8]⟩] }, 3, ⟨5, [1#8]⟩,
    by decide +kernel⟩

theorem hyps_Sideband_8 : ∃ (s : State) (d : Nat) (m : SbMsg) (l : List SbMsg), (s.link d).sbPhase = .hub ∧ (s.link d).sbHub = m :: l :=
  ⟨(running []).setLink 3 { DieLink.init with sbPhase := .hub, sbHub := [⟨6, [2#8]⟩] }, 3, ⟨6, [2#8]⟩, [],
    by decide +kernel⟩

theorem hyps_Sideband_9 : ∃ (s : State) (d : Nat) (m : SbMsg), (s.link d).sbPhase = .hub ∧ (s.link d).sbWithdrawn = false ∧ (s.link d).sbHub = [m] ∧ (s.link d).sbFront = [] :=
  ⟨(running []).setLink 3 { DieLink.init with sbPhase := .hub, sbHub := [⟨6, [2#8]⟩] }, 3, ⟨6, [2#8]⟩,
    by decide +kernel⟩

theorem hyps_Sideband_10 : ∃ (s : State) (d : Nat) (m : SbMsg), ((s.link d).sbPhase = .front ∨ (s.link d).sbPhase = .retry) ∧ (s.link d).sbFront = [m] ∧ (s.link d).sbHub = [] :=
  ⟨(running []).setLink 3 { DieLink.init with sbPhase := .retry, sbFront := [⟨6, [2#8]⟩] }, 3, ⟨6, [2#8]⟩,
    by decide +kernel⟩

theorem hyps_Sideband_11 : ∃ (s : State) (d : Nat) (v : Nat), (s.link d).sbPhase = .hub ∧ (s.link d).sbWithdrawn = false ∧ 1 ≤ d ∧ d ≤ s.part.fronts ∧ d ≤ 7 ∧ (s.link d).sbHub = [⟨(Grp.die.base + (d - 1)) * 256 + (R.di_SLIP_LIMIT 0).sub, natLE 4 v⟩] ∧ (s.link d).sbFront = [] ∧ v < 2 ^ 32 :=
  ⟨(running []).setLink 3 { DieLink.init with sbPhase := .hub, sbHub := [⟨(Grp.die.base + 2) * 256 + (R.di_SLIP_LIMIT 0).sub, natLE 4 513⟩] }, 3, 513,
    by decide +kernel⟩

theorem hyps_FabricAndShedding_2 : ∃ (s : State) (port : Nat) (dest : Nat), (dest ≠ 12 ∨ 7 ≤ port) ∧ (dest < 7 ∨ 10 < dest) :=
  ⟨running [], 3, 14,
    by decide +kernel⟩

theorem hyps_FabricAndShedding_3 : ∃ (s : State) (port : Nat) (c : Nat), c < 4 :=
  ⟨running [], 3, 2,
    by decide +kernel⟩

theorem hyps_FabricAndShedding_4 : ∃ (s : State) (port : Nat) (e : FlitRec) (l : List FlitRec), port < 7 ∧ (s.link (port + 1)).ebuf = e :: l :=
  ⟨(running []).setLink 3 { DieLink.init with ebuf := [⟨2, 7, false, false, [5, 0x80000001]⟩] }, 2, ⟨2, 7, false, false, [5, 0x80000001]⟩, [],
    by decide +kernel⟩

theorem hyps_FabricAndShedding_5 : ∃ (s : State) (d : Nat) (lag : Nat), s.rd (R.di_SLIP_LIMIT (d - 1)) < lag ∧ s.rd (R.di_SHED_LEVEL (d - 1)) < 3 :=
  ⟨running [(R.di_SLIP_LIMIT 2,1000),(R.di_SHED_LEVEL 2,2)], 3, 1001,
    by decide +kernel⟩

theorem hyps_FabricAndShedding_6 : ∃ (s : State) (d : Nat) (lag : Nat), 2 * lag < s.rd (R.di_SLIP_LIMIT (d - 1)) ∧ s.rd (R.di_SHED_LEVEL (d - 1)) ≠ 0 :=
  ⟨running [(R.di_SLIP_LIMIT 2,1000),(R.di_SHED_LEVEL 2,3)], 3, 499,
    by decide +kernel⟩

theorem hyps_FabricAndShedding_7 : ∃ (s : State) (d : Nat) (lag : Nat), s.rd (R.di_SLIP_LIMIT (d - 1)) < lag ∧ lag < 2 ^ 32 ∧ s.rd (R.di_SHED_LEVEL (d - 1)) = 0 ∧ s.rawChannels d = [] :=
  ⟨running [(R.di_SLIP_LIMIT 2,1000)], 3, 1001,
    by decide +kernel⟩

theorem hyps_FabricAndShedding_8 : ∃ (s : State) (d : Nat) (lag : Nat), 2 * lag < s.rd (R.di_SLIP_LIMIT (d - 1)) ∧ lag < 2 ^ 32 ∧ s.rd (R.di_SHED_LEVEL (d - 1)) = 1 ∧ s.rawChannels d = [] :=
  ⟨running [(R.di_SLIP_LIMIT 2,1000),(R.di_SHED_LEVEL 2,1)], 3, 400,
    by decide +kernel⟩

theorem hyps_FabricAndShedding_9 : ∃ (s : State) (h : Hdr) (d : Nat), OwnerAsks s h 0x02 ∧ 1 ≤ d ∧ d ≤ s.part.fronts ∧ d ≤ 7 ∧ s.free_ (R.di_EBUF_PEAK_CLR (d - 1)) :=
  ⟨running [(R.di_EBUF_PEAK 6,99)], ownHdr, 7,
    asks_of _ _ _ (by decide +kernel), by decide +kernel⟩

theorem hyps_TimeStateChanges_1 : ∃ (s : State), s.rd R.tm_TIME_STATE = 1 ∧ (s.rdI R.tm_OFFSET 64).natAbs < s.rd R.tm_LOCK_WINDOW * ticksPerNs :=
  ⟨running [(R.tm_TIME_STATE,1),(R.tm_LOCK_WINDOW,100)],
    by decide +kernel⟩

theorem hyps_TimeStateChanges_2 : ∃ (s : State), s.rd R.tm_SRC_SELECTED ≠ 0 ∧ s.time.integ.natAbs < 100000000 :=
  ⟨running [(R.tm_SRC_SELECTED,1),(R.tm_STATE_FLAGS,8)],
    by decide +kernel⟩

theorem hyps_TimeStateChanges_3 : ∃ (s : State), (s.rd R.tm_TIME_STATE = 1 ∨ s.rd R.tm_TIME_STATE = 2) :=
  ⟨running [(R.tm_TIME_STATE,2)],
    by decide +kernel⟩

theorem hyps_TimeStateChanges_4 : ∃ (s : State), (s.rd R.tm_TIME_STATE = 0 ∨ s.rd R.tm_TIME_STATE = 3) :=
  ⟨running [(R.tm_TIME_STATE,3)],
    by decide +kernel⟩

theorem hyps_Measurements_1 : ∃ (s : State) (c : Nat) (off : Int), 1 ≤ c ∧ c ≤ 6 ∧ s.rd R.tm_SRC_SELECTED ≠ c :=
  ⟨running [(R.tm_TIME_STATE,2),(R.tm_SRC_SELECTED,2),(R.tm_STEP_THRESHOLD,100),(R.tm_STEP_PERSIST,2)], 3, 5,
    by decide +kernel⟩

theorem hyps_Measurements_2 : ∃ (s : State) (c : Nat) (off : Int), 1 ≤ c ∧ c ≤ 6 ∧ s.rd R.tm_SRC_SELECTED = c ∧ s.refclkLostNow = false ∧ (s.rd R.tm_TIME_STATE = 1 ∨ s.rd R.tm_TIME_STATE = 2) ∧ s.stepPending = false ∧ s.withinStep off = false :=
  ⟨running [(R.tm_TIME_STATE,2),(R.tm_SRC_SELECTED,2),(R.tm_STEP_THRESHOLD,100),(R.tm_STEP_PERSIST,2)], 2, 50000000,
    by decide +kernel⟩

theorem hyps_Measurements_3 : ∃ (s : State) (c : Nat) (off : Int), 1 ≤ c ∧ c ≤ 6 ∧ s.rd R.tm_SRC_SELECTED = c ∧ s.refclkLostNow = false ∧ 1 ≤ s.rd R.tm_TIME_STATE ∧ s.rd R.tm_TIME_STATE ≤ 3 ∧ s.stepPending = false ∧ s.withinStep off = true ∧ (s.loopWant off).natAbs ≤ 100000000 :=
  ⟨running [(R.tm_TIME_STATE,3),(R.tm_SRC_SELECTED,2),(R.tm_STEP_THRESHOLD,100)], 2, 0,
    by decide +kernel⟩

theorem hyps_Measurements_4 : ∃ (s : State) (p : Nat), s.rd R.la_PPS_IN_EN ≠ 0 ∧ s.rd R.tm_SRC_SELECTED ≠ 6 :=
  ⟨running [(R.la_PPS_IN_EN,1)], 123456,
    by decide +kernel⟩

theorem hyps_Measurements_5 : ∃ (s : State) (u : State) (p : Nat) (x : Int), x = (p : Int) - s.rdI R.la_PPS_IN_OFFSET 32 ∧ u = ((s.wr R.la_PPS_IN_LAST (t96OfTicks p)).count R.la_PPS_IN_COUNT 1).putTime { s.time with lastPps := lastN 4 (s.time.lastPps ++ [p]) } ∧ s.rd R.la_PPS_IN_EN ≠ 0 :=
  ⟨running [(R.la_PPS_IN_EN,1)], _, 123456, _,
    rfl, rfl, by decide +kernel⟩

theorem hyps_Measurements_6 : ∃ (s : State) (c : Nat), 1 ≤ c ∧ c ≤ 7 ∧ s.mayQualify c = true ∧ s.rd R.tm_TIME_STATE ≠ 0 ∧ (priorityList (s.rd R.tm_SRC_PRIORITY)).head? = some c ∧ (s.rd R.tm_SRC_SELECTED = c ∨ ((s.wr R.tm_SRC_SELECTED c).loopWant (s.source c).offset).natAbs ≤ 100000000) :=
  ⟨((running [(R.tm_TIME_STATE,2),(R.tm_SRC_SELECTED,2),(R.tm_SRC_PRIORITY,0x26),(R.tm_STEP_THRESHOLD,100)]).setSource 6 ⟨true,5,77,false⟩).putTime { ((running [(R.tm_TIME_STATE,2),(R.tm_SRC_SELECTED,2),(R.tm_SRC_PRIORITY,0x26),(R.tm_STEP_THRESHOLD,100)]).setSource 6 ⟨true,5,77,false⟩).time with lastPps := [0,ticksPerSec,2*ticksPerSec,3*ticksPerSec] }, 6,
    by decide +kernel⟩

theorem hyps_Measurements_7 : ∃ (s : State) (c : Nat), 2 ≤ c ∧ c ≤ 7 :=
  ⟨(running [(R.tm_TIME_STATE,2),(R.tm_SRC_SELECTED,2),(R.tm_SRC_PRIORITY,0x26)]).setSource 2 ⟨true,5,77,true⟩, 2,
    by decide +kernel⟩

theorem hyps_Measurements_8 : ∃ (s : State), s.bestDir < 2 ∧ (s.loseDir s.bestDir).bestDir < 2 :=
  ⟨((running []).setLinkTime 0 { LinkTime.init with timeValid := true, hops := 2 }).setLinkTime 1 { LinkTime.init with timeValid := true, hops := 3 },
    by decide +kernel⟩

theorem hyps_Measurements_9 : ∃ (s : State) (c : Nat), 1 ≤ c ∧ c ≤ 7 ∧ (c ≠ 1 ∨ 2 ≤ s.bestDir) ∧ s.rd R.tm_SRC_SELECTED = c ∧ (s.rd R.tm_TIME_STATE = 1 ∨ s.rd R.tm_TIME_STATE = 2) ∧ ((∀ k ∈ priorityList (s.rd R.tm_SRC_PRIORITY), k ≠ c → (s.source k).qualified = false)) :=
  ⟨(running [(R.tm_TIME_STATE,2),(R.tm_SRC_SELECTED,2),(R.tm_SRC_PRIORITY,0x26)]).setSource 2 ⟨true,5,77,true⟩, 2,
    by decide +kernel⟩

theorem hyps_TimeActions_1 : ∃ (s : State) (h : Hdr) (v : Nat), OwnerAsks s h 0x02 ∧ s.part.fronts ≤ 7 ∧ s.free_ R.tm_SET_TIME ∧ v < 2 ^ 96 ∧ t96Valid v = true ∧ s.rd R.tm_TIME_STATE = 0 :=
  ⟨running [], ownHdr, 77 * 2^48 + 5*2^16+3,
    asks_of _ _ _ (by decide +kernel), by decide +kernel⟩

theorem hyps_TimeActions_2 : ∃ (s : State) (h : Hdr) (v : Nat), OwnerAsks s h 0x02 ∧ (∀ k, s.rd (R.tr_ENABLE k) = 0) ∧ (∀ c, s.rd (R.cs_CL_STATE c) ≠ 2) ∧ s.part.fronts ≤ 7 ∧ s.free_ R.tm_SET_TIME ∧ v < 2 ^ 96 ∧ t96Valid v = true ∧ s.rd R.tm_TIME_STATE = 0 ∧ s.rd R.tm_SRC_SELECTED ≠ 0 ∧ s.refclkLostNow = false ∧ s.part.amp = true ∧ s.time.ppsHigh = false ∧ (∀ e ∈ s.paths, e.2.live = false) ∧ s.capChannels = [] :=
  ⟨running [(R.tm_SRC_SELECTED,2),(R.tm_STEP_THRESHOLD,100)], ownHdr, 77 * 2^48 + 5*2^16+3,
    asks_of _ _ _ (by decide +kernel), fun k => (running_rd _ (R.tr_ENABLE k) (by simp)).trans rfl, fun c => by rw [running_rd _ (R.cs_CL_STATE c) (by simp)]; exact (by decide : (0 : Nat) ≠ 2), by decide +kernel⟩

theorem hyps_TimeActions_3 : ∃ (s : State) (u : State) (h : Hdr) (v : Nat), OwnerAsks s h 0x02 ∧ u = (((s.touch h.session).wrBit R.tm_STATE_FLAGS 0 false).jumpTime (s.rdI R.tm_PENDING_STEP 64) 2).count R.tm_STEPS_ACCEPTED 1 ∧ s.part.fronts ≤ 7 ∧ s.free_ R.tm_ACCEPT_STEP ∧ v < 2 ^ 64 ∧ s.stepPending = true ∧ (toSigned 64 v - s.rdI R.tm_PENDING_STEP 64).natAbs ≤ 6553600 ∧ s.withinStep (s.rdI R.tm_PENDING_STEP 64) = false :=
  ⟨running [(R.tm_TIME_STATE,3),(R.tm_PENDING_STEP, 900000000),(R.tm_STATE_FLAGS, 1),(R.tm_STEP_THRESHOLD,100)], _, ownHdr, 900000100,
    asks_of _ _ _ (by decide +kernel), rfl, by decide +kernel⟩

theorem hyps_TimeActions_4 : ∃ (s : State) (h : Hdr) (v : Nat), OwnerAsks s h 0x02 ∧ (∀ k, s.rd (R.tr_ENABLE k) = 0) ∧ (∀ c, s.rd (R.cs_CL_STATE c) ≠ 2) ∧ s.part.fronts ≤ 7 ∧ s.free_ R.tm_ACCEPT_STEP ∧ v < 2 ^ 64 ∧ s.stepPending = true ∧ s.refclkLostNow = false ∧ (toSigned 64 v - s.rdI R.tm_PENDING_STEP 64).natAbs ≤ 6553600 ∧ s.withinStep (s.rdI R.tm_PENDING_STEP 64) = false ∧ 0 ≤ (s.now : Int) + s.rdI R.tm_PENDING_STEP 64 ∧ s.part.amp = true ∧ s.time.ppsHigh = false ∧ (∀ e ∈ s.paths, e.2.live = false) ∧ s.capChannels = [] :=
  ⟨running [(R.tm_TIME_STATE,3),(R.tm_PENDING_STEP, 900000000),(R.tm_STATE_FLAGS, 1),(R.tm_STEP_THRESHOLD,100)], ownHdr, 900000100,
    asks_of _ _ _ (by decide +kernel), fun k => (running_rd _ (R.tr_ENABLE k) (by simp)).trans rfl, fun c => by rw [running_rd _ (R.cs_CL_STATE c) (by simp)]; exact (by decide : (0 : Nat) ≠ 2), by decide +kernel⟩

theorem hyps_TimeActions_5 : ∃ (s : State) (h : Hdr) (m : Nat), OwnerAsks s h 0x02 ∧ m < 4 ∧ s.part.fronts ≤ 7 ∧ s.free_ (R.pt_TXTS_POP m) :=
  ⟨(running []).setPtp 1 { PtpPort.init with stamps := [⟨1,true,false,false,5⟩] }, ownHdr, 1,
    asks_of _ _ _ (by decide +kernel), by decide +kernel⟩

theorem hyps_TimeActions_6 : ∃ (s : State) (h : Hdr) (m : Nat), OwnerAsks s h 0x02 ∧ m < 4 ∧ s.part.fronts ≤ 7 ∧ s.free_ (R.pt_TXTS_STICKY_CLR m) :=
  ⟨running [(R.pt_TXTS_STICKY 2,1)], ownHdr, 2,
    asks_of _ _ _ (by decide +kernel), by decide +kernel⟩

theorem hyps_Beacons_1 : ∃ (s : State) (u : State) (dir : Nat) (lane : Nat) (rx : Nat) (p : Block), u = s.heard lane p ∧ dir < 2 ∧ beaconOk p = false :=
  ⟨running [], _, 0, 3, 0, 0#256,
    rfl, by decide +kernel⟩

theorem hyps_Beacons_2 : ∃ (s : State) (u : State) (dir : Nat) (lane : Nat) (rx : Nat) (p : Block), u = s.heard lane p ∧ dir < 2 ∧ beaconOk p = true ∧ ((u.lanesOf dir).map u.servingLane).find? u.laneLocked = some lane ∧ (u.linkTime dir).txTimes.find? (fun e => e.1 == field p.toNat 47 32) = none :=
  ⟨((running [(R.ln_MODE 3,1),(R.ln_BUNDLE 3,1),(R.ln_LANE_STATE 3,5),(R.ln_MODE 4,1),(R.ln_LANE_STATE 4,5)]).setLinkTime 0 ⟨3,1,true,true,7,[(44,1000)],2,3⟩), _, 1, 3, 99999, beaconBlock 5 9 true false true 33 (77 * 2^48 + 5*2^16+3) 12345678 44,
    rfl, by decide +kernel⟩

theorem hyps_Beacons_3 : ∃ (s : State) (u : State) (lane : Nat) (rx : Nat) (p : Block) (e : Nat × Nat), u = s.heard lane p ∧ beaconOk p = true ∧ ((u.lanesOf 1).map u.servingLane).find? u.laneLocked = some lane ∧ (u.linkTime 1).txTimes.find? (fun x => x.1 == field p.toNat 47 32) = some e ∧ u.dirValid 0 = true ∧ (u.linkTime 0).hops < field p.toNat 239 232 :=
  ⟨((running [(R.ln_MODE 3,1),(R.ln_BUNDLE 3,1),(R.ln_LANE_STATE 3,5),(R.ln_MODE 4,1),(R.ln_LANE_STATE 4,5)]).setLinkTime 0 ⟨3,1,true,true,7,[(44,1000)],2,3⟩).setLinkTime 1 ⟨3,1,true,true,7,[(44,1000)],2,3⟩, _, 3, 99999, beaconBlock 5 9 true false true 33 (77 * 2^48 + 5*2^16+3) 12345678 44, (44,1000),
    rfl, by decide +kernel⟩

theorem hyps_Beacons_4 : ∃ (s : State) (v : State) (tai : Bool) (d : Nat) (p : Block), v = s.settleDir ∧ (p = beaconBlock (v.rd R.bl_GM_ADDR) (v.rd R.bl_HOPS) (decide (s.rd R.tm_TIME_STATE = 1 ∨ s.rd R.tm_TIME_STATE = 2)) (decide (s.rd R.tm_TIME_STATE = 3)) tai (s.linkTime d).txSeq s.now96 (t64OfTicks (s.linkTime d).rxTime) (s.linkTime d).rxSeq) ∧ d < 2 ∧ tai = (if s.rd R.tm_SRC_SELECTED = 1 then (s.linkTime (s.rd R.bl_SEL_DIR)).tai else decide (2 ≤ s.rd R.tm_SRC_SELECTED ∧ s.rd R.tm_SRC_SELECTED ≤ 6)) :=
  ⟨(((running [(R.ln_MODE 3,1),(R.ln_BUNDLE 3,1),(R.ln_LANE_STATE 3,5),(R.ln_MODE 4,1),(R.ln_LANE_STATE 4,5)]).setLinkTime 0 ⟨3,1,true,true,7,[(44,1000)],2,3⟩).setBundle 0 { Bundle.init with peerLanes := 1 }).setBundle 1 { Bundle.init with peerLanes := 1 }, _, false, 0, _,
    rfl, rfl, by decide +kernel⟩

theorem hyps_PtpPorts_1 : ∃ (s : State) (m : Nat) (seq : Nat) (rx : Int) (c : Int), s.rd (R.pt_ENABLE m) ≠ 0 ∧ s.rd (R.pt_PORT_STATE m) = 6 ∧ s.rd (R.pt_DELAY_MECH m) ≠ 1 :=
  ⟨running [(R.pt_ENABLE 1,1),(R.pt_PORT_STATE 1,6)], 1, 4, 7000, 9,
    by decide +kernel⟩

theorem hyps_PtpPorts_2 : ∃ (s : State) (m : Nat) (r : Int) (c : Int) (rx : Int), s.rd (R.pt_ENABLE m) ≠ 0 ∧ s.rd (R.pt_PORT_STATE m) = 9 ∧ s.rd (R.pt_DELAY_MECH m) = 0 :=
  ⟨running [(R.pt_ENABLE 1,1),(R.pt_PORT_STATE 1,9)], 1, 800, 3, 7000,
    by decide +kernel⟩

theorem hyps_PtpPorts_3 : ∃ (s : State) (m : Nat) (a : Announced) (rx : Int), m < 4 ∧ s.rd (R.pt_ENABLE m) ≠ 0 ∧ s.rd (R.pt_ROLE m) = 2 ∧ (s.ptp m).best = none :=
  ⟨running [(R.pt_ENABLE 1,1),(R.pt_ROLE 1,2),(R.pt_ENABLE 0,1),(R.pt_PORT_STATE 0,6)], 1, ⟨1,2,3,4,5,6,7,2^80+8⟩, 7000,
    by decide +kernel⟩

theorem hyps_PtpPorts_4 : ∃ (s : State) (m : Nat) (d : Nat) (x : PtpMsg) (rx : Int), d ≠ s.rd (R.pt_DOMAIN m) :=
  ⟨running [(R.pt_ENABLE 1,1),(R.pt_PORT_STATE 1,6)], 1, 5, .delayReq 4 0, 7000,
    by decide +kernel⟩

theorem hyps_PtpPorts_5 : ∃ (s : State) (m : Nat) (tx : Int), s.rd (R.pt_ENABLE m) ≠ 0 ∧ s.rd (R.pt_PORT_STATE m) = 6 :=
  ⟨running [(R.pt_ENABLE 1,1),(R.pt_PORT_STATE 1,6)], 1, 7000,
    by decide +kernel⟩

theorem hyps_PtpPorts_6 : ∃ (s : State) (m : Nat) (tx : Int), s.rd (R.pt_ENABLE m) ≠ 0 ∧ s.rd (R.pt_PORT_STATE m) = 6 ∧ s.announceTimeout m = false :=
  ⟨running [(R.pt_ENABLE 1,1),(R.pt_PORT_STATE 1,6)], 1, 7000,
    by decide +kernel⟩

theorem hyps_PtpPorts_7 : ∃ (s : State) (m : Nat) (tx : Int), s.rd (R.pt_ENABLE m) ≠ 0 ∧ s.rd (R.pt_PORT_STATE m) = 9 ∧ s.rd (R.pt_DELAY_MECH m) = 0 :=
  ⟨running [(R.pt_ENABLE 1,1),(R.pt_PORT_STATE 1,9)], 1, 7000,
    by decide +kernel⟩

theorem hyps_TriggersAndLaunch_1 : ∃ (s : State) (k : Nat), s.rd (R.tr_ENABLE k) ≠ 0 ∧ t64Diff (s.rd (R.tr_TARGET k)) s.now ≤ 0 ∧ -((s.rd R.tm_INCR : Int) / 2 ^ 32) ≤ t64Diff (s.rd (R.tr_TARGET k)) s.now ∧ ((s.rd (R.tr_PERIOD k) = 0 ∨ (-t64Diff (s.rd (R.tr_TARGET k)) s.now).toNat < s.rd (R.tr_PERIOD k))) :=
  ⟨running [(R.tr_ENABLE 3,1),(R.tr_TARGET 3,t64OfTicks 123456789012345000)], 3,
    by decide +kernel⟩

theorem hyps_TriggersAndLaunch_2 : ∃ (s : State) (k : Nat), s.rd (R.tr_ENABLE k) ≠ 0 ∧ s.rd (R.tr_PERIOD k) = 0 ∧ t64Past (s.rd (R.tr_TARGET k)) s.now = true ∧ t64Diff (s.rd (R.tr_TARGET k)) s.now < -((s.rd R.tm_INCR : Int) / 2 ^ 32) :=
  ⟨running [(R.tr_ENABLE 3,1),(R.tr_TARGET 3,t64OfTicks 123456789012245000)], 3,
    by decide +kernel⟩

theorem hyps_TriggersAndLaunch_3 : ∃ (s : State), s.ppsQualified = true ∧ s.time.ppsHigh = false ∧ ((s.now : Int) - s.rdI R.la_PPS_OUT_OFFSET 32) % (ticksPerSec : Nat) ≤ s.rd R.tm_INCR / 2 ^ 32 :=
  ⟨(running [(R.la_PPS_OUT_EN,1),(R.tm_TIME_STATE,2)]).putTime { (running [(R.la_PPS_OUT_EN,1),(R.tm_TIME_STATE,2)]).time with ticks := 4 * ticksPerSec + 39999 },
    by decide +kernel⟩

theorem hyps_TriggersAndLaunch_4 : ∃ (s : State), s.time.ppsHigh = true ∧ s.time.ppsFall ≤ s.now :=
  ⟨(running []).putTime { (running []).time with ppsHigh := true },
    by decide +kernel⟩

theorem hyps_TriggersAndLaunch_5 : ∃ (s : State) (port : Nat) (r : Nat) (f : Frame), s.routeHead r = some f ∧ s.routeFeeds r port = true ∧ (s.lanes.portHeld.any fun e => e.2.1 == r) = false ∧ launchEn f.launch = true ∧ 0 < t64Diff (launchTime f.launch) s.now :=
  ⟨(running [(R.ro_QUEUE 5,17),(R.ro_PORT 5,6),(R.qu_CONSUMER 17,1),(R.qu_QSTATE 17,1)]).setQueue 17 { Queue.init with frames := [(⟨1,2,3,true,false,false,false,false,false,false,5,((t64OfTicks 123456789012345678 + 1000) * 2^64 + 2^63),[1#8,2#8],false,0,false⟩ : Frame)] }, 6, 5, ⟨1,2,3,true,false,false,false,false,false,false,5,((t64OfTicks 123456789012345678 + 1000) * 2^64 + 2^63),[1#8,2#8],false,0,false⟩,
    by decide +kernel⟩

theorem hyps_TriggersAndLaunch_6 : ∃ (s : State) (port : Nat) (r : Nat) (f : Frame), s.routeHead r = some f ∧ s.routeFeeds r port = true ∧ (s.lanes.portHeld.any fun e => e.2.1 == r) = false ∧ launchEn f.launch = false ∧ s.portRoom port (20 + f.payload.length) = true ∧ s.heldInWay port (20 + f.payload.length) = false ∧ ((port < 2 → s.shareTurn port r = true)) :=
  ⟨(running [(R.ro_QUEUE 5,17),(R.ro_PORT 5,6),(R.qu_CONSUMER 17,1),(R.qu_QSTATE 17,1),(R.ma_LINK 2,1)]).setQueue 17 { Queue.init with frames := [(⟨1,2,3,true,false,false,false,false,false,false,5,0,[1#8,2#8],false,0,false⟩ : Frame),(⟨1,2,3,true,false,false,false,false,false,false,5,0,[1#8,2#8],false,0,false⟩ : Frame),(⟨1,2,3,true,false,false,false,false,false,false,5,0,[1#8,2#8],false,0,false⟩ : Frame)] }, 6, 5, ⟨1,2,3,true,false,false,false,false,false,false,5,0,[1#8,2#8],false,0,false⟩,
    by decide +kernel⟩

theorem hyps_TriggersAndLaunch_7 : ∃ (s : State) (port : Nat) (r : Nat) (f : Frame) (g : Frame) (e : Nat × Nat × Frame), (s.lanes.portHeld.find? fun x => x.1 == port && x.2.1 == r) = some e ∧ e.2.2 = f ∧ t64Past (launchTime f.launch) (s.now + s.txLat port) = true ∧ s.portRoom port (20 + f.payload.length) = true ∧ s.routeHead r = some g ∧ g.fseq = f.fseq ∧ s.routeFeeds r port = true :=
  ⟨((running [(R.ro_QUEUE 5,17),(R.ro_PORT 5,6),(R.qu_CONSUMER 17,1),(R.qu_QSTATE 17,1),(R.ma_LINK 2,1)]).setQueue 17 { Queue.init with frames := [(⟨1,2,3,true,false,false,false,false,false,false,5,2^63,[1#8,2#8],false,0,false⟩ : Frame),(⟨1,2,3,true,false,false,false,false,false,false,5,2^63,[1#8,2#8],false,0,false⟩ : Frame),(⟨1,2,3,true,false,false,false,false,false,false,5,2^63,[1#8,2#8],false,0,false⟩ : Frame)] }).putLanes { ((running [(R.ro_QUEUE 5,17),(R.ro_PORT 5,6),(R.qu_CONSUMER 17,1),(R.qu_QSTATE 17,1),(R.ma_LINK 2,1)]).setQueue 17 { Queue.init with frames := [(⟨1,2,3,true,false,false,false,false,false,false,5,2^63,[1#8,2#8],false,0,false⟩ : Frame),(⟨1,2,3,true,false,false,false,false,false,false,5,2^63,[1#8,2#8],false,0,false⟩ : Frame),(⟨1,2,3,true,false,false,false,false,false,false,5,2^63,[1#8,2#8],false,0,false⟩ : Frame)] }).lanes with portHeld := [(6,5,(⟨1,2,3,true,false,false,false,false,false,false,5,2^63,[1#8,2#8],false,0,false⟩ : Frame))] }, 6, 5, ⟨1,2,3,true,false,false,false,false,false,false,5,2^63,[1#8,2#8],false,0,false⟩, (⟨1,2,3,true,false,false,false,false,false,false,5,2^63,[1#8,2#8],false,0,false⟩ : Frame), (6,5,(⟨1,2,3,true,false,false,false,false,false,false,5,2^63,[1#8,2#8],false,0,false⟩ : Frame)),
    by decide +kernel⟩

theorem hyps_TriggersAndLaunch_8 : ∃ (s : State) (port : Nat) (r : Nat) (q : Nat) (f : Frame) (rest : List Frame), 4 ≤ port ∧ port ≤ 7 ∧ s.routeFeeds r port = true ∧ s.rd (R.ro_QUEUE r) = q ∧ q < 8192 ∧ s.rd (R.qu_CONSUMER q) = 1 ∧ s.rd (R.qu_QSTATE q) = 1 ∧ (s.queue q).frames = f :: rest ∧ (s.queue q).spillCells = 0 ∧ s.lanes.portHeld = [] ∧ launchEn f.launch = false ∧ launchTs f.launch = false ∧ s.rd (R.ma_LINK (port - 4)) = 1 ∧ tabGet 0 s.lanes.paused (port - 4) ≤ s.time.edge ∧ s.noInjection :=
  ⟨(running [(R.ro_QUEUE 5,17),(R.ro_PORT 5,6),(R.qu_CONSUMER 17,1),(R.qu_QSTATE 17,1),(R.ma_LINK 2,1)]).setQueue 17 { Queue.init with frames := [(⟨1,2,3,true,false,false,false,false,false,false,5,0,[1#8,2#8],false,0,false⟩ : Frame),(⟨1,2,3,true,false,false,false,false,false,false,5,0,[1#8,2#8],false,0,false⟩ : Frame),(⟨1,2,3,true,false,false,false,false,false,false,5,0,[1#8,2#8],false,0,false⟩ : Frame)] }, 6, 5, 17, ⟨1,2,3,true,false,false,false,false,false,false,5,0,[1#8,2#8],false,0,false⟩, [(⟨1,2,3,true,false,false,false,false,false,false,5,0,[1#8,2#8],false,0,false⟩ : Frame),(⟨1,2,3,true,false,false,false,false,false,false,5,0,[1#8,2#8],false,0,false⟩ : Frame)],
    by decide +kernel⟩

theorem hyps_TriggersAndLaunch_9 : ∃ (s : State) (port : Nat) (r : Nat) (q : Nat) (f : Frame) (rest : List Frame), 4 ≤ port ∧ port ≤ 7 ∧ s.routeFeeds r port = true ∧ s.rd (R.ro_QUEUE r) = q ∧ q < 8192 ∧ s.rd (R.qu_CONSUMER q) = 1 ∧ s.rd (R.qu_QSTATE q) = 1 ∧ (s.queue q).frames = f :: rest ∧ (s.queue q).spillCells = 0 ∧ s.lanes.portHeld = [(port, r, f)] ∧ launchTs f.launch = false ∧ t64Past (launchTime f.launch) (s.now + s.txLat port) = true ∧ s.rd (R.ma_LINK (port - 4)) = 1 ∧ tabGet 0 s.lanes.paused (port - 4) ≤ s.time.edge ∧ s.noInjection :=
  ⟨((running [(R.ro_QUEUE 5,17),(R.ro_PORT 5,6),(R.qu_CONSUMER 17,1),(R.qu_QSTATE 17,1),(R.ma_LINK 2,1)]).setQueue 17 { Queue.init with frames := [(⟨1,2,3,true,false,false,false,false,false,false,5,2^63,[1#8,2#8],false,0,false⟩ : Frame),(⟨1,2,3,true,false,false,false,false,false,false,5,2^63,[1#8,2#8],false,0,false⟩ : Frame),(⟨1,2,3,true,false,false,false,false,false,false,5,2^63,[1#8,2#8],false,0,false⟩ : Frame)] }).putLanes { ((running [(R.ro_QUEUE 5,17),(R.ro_PORT 5,6),(R.qu_CONSUMER 17,1),(R.qu_QSTATE 17,1),(R.ma_LINK 2,1)]).setQueue 17 { Queue.init with frames := [(⟨1,2,3,true,false,false,false,false,false,false,5,2^63,[1#8,2#8],false,0,false⟩ : Frame),(⟨1,2,3,true,false,false,false,false,false,false,5,2^63,[1#8,2#8],false,0,false⟩ : Frame),(⟨1,2,3,true,false,false,false,false,false,false,5,2^63,[1#8,2#8],false,0,false⟩ : Frame)] }).lanes with portHeld := [(6,5,(⟨1,2,3,true,false,false,false,false,false,false,5,2^63,[1#8,2#8],false,0,false⟩ : Frame))] }, 6, 5, 17, ⟨1,2,3,true,false,false,false,false,false,false,5,2^63,[1#8,2#8],false,0,false⟩, [(⟨1,2,3,true,false,false,false,false,false,false,5,2^63,[1#8,2#8],false,0,false⟩ : Frame),(⟨1,2,3,true,false,false,false,false,false,false,5,2^63,[1#8,2#8],false,0,false⟩ : Frame)],
    by decide +kernel⟩

theorem hyps_InputStage_1 : ∃ (s : State) (n : Nat), (s.chan n).changing = true :=
  ⟨(running [(R.ch_STAGE 5,1)]).setChan 5 { Chan.init with changing := true, hold := .change, held := 1 }, 5,
    by decide +kernel⟩

theorem hyps_InputStage_2 : ∃ (s : State) (n : Nat), (s.chan n).changing = true ∧ bitAt (s.rd (R.ch_CH_STATUS n)) 5 = false ∧ bitAt (s.rd (R.ch_CH_STATUS n)) 6 = false ∧ (s.chan n).faultEnd = none ∧ (s.chan n).hold = .change ∧ s.rd (R.pu_CAP_ENABLE n) = 0 :=
  ⟨(running [(R.ch_STAGE 5,1)]).setChan 5 { Chan.init with changing := true, hold := .change, held := 1 }, 5,
    by decide +kernel⟩

theorem hyps_InputStage_3 : ∃ (s : State) (n : Nat) (range : Bool) (cm : Bool) (tia : Bool), s.rd (R.ch_STAGE n) ≠ 0 :=
  ⟨running [(R.ch_STAGE 5,1),(R.ch_BURNOUT 5,1)], 5, true, true, true,
    by decide +kernel⟩

theorem hyps_InputStage_4 : ∃ (s : State) (n : Nat), s.rd (R.ch_STAGE n) = 2 :=
  ⟨running [(R.ch_STAGE 5,2)], 5,
    by decide +kernel⟩

theorem hyps_Excitation_1 : ∃ (s : State) (q : Nat), (s.quad q).exc.mode = 1 :=
  ⟨(running []).setQuad 3 { Quad.init with exc := ⟨1,0,0,false,0,0,0⟩ }, 3,
    by decide +kernel⟩

theorem hyps_Excitation_2 : ∃ (s : State) (q : Nat) (a : Bool) (b : Bool), (s.quad q).driverOn = true ∧ (a || b) = true :=
  ⟨(running [(R.ch_CH_STATUS 13,1)]).setQuad 3 { Quad.init with driverOn := true, exc := ⟨4,0,0,false,0,0,0⟩ }, 3, true, false,
    by decide +kernel⟩

theorem hyps_Excitation_3 : ∃ (s : State) (q : Nat) (mv : Nat), (s.quad q).exc.mode = 1 ∧ mv < (s.quad q).exc.volt + 300 :=
  ⟨(running []).setQuad 3 { Quad.init with exc := ⟨1,2500,0,false,0,0,0⟩ }, 3, 2700,
    by decide +kernel⟩

theorem hyps_Excitation_4 : ∃ (s : State) (q : Nat) (mv : Nat), bitAt (s.rd (R.qd_EXC_STATUS q)) 3 = true ∧ (s.quad q).exc.volt + 300 ≤ mv :=
  ⟨(running [(R.qd_EXC_STATUS 3,8),(R.ch_CH_STATUS 13,16)]).setQuad 3 { Quad.init with exc := ⟨1,2500,0,false,0,0,0⟩ }, 3, 3000,
    by decide +kernel⟩

theorem hyps_Excitation_5 : ∃ (s : State) (q : Nat), (s.quad q).exc.pulsed = true ∧ s.onEvent (s.quad q).exc.period (s.quad q).exc.phase = true ∧ (s.quad q).pendingExc = false ∧ (s.quad q).exc.mode ≠ 0 ∧ bitAt (s.rd (R.qd_EXC_STATUS q)) 5 = false ∧ s.rd (R.bk_BANK_STATE (q / 8)) ≠ 0 :=
  ⟨((running [(R.bk_BANK_STATE 0,3),(R.qd_EXC_STATUS 3,16)]).setQuad 3 { Quad.init with exc := ⟨1,2500,0,true,1000,200,7⟩ }).putTime { ((running [(R.bk_BANK_STATE 0,3),(R.qd_EXC_STATUS 3,16)]).setQuad 3 { Quad.init with exc := ⟨1,2500,0,true,1000,200,7⟩ }).time with ticks := 3007 * 65536, frac := 0 }, 3,
    by decide +kernel⟩

theorem hyps_Excitation_6 : ∃ (s : State) (u : State) (v : State) (q : Nat), v = (if (s.quad q).stretchTo.isNone then s.wr (R.qd_EXC_STATUS q) (putBit (s.rd (R.qd_EXC_STATUS q)) 4 false) else s).excTakesEffect q ∧ u = v.setQuad q { v.quad q with rise := (if (v.quad q).exc.pulsed then some (v.time.edge, s.eventTime (s.quad q).exc.period (s.quad q).exc.phase + (v.quad q).exc.width * ticksPerNs) else none) } ∧ (s.quad q).exc.pulsed = true ∧ s.onEvent (s.quad q).exc.period (s.quad q).exc.phase = true ∧ (s.quad q).pendingExc = true ∧ s.rd (R.bk_BANK_STATE (q / 8)) ≠ 0 :=
  ⟨((running [(R.bk_BANK_STATE 0,3),(R.qd_EXC_STATUS 3,16)]).setQuad 3 { Quad.init with exc := ⟨1,2500,0,true,1000,200,7⟩, pendingExc := true }).putTime { ((running [(R.bk_BANK_STATE 0,3),(R.qd_EXC_STATUS 3,16)]).setQuad 3 { Quad.init with exc := ⟨1,2500,0,true,1000,200,7⟩, pendingExc := true }).time with ticks := 3007 * 65536, frac := 0 }, _, _, 3,
    rfl, rfl, by decide +kernel⟩

theorem hyps_Excitation_7 : ∃ (s : State) (q : Nat), (s.quad q).exc.pulsed = true ∧ s.rd (R.bk_BANK_STATE (q / 8)) ≠ 0 ∧ (match (s.quad q).stretchTo, (s.quad q).rise with | some p, _ => decide (p ≤ s.time.edge * 256) | none, some r => s.nearEdge (s.fallTime r) || decide (s.fallTime r * 2 ^ 32 ≤ s.counter) | none, none => s.onEvent (s.quad q).exc.period ((s.quad q).exc.phase + (s.quad q).exc.width)) = true :=
  ⟨((running [(R.bk_BANK_STATE 0,3),(R.qd_EXC_STATUS 3,1)]).setQuad 3 { Quad.init with driverOn := true, exc := ⟨1,2500,0,true,1000,200,7⟩ }).putTime { ((running [(R.bk_BANK_STATE 0,3),(R.qd_EXC_STATUS 3,1)]).setQuad 3 { Quad.init with driverOn := true, exc := ⟨1,2500,0,true,1000,200,7⟩ }).time with ticks := 3207 * 65536, frac := 0 }, 3,
    by decide +kernel⟩

theorem hyps_DiagnosticSlots_1 : ∃ (s : State) (n : Nat), s.rd (R.ch_STAGE n) = 1 ∧ s.rd (R.ch_OW_PERIOD n) ≠ 0 ∧ s.rd (R.ch_OW_CURRENT n) ≠ 0 ∧ (s.chan n).owBase + s.rd (R.ch_OW_PERIOD n) * 1638400000 ≤ s.time.edge :=
  ⟨(running [(R.ch_STAGE 9,1),(R.ch_OW_PERIOD 9,10),(R.ch_OW_CURRENT 9,1)]).putTime { (running [(R.ch_STAGE 9,1),(R.ch_OW_PERIOD 9,10),(R.ch_OW_CURRENT 9,1)]).time with edge := 45 * 1638400000 + 7 }, 9,
    by decide +kernel⟩

theorem hyps_DiagnosticSlots_2 : ∃ (s : State) (h : Hdr) (n : Nat), OwnerAsks s h 0x02 ∧ s.part.fronts ≤ 7 ∧ n < 128 * s.part.fronts ∧ s.free_ (R.ch_OW_NOW n) ∧ s.rd (R.ch_LEGAL n) = 0 ∧ s.rd (R.bk_BANK_STATE (n / 32)) ≠ 0 :=
  ⟨running [(R.bk_BANK_STATE 9,3)], ownHdr, 300,
    asks_of _ _ _ (by decide +kernel), by decide +kernel⟩

theorem hyps_DiagnosticSlots_3 : ∃ (s : State) (n : Nat), ((s.chan n).owDue = true ∨ 0 < (s.chan n).owNow) ∧ s.rd (R.ch_STAGE n) = 1 ∧ s.rd (R.ch_OW_CURRENT n) ≠ 0 ∧ bitAt (s.rd (R.ch_CONV_STATUS n)) 0 = true ∧ s.slotFits n = true ∧ bitAt (s.rd (R.ch_CH_STATUS n)) 5 = false ∧ bitAt (s.rd (R.ch_CH_STATUS n)) 6 = false :=
  ⟨(running [(R.ch_STAGE 9,1),(R.ch_CONV_STATUS 9,1),(R.ch_OW_CURRENT 9,1)]).setChan 9 { Chan.init with owNow := 2 }, 9,
    by decide +kernel⟩

theorem hyps_DiagnosticSlots_4 : ∃ (s : State) (n : Nat), (s.chan n).owDue = true ∧ s.rd (R.ch_STAGE n) = 1 ∧ s.rd (R.ch_OW_CURRENT n) ≠ 0 ∧ bitAt (s.rd (R.ch_CONV_STATUS n)) 0 = true ∧ s.rd (R.ch_CONV_MODE n) = 0 ∧ bitAt (s.rd (R.ch_CH_STATUS n)) 5 = false ∧ bitAt (s.rd (R.ch_CH_STATUS n)) 6 = false ∧ (s.chan n).hold = .none ∧ s.rd (R.pu_CAP_ENABLE n) = 0 :=
  ⟨(running [(R.ch_STAGE 9,1),(R.ch_CONV_STATUS 9,1),(R.ch_OW_CURRENT 9,1)]).setChan 9 { Chan.init with owDue := true }, 9,
    by decide +kernel⟩

theorem hyps_DiagnosticSlots_5 : ∃ (s : State) (u : State) (n : Nat) (uv : Int) (over_ : Bool) (found : Bool), u = ((((s.wr (R.ch_OW_DELTA n) (ofSigned 32 uv)).wr (R.ch_OW_RESULT n) (if found then 2 else 1)).wr (R.ch_CH_STATUS n) (putBit (s.rd (R.ch_CH_STATUS n)) 2 found)).wr (R.ch_CH_STATUS n) (putBit (putBit (s.rd (R.ch_CH_STATUS n)) 2 found) 5 false)).resumeIf n ∧ bitAt (s.rd (R.ch_CH_STATUS n)) 5 = true ∧ found = (over_ || decide ((s.rd (R.ch_OW_THRESHOLD n) : Int) < uv.natAbs)) :=
  ⟨(running [(R.ch_STAGE 9,1),(R.ch_CONV_STATUS 9,1),(R.ch_CH_STATUS 9,32),(R.ch_OW_THRESHOLD 9,4000),(R.ch_TDR_AUTO 9,1)]).setChan 9 { Chan.init with hold := .slot }, _, 9, -5000, false, true,
    rfl, by decide +kernel⟩

theorem hyps_DiagnosticSlots_6 : ∃ (s : State) (n : Nat) (uv : Int) (over_ : Bool), bitAt (s.rd (R.ch_CH_STATUS n)) 5 = true ∧ bitAt (s.rd (R.ch_CH_STATUS n)) 6 = false ∧ (s.chan n).changing = false ∧ (s.chan n).faultEnd = none ∧ (s.chan n).hold = .slot ∧ (s.chan n).held = 0 ∧ (s.chan n).tdrPending = false ∧ s.rd (R.ch_TDR_AUTO n) = 0 ∧ s.rd (R.pu_CAP_ENABLE n) = 0 :=
  ⟨(running [(R.ch_STAGE 9,1),(R.ch_CONV_STATUS 9,1),(R.ch_CH_STATUS 9,32),(R.ch_OW_THRESHOLD 9,4000)]).setChan 9 { Chan.init with hold := .slot }, 9, -5000, false,
    by decide +kernel⟩

theorem hyps_Reflectometry_1 : ∃ (s : State) (h : Hdr) (n : Nat), OwnerAsks s h 0x02 ∧ s.part.fronts ≤ 7 ∧ n < 128 * s.part.fronts ∧ s.free_ (R.ch_TDR_START n) ∧ (s.rd (R.ch_STAGE n) = 1 ∨ s.rd (R.ch_STAGE n) = 2) ∧ s.rd (R.ch_LEGAL n) = 0 ∧ bitAt (s.rd (R.ch_CH_STATUS n)) 6 = false ∧ s.rd (R.bk_BANK_STATE (n / 32)) ≠ 0 :=
  ⟨running [(R.bk_BANK_STATE 9,3),(R.ch_STAGE 300,1)], ownHdr, 300,
    asks_of _ _ _ (by decide +kernel), by decide +kernel⟩

theorem hyps_Reflectometry_2 : ∃ (s : State) (h : Hdr) (n : Nat), OwnerAsks s h 0x02 ∧ s.part.fronts ≤ 7 ∧ n < 128 * s.part.fronts ∧ s.free_ (R.ch_TDR_START n) ∧ (s.rd (R.ch_STAGE n) = 1 ∨ s.rd (R.ch_STAGE n) = 2) ∧ s.rd (R.ch_LEGAL n) = 0 ∧ bitAt (s.rd (R.ch_CH_STATUS n)) 5 = false ∧ bitAt (s.rd (R.ch_CH_STATUS n)) 6 = false ∧ s.rd (R.bk_BANK_STATE (n / 32)) ≠ 0 ∧ (s.chan n).hold = .none ∧ s.rd (R.pu_CAP_ENABLE n) = 0 :=
  ⟨running [(R.bk_BANK_STATE 9,3),(R.ch_STAGE 300,1)], ownHdr, 300,
    asks_of _ _ _ (by decide +kernel), by decide +kernel⟩

theorem hyps_Reflectometry_3 : ∃ (s : State) (n : Nat), bitAt (s.rd (R.ch_CH_STATUS n)) 6 = true :=
  ⟨(running [(R.ch_TDR_STATE 300,1),(R.ch_CH_STATUS 300,64)]).setChan 300 { Chan.init with hold := .run }, 300,
    by decide +kernel⟩

theorem hyps_Reflectometry_4 : ∃ (s : State) (n : Nat), bitAt (s.rd (R.ch_CH_STATUS n)) 5 = false ∧ bitAt (s.rd (R.ch_CH_STATUS n)) 6 = true ∧ (s.chan n).changing = false ∧ (s.chan n).faultEnd = none ∧ (s.chan n).hold = .run ∧ s.rd (R.pu_CAP_ENABLE n) = 0 :=
  ⟨(running [(R.ch_TDR_STATE 300,1),(R.ch_CH_STATUS 300,64)]).setChan 300 { Chan.init with hold := .run }, 300,
    by decide +kernel⟩

theorem hyps_Reflectometry_5 : ∃ (s : State) (n : Nat) (l : List LeadPoint) (e : List (Nat × Nat)), e = tdrEvents (s.rd (R.ch_TDR_VOP n)) (sortPoints (l.filter fun p => s.rd (R.ch_TDR_THRESHOLD n) < p.change.natAbs)) ∧ bitAt (s.rd (R.ch_CH_STATUS n)) 5 = false ∧ bitAt (s.rd (R.ch_CH_STATUS n)) 6 = true ∧ (s.chan n).changing = false ∧ (s.chan n).faultEnd = none ∧ (s.chan n).hold = .run ∧ s.rd (R.pu_CAP_ENABLE n) = 0 :=
  ⟨(running [(R.ch_TDR_STATE 300,1),(R.ch_CH_STATUS 300,64)]).setChan 300 { Chan.init with hold := .run }, 300, [⟨6553600, -20000, -20000⟩], _,
    rfl, by decide +kernel⟩

theorem hyps_Reflectometry_6 : ∃ (vop : Nat) (p : LeadPoint), 16384 ≤ p.rho :=
  ⟨200, ⟨6553600, 20000, 20000⟩,
    by decide +kernel⟩

theorem hyps_Reflectometry_7 : ∃ (s : State) (h : Hdr) (n : Nat), OwnerAsks s h 0x0B ∧ s.part.fronts ≤ 7 ∧ n < 128 * s.part.fronts :=
  ⟨(running [(R.ch_TDR_STATE 300,1),(R.ch_CH_STATUS 300,64)]).setChan 300 { Chan.init with hold := .run }, ownHdr, 300,
    asks_of _ _ _ (by decide +kernel), by decide +kernel⟩

theorem hyps_Reflectometry_8 : ∃ (s : State) (h : Hdr) (n : Nat), OwnerAsks s h 0x0B ∧ s.part.fronts ≤ 7 ∧ n < 128 * s.part.fronts ∧ bitAt (s.rd (R.ch_CH_STATUS n)) 5 = false ∧ bitAt (s.rd (R.ch_CH_STATUS n)) 6 = true ∧ (s.chan n).changing = false ∧ (s.chan n).faultEnd = none ∧ (s.chan n).hold = .run ∧ s.rd (R.pu_CAP_ENABLE n) = 0 :=
  ⟨(running [(R.ch_TDR_STATE 300,1),(R.ch_CH_STATUS 300,64)]).setChan 300 { Chan.init with hold := .run }, ownHdr, 300,
    asks_of _ _ _ (by decide +kernel), by decide +kernel⟩

theorem hyps_Bursts_1 : ∃ (s : State) (q : Nat), s.burstsLive q = true ∧ s.startDue q = true ∧ s.rd (R.bk_BANK_STATE (q / 8)) = 3 ∧ (s.quad q).burstRunning = false :=
  ⟨(running [(R.qd_START_SRC 9,1),(R.qd_TIMER_PERIOD 9,1000),(R.qd_TIMER_PHASE 9,7),(R.ch_CONV_MODE 37,1),(R.ch_STAGE 37,1),(R.bk_BANK_STATE 1,3),(R.qd_START_DELAY 9,100)]).putTime { (running [(R.qd_START_SRC 9,1),(R.qd_TIMER_PERIOD 9,1000),(R.qd_TIMER_PHASE 9,7),(R.ch_CONV_MODE 37,1),(R.ch_STAGE 37,1),(R.bk_BANK_STATE 1,3),(R.qd_START_DELAY 9,100)]).time with ticks := 3007 * 65536, frac := 0 }, 9,
    by decide +kernel⟩

theorem hyps_Bursts_2 : ∃ (s : State) (q : Nat), s.burstsLive q = true ∧ s.startDue q = true ∧ (s.quad q).burstRunning = true :=
  ⟨((running [(R.qd_START_SRC 9,1),(R.qd_TIMER_PERIOD 9,1000),(R.qd_TIMER_PHASE 9,7),(R.ch_CONV_MODE 37,1),(R.ch_STAGE 37,1),(R.bk_BANK_STATE 1,3),(R.qd_START_DELAY 9,100)]).putTime { (running [(R.qd_START_SRC 9,1),(R.qd_TIMER_PERIOD 9,1000),(R.qd_TIMER_PHASE 9,7),(R.ch_CONV_MODE 37,1),(R.ch_STAGE 37,1),(R.bk_BANK_STATE 1,3),(R.qd_START_DELAY 9,100)]).time with ticks := 3007 * 65536, frac := 0 }).setQuad 9 { Quad.init with burstRunning := true }, 9,
    by decide +kernel⟩

theorem hyps_Bursts_3 : ∃ (s : State) (q : Nat), s.rd (R.qd_START_SRC q) ≠ 0 :=
  ⟨running [(R.qd_START_SRC 9,1),(R.ch_CONV_MODE 37,1),(R.ch_STAGE 37,1),(R.ch_CONV_STATUS 37,1)], 9,
    by decide +kernel⟩

theorem hyps_Bursts_4 : ∃ (s : State) (u : State) (v : State) (q : Nat) (l : List BurstSum), u = s.each (l.filter fun x => ((s.quad q).inHand.filter s.converting).contains x.chan && x.samples.length == (s.quad q).burstN) (burstValue q) ∧ v = u.each ((s.quad q).inHand.filter s.converting) (fun u n => u.wrBit (R.ch_CONV_STATUS n) 1 false) ∧ (s.quad q).burstRunning = true ∧ s.burstPos q ((s.quad q).burstN - 1) ≤ s.time.edge * 256 :=
  ⟨((running [(R.qd_START_SRC 9,1),(R.ch_CONV_MODE 37,1),(R.ch_STAGE 37,1),(R.ch_CONV_STATUS 37,3),(R.qd_BURST_N 9,1),(R.ch_STAGES 37,0),(R.ch_COARSE_LEN 37,8)]).setQuad 9 { Quad.init with burstRunning := true, burstN := 1, inHand := [37] }).putTime { ((running [(R.qd_START_SRC 9,1),(R.ch_CONV_MODE 37,1),(R.ch_STAGE 37,1),(R.ch_CONV_STATUS 37,3),(R.qd_BURST_N 9,1),(R.ch_STAGES 37,0),(R.ch_COARSE_LEN 37,8)]).setQuad 9 { Quad.init with burstRunning := true, burstN := 1, inHand := [37] }).time with edge := 100 }, _, _, 9, [⟨37, [⟨-5, Marks.none⟩], [3]⟩],
    rfl, rfl, by decide +kernel⟩

theorem hyps_Bursts_5 : ∃ (s : State) (q : Nat) (n : Nat) (k : Nat) (l : List Sample) (o : List Int), (s.quad q).burstRunning = true ∧ (s.quad q).burstN = k ∧ 1 ≤ k ∧ l.length = k ∧ s.burstPos q (k - 1) ≤ s.time.edge * 256 ∧ (s.quad q).inHand.filter s.converting = [n] ∧ s.rd (R.bk_BANK_STATE (bankOfChan n)) = 3 ∧ s.rd (R.ch_STAGE n) ≠ 0 ∧ (s.spare (quadOf n)).lost = [] ∧ (s.chan n).hold = .none ∧ (s.chan n).held = 0 ∧ s.rd (R.ch_STAGES n) = 0 ∧ s.rd (R.ch_RAW_FWD n) = 0 ∧ s.rd (R.pu_CAP_ENABLE n) = 0 ∧ (s.chan n).faultEnd = none ∧ quadOf n = q ∧ (s.spare q).phase = 0 ∧ (s.dieRef (q / 8 / 4 + 1)).switching = [] ∧ s.rd (R.ch_SAMPLES n) + k < 2 ^ regBits (R.ch_SAMPLES n) ∧ (s.quad q).exc.mode ≤ 2 :=
  ⟨((running [(R.qd_START_SRC 9,1),(R.ch_CONV_MODE 37,1),(R.ch_STAGE 37,1),(R.ch_CONV_STATUS 37,3),(R.qd_BURST_N 9,2),(R.ch_STAGES 37,0),(R.ch_COARSE_LEN 37,8),(R.ch_CAL_OFFSET 37,77),(R.bk_BANK_STATE 1,3)]).setQuad 9 { Quad.init with burstRunning := true, burstN := 2, inHand := [37] }).putTime { ((running [(R.qd_START_SRC 9,1),(R.ch_CONV_MODE 37,1),(R.ch_STAGE 37,1),(R.ch_CONV_STATUS 37,3),(R.qd_BURST_N 9,2),(R.ch_STAGES 37,0),(R.ch_COARSE_LEN 37,8),(R.ch_CAL_OFFSET 37,77),(R.bk_BANK_STATE 1,3)]).setQuad 9 { Quad.init with burstRunning := true, burstN := 2, inHand := [37] }).time with edge := 100 }, 9, 37, 2, [⟨-65536, Marks.none⟩, ⟨3 * 65536, Marks.none⟩], [3],
    by decide +kernel⟩

theorem hyps_Banks_1 : ∃ (s : State) (b : Nat), s.rd (R.bk_BANK_STATE b) = 1 ∧ ticksOfT96 (s.rd (R.bk_READY_AT b)) ≤ s.now :=
  ⟨running [(R.bk_BANK_STATE 5,1),(R.bk_READY_AT 5,t96OfTicks 1000),(R.bk_BANK_POWER 5,2),(R.ch_STAGE 161,1)], 5,
    by decide +kernel⟩

theorem hyps_Banks_2 : ∃ (s : State) (b : Nat), s.rd (R.bk_BANK_STATE b) = 1 ∧ ticksOfT96 (s.rd (R.bk_READY_AT b)) ≤ s.now ∧ s.rd (R.bk_BANK_POWER b) = 2 ∧ (∀ n ∈ chansOfBank b, s.rd (R.ch_STAGE n) = 0 ∧ s.converting n = false) :=
  ⟨running [(R.bk_BANK_STATE 5,1),(R.bk_READY_AT 5,t96OfTicks 1000),(R.bk_BANK_POWER 5,2)], 5,
    by decide +kernel⟩

theorem hyps_Banks_3 : ∃ (s : State) (b : Nat), 1 ≤ s.rd (R.bk_BANK_STATE b) ∧ s.rd (R.bk_BANK_STATE b) ≤ 3 :=
  ⟨running [(R.bk_BANK_STATE 5,1)], 5,
    by decide +kernel⟩

theorem hyps_Banks_4 : ∃ (s : State) (b : Nat), 1 ≤ s.rd (R.bk_BANK_STATE b) ∧ s.rd (R.bk_BANK_STATE b) ≤ 3 ∧ (∀ n ∈ chansOfBank b, s.converting n = false) :=
  ⟨running [(R.bk_BANK_STATE 5,1)], 5,
    by decide +kernel⟩

theorem hyps_Banks_5 : ∃ (s : State) (u : State) (b : Nat), u = (s.each (State.quadsOfBank b) State.abandonSubst).dropBursts b ∧ s.rd (R.bk_BANK_STATE b) = 4 ∧ (State.quadsOfBank b).any s.burstBegun = false :=
  ⟨running [(R.bk_BANK_STATE 5,4),(R.ch_CONV_STATUS 161,1),(R.ch_STAGE 161,1)], _, 5,
    rfl, by decide +kernel⟩

theorem hyps_Banks_6 : ∃ (s : State) (b : Nat), s.rd (R.bk_BANK_STATE b) = 4 ∧ (State.quadsOfBank b).any s.burstBegun = true :=
  ⟨(running [(R.bk_BANK_STATE 5,4)]).setQuad 40 { Quad.init with burstRunning := true }, 5,
    by decide +kernel⟩

theorem hyps_Banks_7 : ∃ (s : State) (b : Nat), s.rd (R.bk_BANK_STATE b) = 4 ∧ (State.quadsOfBank b).any s.burstBegun = false ∧ (∀ n ∈ chansOfBank b, s.converting n = false ∧ bitAt (s.rd (R.ch_CH_STATUS n)) 5 = false ∧ bitAt (s.rd (R.ch_CH_STATUS n)) 6 = false ∧ s.rd (R.pu_CAP_ENABLE n) = 0) ∧ (∀ q ∈ State.quadsOfBank b, (s.spare q).phase = 0) :=
  ⟨running [(R.bk_BANK_STATE 5,4)], 5,
    by decide +kernel⟩

theorem hyps_Banks_8 : ∃ (s : State) (u : State) (b : Nat), u = (s.wr (R.bk_BANK_STATE b) 0).settleDrain (b / 4 + 1) ∧ s.rd (R.bk_BANK_STATE b) = 5 :=
  ⟨running [(R.bk_BANK_STATE 5,5),(R.bk_BANK_POWER 5,2),(R.di_DIE_STATE 1,1),(R.di_LINK_STATE 1,2)], _, 5,
    rfl, by decide +kernel⟩

theorem hyps_Banks_9 : ∃ (s : State) (b : Nat), s.rd (R.bk_BANK_STATE b) = 5 ∧ s.rd (R.di_DIE_STATE (b / 4)) = 2 ∧ (s.link (b / 4 + 1)).drainOpen = false ∧ s.uplinkBusy (b / 4 + 1) = false ∧ ((∀ j, j < 4 → 4 * (b / 4) + j ≠ b → s.rd (R.bk_BANK_STATE (4 * (b / 4) + j)) = 0)) :=
  ⟨running [(R.bk_BANK_STATE 5,5),(R.di_DIE_STATE 1,2),(R.di_LINK_STATE 1,2)], 5,
    by decide +kernel⟩

theorem hyps_References_2 : ∃ (s : State) (d : Nat) (a : Nat) (b : Nat) (x : Nat) (ab : Int), ab = disagreement a b (s.recorded d).1 (s.recorded d).2 ∧ s.rd (R.di_REFX_PRESENT (d - 1)) = 0 ∧ s.rd (R.di_REF_STATE (d - 1)) = 0 ∧ (s.dieRef d).heldBanks = [] ∧ 5000 < ab.natAbs ∧ ab.natAbs ≤ 20000 :=
  ⟨(running [(R.ch_CONV_STATUS 300,9)]).setDieRef 3 { DieRef.init with recA := 2500000000, recB := 2500000000 }, 3, 2499850000, 2500000000, 2, _,
    rfl, by decide +kernel⟩

theorem hyps_References_3 : ∃ (s : State) (d : Nat) (a : Nat) (b : Nat) (x : Nat) (ab : Int), ab = disagreement a b (s.recorded d).1 (s.recorded d).2 ∧ s.rd (R.di_REFX_PRESENT (d - 1)) = 0 ∧ s.rd (R.di_REF_STATE (d - 1)) = 0 ∧ (s.dieRef d).heldBanks = [] ∧ 20000 < ab.natAbs ∧ ab.natAbs < 2 ^ 31 :=
  ⟨(running [(R.ch_CONV_STATUS 300,1)]).setDieRef 3 { DieRef.init with recA := 2500000000, recB := 2500000000 }, 3, 2498000000, 2500000000, 2, _,
    rfl, by decide +kernel⟩

theorem hyps_References_4 : ∃ (s : State) (d : Nat) (b : Bool), (s.dieRef d).recalBusy = false ∧ (s.refDis d).all (fun x => decide (x.natAbs < if b then 16000 else 4000)) = true :=
  ⟨running [(R.ch_CONV_STATUS 300,13),(R.di_REF_STATE 2,7)], 3, true,
    by decide +kernel⟩

theorem hyps_References_5 : ∃ (s : State) (d : Nat), s.rd (R.di_REFX_PRESENT (d - 1)) = 0 ∧ s.rd (R.di_REF_STATE (d - 1)) = 1 ∧ (s.rdI (R.di_DIS_AB (d - 1)) 32).natAbs < 4000 ∧ (s.dieRef d).heldBanks = [] ∧ (s.dieRef d).recalBusy = false :=
  ⟨running [(R.ch_CONV_STATUS 300,13),(R.di_REF_STATE 2,1)], 3,
    by decide +kernel⟩

theorem hyps_References_6 : ∃ (s : State) (h : Hdr) (d : Nat), OwnerAsks s h 0x02 ∧ s.part.fronts ≤ 7 ∧ 1 ≤ d ∧ d ≤ s.part.fronts ∧ s.free_ (R.di_REF_RECAL (d - 1)) ∧ s.rd (R.di_REFX_PRESENT (d - 1)) = 1 ∧ bitAt (s.rd (R.di_REF_STATE (d - 1))) 6 = false :=
  ⟨running [(R.di_REFX_PRESENT 2,1)], ownHdr, 3,
    asks_of _ _ _ (by decide +kernel), by decide +kernel⟩

theorem hyps_References_7 : ∃ (s : State) (d : Nat) (a : Nat) (b : Nat) (x : Nat), (s.dieRef d).recalBusy = true ∧ x ≠ 0 :=
  ⟨(running [(R.di_REFX_PRESENT 2,1),(R.di_REF_RECAL_V 2,2500000),(R.di_REF_STATE 2,7),(R.di_DIS_AB 2,700),(R.ch_CONV_STATUS 300,13),(R.ch_LEGAL 300,1)]).setDieRef 3 { DieRef.init with recalBusy := true }, 3, 2500000100, 2500000200, 2500000000,
    by decide +kernel⟩

theorem hyps_Calibration_1 : ∃ (s : State) (h : Hdr) (b : Nat), OwnerAsks s h 0x02 ∧ s.part.fronts ≤ 7 ∧ b < 4 * s.part.fronts ∧ s.free_ (R.bk_CAL_NOW b) ∧ s.rd (R.bk_BANK_STATE b) = 3 ∧ s.bankLegal b = false ∧ (∀ q ∈ State.quadsOfBank b, s.rd (R.ss_SUBST_STATE q) ≠ 0) :=
  ⟨running ((R.bk_BANK_STATE 9,3) :: (State.quadsOfBank 9).map fun q => (R.ss_SUBST_STATE q, 4)), ownHdr, 9,
    asks_of _ _ _ (by decide +kernel), by decide +kernel⟩

theorem hyps_Calibration_2 : ∃ (s : State) (h : Hdr) (b : Nat), OwnerAsks s h 0x02 ∧ s.part.fronts ≤ 7 ∧ b < 4 * s.part.fronts ∧ s.free_ (R.bk_CAL_NOW b) ∧ s.rd (R.bk_BANK_STATE b) = 3 ∧ s.bankLegal b = false :=
  ⟨running [(R.bk_BANK_STATE 9,3)], ownHdr, 9,
    asks_of _ _ _ (by decide +kernel), by decide +kernel⟩

theorem hyps_Calibration_3 : ∃ (s : State) (b : Nat), s.rd (R.bk_CAL_STATE b) = 1 ∧ (State.quadsOfBank b).any s.calBusy = true :=
  ⟨(running [(R.bk_CAL_STATE 9,1),(R.ss_SUBST_CAUSE 72,4)]).setSpare 72 { Spare.init with phase := 1 }, 9,
    by decide +kernel⟩

theorem hyps_Calibration_4 : ∃ (s : State) (b : Nat), s.rd (R.bk_CAL_STATE b) = 1 ∧ (State.quadsOfBank b).any s.calBusy = false :=
  ⟨running [(R.bk_CAL_STATE 9,1),(R.ch_SLICE 289,4),(R.ch_STAGE 289,1)], 9,
    by decide +kernel⟩

theorem hyps_Calibration_5 : ∃ (s : State) (q : Nat) (c : Nat) (off : Int) (gain : Int) (skew : Int) (drift : Int) (ok_ : Bool), s.rd (R.bk_BANK_STATE (q / 8)) = 3 ∧ c ≤ 4 :=
  ⟨running [(R.bk_BANK_STATE 1,3),(R.ch_SLICE 36,0),(R.cu_DRIFT_LIMIT,5000),(R.cu_OFFSET_LIMIT,3)], 9, 4, -9000, 5, -1, -70, true,
    by decide +kernel⟩

theorem hyps_Calibration_6 : ∃ (s : State) (q : Nat) (c : Nat) (off : Int) (gain : Int) (skew : Int) (drift : Int), s.rd (R.bk_BANK_STATE (q / 8)) = 3 ∧ c < 4 ∧ (s.spare q).phase = 0 ∧ s.spareServes q = false ∧ s.rd (R.ch_SLICE (4 * q + c)) = c ∧ drift.natAbs ≤ s.rd R.cu_DRIFT_LIMIT ∧ drift.natAbs < 2 ^ 32 ∧ (toSigned 32 (ofSigned 32 (State.stepTowards (s.rdI (R.ch_CAL_OFFSET (4 * q + c)) 32) off 4096)) - (s.chan (4 * q + c)).calBase).natAbs ≤ s.rd R.cu_OFFSET_LIMIT * 65536 :=
  ⟨running [(R.bk_BANK_STATE 1,3),(R.ch_SLICE 36,0),(R.cu_DRIFT_LIMIT,5000),(R.cu_OFFSET_LIMIT,3)], 9, 2, -9000, 5, -1, -70,
    by decide +kernel⟩

theorem hyps_Substitution_1 : ∃ (s : State) (h : Hdr) (q : Nat) (c : Nat), OwnerAsks s h 0x02 ∧ s.part.fronts ≤ 7 ∧ q < 32 * s.part.fronts ∧ c ≤ 3 ∧ s.free_ (R.ss_SUBST_REQ q) ∧ s.quadLegal q = false ∧ (s.spare q).phase = 0 ∧ s.rd (R.bk_CAL_STATE (q / 8)) ≠ 1 ∧ s.rd (R.bk_BANK_STATE (q / 8)) = 3 ∧ s.rd (R.ss_SUBST_STATE q) = 0 ∧ bitAt (s.rd (R.ss_SLICE_HEALTH q)) 4 = false :=
  ⟨running [(R.bk_BANK_STATE 5,3)], ownHdr, 40, 2,
    asks_of _ _ _ (by decide +kernel), by decide +kernel⟩

theorem hyps_Substitution_2 : ∃ (s : State) (h : Hdr) (q : Nat), OwnerAsks s h 0x02 ∧ s.part.fronts ≤ 7 ∧ q < 32 * s.part.fronts ∧ s.free_ (R.ss_SUBST_REQ q) ∧ s.quadLegal q = false ∧ (s.spare q).phase = 0 ∧ s.rd (R.bk_CAL_STATE (q / 8)) ≠ 1 ∧ s.rd (R.bk_BANK_STATE (q / 8)) = 3 ∧ s.rd (R.ss_SUBST_STATE q) = 4 ∧ bitAt (s.rd (R.ss_SLICE_HEALTH q)) (s.rd (R.ss_SPARE_FOR q)) = false :=
  ⟨(running [(R.bk_BANK_STATE 5,3),(R.ss_SUBST_STATE 40,4),(R.ss_SPARE_FOR 40,1)]).setSpare 40 { Spare.init with moving := 1 }, ownHdr, 40,
    asks_of _ _ _ (by decide +kernel), by decide +kernel⟩

theorem hyps_Substitution_3 : ∃ (s : State) (q : Nat), (s.spare q).phase = 1 ∧ s.substEnough q (s.rd R.cu_SHADOW_LEN) (s.rd R.cu_SHADOW_BURSTS) = true :=
  ⟨(running [(R.ss_SUBST_STATE 40,1)]).setSpare 40 { Spare.init with moving := 1, phase := 1 }, 40,
    by decide +kernel⟩

theorem hyps_Substitution_4 : ∃ (s : State) (q : Nat), (s.spare q).phase = 2 ∧ (((s.spare q).restoring = true → s.rd (R.ss_SUBST_CAUSE q) ≠ 4)) :=
  ⟨(running [(R.ss_SUBST_STATE 40,2)]).setSpare 40 { Spare.init with moving := 1, phase := 2 }, 40,
    by decide +kernel⟩

theorem hyps_Substitution_5 : ∃ (s : State) (q : Nat), (s.spare q).phase = 2 ∧ (s.spare q).restoring = true ∧ s.rd (R.ss_SUBST_CAUSE q) = 4 :=
  ⟨(running [(R.ss_SUBST_STATE 40,5),(R.ss_SUBST_CAUSE 40,4)]).setSpare 40 { Spare.init with moving := 1, phase := 2, restoring := true, newOffset := 7 }, 40,
    by decide +kernel⟩

theorem hyps_Substitution_6 : ∃ (s : State) (q : Nat), (s.spare q).phase = 3 ∧ s.substEnough q (s.rd R.cu_FADE_LEN) (s.rd R.cu_FADE_BURSTS) = true :=
  ⟨(running [(R.ss_SUBST_STATE 40,3),(R.ss_SUBST_CAUSE 40,4),(R.cu_SLICE_SPARES,9)]).setSpare 40 { Spare.init with moving := 1, phase := 3 }, 40,
    by decide +kernel⟩

theorem hyps_Substitution_7 : ∃ (s : State) (q : Nat) (n : Nat), n = 4 * q + (s.spare q).moving ∧ (s.spare q).phase = 3 ∧ s.substEnough q (s.rd R.cu_FADE_LEN) (s.rd R.cu_FADE_BURSTS) = true ∧ (s.spare q).restoring = false ∧ s.rd (R.ss_SUBST_CAUSE q) ≠ 4 ∧ (s.spare q).moving < 4 ∧ s.rd (R.ch_LEGAL n) = 0 :=
  ⟨(running [(R.ss_SUBST_STATE 40,3),(R.ss_SUBST_CAUSE 40,1),(R.cu_SLICE_SPARES,9)]).setSpare 40 { Spare.init with moving := 1, phase := 3 }, 40, _,
    rfl, by decide +kernel⟩

theorem hyps_SparesInUse_1 : ∃ (s : State) (n : Nat) (q : Nat), quadOf n = q ∧ s.rd (R.ch_SLICE n) ≠ 4 ∧ s.spareServes q = false ∧ bitAt (s.rd (R.ss_SLICE_HEALTH q)) 4 = false ∧ (s.spare q).lost.contains (n % 4) = false :=
  ⟨(running [(R.ss_SPARE_FOR 40,255),(R.cu_SLICE_SPARES,9)]).setSpare 40 { Spare.init with calOffset := -5, calGain := 6, calSkew := -7 }, 161, 40,
    by decide +kernel⟩

theorem hyps_SparesInUse_2 : ∃ (s : State) (n : Nat) (q : Nat), quadOf n = q ∧ s.rd (R.ch_SLICE n) ≠ 4 ∧ s.spareServes q = true ∧ (s.spare q).lost.contains (n % 4) = false :=
  ⟨running [(R.ch_SLICE 160,4)], 161, 40,
    by decide +kernel⟩

theorem hyps_SparesInUse_3 : ∃ (s : State) (core : Nat), s.cores.out.contains core = false ∧ tabGet 0 s.cores.misses core + 1 < 10 :=
  ⟨running [], 2,
    by decide +kernel⟩

theorem hyps_SparesInUse_4 : ∃ (s : State) (core : Nat), s.cores.out.contains core = false ∧ tabGet 0 s.cores.misses core = 9 ∧ s.cores.spareUsed = false :=
  ⟨(running []).putCores { (running []).cores with misses := [(2, 9)] }, 2,
    by decide +kernel⟩

theorem hyps_SparesInUse_5 : ∃ (s : State) (k : Nat), tabGet 0 s.mode.rowsUsed 0 = k ∧ k < 384 :=
  ⟨(running [(R.cu_ROW_SPARES, 8)]).putMode { (running [(R.cu_ROW_SPARES, 8)]).mode with rowsUsed := [(0, 383)] }, 383,
    by decide +kernel⟩

theorem hyps_SparesInUse_6 : ∃ (s : State) (d : Nat) (k : Nat), 1 ≤ d ∧ d ≤ s.part.fronts ∧ tabGet 0 s.mode.rowsUsed d = k ∧ k < 512 :=
  ⟨(running [(R.cu_ROW_SPARES, 8)]).putMode { (running [(R.cu_ROW_SPARES, 8)]).mode with rowsUsed := [(5, 511)] }, 5, 511,
    by decide +kernel⟩

theorem hyps_SparesInUse_7 : ∃ (s : State) (d : Nat), 1 ≤ d ∧ d ≤ s.part.fronts ∧ 512 ≤ tabGet 0 s.mode.rowsUsed d :=
  ⟨(running []).putMode { (running []).mode with rowsUsed := [(5, 512)] }, 5,
    by decide +kernel⟩

theorem hyps_SparesInUse_8 : ∃ (s : State) (d : Nat) (ppm : Nat) (rate : Nat) (l : List Nat), l = lastN 1001 (tabGet [] s.mode.ages d ++ [ppm]) ∧ rate = (if l.length - 1 = 0 then 0 else roundNear ((ppm - l.headD 0) * 1000) (l.length - 1)) :=
  ⟨(running []).putMode { (running []).mode with ages := [(3, [100, 200])] }, 3, 400, _, _,
    rfl, rfl⟩

theorem hyps_SparesInUse_9 : ∃ (s : State) (d : Nat) (ppm : Nat), tabGet [] s.mode.ages d = [] ∧ ppm ≤ 50000 :=
  ⟨running [(R.ag_AGE_WARN 3, 300)], 3, 400,
    by decide +kernel⟩

theorem hyps_GobOutputs_1 : ∃ (s : State) (u : State) (w : State) (n : Nat) (pos : Nat) (input : Int) (other : Int) (m : Marks) (r : State × Sample), u = s.settleFault n pos ∧ r = u.sliceSample n ⟨input, m⟩ pos ∧ w = ((r.1.gobTake n ⟨u.calibrate n (codeOf input) (codeOf other) 1 (u.chan n).chopNeg, pos * 65536, pos * 65536, r.2.marks⟩).substCount n).cycleTick n ∧ s.converting n = true ∧ s.isBurst n = false ∧ s.inBurst n = false ∧ pos % convSpacing (s.rd (R.ch_CONV_RATE n)) = 0 :=
  ⟨running [(R.ch_CONV_STATUS 5,1),(R.ch_CONV_RATE 5,3),(R.ch_STAGES 5,1),(⟨.channel, 5, 0x29⟩,256),(⟨.channel, 5, 0x2A⟩,1),(R.ch_CAL_OFFSET 5,1000),(R.tm_TIME_STATE,2)], _, _, 5, 7 * 1024, -5046272, 3, Marks.none, _,
    rfl, rfl, rfl, by decide +kernel⟩

theorem hyps_GobOutputs_2 : ∃ (s : State) (n : Nat) (pos : Nat) (input : Int) (other : Int) (m : Marks), s.converting n = true ∧ s.isBurst n = false ∧ s.inBurst n = false ∧ s.rd (R.di_MAINS_SENSE (dieOf n - 1)) ≠ n ∧ pos % convSpacing (s.rd (R.ch_CONV_RATE n)) = 0 ∧ (s.chan n).faultEnd = none ∧ (s.spare (quadOf n)).phase = 0 ∧ (s.dieRef (bankOfChan n / 4 + 1)).switching = [] ∧ s.rd (R.ch_STAGES n) = 1 ∧ s.rd ⟨.channel, n, 0x29⟩ = 256 ∧ s.rd ⟨.channel, n, 0x2A⟩ = 1 ∧ s.rd (R.ch_TRACK_STAGE n) = 0 ∧ s.rd (R.ch_RAW_FWD n) = 0 ∧ s.rd (R.pu_CAP_ENABLE n) = 0 ∧ (s.chan n).chopNeg = false ∧ (s.chan n).hold = .none ∧ (s.chan n).held = 0 ∧ s.pathsOf n = [] ∧ s.pathReads n = false ∧ (s.chan n).counts = [0, 0, 0, 0] ∧ (s.chan n).lines = [[], [], [], []] :=
  ⟨running [(R.ch_CONV_STATUS 5,1),(R.ch_CONV_RATE 5,3),(R.ch_STAGES 5,1),(⟨.channel, 5, 0x29⟩,256),(⟨.channel, 5, 0x2A⟩,1),(R.ch_CAL_OFFSET 5,1000),(R.tm_TIME_STATE,2)], 5, 7 * 1024, -5046272, 3, Marks.none,
    by decide +kernel⟩

theorem hyps_GobOutputs_3 : ∃ (s : State) (n : Nat), (s.chan n).held ≠ 0 ∧ (s.chan n).hold = .none ∧ s.blockNeed n ≤ (s.chan n).block.n ∧ 1 ≤ (s.chan n).block.n :=
  ⟨(running [(R.ch_CONV_STATUS 5,1),(R.ch_COARSE_LEN 5,4),(R.ch_GOB_STATUS 5,4)]).setChan 5 { Chan.init with held := 2, block := ⟨123456789012345 * 2 ^ 32, 4, 4 * 65536 * 3000, 0, Marks.none⟩ }, 5,
    by decide +kernel⟩

theorem hyps_GobOutputs_4 : ∃ (s : State) (n : Nat) (v : Int), v = quotient (s.chan n).block.sum (s.chan n).block.n ∧ (s.chan n).held = 2 ∧ (s.chan n).hold = .none ∧ s.blockNeed n ≤ (s.chan n).block.n ∧ 1 ≤ (s.chan n).block.n ∧ s.pathsOf n = [] ∧ s.pathReads n = false :=
  ⟨(running [(R.ch_CONV_STATUS 5,1),(R.ch_COARSE_LEN 5,4),(R.ch_GOB_STATUS 5,4)]).setChan 5 { Chan.init with held := 2, block := ⟨123456789012345 * 2 ^ 32, 4, 4 * 65536 * 3000, 0, Marks.none⟩ }, 5, _,
    rfl, by decide +kernel⟩

theorem hyps_GobOutputs_5 : ∃ (s : State) (n : Nat) (v : Int), v = quotient (s.chan n).block.sum (s.chan n).block.n ∧ (s.chan n).held = 1 ∧ (s.chan n).hold = .none ∧ s.blockNeed n ≤ (s.chan n).block.n ∧ 1 ≤ (s.chan n).block.n ∧ s.pathsOf n = [] ∧ s.pathReads n = false ∧ s.rd (R.ch_STAGES n) = 0 :=
  ⟨(running [(R.ch_CONV_STATUS 5,1),(R.ch_STAGES 5,0),(R.ch_COARSE_LEN 5,4),(R.ch_GOB_STATUS 5,4)]).setChan 5 { Chan.init with held := 1, block := ⟨123456789012345 * 2 ^ 32, 4, 4 * 65536 * 3000, 0, Marks.none⟩, heldIn := [(⟨7, 0, 0, Marks.none⟩, .withheld), (⟨8, 65536, 65536, Marks.none⟩, .valid)] }, 5, _,
    rfl, by decide +kernel⟩

theorem hyps_GobOutputs_6 : ∃ (s : State) (n : Nat) (b : GobBlock) (l : List GobBlock), (s.chan n).detDone = b :: l ∧ bitAt (s.rd (R.ch_GOB_STATUS n)) 1 = false ∧ (s.chan n).hold = .none :=
  ⟨(running [(R.ch_STEP_DETECT 5,100)]).setChan 5 { Chan.init with prevMean := some (-800 * 4000000000 * 2 ^ 32 * 4, 4), detDone := [⟨800 * 4000000000 * 2 ^ 32 * 4, 4, 4 * 65536 * 3000, 0, Marks.none⟩] }, 5, ⟨800 * 4000000000 * 2 ^ 32 * 4, 4, 4 * 65536 * 3000, 0, Marks.none⟩, [],
    by decide +kernel⟩

theorem hyps_GobOutputs_7 : ∃ (s : State) (n : Nat) (q : Nat) (b : GobBlock) (l : List GobBlock) (p : Int), (s.chan n).detDone = b :: l ∧ bitAt (s.rd (R.ch_GOB_STATUS n)) 1 = false ∧ (s.chan n).hold = .none ∧ (s.chan n).prevMean = some (p, q) ∧ ((s.rd (R.ch_STEP_DETECT n) * valueUnit * q * b.n : Nat) : Int) < ((b.sum * q - p * b.n).natAbs : Int) ∧ s.pathsOf n = [] ∧ s.pathReads n = false :=
  ⟨(running [(R.ch_STEP_DETECT 5,100)]).setChan 5 { Chan.init with prevMean := some (-800 * 4000000000 * 2 ^ 32 * 4, 4), detDone := [⟨800 * 4000000000 * 2 ^ 32 * 4, 4, 4 * 65536 * 3000, 0, Marks.none⟩] }, 5, 4, ⟨800 * 4000000000 * 2 ^ 32 * 4, 4, 4 * 65536 * 3000, 0, Marks.none⟩, [], -800 * 4000000000 * 2 ^ 32 * 4,
    by decide +kernel⟩

theorem hyps_GobOutputs_8 : ∃ (s : State) (n : Nat) (q : Nat) (b : GobBlock) (l : List GobBlock) (p : Int), (s.chan n).detDone = b :: l ∧ bitAt (s.rd (R.ch_GOB_STATUS n)) 1 = false ∧ (s.chan n).hold = .none ∧ (s.chan n).prevMean = some (p, q) ∧ ((b.sum * q - p * b.n).natAbs : Int) ≤ ((s.rd (R.ch_STEP_DETECT n) * valueUnit * q * b.n : Nat) : Int) :=
  ⟨(running [(R.ch_STEP_DETECT 5,100)]).setChan 5 { Chan.init with prevMean := some (799 * 4000000000 * 2 ^ 32 * 4, 4), detDone := [⟨800 * 4000000000 * 2 ^ 32 * 4, 4, 4 * 65536 * 3000, 0, Marks.none⟩] }, 5, 4, ⟨800 * 4000000000 * 2 ^ 32 * 4, 4, 4 * 65536 * 3000, 0, Marks.none⟩, [], 799 * 4000000000 * 2 ^ 32 * 4,
    by decide +kernel⟩

theorem hyps_GobOutputs_11 : ∃ (s : State) (n : Nat), (s.chan n).tailWords ≠ [] ∧ (s.chan n).rawWords = [] ∧ s.noInjection ∧ s.linkUp (dieOf n) = true ∧ (s.link (dieOf n)).creditHeld = false ∧ (s.link (dieOf n)).up.held = [] :=
  ⟨(running [(R.di_LINK_STATE 3,2)]).setChan 500 { Chan.init with tailWords := [1,2,3] }, 500,
    by decide +kernel⟩

theorem hyps_GobOutputs_12 : ∃ (s : State) (n : Nat), (s.chan n).tailWords ≠ [] ∧ (s.chan n).rawWords = [] ∧ s.linkUp (dieOf n) = false :=
  ⟨(running [(R.di_LINK_STATE 3,4)]).setChan 500 { Chan.init with tailWords := [1,2,3] }, 500,
    by decide +kernel⟩

theorem hyps_GobOutputs_13 : ∃ (s : State) (d : Nat) (n : Nat) (p0 : Nat) (p1 : Nat) (mean : Int) (v0 : Int) (v1 : Int) (l : List (Int × Nat)), s.rd (R.di_MAINS_SENSE (d - 1)) = n ∧ n ≠ 0xFFFF ∧ (s.dieRef d).sense = (v1, p1) :: (v0, p0) :: l ∧ v0 < mean ∧ mean ≤ v1 :=
  ⟨(running [(R.di_MAINS_SENSE 1,130)]).setDieRef 2 { DieRef.init with sense := [(10, 3 * 65536), (0, 65536)] }, 2, 130, 65536, 3 * 65536, 5, 0, 10, [],
    by decide +kernel⟩

theorem hyps_GobOutputs_14 : ∃ (s : State) (d : Nat) (mean : Int), s.crossingPos d mean = none :=
  ⟨(running [(R.di_MAINS_SENSE 1,130)]).setDieRef 2 { DieRef.init with sense := [(10, 3 * 65536), (0, 65536)] }, 2, 50,
    by decide +kernel⟩

theorem hyps_GobOutputs_15 : ∃ (s : State) (d : Nat) (pos : Nat) (mean : Int), s.crossingPos d mean = some pos ∧ (s.dieRef d).mainsTimes = [] :=
  ⟨(running [(R.di_MAINS_SENSE 1,130),(R.di_MAINS_STATE 1,0),(R.di_MAINS_AVG 1,8)]).setDieRef 2 { DieRef.init with sense := [(10, 1500 * 65536), (0, 500 * 65536)] }, 2, 1000, 5,
    by decide +kernel⟩

theorem hyps_GobOutputs_16 : ∃ (s : State) (d : Nat) (pos : Nat) (freq : Nat) (mean : Int) (l : List Nat), l = lastN (s.rd (R.di_MAINS_AVG (d - 1)) + 1) ((s.dieRef d).mainsTimes ++ [pos]) ∧ freq = (l.length - 1) * 1638400000 * 256 * 1000000 / (l.getLastD 0 - l.headD 0) ∧ s.crossingPos d mean = some pos ∧ 2 ≤ l.length ∧ l.headD 0 < l.getLastD 0 ∧ (mainsRange (s.rd (R.di_MAINS_NOMINAL (d - 1)))).1 ≤ freq ∧ freq ≤ (mainsRange (s.rd (R.di_MAINS_NOMINAL (d - 1)))).2 :=
  ⟨(running [(R.di_MAINS_SENSE 1,130),(R.di_MAINS_STATE 1,1),(R.di_MAINS_AVG 1,8)]).setDieRef 2 { DieRef.init with mainsTimes := [1000], goodCycles := 7, sense := [(10, (1000 + 32768000 * 256) * 65536 + 65536), (0, (1000 + 32768000 * 256) * 65536 - 65536)] }, 2, 1000 + 32768000 * 256, _, 5, _,
    rfl, rfl, by decide +kernel⟩

theorem hyps_GobOutputs_17 : ∃ (s : State) (d : Nat) (pos : Nat) (freq : Nat) (mean : Int) (l : List Nat), l = lastN (s.rd (R.di_MAINS_AVG (d - 1)) + 1) ((s.dieRef d).mainsTimes ++ [pos]) ∧ freq = (l.length - 1) * 1638400000 * 256 * 1000000 / (l.getLastD 0 - l.headD 0) ∧ s.crossingPos d mean = some pos ∧ 2 ≤ l.length ∧ l.headD 0 < l.getLastD 0 ∧ (freq < (mainsRange (s.rd (R.di_MAINS_NOMINAL (d - 1)))).1 ∨ (mainsRange (s.rd (R.di_MAINS_NOMINAL (d - 1)))).2 < freq) :=
  ⟨(running [(R.di_MAINS_SENSE 1,130),(R.di_MAINS_STATE 1,2),(R.di_MAINS_AVG 1,8)]).setDieRef 2 { DieRef.init with mainsTimes := [1000], goodCycles := 7, sense := [(10, (1000 + 3276800 * 256) * 65536 + 65536), (0, (1000 + 3276800 * 256) * 65536 - 65536)] }, 2, 1000 + 3276800 * 256, _, 5, _,
    rfl, rfl, by decide +kernel⟩

theorem hyps_GobOutputs_18 : ∃ (s : State) (d : Nat), (s.rd (R.di_MAINS_STATE (d - 1)) = 1 ∨ s.rd (R.di_MAINS_STATE (d - 1)) = 2) :=
  ⟨(running [(R.di_MAINS_STATE 1,2),(R.ch_TRACK_STAGE 130,2),(R.ch_GOB_STATUS 130,8)]).setDieRef 2 { DieRef.init with mainsTimes := [1000] }, 2,
    by decide +kernel⟩

theorem hyps_LehrRounds_1 : ∃ (s : State) (lane : Option Nat) (r : State × Bool), r = lehrRoundStep lane s :=
  ⟨running [(R.di_EBUF_FILL 2, 8)], some 5, _,
    rfl⟩

theorem hyps_LehrRounds_2 : ∃ (s : State), (∀ d, (s.link d).creditHeld = false) ∧ s.part.fronts ≤ 7 ∧ s.paths = [] :=
  ⟨(running [(R.di_EBUF_FILL 2, 8)]).setLink 3 { DieLink.init with ebuf := [⟨2, 4, false, false, [1, 2]⟩] },
    fun d => by rw [State.setLink_link_read]; split <;> rfl, by decide +kernel⟩

theorem hyps_LehrRounds_3 : ∃ (s : State) (lane : Nat), (∀ d, (s.link d).creditHeld = false ∧ (s.link d).ebuf = []) ∧ (∀ d, s.rd (R.di_EBUF_FILL d) = 0) ∧ s.paths = [] ∧ tabGet [] s.lehr.mismatches lane = [] :=
  ⟨running [], 5,
    fun d => ⟨rfl, rfl⟩, fun d => (running_rd _ (R.di_EBUF_FILL d) (by simp)).trans rfl, by decide +kernel⟩

theorem hyps_LehrRounds_4 : ∃ (s : State) (lane : Nat) (a : Nat) (b : Nat), (∀ d, (s.link d).creditHeld = false ∧ (s.link d).ebuf = []) ∧ (∀ d, s.rd (R.di_EBUF_FILL d) = 0) ∧ s.paths = [] ∧ tabGet [] s.lehr.mismatches lane = [a, b] ∧ s.time.edge < a + edgesPerSec ∧ s.time.edge < b + edgesPerSec ∧ 0 < s.rd R.le_LANE_SPARES ∧ s.rd R.ig_EVT_SEQ + 4 < 2 ^ 32 :=
  ⟨{ (running [(R.le_LANE_SPARES, 3)]) with lehr := ⟨[(5, [0, 0])], [], [], []⟩ }, 5, 0, 0,
    fun d => ⟨rfl, rfl⟩, fun d => (running_rd _ (R.di_EBUF_FILL d) (by simp)).trans rfl, by decide +kernel⟩

theorem hyps_LehrRounds_5 : ∃ (s : State) (p : Nat), (∀ d, (s.link d).creditHeld = false ∧ (s.link d).ebuf = []) ∧ (∀ d, s.rd (R.di_EBUF_FILL d) = 0) ∧ s.lehr.carry = [] ∧ s.livePathList = [p] ∧ (s.path p).cutOff = false ∧ (s.path p).live = true ∧ (s.path p).ending = none ∧ (s.path p).produced = true ∧ (s.path p).inputs = [] ∧ (s.path p).gaps = [] ∧ s.pathOutput p = none ∧ s.rd (R.pa_PATH_STATE p) = 2 ∧ s.inputLate p = true :=
  ⟨(running [(R.pa_ENABLE 6,1),(R.pa_PATH_STATE 6,2),(R.pa_OUT_PERIOD 6,65536000),(R.pa_RS_TAPS 6,16),(R.pa_FIR_DEC 6,1),(R.le_LANES_WORKING,64),(R.le_CAPACITY,10^12)]).setPath 6 { Path.init with live := true, produced := true, nextGrid := 5, fr := ⟨0,65536000,1,3⟩, cur := ⟨[],0,16,0⟩ }, 6,
    fun d => ⟨rfl, rfl⟩, fun d => (State.setPath_rd _ _ _ _).trans ((running_rd _ (R.di_EBUF_FILL d) (by simp)).trans rfl), by decide +kernel⟩

theorem hyps_LehrRounds_6 : ∃ (s : State) (p : Nat), (∀ d, (s.link d).creditHeld = false ∧ (s.link d).ebuf = []) ∧ (∀ d, s.rd (R.di_EBUF_FILL d) = 0) ∧ s.lehr.carry = [] ∧ s.livePathList = [p] ∧ (s.path p).cutOff = false ∧ (s.path p).live = true ∧ (s.path p).ending = none ∧ (s.path p).inputs = [] ∧ (s.path p).gaps = [] ∧ s.pathOutput p = none ∧ s.rd (R.pa_PATH_STATE p) = 5 ∧ s.inputLate p = false :=
  ⟨(running [(R.pa_ENABLE 6,1),(R.pa_PATH_STATE 6,5),(R.pa_OUT_PERIOD 6,65536000),(R.pa_RS_TAPS 6,16),(R.pa_FIR_DEC 6,1),(R.le_LANES_WORKING,64),(R.le_CAPACITY,10^12)]).setPath 6 { Path.init with live := true, produced := true, nextGrid := 223456789012345678, fr := ⟨0,65536000,1,3⟩, cur := ⟨[],0,16,0⟩ }, 6,
    fun d => ⟨rfl, rfl⟩, fun d => (State.setPath_rd _ _ _ _).trans ((running_rd _ (R.di_EBUF_FILL d) (by simp)).trans rfl), by decide +kernel⟩

theorem hyps_LehrRounds_7 : ∃ (s : State) (p : Nat), (s.path p).words ≠ [] :=
  ⟨(running [(R.qu_QSTATE 3,1),(R.qu_CELL_QUOTA 3,100),(R.qu_FRIT_CTX 3,0xFFFF)]).setPath 6 { Path.init with live := true, words := [1,2], firstInstant := 77, fr := ⟨0,65536000,1,3⟩ }, 6,
    by decide +kernel⟩

theorem hyps_LehrRounds_8 : ∃ (s : State) (p : Nat), (s.path p).words ≠ [] ∧ s.isLegal (s.path p).fr.source = false :=
  ⟨(running [(R.qu_QSTATE 3,1),(R.qu_CELL_QUOTA 3,100),(R.qu_FRIT_CTX 3,0xFFFF)]).setPath 6 { Path.init with live := true, words := [1,2], firstInstant := 77, openSealed := true, fr := ⟨0,65536000,1,3⟩ }, 6,
    by decide +kernel⟩

theorem hyps_LehrRounds_9 : ∃ (s : State) (p : Nat) (d : Nat), d = dieOf (s.path p).fr.source ∧ (s.path p).live = true ∧ ((s.link d).ebuf.any fun e => e.typ == 2 && e.stream == gobStream (s.path p).fr.source && e.start) = false :=
  ⟨(running [(R.pa_OUT_PERIOD 6,65536000)]).setPath 6 { Path.init with live := true, fr := ⟨0,65536000,1,3⟩ }, 6, _,
    rfl, by decide +kernel⟩

theorem hyps_LehrRounds_10 : ∃ (s : State) (p : Nat) (d : Nat), d = dieOf (s.path p).fr.source ∧ (s.path p).live = true ∧ ((s.link d).ebuf.any fun e => e.typ == 2 && e.stream == gobStream (s.path p).fr.source && e.start) = true :=
  ⟨((running [(R.pa_OUT_PERIOD 6,65536000)]).setPath 6 { Path.init with live := true, fr := ⟨0,65536000,1,3⟩ }).setLink 1 { DieLink.init with ebuf := [⟨2, 0, true, false, []⟩] }, 6, _,
    rfl, by decide +kernel⟩

theorem hyps_LehrRounds_11 : ∃ (s : State) (p : Nat) (d : Nat) (again : Bool), d = dieOf (s.path p).fr.source ∧ (s.path p).live = true ∧ ((s.path p).closed = true ∨ (s.path p).produced = false) ∧ again = ((s.path p).restarted && !(s.path p).produced && !(s.path p).closed) ∧ (s.path p).ending = none ∧ (s.link d).ebuf = [] ∧ (s.link d).creditHeld = false :=
  ⟨(running [(R.pa_OUT_PERIOD 6,65536000)]).setPath 6 { Path.init with live := true, fr := ⟨0,65536000,1,3⟩ }, 6, _, false,
    rfl, by decide +kernel⟩

theorem hyps_LehrRounds_12 : ∃ (s : State) (p : Nat), (s.path p).live = true :=
  ⟨(running [(R.pa_OUT_PERIOD 6,65536000)]).setPath 6 { Path.init with live := true, fr := ⟨0,65536000,1,3⟩ }, 6,
    by decide +kernel⟩

theorem hyps_LehrRounds_13 : ∃ (s : State) (p : Nat) (d : Nat), d = dieOf (s.path p).fr.source ∧ (s.path p).live = true ∧ (s.path p).closed = false ∧ (s.path p).inputs = [] ∧ (s.path p).ending = none ∧ (s.path p).gaps = [] ∧ s.lives p = [] ∧ (s.link d).ebuf = [] ∧ (s.readEbuf d).pathOutput p = none :=
  ⟨(running [(R.pa_RS_TAPS 6,16),(R.qu_QSTATE 3,1),(R.qu_CELL_QUOTA 3,100),(R.qu_FRIT_CTX 3,0xFFFF)]).setPath 6 { Path.init with live := true, produced := true, words := [1,2], fr := ⟨0,65536000,1,3⟩, cur := ⟨[],0,16,0⟩ }, 6, _,
    rfl, by decide +kernel⟩

theorem hyps_LehrRounds_14 : ∃ (s : State) (p : Nat) (d : Nat), d = dieOf (s.path p).fr.source ∧ (s.path p).live = true ∧ (s.path p).closed = true ∧ (s.link d).ebuf = [] ∧ (s.link d).creditHeld = false :=
  ⟨(running [(R.pa_RS_TAPS 6,16)]).setPath 6 { Path.init with live := true, closed := true, fr := ⟨0,65536000,1,3⟩, cur := ⟨[],0,16,0⟩ }, 6, _,
    rfl, by decide +kernel⟩

theorem hyps_TriggerMatrix_2 : ∃ (s : State) (src : TrigSrc) (time : Nat) (m : Nat), m < 32 ∧ ((∀ k, k < 32 → k ≠ m → field (s.rd (R.mx_MOUT k)) 75 66 = 0)) ∧ field (s.rd (R.mx_MOUT m)) 75 66 = 1 ∧ State.mxSource (s.rd (R.mx_MOUT m)) m src = true ∧ s.matrix.events = [] ∧ m ∉ s.matrix.holdoff ∧ field (s.rd (R.mx_MOUT m)) 45 36 = 0x3FF ∧ field (s.rd (R.mx_MOUT m)) 25 22 = 0 ∧ bitAt (s.rd (R.mx_MOUT m)) 78 = false ∧ field (s.rd (R.mx_MOUT m)) 15 0 ≠ 0 :=
  ⟨running [(R.mx_MOUT 7, 1 * 2^66 + 2^103 + 0x3FF * 2^118 + 0x3FF*2^36 + 5)], .trig 3, 5000, 7,
    by decide +kernel⟩

theorem hyps_TriggerMatrix_3 : ∃ (s : State) (src : TrigSrc) (time : Nat) (m : Nat) (late : Bool), m < 32 ∧ ((∀ k, k < 32 → k ≠ m → field (s.rd (R.mx_MOUT k)) 75 66 = 0)) ∧ 2 ≤ field (s.rd (R.mx_MOUT m)) 75 66 ∧ State.mxSource (s.rd (R.mx_MOUT m)) m src = true ∧ s.matrix.events = [] ∧ m ∉ s.matrix.holdoff :=
  ⟨running [(R.mx_MOUT 7, 2 * 2^66 + 2^103 + 0x3FF * 2^118 + 0x3FF*2^36 + 5)], .trig 3, 5000, 7, true,
    by decide +kernel⟩

theorem hyps_TriggerMatrix_5 : ∃ (s : State) (m : Nat) (e : MxEvent) (l : List MxEvent), s.matrix.events = e :: l ∧ e.output = m :=
  ⟨(running []).putMatrix { (running []).matrix with events := [⟨7, .trig 3, 5, false⟩, ⟨8, .trig 3, 5, false⟩] }, 7, ⟨7, .trig 3, 5, false⟩, [⟨8, .trig 3, 5, false⟩],
    by decide +kernel⟩

theorem hyps_TriggerMatrix_7 : ∃ (s : State) (u : State) (dir : Nat) (lane : Nat) (p : Block), u = s.heard lane p ∧ field p.toNat 31 0 ≠ blockCrc p :=
  ⟨running [(R.ln_LANE_STATE 3, 4)], _, 0, 3, 5#256,
    rfl, by decide +kernel⟩

theorem hyps_TriggerMatrix_8 : ∃ (s : State) (u : State) (v : State) (dir : Nat) (lane : Nat) (origin : Nat) (hops : Nat) (tag : Nat) (seq : Nat) (t96 : Nat) (late : Bool) (p : Block), u = s.heard lane p ∧ p = remoteBlock origin hops tag seq t96 late ∧ v = ((u.putMatrix { u.matrix with seen := (u.matrix.seen.filter fun e => u.time.edge < e.2.2 + 1638400) ++ [(origin, seq, u.time.edge)] }).count R.mx_RT_RX 1).emit (.event (.remote tag) (ticksOfT96 t96) late) ∧ u.carriesNone dir = false ∧ origin < 256 ∧ tag < 32 ∧ seq < 65536 ∧ t96 < 2 ^ 96 ∧ t96Valid t96 = true ∧ hops ≤ 127 ∧ field p.toNat 31 0 = blockCrc p ∧ ((∀ e ∈ u.matrix.seen, e.1 = origin → e.2.1 = seq → e.2.2 + 1638400 ≤ u.time.edge)) :=
  ⟨((running [(R.mx_RT_HOPS_MAX, 8)]).putMatrix { (running [(R.mx_RT_HOPS_MAX, 8)]).matrix with seen := [(9, 701, 0)] }), _, _, 1, 3, 9, 3, 31, 700, 77 * 2^48 + 5*2^16+3, true, _,
    rfl, rfl, rfl, by decide +kernel⟩

theorem hyps_TriggerMatrix_9 : ∃ (s : State) (u : State) (dir : Nat) (lane : Nat) (origin : Nat) (hops : Nat) (tag : Nat) (seq : Nat) (t96 : Nat) (t0 : Nat) (late : Bool) (p : Block), u = s.heard lane p ∧ p = remoteBlock origin hops tag seq t96 late ∧ u.carriesNone dir = false ∧ origin < 256 ∧ tag < 32 ∧ seq < 65536 ∧ t96 < 2 ^ 96 ∧ t96Valid t96 = true ∧ hops ≤ 127 ∧ field p.toNat 31 0 = blockCrc p ∧ (origin, seq, t0) ∈ u.matrix.seen ∧ u.time.edge < t0 + 1638400 :=
  ⟨((running [(R.mx_RT_HOPS_MAX, 8)]).putMatrix { (running [(R.mx_RT_HOPS_MAX, 8)]).matrix with seen := [(9, 700, 0)] }), _, 1, 3, 9, 3, 31, 700, 77 * 2^48 + 5*2^16+3, 0, true, _,
    rfl, rfl, by decide +kernel⟩

theorem hyps_TriggerMatrix_10 : ∃ (s : State) (dir : Nat) (lane : Nat) (origin : Nat) (hops : Nat) (tag : Nat) (seq : Nat) (t96 : Nat) (late : Bool) (p : Block), p = remoteBlock origin hops tag seq t96 late ∧ (s.heard lane p).carriesNone dir = true ∧ origin < 256 ∧ tag < 32 ∧ seq < 65536 ∧ t96 < 2 ^ 96 ∧ t96Valid t96 = true ∧ hops ≤ 127 ∧ field p.toNat 31 0 = blockCrc p :=
  ⟨running [(R.bu_BUNDLE_STATE 1, 5)], 1, 3, 9, 3, 31, 700, 77 * 2^48 + 5*2^16+3, true, _,
    rfl, by decide +kernel⟩

theorem hyps_TriggerMatrix_11 : ∃ (s : State) (src : TrigSrc) (time : Nat) (m : Nat) (lane : Nat) (p : Block), p = remoteBlock (s.rd R.lx_CHAIN_ADDR) 0 m (s.rd R.mx_RT_SEQ) (t96OfTicks time) false ∧ m < 32 ∧ ((∀ k, k < 32 → k ≠ m → field (s.rd (R.mx_MOUT k)) 75 66 = 0)) ∧ field (s.rd (R.mx_MOUT m)) 75 66 = 1 ∧ State.mxSource (s.rd (R.mx_MOUT m)) m src = true ∧ s.matrix.events = [] ∧ m ∉ s.matrix.holdoff ∧ field (s.rd (R.mx_MOUT m)) 45 36 = 0x3FF ∧ field (s.rd (R.mx_MOUT m)) 25 22 = 0 ∧ bitAt (s.rd (R.mx_MOUT m)) 78 = true ∧ s.carriesNone 0 = false ∧ s.carriesNone 1 = false ∧ s.workLanes 0 = [lane] ∧ s.workLanes 1 = [] :=
  ⟨(running [(R.mx_MOUT 7, 1 * 2^66 + 2^78 + 2^103 + 0x3FF * 2^118 + 0x3FF*2^36 + 5),(R.ln_MODE 3,1),(R.ln_BUNDLE 3,0),(R.ln_LANE_STATE 3,5),(R.mx_RT_SEQ, 65535),(R.lx_CHAIN_ADDR, 4)]).setBundle 0 { Bundle.init with peerLanes := 1 }, .trig 3, 5000, 7, 3, _,
    rfl, by decide +kernel⟩

theorem hyps_TriggerMatrix_12 : ∃ (s : State) (n : Nat) (t0 : Nat) (t1 : Nat) (tm : Nat) (x0 : Int) (x1 : Int) (l : Int) (y0 : Int) (y1 : Int), tm = t0 + roundNear (crossFrac l y0 y1 * (t1 - t0)) 256 ∧ s.rd (R.pu_CAP_ENABLE n) = 1 ∧ (s.chan n).hold = .none ∧ crossing (s.rd (R.pu_TRIG_TYPE n)) (s.rd (R.pu_POL n)) (s.rdI (R.pu_LEVEL_A n) 32) (s.rdI (R.pu_LEVEL_B n) 32) x0 x1 = some (l, y0, y1) ∧ s.detMayFire n x0 t0 = true ∧ (s.rd (R.pu_TRIG_TYPE n) < 4 ∨ s.leadFires n x0 x1 t0 t1 = true) :=
  ⟨running [(R.pu_CAP_ENABLE 5,1),(R.pu_TRIG_TYPE 5,1),(R.pu_ARM_STATE 5,2),(R.pu_PRE 5,0),(R.pu_SEG_LEN 5,64)], 5, 200000, 240000, _, -100, 300, 0, -100, 300,
    rfl, by decide +kernel⟩

theorem hyps_TriggerMatrix_13 : ∃ (s : State) (n : Nat) (t0 : Nat) (t1 : Nat) (tm : Nat) (x0 : Int) (x1 : Int), tm = t0 + roundNear (crossFrac (s.rdI (R.pu_LEVEL_A n) 32) x0 x1 * (t1 - t0)) 256 ∧ s.rd (R.pu_CAP_ENABLE n) = 1 ∧ (s.chan n).hold = .none ∧ s.rd (R.pu_TRIG_TYPE n) = 1 ∧ s.rd (R.pu_POL n) = 0 ∧ x0 < s.rdI (R.pu_LEVEL_A n) 32 ∧ s.rdI (R.pu_LEVEL_A n) 32 ≤ x1 ∧ (s.cap n).detReady = true ∧ s.rd (R.pu_ARM_STATE n) = 2 ∧ (s.cap n).trigTime = none ∧ (s.cap n).armInstant ≤ tm ∧ (s.cap n).histFrom ≤ tm ∧ s.trigAge n tm ≤ s.historyLen n :=
  ⟨running [(R.pu_CAP_ENABLE 5,1),(R.pu_TRIG_TYPE 5,1),(R.pu_ARM_STATE 5,2),(R.pu_PRE 5,9),(R.pu_SEG_LEN 5,64)], 5, 123456789012300000, 123456789012340000, _, -100, 300,
    rfl, by decide +kernel⟩

theorem hyps_TriggerMatrix_14 : ∃ (s : State) (n : Nat) (tm : Nat) (fr : Nat) (x0 : Int) (x1 : Int) (t0 : Nat) (t1 : Nat), fr = crossFrac (s.rdI (R.pu_LEVEL_A n) 32) x0 x1 ∧ tm = t0 + roundNear (fr * (t1 - t0)) 256 ∧ s.rd (R.pu_CAP_ENABLE n) = 1 ∧ (s.chan n).hold = .none ∧ s.rd (R.pu_TRIG_TYPE n) = 1 ∧ s.rd (R.pu_POL n) = 0 ∧ x0 < s.rdI (R.pu_LEVEL_A n) 32 ∧ s.rdI (R.pu_LEVEL_A n) 32 ≤ x1 ∧ (s.cap n).detReady = true ∧ s.rd (R.pu_ARM_STATE n) = 2 ∧ (s.cap n).trigTime = none ∧ (s.cap n).armInstant ≤ tm ∧ (s.cap n).histFrom ≤ tm ∧ s.historyLen n < s.trigAge n tm :=
  ⟨running [(R.pu_CAP_ENABLE 5,1),(R.pu_TRIG_TYPE 5,1),(R.pu_ARM_STATE 5,2),(R.pu_PRE 5,0),(R.pu_SEG_LEN 5,64)], 5, _, _, -100, 300, 200000, 240000,
    rfl, rfl, by decide +kernel⟩

theorem hyps_TriggerMatrix_15 : ∃ (s : State) (k : Nat) (at_ : Nat) (up : Bool), k < 8 ∧ (if up then s.rd R.mx_TRIG_EDGE / 4 ^ k % 2 = 1 else 2 ≤ s.rd R.mx_TRIG_EDGE / 4 ^ k % 4) :=
  ⟨running [(R.mx_TRIG_EDGE, 1 * 4^7)], 7, 99, true,
    by decide +kernel⟩

theorem hyps_TriggerMatrix_16 : ∃ (s : State) (l : Nat), l < 4 ∧ bitAt (s.rd R.mx_ILINE_IN) l = true ∧ bitAt s.matrix.driven l = false :=
  ⟨running [(R.mx_ILINE_IN, 8)], 3,
    by decide +kernel⟩

theorem hyps_Segments_1 : ∃ (s : State) (n : Nat) (l : List Sample), s.rd (R.pu_ARM_STATE n) = 3 ∧ ((s.cap n).closing ≠ 0 ∨ s.segExpected n ≤ l.length) :=
  ⟨(running [(R.pu_CAP_ENABLE 200,1),(R.pu_ARM_STATE 200,3),(R.pu_ARM_MODE 200,1),(R.pu_SEG_LEN 200,2)]).setCap 200 { Cap.init with trigTime := some 50000, cfg := ⟨1,2,0,5,40000,false⟩, segNo := 77, closing := 3 }, 200, [⟨5, Marks.none⟩, ⟨-6, Marks.none⟩],
    by decide +kernel⟩

theorem hyps_Segments_2 : ∃ (s : State) (n : Nat) (l : List Sample), s.rd (R.pu_ARM_STATE n) = 3 ∧ (s.cap n).closing = 0 ∧ s.segExpected n ≤ l.length ∧ s.segsOf n = [] ∧ (s.cap n).nextShared = false ∧ s.rd (R.pu_ARM_MODE n) ≠ 2 ∧ s.sramReserved (dieOf n) + s.sharedOctets (dieOf n) + s.segOctets n ≤ 67108864 :=
  ⟨(running [(R.pu_CAP_ENABLE 200,1),(R.pu_ARM_STATE 200,3),(R.pu_ARM_MODE 200,1),(R.pu_SEG_LEN 200,2)]).setCap 200 { Cap.init with trigTime := some 50000, cfg := ⟨1,2,0,5,40000,false⟩, segNo := 77 }, 200, [⟨5, Marks.none⟩, ⟨-6, Marks.none⟩],
    by decide +kernel⟩

theorem hyps_Segments_3 : ∃ (s : State) (n : Nat) (l : List Sample), s.rd (R.pu_ARM_STATE n) = 3 ∧ (s.cap n).closing = 0 ∧ s.segExpected n ≤ l.length ∧ s.segsOf n = [] ∧ (s.cap n).nextShared = false ∧ s.rd (R.pu_ARM_MODE n) ≠ 2 ∧ (s.cap n).disarmNext = false ∧ 67108864 < s.sramReserved (dieOf n) + s.sharedOctets (dieOf n) + s.segOctets n :=
  ⟨(running [(R.pu_CAP_ENABLE 200,1),(R.pu_ARM_STATE 200,3),(R.pu_ARM_MODE 200,1),(R.pu_TAP 200,1),(R.pu_SEG_LEN 200,16777216)]).setCap 200 { Cap.init with trigTime := some 50000, cfg := ⟨1,2,0,5,40000,false⟩, segNo := 77 }, 200, [⟨5, Marks.none⟩, ⟨-6, Marks.none⟩],
    by decide +kernel⟩

theorem hyps_Segments_4 : ∃ (s : State) (n : Nat), s.rd (R.pu_ARM_STATE n) = 4 ∧ (s.cap n).disarmNext = true :=
  ⟨(running [(R.pu_ARM_STATE 200,4),(R.pu_ARM_MODE 200,1)]).setCap 200 { Cap.init with disarmNext := true }, 200,
    by decide +kernel⟩

theorem hyps_Segments_5 : ∃ (s : State) (n : Nat), s.rd (R.pu_ARM_STATE n) = 4 ∧ (s.cap n).disarmNext = false ∧ (s.chan n).hold = .none ∧ ((s.cap n).stayArmed = true ∨ (s.cap n).deferredArm = true ∨ s.rd (R.pu_ARM_MODE n) = 1 ∨ (s.rd (R.pu_ARM_MODE n) = 2 ∧ s.rd (R.pu_SEGS_REMAINING n) ≠ 0)) :=
  ⟨running [(R.pu_ARM_STATE 200,4),(R.pu_ARM_MODE 200,2),(R.pu_SEGS_REMAINING 200,3)], 200,
    by decide +kernel⟩

theorem hyps_Segments_6 : ∃ (s : State) (n : Nat), s.rd (R.pu_ARM_STATE n) = 4 ∧ (s.cap n).disarmNext = false ∧ s.rd (R.pu_ARM_MODE n) = 1 ∧ (s.chan n).hold = .none ∧ (s.cap n).deferredArm = false ∧ s.shedCapture n = false :=
  ⟨running [(R.pu_ARM_STATE 200,4),(R.pu_ARM_MODE 200,1)], 200,
    by decide +kernel⟩

theorem hyps_Segments_7 : ∃ (s : State) (n : Nat), s.rd (R.pu_ARM_STATE n) = 4 ∧ (s.cap n).disarmNext = false ∧ (s.chan n).hold ≠ .none ∧ s.rd (R.pu_ARM_MODE n) = 1 :=
  ⟨(running [(R.pu_ARM_STATE 200,4),(R.pu_ARM_MODE 200,1)]).setChan 200 { Chan.init with hold := .change }, 200,
    by decide +kernel⟩

theorem hyps_Segments_8 : ∃ (s : State) (n : Nat), s.rd (R.pu_ARM_STATE n) = 4 ∧ (s.cap n).stayArmed = false ∧ (s.cap n).deferredArm = false ∧ s.rd (R.pu_ARM_MODE n) = 0 :=
  ⟨running [(R.pu_ARM_STATE 200,4)], 200,
    by decide +kernel⟩

theorem hyps_Segments_10 : ∃ (s : State) (d : Nat) (n : Nat) (g : Segment) (r : Region), (∀ c, s.rd (R.dc_CH_STATE c) ≠ 3) ∧ 1 ≤ d ∧ s.segments = [g] ∧ g.chan = n ∧ dieOf n = d ∧ s.frozen = false ∧ s.regionOf (s.cap n).tenant 0 = some r ∧ s.dram.archive = [] ∧ 4 * g.words.length ≤ r.size ∧ s.rd (R.pu_SEG_QUEUE n) = 0xFFFF ∧ s.noInjection ∧ g.words ≠ [] ∧ g.words.length ≤ 30 ∧ s.linkUp d = true ∧ (s.link d).creditHeld = false ∧ (s.link d).up.held = [] ∧ s.rd (R.pu_CAP_ENABLE n) = 1 ∧ s.rd (R.bk_BANK_STATE (bankOfChan n)) ≠ 0 ∧ s.dram.bad = [] :=
  ⟨(((running [(R.pu_SEG_QUEUE 200,0xFFFF),(R.pu_CAP_ENABLE 200,1),(R.bk_BANK_STATE 6,3),(R.di_LINK_STATE 1,2)]).setCap 200 { Cap.init with tenant := 0 }).putDram { ((running [(R.pu_SEG_QUEUE 200,0xFFFF),(R.pu_CAP_ENABLE 200,1),(R.bk_BANK_STATE 6,3),(R.di_LINK_STATE 1,2)]).setCap 200 { Cap.init with tenant := 0 }).dram with regions := [⟨0,0,4096,8192,true⟩] }).putSegments [⟨200,[1,2,3],false⟩], 2, 200, ⟨200,[1,2,3],false⟩, ⟨0,0,4096,8192,true⟩,
    fun c => ne_of_eq_of_ne (show (running _).rd (R.dc_CH_STATE c) = 0 from (running_rd _ (R.dc_CH_STATE c) (by simp)).trans rfl) (by decide), by decide +kernel⟩

theorem hyps_Segments_11 : ∃ (s : State) (d : Nat) (n : Nat) (g : Segment), 1 ≤ d ∧ s.segments = [g] ∧ g.chan = n ∧ dieOf n = d ∧ s.frozen = false ∧ s.linkUp d = true ∧ (s.link d).creditHeld = false ∧ s.regionOf (s.cap n).tenant 0 = none :=
  ⟨(running [(R.di_LINK_STATE 1,2)]).putSegments [⟨200,[1,2,3],false⟩], 2, 200, ⟨200,[1,2,3],false⟩,
    by decide +kernel⟩

theorem hyps_Segments_12 : ∃ (s : State) (n : Nat), s.rd (R.pu_ARM_STATE n) = 5 ∧ (s.cap n).shedStop = false ∧ s.segsOf n = [] ∧ (s.rd (R.pu_OVF_RESUME n) = 1 ∨ (s.cap n).deferredArm = true) :=
  ⟨running [(R.pu_ARM_STATE 200,5),(R.pu_OVF_RESUME 200,1)], 200,
    by decide +kernel⟩

theorem hyps_Segments_13 : ∃ (s : State) (n : Nat), s.rd (R.pu_ARM_STATE n) = 5 ∧ (s.cap n).shedStop = false ∧ s.segsOf n = [] ∧ (s.cap n).deferredArm = true ∧ s.rd (R.pu_ARM_MODE n) = 2 ∧ s.shedCapture n = false :=
  ⟨(running [(R.pu_ARM_STATE 200,5),(R.pu_ARM_MODE 200,2),(R.pu_ARM_COUNT 200,12)]).setCap 200 { Cap.init with deferredArm := true }, 200,
    by decide +kernel⟩

theorem hyps_Segments_14 : ∃ (s : State) (h : Hdr) (n : Nat), OwnerAsks s h 0x02 ∧ s.part.fronts ≤ 7 ∧ n < 128 * s.part.fronts ∧ s.free_ (R.pu_ARM n) ∧ s.rd (R.pu_CAP_ENABLE n) = 1 ∧ s.rd (R.bk_BANK_STATE (bankOfChan n)) ≠ 0 :=
  ⟨running [(R.bk_BANK_STATE 15,3),(R.pu_CAP_ENABLE 500,1),(R.pu_ARM_STATE 500,6),(R.pu_ARM_MODE 500,2),(R.pu_ARM_COUNT 500,9)], ownHdr, 500,
    asks_of _ _ _ (by decide +kernel), by decide +kernel⟩

theorem hyps_Segments_15 : ∃ (s : State) (h : Hdr) (n : Nat), OwnerAsks s h 0x02 ∧ s.part.fronts ≤ 7 ∧ n < 128 * s.part.fronts ∧ s.free_ (R.pu_ARM n) ∧ s.rd (R.pu_CAP_ENABLE n) = 1 ∧ s.rd (R.bk_BANK_STATE (bankOfChan n)) ≠ 0 ∧ s.rd (R.pu_ARM_STATE n) = 1 ∧ (s.cap n).lastDisarmEdge = none ∧ s.shedCapture n = false ∧ s.segsOf n = [] :=
  ⟨running [(R.bk_BANK_STATE 15,3),(R.pu_CAP_ENABLE 500,1),(R.pu_ARM_STATE 500,1),(R.pu_ARM_MODE 500,2),(R.pu_ARM_COUNT 500,9)], ownHdr, 500,
    asks_of _ _ _ (by decide +kernel), by decide +kernel⟩

theorem hyps_Segments_16 : ∃ (s : State) (h : Hdr) (n : Nat), OwnerAsks s h 0x02 ∧ s.part.fronts ≤ 7 ∧ n < 128 * s.part.fronts ∧ s.free_ (R.pu_ARM n) ∧ s.rd (R.pu_CAP_ENABLE n) = 1 ∧ s.rd (R.bk_BANK_STATE (bankOfChan n)) ≠ 0 ∧ (s.rd (R.pu_ARM_STATE n) = 4 ∨ s.rd (R.pu_ARM_STATE n) = 5) ∧ (s.cap n).lastDisarmEdge = none :=
  ⟨running [(R.bk_BANK_STATE 15,3),(R.pu_CAP_ENABLE 500,1),(R.pu_ARM_STATE 500,5)], ownHdr, 500,
    asks_of _ _ _ (by decide +kernel), by decide +kernel⟩

theorem hyps_Segments_17 : ∃ (s : State) (h : Hdr) (n : Nat), OwnerAsks s h 0x02 ∧ s.part.fronts ≤ 7 ∧ n < 128 * s.part.fronts ∧ s.free_ (R.pu_DISARM n) ∧ s.rd (R.bk_BANK_STATE (bankOfChan n)) ≠ 0 :=
  ⟨running [(R.bk_BANK_STATE 15,3),(R.pu_CAP_ENABLE 500,1),(R.pu_ARM_STATE 500,3)], ownHdr, 500,
    asks_of _ _ _ (by decide +kernel), by decide +kernel⟩

theorem hyps_Segments_18 : ∃ (s : State) (h : Hdr) (n : Nat), OwnerAsks s h 0x02 ∧ s.part.fronts ≤ 7 ∧ n < 128 * s.part.fronts ∧ s.free_ (R.pu_DISARM n) ∧ s.rd (R.bk_BANK_STATE (bankOfChan n)) ≠ 0 ∧ s.rd (R.pu_ARM_STATE n) = 2 ∧ (s.cap n).lastArmEdge = none :=
  ⟨running [(R.bk_BANK_STATE 15,3),(R.pu_CAP_ENABLE 500,1),(R.pu_ARM_STATE 500,2)], ownHdr, 500,
    asks_of _ _ _ (by decide +kernel), by decide +kernel⟩

theorem hyps_Segments_19 : ∃ (s : State) (h : Hdr) (n : Nat), OwnerAsks s h 0x02 ∧ s.part.fronts ≤ 7 ∧ n < 128 * s.part.fronts ∧ s.free_ (R.pu_FORCE n) ∧ s.rd (R.pu_CAP_ENABLE n) = 1 ∧ s.rd (R.bk_BANK_STATE (bankOfChan n)) ≠ 0 ∧ s.rd (R.pu_ARM_STATE n) ≠ 1 ∧ s.rd (R.pu_ARM_STATE n) ≠ 6 :=
  ⟨running [(R.bk_BANK_STATE 15,3),(R.pu_CAP_ENABLE 500,1),(R.pu_ARM_STATE 500,4),(R.pu_PRE 500,10)], ownHdr, 500,
    asks_of _ _ _ (by decide +kernel), by decide +kernel⟩

theorem hyps_Segments_20 : ∃ (s : State) (h : Hdr) (n : Nat), OwnerAsks s h 0x02 ∧ s.part.fronts ≤ 7 ∧ n < 128 * s.part.fronts ∧ s.free_ (R.pu_FORCE n) ∧ s.rd (R.pu_CAP_ENABLE n) = 1 ∧ s.rd (R.bk_BANK_STATE (bankOfChan n)) ≠ 0 ∧ s.rd (R.pu_ARM_STATE n) = 2 ∧ (s.cap n).trigTime = none ∧ (s.chan n).hold = .none ∧ (s.cap n).armInstant ≤ s.now ∧ (s.cap n).histFrom ≤ s.now :=
  ⟨running [(R.bk_BANK_STATE 15,3),(R.pu_CAP_ENABLE 500,1),(R.pu_ARM_STATE 500,2),(R.pu_PRE 500,10)], ownHdr, 500,
    asks_of _ _ _ (by decide +kernel), by decide +kernel⟩

theorem hyps_QueueFrames_1 : ∃ (s : State) (q : Nat) (ft : Nat) (src : Nat) (pl : List Byte) (ref : Option Nat) (f : Frame), f = { s.hubFrame q ft src pl ref with fseq := (s.queue q).fseq, start := (s.queue q).startNext, loss := decide (0 < (s.queue q).lost), discardedBefore := (s.queue q).lost, queued := t64OfTicks s.now } ∧ payloadOk ft pl.length = true ∧ s.rd (R.qu_FRIT_CTX q) = 0xFFFF ∧ s.poisoned = false ∧ s.rd R.fz_FROZEN = 0 ∧ s.rd (R.qu_QSTATE q) = 1 ∧ (s.queue q).spillCells = 0 ∧ f.cells ≤ s.cellRoom q ∧ s.rd (R.qu_SPILL_EN q) = 0 ∧ s.rd (R.te_RETENTION (q / 8)) ≠ 1 :=
  ⟨(running [(R.qu_QSTATE 9,1),(R.qu_CELL_QUOTA 9,100)]).setQueue 9 { Queue.init with lost := 2, fseq := 65535 }, 9, 1, 5, [1#8,2#8], none, _,
    rfl, by decide +kernel⟩

theorem hyps_QueueFrames_2 : ∃ (s : State) (h : Hdr) (q : Nat) (d : List Byte), OwnerAsks s h 0x04 ∧ s.part.fronts ≤ 7 ∧ q < 8 ∧ s.free_ (R.qu_FRAME_IN q) ∧ State.frameInOk d = true ∧ s.rd R.fz_FROZEN = 0 ∧ s.rd (R.qu_QSTATE q) = 1 ∧ (s.queue q).spillCells = 0 ∧ s.rd (R.qu_SPILL_EN q) = 0 ∧ (d.length - 32) / 256 + 2 ≤ s.cellRoom q ∧ s.usedCells 0 ≤ s.rd (R.te_CELL_QUOTA 0) ∧ s.rd (R.te_RETENTION 0) ≠ 1 ∧ (s.session h.session).xfers = [] :=
  ⟨running [(R.qu_QSTATE 3,1),(R.qu_CELL_QUOTA 3,100),(R.te_CELL_QUOTA 0,1000)], ownHdr, 3, natLE 4 0x60000000 ++ natLE 4 4 ++ natLE 8 0 ++ natLE 16 0 ++ natLE 4 77,
    asks_of _ _ _ (by decide +kernel), by decide +kernel⟩

theorem hyps_QueueFrames_3 : ∃ (s : State) (h : Hdr) (q : Nat) (f : Frame) (rest : List Frame), OwnerAsks s h 0x02 ∧ s.part.fronts ≤ 7 ∧ q < 8 ∧ s.free_ (R.qu_FRAME_POP q) ∧ s.rd (R.qu_CONSUMER q) = 0 ∧ s.rd (R.qu_QSTATE q) = 1 ∧ (s.queue q).frames = f :: rest ∧ f.fseq < 65536 ∧ (s.queue q).spillCells = 0 :=
  ⟨(running [(R.qu_QSTATE 3,1)]).setQueue 3 { Queue.init with frames := [(⟨1,2,3,true,false,false,false,false,false,false,5,0,[1#8,2#8],false,0,false⟩ : Frame), (⟨1,2,3,true,false,false,false,false,false,false,5,0,[1#8,2#8],false,0,false⟩ : Frame)] }, ownHdr, 3, ⟨1,2,3,true,false,false,false,false,false,false,5,0,[1#8,2#8],false,0,false⟩, [(⟨1,2,3,true,false,false,false,false,false,false,5,0,[1#8,2#8],false,0,false⟩ : Frame)],
    asks_of _ _ _ (by decide +kernel), by decide +kernel⟩

theorem hyps_QueueFrames_4 : ∃ (s : State) (q : Nat), s.rd (R.qu_QSTATE q) = 2 ∧ (s.queue q).headCells ≤ 8 ∧ 16 < (s.queue q).headCells + (s.queue q).spillCells :=
  ⟨(running [(R.qu_QSTATE 3,2)]).setQueue 3 { Queue.init with headCells := 7, spillCells := 70 }, 3,
    by decide +kernel⟩

theorem hyps_QueueFrames_5 : ∃ (s : State) (q : Nat) (f : Frame) (rest : List Frame), (s.rd (R.qu_CONSUMER q) = 1 ∨ s.rd (R.qu_CONSUMER q) = 3) ∧ (s.queue q).frames = f :: rest ∧ s.rd (R.qu_QSTATE q) ≠ 4 :=
  ⟨(running [(R.qu_QSTATE 3,1),(R.qu_CONSUMER 3,1)]).setQueue 3 { Queue.init with frames := [(⟨1,2,3,true,false,false,false,false,false,false,5,0,[1#8,2#8],false,0,false⟩ : Frame), (⟨1,2,3,true,false,false,false,false,false,false,5,0,[1#8,2#8],false,0,false⟩ : Frame)] }, 3, ⟨1,2,3,true,false,false,false,false,false,false,5,0,[1#8,2#8],false,0,false⟩, [(⟨1,2,3,true,false,false,false,false,false,false,5,0,[1#8,2#8],false,0,false⟩ : Frame)],
    by decide +kernel⟩

theorem hyps_QueueFrames_6 : ∃ (s : State) (q : Nat) (ft : Nat) (src : Nat) (pl : List Byte) (ref : Option Nat), payloadOk ft pl.length = true ∧ s.rd (R.qu_FRIT_CTX q) = 0xFFFF ∧ s.poisoned = false ∧ s.rd (R.qu_QSTATE q) ≠ 0 ∧ s.frozen = false ∧ s.queueFits q (s.hubFrame q ft src pl ref).cells = true :=
  ⟨running [(R.qu_QSTATE 9,1),(R.qu_CELL_QUOTA 9,100),(R.qu_LAUNCH_MODE 9,1)], 9, 1, 5, [1#8,2#8], some 7,
    by decide +kernel⟩

theorem hyps_QueueFrames_7 : ∃ (s : State) (q : Nat) (ft : Nat) (src : Nat) (pl : List Byte) (ref : Option Nat), payloadOk ft pl.length = true ∧ s.rd (R.qu_FRIT_CTX q) = 0xFFFF ∧ s.poisoned = false ∧ s.rd (R.qu_QSTATE q) ≠ 0 ∧ s.frozen = false ∧ s.queueFits q (s.hubFrame q ft src pl ref).cells = false ∧ s.rd (R.qu_FULL_POLICY q) = 0 :=
  ⟨running [(R.qu_QSTATE 9,1),(R.qu_CELL_QUOTA 9,0)], 9, 1, 5, [1#8,2#8], none,
    by decide +kernel⟩

theorem hyps_QueueFrames_8 : ∃ (s : State) (q : Nat) (ft : Nat) (src : Nat) (pl : List Byte) (ref : Option Nat), payloadOk ft pl.length = true ∧ s.rd (R.qu_FRIT_CTX q) = 0xFFFF ∧ s.poisoned = true :=
  ⟨(running [(R.qu_QSTATE 9,1),(R.qu_CELL_QUOTA 9,100)]).putPoisoned true, 9, 1, 5, [1#8,2#8], none,
    by decide +kernel⟩

theorem hyps_QueueFrames_9 : ∃ (s : State) (q : Nat) (ft : Nat) (src : Nat) (c : Nat) (pl : List Byte) (ref : Option Nat), payloadOk ft pl.length = true ∧ s.rd (R.qu_FRIT_CTX q) = c ∧ c ≠ 0xFFFF ∧ s.rd (R.qu_QSTATE q) ≠ 0 ∧ s.frameShed ft src = false :=
  ⟨running [(R.qu_QSTATE 9,1),(R.qu_CELL_QUOTA 9,100),(R.qu_FRIT_CTX 9,4)], 9, 1, 5, 4, [1#8,2#8,3#8,4#8], none,
    by decide +kernel⟩

theorem hyps_QueueFrames_10 : ∃ (s : State) (h : Hdr) (q : Nat) (d : List Byte) (r : Bool × State) (f : Frame), OwnerAsks s h 0x04 ∧ f = ⟨6, 0, 0, false, false, false, false, false, false, false, 0, leNat ((d.drop 16).take 16), d.drop 32, false, 0, false⟩ ∧ r = ((s.touch h.session).setSession h.session { (s.touch h.session).session h.session with xfers := State.otherXfers ((s.touch h.session).session h.session) (R.qu_FRAME_IN q) 0 }).offer q f ∧ s.part.fronts ≤ 7 ∧ q < 8192 ∧ s.free_ (R.qu_FRAME_IN q) ∧ q / 8 = 0 ∧ State.frameInOk d = true ∧ s.rd (R.qu_QSTATE q) ≠ 0 ∧ s.usedCells 0 ≤ s.rd (R.te_CELL_QUOTA 0) ∧ ((s.session h.session).xfers.find? fun x => x.reg == R.qu_FRAME_IN q && x.clause == 0) = none ∧ r.1 = true :=
  ⟨running [(R.qu_QSTATE 3,1),(R.qu_CELL_QUOTA 3,100),(R.te_CELL_QUOTA 0,1000)], ownHdr, 3, natLE 4 0x60000000 ++ natLE 4 4 ++ natLE 8 0 ++ natLE 16 0 ++ natLE 4 77, _, _,
    asks_of _ _ _ (by decide +kernel), rfl, rfl, by decide +kernel⟩

theorem hyps_QueueFrames_11 : ∃ (s : State) (h : Hdr) (q : Nat) (f : Frame), OwnerAsks s h 0x02 ∧ s.part.fronts ≤ 7 ∧ q < 8192 ∧ q / 8 = 0 ∧ s.free_ (R.qu_FRAME_POP q) ∧ s.rd (R.qu_CONSUMER q) = 0 ∧ (s.available q).head? = some f ∧ f.fseq < 65536 :=
  ⟨(running [(R.qu_QSTATE 3,1)]).setQueue 3 { Queue.init with frames := [(⟨1,2,3,true,false,false,false,false,false,false,5,0,[1#8,2#8],false,0,false⟩ : Frame), (⟨1,2,3,true,false,false,false,false,false,false,5,0,[1#8,2#8],false,0,false⟩ : Frame)] }, ownHdr, 3, ⟨1,2,3,true,false,false,false,false,false,false,5,0,[1#8,2#8],false,0,false⟩,
    asks_of _ _ _ (by decide +kernel), by decide +kernel⟩

theorem hyps_QueueFrames_12 : ∃ (s : State) (q : Nat) (k : Nat), k = min (16 - (s.queue q).headCells) (s.queue q).spillCells ∧ s.rd (R.qu_QSTATE q) ≠ 4 ∧ (s.queue q).spillCells ≠ 0 ∧ (s.queue q).headCells ≤ 8 :=
  ⟨(running [(R.qu_QSTATE 3,2)]).setQueue 3 { Queue.init with headCells := 7, spillCells := 2 }, 3, _,
    rfl, by decide +kernel⟩

theorem hyps_QueueFrames_13 : ∃ (s : State) (u : State) (q : Nat) (k : CellCheck) (f : Frame) (rest : List Frame), u = s.cellsRead q k ∧ s.rd (R.qu_CONSUMER q) ≠ 0 ∧ s.rd (R.qu_CONSUMER q) ≠ 2 ∧ (u.queue q).frames = f :: rest ∧ u.available q ≠ [] :=
  ⟨(running [(R.qu_QSTATE 3,4),(R.qu_CONSUMER 3,1)]).setQueue 3 { Queue.init with frames := [(⟨1,2,3,true,false,false,false,false,false,false,5,0,[1#8,2#8],false,0,false⟩ : Frame), (⟨1,2,3,true,false,false,false,false,false,false,5,0,[1#8,2#8],false,0,false⟩ : Frame)] }, _, 3, .corrected, ⟨1,2,3,true,false,false,false,false,false,false,5,0,[1#8,2#8],false,0,false⟩, [(⟨1,2,3,true,false,false,false,false,false,false,5,0,[1#8,2#8],false,0,false⟩ : Frame)],
    rfl, by decide +kernel⟩

theorem hyps_QueueFrames_14 : ∃ (s : State) (q : Nat) (k : CellCheck), s.rd (R.qu_CONSUMER q) = 2 :=
  ⟨(running [(R.qu_QSTATE 3,1),(R.qu_CONSUMER 3,2)]).setQueue 3 { Queue.init with subscriber := some 3, credit := 2, frames := [⟨1,2,3,true,false,false,false,false,false,false,5,0,[1#8,2#8],false,0,false⟩] }, 3, .corrected,
    by decide +kernel⟩

theorem hyps_QueueFrames_15 : ∃ (s : State) (q : Nat) (cell : Nat) (f : Frame) (rest : List Frame), s.rd (R.qu_CONSUMER q) = 0 ∧ (s.queue q).frames = f :: rest ∧ s.available q ≠ [] ∧ cell < f.cells :=
  ⟨(running [(R.qu_QSTATE 3,1)]).setQueue 3 { Queue.init with frames := [(⟨1,2,3,true,false,false,false,false,false,false,5,0,List.replicate 300 7#8,false,0,false⟩ : Frame)] }, 3, 1, ⟨1,2,3,true,false,false,false,false,false,false,5,0,List.replicate 300 7#8,false,0,false⟩, [],
    by decide +kernel⟩

theorem hyps_QueueFrames_16 : ∃ (s : State) (q : Nat), s.rd (R.qu_CONSUMER q) = 0 ∧ (s.queue q).frames ≠ [] ∧ s.available q ≠ [] :=
  ⟨(running [(R.qu_QSTATE 3,1)]).setQueue 3 { Queue.init with frames := [⟨1,2,3,true,false,false,false,false,false,false,5,0,[7#8],false,0,false⟩] }, 3,
    by decide +kernel⟩

theorem hyps_QueueFrames_17 : ∃ (s : State) (q : Nat) (ft : Nat) (src : Nat) (pl : List Byte) (ref : Option Nat), payloadOk ft pl.length = false :=
  ⟨running [(R.qu_QSTATE 9,1),(R.qu_CELL_QUOTA 9,100)], 9, 2, 5, [1#8,2#8], none,
    by decide +kernel⟩

theorem hyps_QueueFrames_18 : ∃ (s : State) (h : Hdr) (q : Nat) (n : Nat), OwnerAsks s h 0x09 ∧ q < 8 ∧ s.rd (R.qu_CONSUMER q) = 2 ∧ s.rd (R.qu_ENABLE q) ≠ 0 ∧ s.rd (R.se_S_TRANSPORT h.session) = 1 ∧ (s.queue q).subscriber = none ∧ (s.queue q).credit = 0 ∧ n ≤ 1024 ∧ (s.queue q).frames = [] :=
  ⟨running [(R.qu_CONSUMER 7,2),(R.qu_ENABLE 7,1)], ownHdr, 7, 1024,
    asks_of _ _ _ (by decide +kernel), by decide +kernel⟩

theorem hyps_QueueFrames_19 : ∃ (s : State) (h : Hdr) (q : Nat) (n : Nat), OwnerAsks s h 0x09 ∧ 8 ≤ q ∧ q < 8192 :=
  ⟨running [(R.qu_CONSUMER 8,2),(R.qu_ENABLE 8,1)], ownHdr, 8, 1,
    asks_of _ _ _ (by decide +kernel), by decide +kernel⟩

theorem hyps_QueueFrames_20 : ∃ (s : State) (h : Hdr) (q : Nat), OwnerAsks s h 0x0A ∧ q < 8 ∧ (s.queue q).subscriber = some h.session ∧ (s.queue q).frames = [] :=
  ⟨(running [(R.qu_CONSUMER 7,2),(R.qu_ENABLE 7,1)]).setQueue 7 { Queue.init with subscriber := some 3, credit := 9, mseq := 4, sent := 8 }, ownHdr, 7,
    asks_of _ _ _ (by decide +kernel), by decide +kernel⟩

theorem hyps_QueueFrames_21 : ∃ (s : State) (u : State) (h : Hdr) (q : Nat) (n : Nat), OwnerAsks s h 0x09 ∧ u = s.touch h.session ∧ q < 8 ∧ s.rd (R.qu_CONSUMER q) = 2 ∧ s.rd (R.qu_ENABLE q) ≠ 0 ∧ s.rd (R.se_S_TRANSPORT h.session) = 1 ∧ ((s.queue q).subscriber = none ∨ (s.queue q).subscriber = some h.session) :=
  ⟨(running [(R.qu_CONSUMER 7,2),(R.qu_ENABLE 7,1)]).setQueue 7 { Queue.init with subscriber := some 3, credit := 9 }, _, ownHdr, 7, 1024,
    asks_of _ _ _ (by decide +kernel), rfl, by decide +kernel⟩

theorem hyps_QueueFrames_22 : ∃ (s : State) (h : Hdr) (q : Nat), OwnerAsks s h 0x0A ∧ q < 8 ∧ ((s.queue q).subscriber = none ∨ (s.queue q).subscriber = some h.session) :=
  ⟨(running []).setQueue 7 { Queue.init with subscriber := some 3, credit := 9, frames := [State.stopMarker (running []) 7 3] }, ownHdr, 7,
    asks_of _ _ _ (by decide +kernel), by decide +kernel⟩

theorem hyps_QueueFrames_23 : ∃ (s : State) (h : Hdr) (q : Nat) (x : Nat), OwnerAsks s h 0x0A ∧ q < 8 ∧ (s.queue q).subscriber = some x ∧ x ≠ h.session :=
  ⟨(running []).setQueue 7 { Queue.init with subscriber := some 9, credit := 9 }, ownHdr, 7, 9,
    asks_of _ _ _ (by decide +kernel), by decide +kernel⟩

theorem hyps_FritBlocks_1 : ∃ (s : State) (c : Nat) (q : Nat) (pos : Nat) (i : BlockIn) (rest : List FritFrame), s.queueOfCtx c = some q ∧ s.nextBlock c false = some (i, rest, pos) ∧ s.poisoned = false ∧ s.rd (R.te_RETENTION (q / 8)) ≠ 1 :=
  ⟨(running [(R.qu_FRIT_CTX 3,5),(R.fc_BLOCK_N 5,3),(R.qu_QSTATE 3,1),(R.qu_CELL_QUOTA 3,100)]).setCtx 5 { FritCtx.init with pend := [⟨4,false,true,false,[7],none⟩] }, 5, 3, 0, ⟨0, 4, [], [7], [], [], 0⟩, [],
    by decide +kernel⟩

theorem hyps_FritBlocks_2 : ∃ (s : State) (c : Nat) (q : Nat) (pos : Nat) (i : BlockIn), s.queueJobOf c = none ∧ s.queueOfCtx c = some q ∧ s.nextBlock c true = some (i, [], pos) ∧ s.poisoned = false ∧ s.rd (R.te_RETENTION (q / 8)) ≠ 1 :=
  ⟨(running [(R.qu_FRIT_CTX 3,5),(R.fc_BLOCK_N 5,30),(R.qu_QSTATE 3,1),(R.qu_CELL_QUOTA 3,100)]).setCtx 5 { FritCtx.init with pend := [⟨4,false,false,false,[7],none⟩] }, 5, 3, 0, ⟨0, 4, [], [7], [], [], 0⟩,
    by decide +kernel⟩

theorem hyps_FritBlocks_3 : ∃ (s : State) (h : Hdr) (c : Nat) (q : Nat) (pos : Nat) (i : BlockIn), OwnerAsks s h 0x02 ∧ s.part.fronts ≤ 7 ∧ s.part.frit = true ∧ c < 64 ∧ s.free_ (R.fc_FLUSH c) ∧ s.rd (R.fc_TENANT c) = 0 ∧ s.queueJobOf c = none ∧ s.queueOfCtx c = some q ∧ s.nextBlock c true = some (i, [], pos) ∧ s.poisoned = false ∧ s.rd (R.te_RETENTION (q / 8)) ≠ 1 :=
  ⟨(running [(R.fc_TENANT 5,0),(R.qu_FRIT_CTX 3,5),(R.fc_BLOCK_N 5,30),(R.qu_QSTATE 3,1),(R.qu_CELL_QUOTA 3,100)]).setCtx 5 { FritCtx.init with pend := [⟨4,false,false,false,[7],none⟩] }, ownHdr, 5, 3, 0, ⟨0, 4, [], [7], [], [], 0⟩,
    asks_of _ _ _ (by decide +kernel), by decide +kernel⟩

theorem hyps_FritBlocks_4 : ∃ (s : State) (c : Nat) (q : Nat) (pos : Nat) (i : BlockIn) (rest : List FritFrame), s.queueOfCtx c = some q ∧ s.nextBlock c false = some (i, rest, pos) :=
  ⟨((running [(R.qu_FRIT_CTX 3,5),(R.fc_BLOCK_N 5,3),(R.qu_QSTATE 3,1),(R.qu_CELL_QUOTA 3,100),(R.te_RETENTION 0,1)]).setCtx 5 { FritCtx.init with pend := [⟨4,false,true,false,[7],none⟩] }).putPoisoned true, 5, 3, 0, ⟨0, 4, [], [7], [], [], 0⟩, [],
    by decide +kernel⟩

theorem hyps_FritBlocks_5 : ∃ (s : State) (c : Nat) (q : Nat) (pos : Nat) (i : BlockIn), s.queueJobOf c = none ∧ s.queueOfCtx c = some q ∧ s.nextBlock c true = some (i, [], pos) :=
  ⟨((running [(R.qu_FRIT_CTX 3,5),(R.fc_BLOCK_N 5,3),(R.qu_QSTATE 3,1),(R.qu_CELL_QUOTA 3,100),(R.te_RETENTION 0,1)]).setCtx 5 { FritCtx.init with pend := [⟨4,false,true,false,[7],none⟩] }).putPoisoned true, 5, 3, 0, ⟨0, 4, [], [7], [], [], 0⟩,
    by decide +kernel⟩

theorem hyps_FritBlocks_6 : ∃ (s : State) (h : Hdr) (c : Nat), OwnerAsks s h 0x02 ∧ s.part.fronts ≤ 7 ∧ s.part.frit = true ∧ c < 64 ∧ s.free_ (R.fc_FLUSH c) ∧ s.rd (R.fc_TENANT c) = 0 :=
  ⟨running [(R.fc_TENANT 5,0),(R.qu_FRIT_CTX 3,5),(R.fc_BLOCK_N 5,30),(R.qu_QSTATE 3,1),(R.qu_CELL_QUOTA 3,100)], ownHdr, 5,
    asks_of _ _ _ (by decide +kernel), by decide +kernel⟩

theorem hyps_FritBlocks_7 : ∃ (s : State) (c : Nat) (j : Nat), s.queueJobOf c = some j :=
  ⟨((running [(R.fj_JOB_STATE 4,2),(R.fj_FORMAT 4,3),(R.fj_IN_ADDR 4,3),(R.qu_QSTATE 3,1),(R.fc_BLOCK_N 5,9),(R.fj_OUT_ADDR 4,8192),(R.fj_OUT_LEN 4,400)]).setJob 4 { FritJob.init with ctx := 5 }).setCtx 5 { FritCtx.init with pend := [⟨4,false,false,false,[7],none⟩] }, 5, 4,
    by decide +kernel⟩

theorem hyps_FritJobs_1 : ∃ (s : State) (h : Hdr) (j : Nat), OwnerAsks s h 0x02 ∧ s.part.fronts ≤ 7 ∧ s.part.frit = true ∧ j < 32 ∧ s.free_ (R.fj_SUBMIT j) ∧ s.jobRuns j = false ∧ s.jobCtxCode j 0 (s.rd (R.fj_CTX j)) = 0 ∧ (s.job j).abortEdge = none :=
  ⟨(running [(R.fj_CTX 4,5),(R.fc_TENANT 5,0),(R.fc_MODE 5,1),(R.fj_IN_ADDR 4,4096),(R.fj_IN_LEN 4,40),(R.fj_OUT_ADDR 4,8192),(R.fj_OUT_LEN 4,400)]).putDram { (running [(R.fj_CTX 4,5),(R.fc_TENANT 5,0),(R.fc_MODE 5,1),(R.fj_IN_ADDR 4,4096),(R.fj_IN_LEN 4,40),(R.fj_OUT_ADDR 4,8192),(R.fj_OUT_LEN 4,400)]).dram with regions := [⟨0,1,4096,65536,true⟩] }, ownHdr, 4,
    asks_of _ _ _ (by decide +kernel), by decide +kernel⟩

theorem hyps_FritJobs_2 : ∃ (s : State) (j : Nat), s.jobsIn 1 = [j] ∧ s.jobsIn 2 = [] ∧ s.jobsIn 4 = [] ∧ s.jobsIn 8 = [] ∧ 1 ≤ s.rd R.fe_ENGINES ∧ s.jobCtxCode j (s.job j).tenant (s.job j).ctx = 0 :=
  ⟨((running [(R.fj_JOB_STATE 4,1),(R.fe_ENGINES,4),(R.fc_TENANT 5,0),(R.fc_MODE 5,1),(R.fj_IN_ADDR 4,4096),(R.fj_IN_LEN 4,40),(R.fj_OUT_ADDR 4,8192),(R.fj_OUT_LEN 4,400)]).setJob 4 { FritJob.init with tenant := 0, ctx := 5 }).putDram { ((running [(R.fj_JOB_STATE 4,1),(R.fe_ENGINES,4),(R.fc_TENANT 5,0),(R.fc_MODE 5,1),(R.fj_IN_ADDR 4,4096),(R.fj_IN_LEN 4,40),(R.fj_OUT_ADDR 4,8192),(R.fj_OUT_LEN 4,400)]).setJob 4 { FritJob.init with tenant := 0, ctx := 5 }).dram with regions := [⟨0,1,4096,65536,true⟩] }, 4,
    by decide +kernel⟩

theorem hyps_FritJobs_3 : ∃ (s : State) (j : Nat), s.rd (R.fj_JOB_STATE j) = 2 ∧ s.rd R.fz_FROZEN ≠ 0 :=
  ⟨running [(R.fj_JOB_STATE 4,2),(R.fz_FROZEN,1)], 4,
    by decide +kernel⟩

theorem hyps_FritJobs_4 : ∃ (s : State) (j : Nat) (n : Nat) (c : Nat) (i : BlockIn) (x : FritJob), s.rd (R.fj_JOB_STATE j) = 2 ∧ s.rd R.fz_FROZEN = 0 ∧ s.rd (R.fj_FORMAT j) ≤ 2 ∧ (s.job j).ctx = c ∧ s.memBlock j = some (.ok (i, n, x)) ∧ s.badRead (s.rd (R.fj_IN_ADDR j) + s.rd (R.fj_IN_USED j)) n = none ∧ s.badWrite (s.rd (R.fj_OUT_ADDR j) + s.rd (R.fj_OUT_USED j)) (4 * (s.codeBlock c i).words.length) = none ∧ ((∀ d, d < s.part.drams → s.rd (R.dc_CH_STATE d) ≠ 3)) ∧ s.rd (R.fj_OUT_USED j) + 4 * (s.codeBlock c i).words.length ≤ s.rd (R.fj_OUT_LEN j) :=
  ⟨(running [(R.fj_JOB_STATE 4,2),(R.fj_IN_LEN 4,40),(R.fc_BLOCK_N 5,9),(R.fj_OUT_ADDR 4,8192),(R.fj_OUT_LEN 4,400)]).setJob 4 { FritJob.init with tenant := 0, ctx := 5 }, 4, 12, 5, ⟨0, 0, [], [0,0,0], [], [], 0⟩, { FritJob.init with tenant := 0, ctx := 5 },
    by decide +kernel⟩

theorem hyps_FritJobs_5 : ∃ (s : State) (j : Nat), s.rd (R.fj_JOB_STATE j) = 2 ∧ s.rd R.fz_FROZEN = 0 ∧ s.rd (R.fj_FORMAT j) ≤ 2 ∧ s.rd (R.fj_IN_LEN j) % 4 = 0 ∧ s.rd (R.fj_IN_LEN j) ≤ s.rd (R.fj_IN_USED j) :=
  ⟨(running [(R.fj_JOB_STATE 4,2),(R.fc_TENANT 5,0),(R.fj_IN_LEN 4,40),(R.fj_IN_USED 4,40)]).setJob 4 { FritJob.init with tenant := 0, ctx := 5 }, 4,
    by decide +kernel⟩

theorem hyps_FritJobs_6 : ∃ (s : State) (h : Hdr) (j : Nat), OwnerAsks s h 0x02 ∧ s.part.fronts ≤ 7 ∧ s.part.frit = true ∧ j < 32 ∧ s.free_ (R.fj_CONTINUE j) ∧ s.rd (R.fj_JOB_STATE j) = 4 ∧ (s.job j).tenant = 0 ∧ s.jobCtxCode j 0 (s.job j).ctx = 0 :=
  ⟨((running [(R.fj_JOB_STATE 4,4),(R.fj_OUT_USED 4,44),(R.fj_CTX 4,5),(R.fc_TENANT 5,0),(R.fc_MODE 5,1),(R.fj_IN_ADDR 4,4096),(R.fj_IN_LEN 4,40),(R.fj_OUT_ADDR 4,8192),(R.fj_OUT_LEN 4,400)]).setJob 4 { FritJob.init with tenant := 0, ctx := 5 }).putDram { ((running [(R.fj_JOB_STATE 4,4),(R.fj_OUT_USED 4,44),(R.fj_CTX 4,5),(R.fc_TENANT 5,0),(R.fc_MODE 5,1),(R.fj_IN_ADDR 4,4096),(R.fj_IN_LEN 4,40),(R.fj_OUT_ADDR 4,8192),(R.fj_OUT_LEN 4,400)]).setJob 4 { FritJob.init with tenant := 0, ctx := 5 }).dram with regions := [⟨0,1,4096,65536,true⟩] }, ownHdr, 4,
    asks_of _ _ _ (by decide +kernel), by decide +kernel⟩

theorem hyps_FritJobs_7 : ∃ (s : State) (h : Hdr) (j : Nat), OwnerAsks s h 0x02 ∧ s.part.fronts ≤ 7 ∧ s.part.frit = true ∧ j < 32 ∧ s.free_ (R.fj_SUBMIT j) ∧ s.rd (R.fj_JOB_STATE j) ≠ 1 ∧ s.rd (R.fj_JOB_STATE j) ≠ 2 ∧ (s.jobRuns j = false ∨ (s.job j).tenant = 0) ∧ s.jobCtxCode j 0 (s.rd (R.fj_CTX j)) = 0 :=
  ⟨(running [(R.fj_CTX 4,5),(R.fc_TENANT 5,0),(R.fc_MODE 5,1),(R.fj_IN_ADDR 4,4096),(R.fj_IN_LEN 4,40),(R.fj_OUT_ADDR 4,8192),(R.fj_OUT_LEN 4,400)]).putDram { (running [(R.fj_CTX 4,5),(R.fc_TENANT 5,0),(R.fc_MODE 5,1),(R.fj_IN_ADDR 4,4096),(R.fj_IN_LEN 4,40),(R.fj_OUT_ADDR 4,8192),(R.fj_OUT_LEN 4,400)]).dram with regions := [⟨0,1,4096,65536,true⟩] }, ownHdr, 4,
    asks_of _ _ _ (by decide +kernel), by decide +kernel⟩

theorem hyps_FritJobs_8 : ∃ (s : State) (j : Nat) (c : Nat), j < 32 ∧ s.rd (R.fj_JOB_STATE j) = 1 ∧ (s.job j).ctx = c ∧ s.jobCtxCode j (s.job j).tenant c = 0 ∧ ((∀ i ∈ s.jobsIn 1, i ≠ j → (s.job j).order < (s.job i).order)) ∧ (∀ k ∈ s.jobsIn 2 ++ s.jobsIn 4 ++ s.jobsIn 8, (s.job k).ctx ≠ c) ∧ (s.jobsIn 2).length < s.rd R.fe_ENGINES :=
  ⟨((((running [(R.fj_JOB_STATE 4,1),(R.fj_JOB_STATE 6,1),(R.fj_JOB_STATE 7,2),(R.fe_ENGINES,4),(R.fc_TENANT 5,0),(R.fc_MODE 5,1),(R.fj_IN_ADDR 4,4096),(R.fj_IN_LEN 4,40),(R.fj_OUT_ADDR 4,8192),(R.fj_OUT_LEN 4,400)]).setJob 6 { FritJob.init with order := 3 }).setJob 7 { FritJob.init with ctx := 9 }).setJob 4 { FritJob.init with tenant := 0, ctx := 5 }).putDram { ((((running [(R.fj_JOB_STATE 4,1),(R.fj_JOB_STATE 6,1),(R.fj_JOB_STATE 7,2),(R.fe_ENGINES,4),(R.fc_TENANT 5,0),(R.fc_MODE 5,1),(R.fj_IN_ADDR 4,4096),(R.fj_IN_LEN 4,40),(R.fj_OUT_ADDR 4,8192),(R.fj_OUT_LEN 4,400)]).setJob 6 { FritJob.init with order := 3 }).setJob 7 { FritJob.init with ctx := 9 }).setJob 4 { FritJob.init with tenant := 0, ctx := 5 }).dram with regions := [⟨0,1,4096,65536,true⟩] }, 4, 5,
    by decide +kernel⟩

theorem hyps_FritJobs_9 : ∃ (s : State) (j : Nat) (n : Nat) (i : BlockIn) (x : FritJob), s.rd (R.fj_JOB_STATE j) = 2 ∧ s.frozen = false ∧ s.rd (R.fj_FORMAT j) ≤ 2 ∧ s.memBlock j = some (.ok (i, n, x)) :=
  ⟨(running [(R.fj_JOB_STATE 4,2),(R.fj_IN_LEN 4,40),(R.fc_BLOCK_N 5,9),(R.fj_OUT_ADDR 4,8192),(R.fj_OUT_LEN 4,4)]).setJob 4 { FritJob.init with tenant := 0, ctx := 5 }, 4, 12, ⟨0, 0, [], [0,0,0], [], [], 0⟩, { FritJob.init with tenant := 0, ctx := 5 },
    by decide +kernel⟩

theorem hyps_FritJobs_10 : ∃ (s : State) (u : State) (j : Nat) (n : Nat) (c : Nat) (i : BlockIn) (x : FritJob), u = s.jobAccess j (s.rd (R.fj_IN_ADDR j) + s.rd (R.fj_IN_USED j)) n ∧ s.rd (R.fj_JOB_STATE j) = 2 ∧ s.frozen = false ∧ s.rd (R.fj_FORMAT j) ≤ 2 ∧ (s.job j).ctx = c ∧ s.badRead (s.rd (R.fj_IN_ADDR j) + s.rd (R.fj_IN_USED j)) n = none ∧ s.memBlock j = some (.ok (i, n, x)) ∧ s.mode.base = .acquire ∧ s.rd (R.fj_OUT_LEN j) < s.rd (R.fj_OUT_USED j) + 4 * (s.codeBlock c i).words.length :=
  ⟨(running [(R.fj_JOB_STATE 4,2),(R.fj_IN_LEN 4,40),(R.fc_BLOCK_N 5,9),(R.fj_OUT_ADDR 4,8192),(R.fj_OUT_LEN 4,4)]).setJob 4 { FritJob.init with tenant := 0, ctx := 5 }, _, 4, 12, 5, ⟨0, 0, [], [0,0,0], [], [], 0⟩, { FritJob.init with tenant := 0, ctx := 5 },
    rfl, by decide +kernel⟩

theorem hyps_FritJobs_11 : ∃ (s : State) (j : Nat) (code : Nat), s.rd (R.fj_JOB_STATE j) = 2 ∧ s.frozen = false ∧ s.rd (R.fj_FORMAT j) ≤ 2 ∧ s.memBlock j = some (.error code) :=
  ⟨(running [(R.fj_JOB_STATE 4,2),(R.fj_IN_LEN 4,41)]).setJob 4 { FritJob.init with tenant := 0, ctx := 5 }, 4, 0x2092,
    by decide +kernel⟩

theorem hyps_FritJobs_12 : ∃ (s : State) (u : State) (j : Nat) (c : Nat) (pos : Nat) (f : FritFrame) (l : List FritFrame) (rest : List FritFrame) (i : BlockIn), u = s.takeQueueFrames j (s.queue (s.rd (R.fj_IN_ADDR j) % 8192)).frames.length ∧ s.rd (R.fj_JOB_STATE j) = 2 ∧ s.frozen = false ∧ s.rd (R.fj_FORMAT j) = 3 ∧ (s.job j).ctx = c ∧ (u.ctx c).pend = f :: l ∧ (f.ftype = 1 ∨ f.ftype = 3 ∨ f.ftype = 4) ∧ u.nextBlock c (u.queueInputEnds j) = some (i, rest, pos) :=
  ⟨((running [(R.fj_JOB_STATE 4,2),(R.fj_FORMAT 4,3),(R.fj_IN_ADDR 4,3),(R.qu_QSTATE 3,1),(R.fc_BLOCK_N 5,9),(R.fj_OUT_ADDR 4,8192),(R.fj_OUT_LEN 4,400)]).setQueue 3 { Queue.init with frames := [⟨4,2,3,false,true,false,false,false,false,false,5,0,[7#8,0#8,0#8,0#8],false,0,false⟩] }).setJob 4 { FritJob.init with tenant := 0, ctx := 5 }, _, 4, 5, 0, ⟨4, false, true, false, [7], none⟩, [], [], ⟨0, 4, [], [7], [], [], 0⟩,
    rfl, by decide +kernel⟩

theorem hyps_FritJobs_13 : ∃ (s : State) (h : Hdr) (j : Nat), OwnerAsks s h 0x02 ∧ s.part.fronts ≤ 7 ∧ s.part.frit = true ∧ j < 32 ∧ s.free_ (R.fj_CONTINUE j) ∧ s.rd (R.fj_JOB_STATE j) = 8 ∧ (s.job j).tenant = 0 ∧ s.jobCtxCode j 0 (s.job j).ctx = 0 ∧ s.jobIntact j = true :=
  ⟨((running [(R.fj_JOB_STATE 4,8),(R.fc_TENANT 5,0),(R.fc_MODE 5,1),(R.fj_IN_ADDR 4,4096),(R.fj_IN_LEN 4,40),(R.fj_OUT_ADDR 4,8192),(R.fj_OUT_LEN 4,400)]).setJob 4 { FritJob.init with tenant := 0, ctx := 5 }).putDram { ((running [(R.fj_JOB_STATE 4,8),(R.fc_TENANT 5,0),(R.fc_MODE 5,1),(R.fj_IN_ADDR 4,4096),(R.fj_IN_LEN 4,40),(R.fj_OUT_ADDR 4,8192),(R.fj_OUT_LEN 4,400)]).setJob 4 { FritJob.init with tenant := 0, ctx := 5 }).dram with regions := [⟨0,1,4096,65536,true⟩] }, ownHdr, 4,
    asks_of _ _ _ (by decide +kernel), by decide +kernel⟩

theorem hyps_FritJobs_14 : ∃ (s : State) (h : Hdr) (j : Nat), OwnerAsks s h 0x02 ∧ s.part.fronts ≤ 7 ∧ s.part.frit = true ∧ j < 32 ∧ s.free_ (R.fj_CONTINUE j) ∧ s.rd (R.fj_JOB_STATE j) = 8 ∧ (s.job j).tenant = 0 ∧ s.jobCtxCode j 0 (s.job j).ctx = 0 ∧ s.jobIntact j = false :=
  ⟨((running [(R.fj_JOB_STATE 4,8),(R.fc_TENANT 5,0),(R.fc_MODE 5,1),(R.fj_IN_ADDR 4,4096),(R.fj_IN_LEN 4,40),(R.fj_OUT_ADDR 4,8192),(R.fj_OUT_LEN 4,400)]).setJob 4 { FritJob.init with tenant := 0, ctx := 5 }).putDram { ((running [(R.fj_JOB_STATE 4,8),(R.fc_TENANT 5,0),(R.fc_MODE 5,1),(R.fj_IN_ADDR 4,4096),(R.fj_IN_LEN 4,40),(R.fj_OUT_ADDR 4,8192),(R.fj_OUT_LEN 4,400)]).setJob 4 { FritJob.init with tenant := 0, ctx := 5 }).dram with regions := [⟨0,1,4096,65536,false⟩] }, ownHdr, 4,
    asks_of _ _ _ (by decide +kernel), by decide +kernel⟩

theorem hyps_FritJobs_15 : ∃ (s : State) (j : Nat), s.jobsIn 1 = [j] ∧ s.jobsIn 2 = [] ∧ s.jobsIn 4 = [] ∧ s.jobsIn 8 = [] ∧ 1 ≤ s.rd R.fe_ENGINES ∧ s.jobCtxCode j (s.job j).tenant (s.job j).ctx ≠ 0 :=
  ⟨(running [(R.fj_JOB_STATE 4,1),(R.fe_ENGINES,4),(R.fc_TENANT 5,7)]).setJob 4 { FritJob.init with tenant := 0, ctx := 5 }, 4,
    by decide +kernel⟩

theorem hyps_DramAccess_1 : ∃ (s : State) (c : Nat) (port : Nat) (addr : Nat) (tenant : Nat), (s.dramMap addr).map (·.1) = some c ∧ s.part.portFitted port = true ∧ s.rd (R.dc_CH_STATE c) = 2 ∧ s.dram.portHeld = [] ∧ addr % 64 = 0 ∧ (s.dramCh c).repairing = none ∧ (s.dramCh c).writes.find? (fun w => burstOf w.addr == burstOf addr) = none ∧ (s.dramCh c).reads.length < 64 :=
  ⟨running [(R.dc_CH_STATE 0,2)], 0, 3, 0, 0,
    by decide +kernel⟩

theorem hyps_DramAccess_2 : ∃ (s : State) (c : Nat) (port : Nat) (addr : Nat) (tenant : Nat) (data : List Byte), (s.dramMap addr).map (·.1) = some c ∧ s.part.portFitted port = true ∧ s.rd (R.dc_CH_STATE c) = 2 ∧ s.dram.portHeld = [] ∧ (s.dramCh c).repairing = none ∧ ((s.dramCh c).writes.any fun w => burstOf w.addr == burstOf addr) = false ∧ (s.dramCh c).writes.length < 64 ∧ data.length = 64 ∧ addr % 64 = 0 ∧ (s.dramCh c).poisoned = false :=
  ⟨running [(R.dc_CH_STATE 0,2)], 0, 3, 0, 0, List.replicate 64 5#8,
    by decide +kernel⟩

theorem hyps_DramAccess_3 : ∃ (s : State) (port : Nat) (age : Nat), s.rd (R.dp_LAT_TARGET port) ≤ age ∧ s.rd (R.dp_URGENCY port) ≠ 3 :=
  ⟨running [(R.dp_LAT_TARGET 3,900)], 3, 900,
    by decide +kernel⟩

theorem hyps_DramAccess_4 : ∃ (s : State) (c : Nat) (r : DramReq), s.nextReq c = some (r, true) ∧ s.rd (R.dc_CH_STATE c) = 2 ∧ s.rd R.fz_FROZEN = 0 ∧ s.dram.portHeld = [] ∧ s.dram.bad = [] :=
  ⟨(running [(R.dc_CH_STATE 1,2)]).setDramCh 1 { DramCh.init with writes := [⟨3,4096,[1#8,2#8],0,.write,0⟩] }, 1, ⟨3,4096,[1#8,2#8],0,.write,0⟩,
    by decide +kernel⟩

theorem hyps_DramAccess_5 : ∃ (s : State) (c : Nat) (r : DramReq), s.nextReq c = some (r, false) ∧ s.rd (R.dc_CH_STATE c) = 2 ∧ s.rd R.fz_FROZEN = 0 ∧ s.dram.portHeld = [] ∧ s.dram.bad = [] :=
  ⟨(running [(R.dc_CH_STATE 1,2)]).setDramCh 1 { DramCh.init with reads := [⟨3,4096,[],0,.read,0⟩] }, 1, ⟨3,4096,[],0,.read,0⟩,
    by decide +kernel⟩

theorem hyps_DramAccess_6 : ∃ (s : State) (c : Nat) (r : DramReq), s.nextReq c = some (r, true) ∧ s.rd (R.dc_CH_STATE c) = 2 ∧ s.rd R.fz_FROZEN = 0 ∧ s.triesOf c r < 3 :=
  ⟨(running [(R.dc_CH_STATE 1,2)]).setDramCh 1 { DramCh.init with writes := [⟨3,4096,[1#8,2#8],0,.write,0⟩] }, 1, ⟨3,4096,[1#8,2#8],0,.write,0⟩,
    by decide +kernel⟩

theorem hyps_DramAccess_7 : ∃ (s : State) (c : Nat) (port : Nat) (addr : Nat) (tenant : Nat) (write : Bool) (data : List Byte) (v : State) (u : State) (r : DramReq), v = (if write = true ∧ (s.dramCh c).poisoned = true then s.setDramCh c { s.dramCh c with poisoned := false, poisonBursts := (s.dramCh c).poisonBursts ++ [burstOf addr] } else s) ∧ u = (if s.rd (R.dc_CH_STATE c) = 3 ∧ s.frozen = false then v.wr (R.dc_CH_STATE c) 2 else v).releaseHeld c ∧ r = ⟨port, addr, data, 0xFFFF, if !write then .read else if data.length < 64 then .readModifyWrite else .write, s.time.edge⟩ ∧ (s.dramMap addr).map (·.1) = some c ∧ s.part.portFitted port = true ∧ burstOk write addr data.length = true ∧ s.rd (R.dc_CH_STATE c) ≠ 0 ∧ s.rd (R.dc_CH_STATE c) ≠ 5 ∧ u.waitsBefore c r = false ∧ u.roomFor c r = true :=
  ⟨(running [(R.dc_CH_STATE 0,3)]).setDramCh 0 { DramCh.init with poisoned := true }, 0, 3, 0, 1, true, List.replicate 6 5#8, _, _, _,
    rfl, rfl, rfl, by decide +kernel⟩

theorem hyps_DramAccess_8 : ∃ (s : State) (c : Nat) (port : Nat) (addr : Nat) (tenant : Nat) (write : Bool) (data : List Byte) (v : State) (u : State) (r : DramReq), v = (if write = true ∧ (s.dramCh c).poisoned = true then s.setDramCh c { s.dramCh c with poisoned := false, poisonBursts := (s.dramCh c).poisonBursts ++ [burstOf addr] } else s) ∧ u = (if s.rd (R.dc_CH_STATE c) = 3 ∧ s.frozen = false then v.wr (R.dc_CH_STATE c) 2 else v).releaseHeld c ∧ r = ⟨port, addr, data, tenant, if !write then .read else if data.length < 64 then .readModifyWrite else .write, s.time.edge⟩ ∧ (s.dramMap addr).map (·.1) = some c ∧ s.part.portFitted port = true ∧ burstOk write addr data.length = true ∧ s.rd (R.dc_CH_STATE c) ≠ 0 ∧ s.rd (R.dc_CH_STATE c) ≠ 5 ∧ tenant ≠ 0xFFFF ∧ u.waitsBefore c r = false ∧ u.roomFor c r = true ∧ u.bucketHas tenant = true :=
  ⟨running [(R.dc_CH_STATE 0,3),(R.te_DRAM_RATE 1,1000),(R.te_DRAM_BURST 1,4096)], 0, 3, 0, 1, true, List.replicate 6 5#8, _, _, _,
    rfl, rfl, rfl, by decide +kernel⟩

theorem hyps_DramAccess_9 : ∃ (s : State) (c : Nat) (port : Nat) (addr : Nat) (tenant : Nat) (write : Bool) (data : List Byte) (v : State) (u : State) (r : DramReq), v = (if write = true ∧ (s.dramCh c).poisoned = true then s.setDramCh c { s.dramCh c with poisoned := false, poisonBursts := (s.dramCh c).poisonBursts ++ [burstOf addr] } else s) ∧ u = (if s.rd (R.dc_CH_STATE c) = 3 ∧ s.frozen = false then v.wr (R.dc_CH_STATE c) 2 else v).releaseHeld c ∧ r = ⟨port, addr, data, tenant, if !write then .read else if data.length < 64 then .readModifyWrite else .write, s.time.edge⟩ ∧ (s.dramMap addr).map (·.1) = some c ∧ s.part.portFitted port = true ∧ burstOk write addr data.length = true ∧ s.rd (R.dc_CH_STATE c) ≠ 0 ∧ s.rd (R.dc_CH_STATE c) ≠ 5 ∧ tenant ≠ 0xFFFF ∧ (u.waitsBefore c r = true ∨ u.roomFor c r = false ∨ u.bucketHas tenant = false) :=
  ⟨running [(R.dc_CH_STATE 0,3),(R.te_DRAM_BURST 1,0)], 0, 3, 0, 1, true, List.replicate 6 5#8, _, _, _,
    rfl, rfl, rfl, by decide +kernel⟩

theorem hyps_DramAccess_11 : ∃ (s : State) (u : State) (c : Nat) (sy : Nat) (r : DramReq) (w : Bool), u = (s.takeReq c r w).portDone r ∧ s.nextReq c = some (r, w) ∧ s.chCompletes c = true ∧ (readsDevices r = false ∨ checkCan s r.addr .clean = true) :=
  ⟨(running [(R.dc_CH_STATE 1,2)]).setDramCh 1 { DramCh.init with writes := [⟨3,4096,[1#8,2#8],0,.write,0⟩] }, _, 1, 0, ⟨3,4096,[1#8,2#8],0,.write,0⟩, true,
    rfl, by decide +kernel⟩

theorem hyps_DramAccess_12 : ∃ (s : State) (u : State) (c : Nat) (sy : Nat) (r : DramReq) (w : Bool), u = ((s.takeReq c r w).portDone r).corrected c r.addr ∧ s.nextReq c = some (r, w) ∧ s.chCompletes c = true ∧ (readsDevices r = false ∨ checkCan s r.addr .corrected = true) :=
  ⟨(running [(R.dc_CH_STATE 1,2),(R.ds_PPR_THRESHOLD,2)]).setDramCh 1 { DramCh.init with reads := [⟨3,4096,[],0,.read,0⟩] }, _, 1, 0, ⟨3,4096,[],0,.read,0⟩, false,
    rfl, by decide +kernel⟩

theorem hyps_DramAccess_13 : ∃ (s : State) (c : Nat) (r : DramReq), s.nextReq c = some (r, true) ∧ s.chServes c = true ∧ 3 ≤ s.triesOf c r :=
  ⟨(running [(R.dc_CH_STATE 1,2)]).setDramCh 1 { DramCh.init with wcrc := [(⟨3,4096,[1#8,2#8],0,.write,0⟩, 3)], writes := [⟨3,4096,[1#8,2#8],0,.write,0⟩] }, 1, ⟨3,4096,[1#8,2#8],0,.write,0⟩,
    by decide +kernel⟩

theorem hyps_DramUpkeep_1 : ∃ (s : State) (c : Nat) (b : Nat), (s.rd (R.dc_CH_STATE c) = 2 ∨ s.rd (R.dc_CH_STATE c) = 4) :=
  ⟨(running [(R.dc_CH_STATE 1,2)]).setDramCh 1 { DramCh.init with owed := [(3, 3)] }, 1, 3,
    by decide +kernel⟩

theorem hyps_DramUpkeep_2 : ∃ (s : State) (c : Nat) (b : Nat), (s.rd (R.dc_CH_STATE c) = 2 ∨ s.rd (R.dc_CH_STATE c) = 4) ∧ 3 ≤ tabGet 0 (s.dramCh c).owed b :=
  ⟨(running [(R.dc_CH_STATE 1,4)]).setDramCh 1 { DramCh.init with owed := [(3, 3)] }, 1, 3,
    by decide +kernel⟩

theorem hyps_DramUpkeep_3 : ∃ (s : State) (c : Nat) (addr : Nat) (sy : Nat), (s.dramMap addr).map (·.1) = some c ∧ s.rd (R.dc_CH_STATE c) = 2 ∧ s.rd R.fz_FROZEN = 0 ∧ 2 ≤ s.rd R.ds_PPR_THRESHOLD ∧ (s.dramCh c).rowErrors = [] ∧ (s.dramCh c).writes = [] ∧ (s.dramCh c).repairing = none ∧ s.dram.bad = [] :=
  ⟨running [(R.dc_CH_STATE 0,2),(R.ds_PPR_THRESHOLD,2)], 0, 0, 0,
    by decide +kernel⟩

theorem hyps_DramUpkeep_5 : ∃ (s : State) (c : Nat), (s.rd R.ds_SR_AUTO = 1 ∨ s.mode.base = .dormant) ∧ s.rd (R.dc_CH_STATE c) = 2 ∧ s.rd R.fz_FROZEN = 0 ∧ s.chIdle c = true :=
  ⟨running [(R.dc_CH_STATE 1,2),(R.ds_SR_AUTO,1)], 1,
    by decide +kernel⟩

theorem hyps_DramUpkeep_6 : ∃ (s : State) (c : Nat) (n : Nat), s.rd (R.dc_CH_STATE c) = 1 ∧ s.chCapacity ≠ 0 :=
  ⟨(running [(R.dc_CH_STATE 1,1),(R.ds_DATA_RATE,6400)]).setDramCh 1 { DramCh.init with trainFails := 1 }, 1, 16,
    by decide +kernel⟩

theorem hyps_DramUpkeep_7 : ∃ (s : State) (h : Hdr) (c : Nat) (row : Nat) (rest : List Nat), OwnerAsks s h 0x02 ∧ s.part.fronts ≤ 7 ∧ c < s.part.drams ∧ s.free_ R.cu_PPR_NOW ∧ s.rd R.fz_FROZEN = 0 ∧ (s.dramCh c).candidates = row :: rest ∧ (s.dramCh c).repairing = none ∧ (s.dramCh c).reads = [] ∧ (s.dramCh c).writes = [] ∧ s.rd (R.dc_PPR_LEFT c) ≠ 0 :=
  ⟨(running [(R.dc_PPR_LEFT 1,5)]).setDramCh 1 { DramCh.init with candidates := [777, 778] }, ownHdr, 1, 777, [778],
    asks_of _ _ _ (by decide +kernel), by decide +kernel⟩

theorem hyps_DramUpkeep_8 : ∃ (s : State) (c : Nat) (row : Nat), (s.dramCh c).repairing = some row ∧ (s.dramCh c).candidates = [row] ∧ (s.dramCh c).heldReqs = [] ∧ s.dram.portHeld = [] :=
  ⟨(running [(R.dc_PPR_LEFT 1,5),(R.dc_PPR_CANDIDATES 1,1)]).setDramCh 1 { DramCh.init with candidates := [777], repairing := some 777 }, 1, 777,
    by decide +kernel⟩

theorem hyps_DramUpkeep_9 : ∃ (s : State) (c : Nat) (b : Nat), (s.rd (R.dc_CH_STATE c) = 2 ∨ s.rd (R.dc_CH_STATE c) = 4) ∧ tabGet 0 (s.dramCh c).owed b < 3 :=
  ⟨(running [(R.dc_CH_STATE 1,2)]).setDramCh 1 { DramCh.init with owed := [(3, 2)] }, 1, 3,
    by decide +kernel⟩

theorem hyps_DramUpkeep_10 : ∃ (s : State) (c : Nat) (addr : Nat) (w : Nat) (sy : Nat), (s.dramMap addr).map (·.1) = some c ∧ s.chServes c = true ∧ (s.dramCh c).repairing = none ∧ s.dram.bad.contains (burstOf addr) = false :=
  ⟨running [(R.dc_CH_STATE 0,2),(R.ds_PPR_THRESHOLD,2)], 0, 0, 7, 9,
    by decide +kernel⟩

theorem hyps_DramUpkeep_11 : ∃ (s : State) (c : Nat) (n : Nat), s.rd (R.dc_CH_STATE c) = 1 ∧ s.chCapacity ≠ 0 ∧ (s.dramCh c).trainFails + 1 < (trainingRates s.dram.rate).length :=
  ⟨running [(R.dc_CH_STATE 1,1),(R.ds_DATA_RATE,6400)], 1, 16,
    by decide +kernel⟩

theorem hyps_DramUpkeep_12 : ∃ (s : State) (u : State) (c : Nat) (n : Nat) (p : Bool), u = ((s.wr (R.dc_CH_STATE c) 5).wr (R.dc_TRAINED_RATE c) 0).raise 0x7102 c ∧ s.rd (R.dc_CH_STATE c) = 1 ∧ (s.chCapacity = 0 ∨ (p = false ∧ (trainingRates s.dram.rate).length ≤ (s.dramCh c).trainFails + 1)) :=
  ⟨(running [(R.dc_CH_STATE 1,1),(R.ds_DATA_RATE,6400)]).setDramCh 1 { DramCh.init with trainFails := 9 }, _, 1, 16, false,
    rfl, by decide +kernel⟩

theorem hyps_DramUpkeep_13 : ∃ (s : State) (h : Hdr) (c : Nat), OwnerAsks s h 0x02 ∧ s.part.fronts ≤ 7 ∧ c < s.part.drams ∧ s.part.drams ≤ 4 ∧ s.free_ R.cu_PPR_NOW ∧ s.frozen = false ∧ ((s.dramCh c).candidates = [] ∨ s.rd (R.dc_PPR_LEFT c) ≠ 0) :=
  ⟨(running [(R.dc_PPR_LEFT 1,5)]).setDramCh 1 { DramCh.init with repairing := some 776, candidates := [776, 778] }, ownHdr, 1,
    asks_of _ _ _ (by decide +kernel), by decide +kernel⟩

theorem hyps_DramUpkeep_14 : ∃ (s : State) (c : Nat) (row : Nat), (s.dramCh c).repairing = some row :=
  ⟨(running [(R.dc_PPR_LEFT 1,5),(R.dc_PPR_CANDIDATES 1,1)]).setDramCh 1 { DramCh.init with candidates := [777, 778], repairing := some 777, heldReqs := [⟨3,4096,[1#8,2#8],0xFFFF,.write,0⟩] }, 1, 777,
    by decide +kernel⟩

theorem hyps_DramFreeze_1 : ∃ (s : State) (c : Nat) (w : Nat) (r : DramReq), s.nextReq c = some (r, false) ∧ s.rd (R.dc_CH_STATE c) = 2 ∧ s.rd R.fz_FROZEN = 0 ∧ s.queues = [] ∧ s.part.drams ≤ 4 ∧ c < s.part.drams :=
  ⟨(running [(R.dc_CH_STATE 1,2)]).setDramCh 1 { DramCh.init with reads := [⟨3,4096,[],0,.read,0⟩] }, 1, 5, ⟨3,4096,[],0,.read,0⟩,
    by decide +kernel⟩

theorem hyps_DramFreeze_2 : ∃ (s : State) (h : Hdr), OwnerAsks s h 0x02 ∧ s.part.fronts ≤ 7 ∧ s.free_ R.fz_DIAG_READ ∧ s.rd R.fz_FROZEN = 1 ∧ s.rd R.fz_DIAG_ENABLE = 1 :=
  ⟨running [(R.fz_FROZEN,1),(R.fz_DIAG_ENABLE,1)], ownHdr,
    asks_of _ _ _ (by decide +kernel), by decide +kernel⟩

theorem hyps_DramFreeze_3 : ∃ (s : State) (h : Hdr) (r : DramReq), OwnerAsks s h 0x02 ∧ s.part.fronts ≤ 7 ∧ s.free_ R.fz_RELEASE ∧ s.rd R.fz_FROZEN = 1 ∧ s.dram.failed = some r ∧ s.queues = [] ∧ s.part.drams ≤ 4 :=
  ⟨(running [(R.fz_FROZEN,1),(R.dc_CH_STATE 1,4),(R.fz_F_ADDR,4096)]).putDram { (running [(R.fz_FROZEN,1),(R.dc_CH_STATE 1,4),(R.fz_F_ADDR,4096)]).dram with failed := some ⟨3,4096,[],0,.read,0⟩, regions := [⟨0,1,0,65536,true⟩] }, ownHdr, ⟨3,4096,[],0,.read,0⟩,
    asks_of _ _ _ (by decide +kernel), by decide +kernel⟩

theorem hyps_DramFreeze_4 : ∃ (s : State) (h : Hdr) (r : DramReq), OwnerAsks s h 0x02 ∧ s.part.fronts ≤ 7 ∧ s.free_ R.fz_RELEASE ∧ s.rd R.fz_FROZEN = 1 ∧ s.dram.failed = some r ∧ s.queues = [] ∧ s.part.drams ≤ 4 :=
  ⟨((running [(R.fz_FROZEN,1),(R.dc_CH_STATE 1,4),(R.fz_F_ADDR,4096)]).putDram { (running [(R.fz_FROZEN,1),(R.dc_CH_STATE 1,4),(R.fz_F_ADDR,4096)]).dram with failed := some ⟨3,4096,[],0,.read,0⟩, regions := [⟨0,1,0,65536,true⟩] }).setDramCh 1 { DramCh.init with writes := [⟨3,4096,[1#8,2#8],0,.write,0⟩] }, ownHdr, ⟨3,4096,[],0,.read,0⟩,
    asks_of _ _ _ (by decide +kernel), by decide +kernel⟩

theorem hyps_DramFreeze_5 : ∃ (s : State) (c : Nat) (sy : Nat) (r : DramReq) (w : Bool) (k : WordCheck), s.nextReq c = some (r, w) ∧ checkKind k ≠ 0 ∧ s.chServes c = true ∧ (readsDevices r = false ∨ checkCan s r.addr k = true) :=
  ⟨(running [(R.dc_CH_STATE 1,2)]).setDramCh 1 { DramCh.init with writes := [⟨3,4096,[1#8,2#8],0,.write,0⟩] }, 1, 9, ⟨3,4096,[1#8,2#8],0,.write,0⟩, true, .addressCrc 3,
    by decide +kernel⟩

theorem hyps_DramFreeze_6 : ∃ (s : State) (c : Nat) (sy : Nat) (r : DramReq) (k : WordCheck), s.nextReq c = some (r, false) ∧ checkKind k ≠ 0 ∧ s.rd R.fz_FROZEN = 1 ∧ s.rd (R.dc_CH_STATE c) = 4 ∧ s.rd R.fz_F_TIME = s.now96 ∧ s.rd R.fz_F_LOC / 2 ^ 56 ≠ c ∧ (readsDevices r = false ∨ checkCan s r.addr k = true) :=
  ⟨(running [(R.dc_CH_STATE 1,4),(R.fz_FROZEN,1),(R.fz_F_TIME,(running []).now96)]).setDramCh 1 { DramCh.init with reads := [⟨3,4096,[],0,.read,0⟩] }, 1, 9, ⟨3,4096,[],0,.read,0⟩, .addressCrc 3,
    by decide +kernel⟩

theorem hyps_DramFreeze_7 : ∃ (s : State) (c : Nat) (sy : Nat) (w : Bool) (k : WordCheck), s.rd R.fz_FROZEN = 1 ∧ (s.rd R.fz_F_TIME ≠ s.now96 ∨ (s.rd R.fz_F_LOC / 2 ^ 56 = c ∧ checkKind k ≠ 0)) :=
  ⟨running [(R.dc_CH_STATE 1,4),(R.fz_FROZEN,1),(R.fz_F_TIME,3)], 1, 9, false, .doubleBit 2,
    by decide +kernel⟩

theorem hyps_DramFreeze_8 : ∃ (s : State) (h : Hdr), OwnerAsks s h 0x02 ∧ s.part.fronts ≤ 7 ∧ s.free_ R.fz_RELEASE ∧ s.rd R.fz_FROZEN = 1 :=
  ⟨(running [(R.fz_FROZEN,1),(R.dc_CH_STATE 1,4),(R.fz_F_ADDR,4096),(R.qu_QSTATE 3,4)]).setQueue 3 { Queue.init with frozenFrames := 2 }, ownHdr,
    asks_of _ _ _ (by decide +kernel), by decide +kernel⟩

theorem hyps_DramFreeze_9 : ∃ (s : State) (u : State) (h : Hdr), OwnerAsks s h 0x02 ∧ u = (((s.touch h.session).answerFailed).markLost (s.rd R.fz_F_ADDR)).each (List.range s.part.drams) (fun s c => let v := s.each (s.dramCh c).writes (fun s w => s.markLost w.addr); v.setDramCh c { v.dramCh c with writes := [], drain := false, trainFails := 0, wcrc := [], poisonBursts := (v.dramCh c).poisonBursts.filter fun b => !(v.dramCh c).writes.any fun w => burstOf w.addr == b }) ∧ s.part.fronts ≤ 7 ∧ s.free_ R.fz_RELEASE ∧ s.rd R.fz_FROZEN = 1 :=
  ⟨((running [(R.fz_FROZEN,1),(R.dc_CH_STATE 1,4),(R.fz_F_ADDR,4096),(R.qu_QSTATE 3,4)]).setQueue 3 { Queue.init with frozenFrames := 2 }).setDramCh 1 { DramCh.init with writes := [⟨3,4096,[1#8,2#8],0,.write,0⟩] }, _, ownHdr,
    asks_of _ _ _ (by decide +kernel), rfl, by decide +kernel⟩

theorem hyps_LaneBlocks_1 : ∃ (x : LineEnd) (hd : Nat) (p : Block), x.run < 36 ∧ hd < 16 :=
  ⟨⟨[true, false, true], true, 35⟩, 14, 7#256,
    by decide +kernel⟩

theorem hyps_LaneBlocks_2 : ∃ (s : State) (l : Nat) (hd : Nat) (i : List Bool) (e : LineEnd) (p : Block), (s.rd (R.ln_LANE_STATE l) = 2 ∨ s.rd (R.ln_LANE_STATE l) = 3) ∧ readLine (s.lane l).rx i = some (e, hd, p, 0) ∧ (hd = 6 ∨ hd = 9) ∧ (s.lane l).good < 127 :=
  ⟨(running [(R.ln_LANE_STATE 3,2)]).setLane 3 { Lane.init with good := 126 }, 3, 9, (codeLine (((running [(R.ln_LANE_STATE 3,2)]).setLane 3 { Lane.init with good := 126 } : State).lane (3 : Nat)).rx 9 5#256).1, (codeLine (((running [(R.ln_LANE_STATE 3,2)]).setLane 3 { Lane.init with good := 126 } : State).lane (3 : Nat)).rx 9 5#256).2, 5#256,
    by decide +kernel⟩

theorem hyps_LaneBlocks_3 : ∃ (s : State) (l : Nat) (hd : Nat) (i : List Bool) (e : LineEnd) (p : Block), (s.rd (R.ln_LANE_STATE l) = 2 ∨ s.rd (R.ln_LANE_STATE l) = 3) ∧ readLine (s.lane l).rx i = some (e, hd, p, 0) ∧ hd ≠ 6 ∧ hd ≠ 9 :=
  ⟨(running [(R.ln_LANE_STATE 3,2)]).setLane 3 { Lane.init with good := 126, slip := 259 }, 3, 5, (codeLine (((running [(R.ln_LANE_STATE 3,2)]).setLane 3 { Lane.init with good := 126, slip := 259 } : State).lane (3 : Nat)).rx 5 5#256).1, (codeLine (((running [(R.ln_LANE_STATE 3,2)]).setLane 3 { Lane.init with good := 126, slip := 259 } : State).lane (3 : Nat)).rx 5 5#256).2, 5#256,
    by decide +kernel⟩

theorem hyps_LaneBlocks_4 : ∃ (s : State) (l : Nat) (hd : Nat) (n : Nat) (i : List Bool) (e : LineEnd) (p : Block), (s.rd (R.ln_LANE_STATE l) = 2 ∨ s.rd (R.ln_LANE_STATE l) = 3) ∧ readLine (s.lane l).rx i = some (e, hd, p, n + 1) :=
  ⟨(running [(R.ln_LANE_STATE 3,2)]).setLane 3 { Lane.init with rx := ⟨[], true, 36⟩ }, 3, 9, 0, (true :: (codeLine ⟨[], true, 1⟩ 9 5#256).1), (codeLine ⟨[], true, 1⟩ 9 5#256).2, 5#256,
    by decide +kernel⟩

theorem hyps_LaneBlocks_5 : ∃ (s : State) (l : Nat) (hd : Nat) (b : Nat) (i : List Bool) (e : LineEnd) (p : Block), s.rd (R.ln_LANE_STATE l) = 3 ∧ readLine (s.lane l).rx i = some (e, hd, p, 0) ∧ (hd = 6 ∨ hd = 9) ∧ 127 ≤ (s.lane l).good ∧ s.bundleOf l = b ∧ s.rd (R.bu_BUNDLE_STATE b) ≠ 2 :=
  ⟨(running [(R.ln_LANE_STATE 3,3),(R.ln_BUNDLE 3,1),(R.ln_MODE 3,1),(R.bu_BUNDLE_STATE 1,1)]).setLane 3 { Lane.init with good := 127 }, 3, 9, 1, (codeLine (((running [(R.ln_LANE_STATE 3,3),(R.ln_BUNDLE 3,1),(R.ln_MODE 3,1),(R.bu_BUNDLE_STATE 1,1)]).setLane 3 { Lane.init with good := 127 } : State).lane (3 : Nat)).rx 9 5#256).1, (codeLine (((running [(R.ln_LANE_STATE 3,3),(R.ln_BUNDLE 3,1),(R.ln_MODE 3,1),(R.bu_BUNDLE_STATE 1,1)]).setLane 3 { Lane.init with good := 127 } : State).lane (3 : Nat)).rx 9 5#256).2, 5#256,
    by decide +kernel⟩

theorem hyps_LaneBlocks_6 : ∃ (s : State) (u : State) (l : Nat) (hd : Nat) (i : List Bool) (e : LineEnd) (p : Block), u = (s.setLane l { s.lane l with rx := e, good := 0, recent := [] }).wr (R.ln_LANE_STATE l) 4 ∧ (s.rd (R.ln_LANE_STATE l) = 2 ∨ s.rd (R.ln_LANE_STATE l) = 3) ∧ readLine (s.lane l).rx i = some (e, hd, p, 0) ∧ (hd = 6 ∨ hd = 9) ∧ 127 ≤ (s.lane l).good :=
  ⟨(running [(R.ln_LANE_STATE 3,2),(R.ln_BUNDLE 3,1),(R.ln_MODE 3,1),(R.bu_BUNDLE_STATE 1,2)]).setLane 3 { Lane.init with good := 127 }, _, 3, 9, (codeLine (((running [(R.ln_LANE_STATE 3,2),(R.ln_BUNDLE 3,1),(R.ln_MODE 3,1),(R.bu_BUNDLE_STATE 1,2)]).setLane 3 { Lane.init with good := 127 } : State).lane (3 : Nat)).rx 9 5#256).1, (codeLine (((running [(R.ln_LANE_STATE 3,2),(R.ln_BUNDLE 3,1),(R.ln_MODE 3,1),(R.bu_BUNDLE_STATE 1,2)]).setLane 3 { Lane.init with good := 127 } : State).lane (3 : Nat)).rx 9 5#256).2, 5#256,
    rfl, by decide +kernel⟩

theorem hyps_LaneBlocks_7 : ∃ (s : State) (l : Nat) (i : List Bool), readLine (s.lane l).rx i = none :=
  ⟨running [(R.ln_LANE_STATE 3,2)], 3, [true],
    by decide +kernel⟩

theorem hyps_LaneBlocks_8 : ∃ (s : State) (l : Nat) (b : Nat) (i : List Bool) (e : LineEnd) (p : Block) (f : RxFrame), s.laneLocked l = true ∧ s.bundleOf l = b ∧ b < 2 ∧ readLine (s.lane l).rx i = some (e, 6, p, 0) ∧ (s.bundle b).cur = some f ∧ ((lastN 128 ((s.lane l).recent ++ [false])).filter id).length < 24 :=
  ⟨(running [(R.ln_LANE_STATE 3,4),(R.ln_BUNDLE 3,1),(R.ln_MODE 3,1)]).setBundle 1 { Bundle.init with cur := some ⟨1,2,0,3,0,5,6,2,false,false,false,[],0,false,false⟩ }, 3, 1, (codeLine (((running [(R.ln_LANE_STATE 3,4),(R.ln_BUNDLE 3,1),(R.ln_MODE 3,1)]).setBundle 1 { Bundle.init with cur := some ⟨1,2,0,3,0,5,6,2,false,false,false,[],0,false,false⟩ } : State).lane (3 : Nat)).rx 6 5#256).1, (codeLine (((running [(R.ln_LANE_STATE 3,4),(R.ln_BUNDLE 3,1),(R.ln_MODE 3,1)]).setBundle 1 { Bundle.init with cur := some ⟨1,2,0,3,0,5,6,2,false,false,false,[],0,false,false⟩ } : State).lane (3 : Nat)).rx 6 5#256).2, 5#256, ⟨1,2,0,3,0,5,6,2,false,false,false,[],0,false,false⟩,
    by decide +kernel⟩

theorem hyps_LaneBlocks_9 : ∃ (s : State) (l : Nat) (b : Nat) (i : List Bool) (e : LineEnd) (p : Block) (f : RxFrame), s.laneLocked l = true ∧ s.bundleOf l = b ∧ b < 2 ∧ readLine (s.lane l).rx i = some (e, 6, p, 0) ∧ (s.bundle b).cur = some f :=
  ⟨(running [(R.ln_LANE_STATE 3,4),(R.ln_BUNDLE 3,1),(R.ln_MODE 3,1)]).setBundle 1 { Bundle.init with cur := some ⟨1,2,0,3,0,5,6,2,false,false,false,[],0,false,false⟩ }, 3, 1, (codeLine (((running [(R.ln_LANE_STATE 3,4),(R.ln_BUNDLE 3,1),(R.ln_MODE 3,1)]).setBundle 1 { Bundle.init with cur := some ⟨1,2,0,3,0,5,6,2,false,false,false,[],0,false,false⟩ } : State).lane (3 : Nat)).rx 6 5#256).1, (codeLine (((running [(R.ln_LANE_STATE 3,4),(R.ln_BUNDLE 3,1),(R.ln_MODE 3,1)]).setBundle 1 { Bundle.init with cur := some ⟨1,2,0,3,0,5,6,2,false,false,false,[],0,false,false⟩ } : State).lane (3 : Nat)).rx 6 5#256).2, 5#256, ⟨1,2,0,3,0,5,6,2,false,false,false,[],0,false,false⟩,
    by decide +kernel⟩

theorem hyps_LaneBlocks_10 : ∃ (s : State) (l : Nat) (b : Nat) (hd : Nat) (i : List Bool) (e : LineEnd) (p : Block) (f : RxFrame), s.laneLocked l = true ∧ s.bundleOf l = b ∧ b < 2 ∧ readLine (s.lane l).rx i = some (e, hd, p, 0) ∧ (s.bundle b).cur = some f ∧ hd ≠ 6 ∧ hd ≠ 9 :=
  ⟨(running [(R.ln_LANE_STATE 3,4),(R.ln_BUNDLE 3,1),(R.ln_MODE 3,1)]).setBundle 1 { Bundle.init with cur := some ⟨1,2,0,3,0,5,6,2,false,false,false,[],0,false,false⟩ }, 3, 1, 5, (codeLine (((running [(R.ln_LANE_STATE 3,4),(R.ln_BUNDLE 3,1),(R.ln_MODE 3,1)]).setBundle 1 { Bundle.init with cur := some ⟨1,2,0,3,0,5,6,2,false,false,false,[],0,false,false⟩ } : State).lane (3 : Nat)).rx 5 5#256).1, (codeLine (((running [(R.ln_LANE_STATE 3,4),(R.ln_BUNDLE 3,1),(R.ln_MODE 3,1)]).setBundle 1 { Bundle.init with cur := some ⟨1,2,0,3,0,5,6,2,false,false,false,[],0,false,false⟩ } : State).lane (3 : Nat)).rx 5 5#256).2, 5#256, ⟨1,2,0,3,0,5,6,2,false,false,false,[],0,false,false⟩,
    by decide +kernel⟩

theorem hyps_LaneBlocks_11 : ∃ (s : State) (l : Nat) (hd : Nat) (b : Nat) (n : Nat) (i : List Bool) (e : LineEnd) (p : Block) (f : RxFrame), s.laneLocked l = true ∧ s.bundleOf l = b ∧ b < 2 ∧ readLine (s.lane l).rx i = some (e, hd, p, n + 1) ∧ (s.bundle b).cur = some f :=
  ⟨((running [(R.ln_LANE_STATE 3,4),(R.ln_BUNDLE 3,1),(R.ln_MODE 3,1)]).setBundle 1 { Bundle.init with cur := some ⟨1,2,0,3,0,5,6,2,false,false,false,[],0,false,false⟩ }).setLane 3 { Lane.init with rx := ⟨[], true, 36⟩ }, 3, 6, 1, 0, (true :: (codeLine ⟨[], true, 1⟩ 6 5#256).1), (codeLine ⟨[], true, 1⟩ 6 5#256).2, 5#256, ⟨1,2,0,3,0,5,6,2,false,false,false,[],0,false,false⟩,
    by decide +kernel⟩

theorem hyps_LaneBlocks_12 : ∃ (s : State) (l : Nat) (i : List Bool) (e : LineEnd) (p : Block), s.laneLocked l = true ∧ readLine (s.lane l).rx i = some (e, 9, p, 0) :=
  ⟨(running [(R.ln_LANE_STATE 3,4),(R.ln_BUNDLE 3,1),(R.ln_MODE 3,1)]).setBundle 1 { Bundle.init with cur := some ⟨1,2,0,3,0,5,6,2,false,false,false,[],0,false,false⟩ }, 3, (codeLine (((running [(R.ln_LANE_STATE 3,4),(R.ln_BUNDLE 3,1),(R.ln_MODE 3,1)]).setBundle 1 { Bundle.init with cur := some ⟨1,2,0,3,0,5,6,2,false,false,false,[],0,false,false⟩ } : State).lane (3 : Nat)).rx 9 5#256).1, (codeLine (((running [(R.ln_LANE_STATE 3,4),(R.ln_BUNDLE 3,1),(R.ln_MODE 3,1)]).setBundle 1 { Bundle.init with cur := some ⟨1,2,0,3,0,5,6,2,false,false,false,[],0,false,false⟩ } : State).lane (3 : Nat)).rx 9 5#256).2, 5#256,
    by decide +kernel⟩

theorem hyps_LaneBlocks_13 : ∃ (s : State) (u : State) (l : Nat) (b : Nat) (p : Block), u = s.heard l p ∧ l < 16 ∧ ctlOk 0x01 0 p = true ∧ u.bundleOf l = b ∧ u.rd (R.bu_BUNDLE_STATE b) ≠ 2 :=
  ⟨running [(R.ln_LANE_STATE 3,4),(R.ln_BUNDLE 3,1),(R.ln_MODE 3,1)], _, 3, 1, ctlBlock 1 0,
    rfl, by decide +kernel⟩

theorem hyps_LaneBlocks_14 : ∃ (s : State) (u : State) (l : Nat) (p : Block), u = s.heard l p ∧ l < 16 ∧ ctlOk 0x02 namedTrain p = true :=
  ⟨running [(R.ln_LANE_STATE 3,4)], _, 3, ctlBlock 2 (7 * 2^240 + 1 * 2^238 + 1 * 2^224 + 3 * 2^216),
    rfl, by decide +kernel⟩

theorem hyps_LaneBlocks_15 : ∃ (s : State) (u : State) (l : Nat) (p : Block), u = s.heard l p :=
  ⟨running [], _, 3, ctlBlock 5 0,
    rfl⟩

theorem hyps_LaneBlocks_16 : ∃ (s : State) (l : Nat) (p : Block), ctlOk 0x05 0 p = true ∧ s.laneLocked l = false :=
  ⟨running [], 3, ctlBlock 5 0,
    by decide +kernel⟩

theorem hyps_LaneBlocks_17 : ∃ (s : State) (l : Nat) (p : Block), ctlOk 0x05 0 p = true ∧ s.laneLocked l = true ∧ ((lastN 128 ((s.lane l).recent ++ [false])).filter id).length < 24 :=
  ⟨running [(R.ln_LANE_STATE 3,5)], 3, ctlBlock 5 0,
    by decide +kernel⟩

theorem hyps_LaneBlocks_18 : ∃ (s : State) (u : State) (l : Nat) (p : Block), u = s.heard l p ∧ ctlOk 0x01 0 p = true :=
  ⟨running [(R.ln_LANE_STATE 17,4)], _, 17, ctlBlock 1 0,
    rfl, by decide +kernel⟩

theorem hyps_LaneBlocks_19 : ∃ (s : State) (l : Nat) (p : Block), ctlOk 0x01 0 p = false :=
  ⟨running [], 17, 5#256,
    by decide +kernel⟩

theorem hyps_LaneBlocks_20 : ∃ (s : State) (l : Nat) (p : Block), ctlOk 0x02 namedTrain p = false :=
  ⟨running [], 17, 5#256,
    by decide +kernel⟩

theorem hyps_LaneBlocks_21 : ∃ (s : State) (u : State) (v : State) (l : Nat) (place : Nat) (p : Block), v = s.heard l p ∧ u = v.setLane l { v.lane l with peerAddr := field p.toNat 247 240, peerDir := field p.toNat 239 238, peerMode := field p.toNat 231 224, trainState := field p.toNat 223 216 } ∧ 16 ≤ l ∧ ctlOk 0x02 namedTrain p = true ∧ field p.toNat 239 238 ≤ 1 ∧ (v.lanesOf (1 - field p.toNat 239 238))[field p.toNat 237 236]? = some place ∧ v.freeSpare place = some l ∧ v.servingLane place = place :=
  ⟨running [(R.ln_LANE_STATE 3,4),(R.ln_BUNDLE 3,0),(R.ln_MODE 3,1),(R.ln_MODE 17,1),(R.ln_SPARE_MAP 17,8)], _, _, 17, 3, ctlBlock 2 (7 * 2^240 + 1 * 2^238 + 1 * 2^224 + 1 * 2^216),
    rfl, rfl, by decide +kernel⟩

theorem hyps_LaneTraining_1 : ∃ (s : State) (l : Nat), s.mode.base = .acquire ∧ (s.lane l).idle = true ∧ s.idleStale l = false :=
  ⟨(running [(R.ln_LANE_STATE 3,1)]).setLane 3 { Lane.init with idle := true }, 3,
    by decide +kernel⟩

theorem hyps_LaneTraining_2 : ∃ (s : State) (l : Nat) (b : Nat), s.rd (R.ln_LANE_STATE l) = 3 ∧ s.bundleOf l = b ∧ s.rd (R.bu_BUNDLE_STATE b) ≠ 2 ∧ (s.lane l).txIdle = false :=
  ⟨running [(R.ln_LANE_STATE 3,3),(R.ln_BUNDLE 3,1),(R.ln_MODE 3,1),(R.bu_BUNDLE_STATE 1,1)], 3, 1,
    by decide +kernel⟩

theorem hyps_LaneTraining_3 : ∃ (s : State) (l : Nat) (k : Nat) (b : Nat), (s.rd (R.ln_LANE_STATE l) = 4 ∨ s.rd (R.ln_LANE_STATE l) = 5) ∧ l < 16 ∧ (s.rd (R.ln_MODE l) = 1 ∨ s.rd (R.ln_MODE l) = 2) ∧ (s.lane l).standIn = none ∧ s.freeSpare l = some k ∧ s.rd (R.ln_BUNDLE l) = b ∧ s.rd (R.bu_BUNDLE_STATE b) ≠ 2 ∧ s.rd R.ig_EVT_SEQ + 4 < 2 ^ 32 :=
  ⟨running [(R.ln_LANE_STATE 3,4),(R.ln_BUNDLE 3,1),(R.ln_MODE 3,1),(R.ln_MODE 17,1),(R.ln_SPARE_MAP 17,8)], 3, 17, 1,
    by decide +kernel⟩

theorem hyps_LaneTraining_4 : ∃ (s : State) (h : Hdr) (l : Nat) (b : Nat), OwnerAsks s h 0x02 ∧ s.part.fronts ≤ 7 ∧ l < 16 ∧ s.free_ R.cu_LANE_RESTORE ∧ s.servingLane l = l ∧ s.rd (R.ln_LANE_STATE l) = 6 ∧ s.bundleOf l = b ∧ s.rd (R.bu_BUNDLE_STATE b) ≠ 2 ∧ (s.lane l).txIdle = false :=
  ⟨running [(R.ln_LANE_STATE 3,6),(R.ln_BUNDLE 3,1),(R.ln_MODE 3,1)], ownHdr, 3, 1,
    asks_of _ _ _ (by decide +kernel), by decide +kernel⟩

theorem hyps_LaneTraining_5 : ∃ (s : State) (b : Nat) (l : Nat) (e : Nat), b < 2 ∧ s.lanesOf b = [l] ∧ s.servingLane l = l ∧ trained s l e = true ∧ (s.rd (R.bu_BUNDLE_STATE b) = 1 ∨ s.rd (R.bu_BUNDLE_STATE b) = 3 ∨ s.rd (R.bu_BUNDLE_STATE b) = 4) ∧ (s.lane l).peerAddr ≠ s.rd R.lx_CHAIN_ADDR ∧ (s.lane l).peerDir ≠ b ∧ s.rd (R.bu_MIN_LANES b) ≤ 1 ∧ (s.bundle b).replay = [] ∧ (s.bundle b).relay = [] :=
  ⟨(running [(R.ln_LANE_STATE 3,4),(R.ln_BUNDLE 3,1),(R.ln_MODE 3,1),(R.bu_BUNDLE_STATE 1,1),(R.lx_CHAIN_ADDR,7),(R.ln_EYE_ALARM 3,40)]).setLane 3 { Lane.init with peerAddr := 8, peerDir := 0, peerMode := 1, trainState := 2 }, 1, 3, 41,
    by decide +kernel⟩

theorem hyps_LaneTraining_6 : ∃ (s : State) (b : Nat) (l : Nat) (e : Nat), b < 2 ∧ s.lanesOf b = [l] ∧ s.servingLane l = l ∧ trained s l e = true ∧ s.rd (R.bu_MIN_LANES b) ≤ 1 ∧ s.rd (R.bu_BUNDLE_STATE b) = 1 ∧ ((s.lane l).peerAddr = s.rd R.lx_CHAIN_ADDR ∨ (s.lane l).peerDir = b) :=
  ⟨(running [(R.ln_LANE_STATE 3,4),(R.ln_BUNDLE 3,1),(R.ln_MODE 3,1),(R.bu_BUNDLE_STATE 1,1),(R.lx_CHAIN_ADDR,7),(R.ln_EYE_ALARM 3,40)]).setLane 3 { Lane.init with peerAddr := 7, peerDir := 0, peerMode := 1, trainState := 2 }, 1, 3, 41,
    by decide +kernel⟩

theorem hyps_LaneTraining_7 : ∃ (s : State) (l : Nat), (s.lane l).idle = true ∧ s.idleStale l = false :=
  ⟨{ ((running [(R.ln_LANE_STATE 3,1)]).setLane 3 { Lane.init with idle := true }) with mode := { ((running [(R.ln_LANE_STATE 3,1)]).setLane 3 { Lane.init with idle := true }).mode with base := .dormant } }, 3,
    by decide +kernel⟩

theorem hyps_LaneTraining_8 : ∃ (s : State) (l : Nat), (s.lane l).idle = true ∧ s.idleStale l = true :=
  ⟨((running [(R.ln_LANE_STATE 3,1)]).setLane 3 { Lane.init with idle := true }).putTime { ((running [(R.ln_LANE_STATE 3,1)]).setLane 3 { Lane.init with idle := true }).time with edge := 10 ^ 12 }, 3,
    by decide +kernel⟩

theorem hyps_LaneTraining_9 : ∃ (s : State) (l : Nat), (s.lane l).idle = false :=
  ⟨{ (running [(R.ln_LANE_STATE 3,1)]) with mode := { (running [(R.ln_LANE_STATE 3,1)]).mode with base := .dormant } }, 3,
    by decide +kernel⟩

theorem hyps_LaneTraining_10 : ∃ (s : State) (l : Nat), s.rd (R.ln_LANE_STATE l) = 3 :=
  ⟨running [(R.ln_LANE_STATE 3,3),(R.ln_BUNDLE 3,1),(R.ln_MODE 3,1),(R.bu_BUNDLE_STATE 1,2)], 3,
    by decide +kernel⟩

theorem hyps_LaneTraining_11 : ∃ (s : State) (u : State) (v : State) (l : Nat) (p : Nat), p = ((s.lane l).standIn).getD l ∧ u = ((s.setLane l { s.lane l with standIn := none }).wr (R.ln_LANE_STATE l) 6).logEvent 6 l 7 ∧ (v = (if p < 16 ∧ (s.rd (R.ln_MODE p) = 1 ∨ s.rd (R.ln_MODE p) = 2) then u.freeSpare p else none).elim (u.logEvent 6 l 6) (fun k => u.standIn k p)) ∧ (s.rd (R.ln_LANE_STATE l) = 2 ∨ s.rd (R.ln_LANE_STATE l) = 4 ∨ s.rd (R.ln_LANE_STATE l) = 5) :=
  ⟨running [(R.ln_LANE_STATE 3,4),(R.ln_BUNDLE 3,1),(R.ln_MODE 3,1)], _, _, 3, _,
    rfl, rfl, rfl, by decide +kernel⟩

theorem hyps_LaneTraining_12 : ∃ (s : State) (h : Hdr) (l : Nat), OwnerAsks s h 0x02 ∧ s.part.fronts ≤ 7 ∧ l < 16 ∧ s.free_ R.cu_LANE_RESTORE ∧ (s.servingLane l ≠ l ∨ s.rd (R.ln_LANE_STATE l) = 6) :=
  ⟨(running [(R.ln_LANE_STATE 3,6),(R.ln_BUNDLE 3,1),(R.ln_MODE 3,1)]).setLane 17 { Lane.init with standIn := some 3 }, ownHdr, 3,
    asks_of _ _ _ (by decide +kernel), by decide +kernel⟩

theorem hyps_LaneTraining_13 : ∃ (s : State) (h : Hdr) (l : Nat), OwnerAsks s h 0x02 ∧ s.part.fronts ≤ 7 ∧ l < 16 ∧ s.free_ R.cu_LANE_RESTORE ∧ s.servingLane l = l ∧ s.rd (R.ln_LANE_STATE l) ≠ 6 :=
  ⟨running [(R.ln_LANE_STATE 3,4),(R.ln_BUNDLE 3,1),(R.ln_MODE 3,1)], ownHdr, 3,
    asks_of _ _ _ (by decide +kernel), by decide +kernel⟩

theorem hyps_LaneTraining_14 : ∃ (s : State) (u : State) (v : State) (b : Nat) (ls : List Nat) (eyes : List Nat), ls = ((s.lanesOf b).map s.servingLane).filter s.laneLive ∧ u = (s.wr (R.bu_PEER_ADDR b) (s.lane (ls.headD 0)).peerAddr).setBundle b { s.bundle b with peerLanes := 15 } ∧ v = ((u.setBundle b { u.bundle b with leftServiceAt := none, grant := if s.rd (R.bu_BUNDLE_STATE b) = 1 then 65536 else (u.bundle b).grant }).wr (R.bu_BUNDLE_STATE b) 2).settleBundle b ∧ b < 2 ∧ ls ≠ [] ∧ s.rd (R.bu_MIN_LANES b) ≤ ls.length ∧ (s.rd (R.bu_BUNDLE_STATE b) = 1 ∨ s.rd (R.bu_BUNDLE_STATE b) = 3 ∨ s.rd (R.bu_BUNDLE_STATE b) = 4) ∧ (∀ x ∈ ls.zip (List.range ls.length), trained s x.1 (eyes.getD x.2 0) = true) ∧ (∀ l ∈ ls, (s.lane l).peerAddr ≠ s.rd R.lx_CHAIN_ADDR ∧ (s.lane l).peerDir ≠ b) :=
  ⟨(running [(R.ln_LANE_STATE 3,4),(R.ln_BUNDLE 3,1),(R.ln_MODE 3,1),(R.bu_BUNDLE_STATE 1,1),(R.lx_CHAIN_ADDR,7),(R.ln_EYE_ALARM 3,40)]).setLane 3 { Lane.init with peerAddr := 8, peerDir := 0, peerMode := 1, trainState := 2 }, _, _, 1, _, [41],
    rfl, rfl, rfl, by decide +kernel⟩

theorem hyps_LaneTraining_15 : ∃ (s : State) (b : Nat) (l : Nat) (eyes : List Nat), l ∈ ((s.lanesOf b).map s.servingLane).filter s.laneLive ∧ s.laneLocked l = false :=
  ⟨running [(R.ln_LANE_STATE 3,2),(R.ln_BUNDLE 3,1),(R.ln_MODE 3,1),(R.bu_BUNDLE_STATE 1,1)], 1, 3, [41],
    by decide +kernel⟩

theorem hyps_BundleBlocks_1 : ∃ (s : State) (u : State) (b : Nat) (lane : Nat) (p : Block), u = s.heard lane p ∧ b < 2 ∧ ctlOk 0x03 namedAck p = true ∧ u.rd (R.bu_MIN_LANES b) = 0 ∧ (u.bundle b).relay = [] :=
  ⟨(running [(R.bu_BUNDLE_STATE 1,2),(R.bu_MIN_LANES 1,0)]).setBundle 1 { Bundle.init with replay := [⟨1,2,0,0,0,0,false,false,false,[1#8],7,1⟩, ⟨1,2,0,0,0,0,false,false,false,[1#8],8,1⟩] }, _, 1, 3, ctlBlock 3 (7 * 2^232 + 500 * 2^208 + 3 * 2^204),
    rfl, by decide +kernel⟩

theorem hyps_BundleBlocks_2 : ∃ (s : State) (u : State) (b : Nat) (lane : Nat) (p : Block), u = s.heard lane p ∧ ctlOk 0x04 namedNak p = true ∧ (u.bundle b).cut = none ∧ u.noInjection ∧ (∀ f ∈ (u.bundle b).replay, f.sends < 15) :=
  ⟨(running [(R.bu_BUNDLE_STATE 1,2)]).setBundle 1 { Bundle.init with replay := [⟨1,2,0,0,0,0,false,false,false,[1#8],7,1⟩, ⟨1,2,0,0,0,0,false,false,false,[1#8],8,1⟩] }, _, 1, 3, ctlBlock 4 (8 * 2^232),
    rfl, by decide +kernel⟩

theorem hyps_BundleBlocks_3 : ∃ (s : State) (u : State) (b : Nat) (lane : Nat) (p : Block), u = s.heard lane p ∧ b < 2 ∧ u.carriesNone b = false ∧ ctlOk 0x10 namedSof p = true ∧ field p.toNat 217 216 ≤ 1 ∧ 1 ≤ field p.toNat 183 172 ∧ field p.toNat 183 172 ≤ 2048 ∧ (u.bundle b).cur = none ∧ field p.toNat 247 240 = u.rd R.lx_CHAIN_ADDR :=
  ⟨running [(R.lx_CHAIN_ADDR, 7)], _, 1, 3, ctlBlock 0x10 (7 * 2^240 + 9 * 2^232 + 2 * 2^172 + 77 * 2^184),
    rfl, by decide +kernel⟩

theorem hyps_BundleBlocks_4 : ∃ (s : State) (u : State) (b : Nat) (lane : Nat) (p : Block) (f : RxFrame), u = s.heard lane p ∧ b < 2 ∧ u.carriesNone b = false ∧ ctlOk 0x11 namedEof p = true ∧ 1 ≤ field p.toNat 231 226 ∧ field p.toNat 231 226 ≤ 32 ∧ (u.bundle b).cur = some f ∧ bitAt p.toNat 225 = false ∧ f.badHeader = false ∧ f.blocks = f.nblk ∧ crc32c f.octets = field p.toNat 63 32 ∧ f.lseq = (u.bundle b).rxLseq ∧ field p.toNat 247 232 = f.lseq ∧ f.lseq < 65536 ∧ f.dest = u.rd R.lx_CHAIN_ADDR ∧ f.cls = 0 ∧ u.expectedRseq f.origin f.route = none ∧ ((∀ r, r < 64 → u.rd (R.ro_QUEUE r) ≠ 0xFFFE)) ∧ u.lanes.holding = [] ∧ (u.bundle (1 - b)).relay = [] :=
  ⟨(running [(R.lx_CHAIN_ADDR, 7)]).setBundle 1 { Bundle.init with cur := some (⟨7,9,0,3,0,5,77,1,false,false,false,List.replicate 32 1#8,1,false,false⟩ : RxFrame), rxLseq := 77 }, _, 1, 3, ctlBlock 0x11 (77 * 2^232 + 30 * 2^226 + crc32c (List.replicate 32 1#8) * 2^32), ⟨7,9,0,3,0,5,77,1,false,false,false,List.replicate 32 1#8,1,false,false⟩,
    rfl, by decide +kernel⟩

theorem hyps_BundleBlocks_5 : ∃ (s : State) (u : State) (b : Nat) (lane : Nat) (p : Block) (f : RxFrame), u = s.heard lane p ∧ b < 2 ∧ u.carriesNone b = false ∧ ctlOk 0x11 namedEof p = true ∧ 1 ≤ field p.toNat 231 226 ∧ field p.toNat 231 226 ≤ 32 ∧ (u.bundle b).cur = some f ∧ bitAt p.toNat 225 = false ∧ (f.badHeader = true ∨ crc32c f.octets ≠ field p.toNat 63 32) ∧ f.cutThrough = false ∧ (u.bundle b).lastNak = none :=
  ⟨(running [(R.lx_CHAIN_ADDR, 7)]).setBundle 1 { Bundle.init with cur := some (⟨7,9,0,3,0,5,77,1,false,false,false,List.replicate 32 1#8,1,true,false⟩ : RxFrame), rxLseq := 77 }, _, 1, 3, ctlBlock 0x11 (77 * 2^232 + 30 * 2^226 + crc32c (List.replicate 32 1#8) * 2^32), ⟨7,9,0,3,0,5,77,1,false,false,false,List.replicate 32 1#8,1,true,false⟩,
    rfl, by decide +kernel⟩

theorem hyps_BundleBlocks_6 : ∃ (s : State) (u : State) (b : Nat) (lane : Nat) (p : Block) (f : RxFrame), u = s.heard lane p ∧ b < 2 ∧ u.carriesNone b = false ∧ ctlOk 0x11 namedEof p = true ∧ 1 ≤ field p.toNat 231 226 ∧ field p.toNat 231 226 ≤ 32 ∧ (u.bundle b).cur = some f ∧ bitAt p.toNat 225 = true ∧ f.cutThrough = false :=
  ⟨(running [(R.lx_CHAIN_ADDR, 7)]).setBundle 1 { Bundle.init with cur := some (⟨7,9,0,3,0,5,77,1,false,false,false,List.replicate 32 1#8,1,true,false⟩ : RxFrame), rxLseq := 77 }, _, 1, 3, ctlBlock 0x11 (77 * 2^232 + 30 * 2^226 + 2^225 + crc32c (List.replicate 32 1#8) * 2^32), ⟨7,9,0,3,0,5,77,1,false,false,false,List.replicate 32 1#8,1,true,false⟩,
    rfl, by decide +kernel⟩

theorem hyps_BundleBlocks_7 : ∃ (s : State) (u : State) (b : Nat) (lane : Nat) (p : Block), u = s.heard lane p ∧ ctlOk 0x03 namedAck p = true :=
  ⟨(running [(R.bu_BUNDLE_STATE 1,2),(R.bu_MIN_LANES 1,1)]).setBundle 1 { Bundle.init with replay := [⟨1,2,0,0,0,0,false,false,false,[1#8],7,1⟩, ⟨1,2,0,0,0,0,false,false,false,[1#8],8,1⟩] }, _, 1, 3, ctlBlock 3 (7 * 2^232 + 500 * 2^208 + 3 * 2^204),
    rfl, by decide +kernel⟩

theorem hyps_BundleBlocks_8 : ∃ (s : State) (u : State) (b : Nat) (lane : Nat) (p : Block), u = s.heard lane p ∧ ctlOk 0x04 namedNak p = true :=
  ⟨(running [(R.bu_BUNDLE_STATE 1,2)]).setBundle 1 { Bundle.init with replay := [⟨1,2,0,0,0,0,false,false,false,[1#8],8,15⟩] }, _, 1, 3, ctlBlock 4 (8 * 2^232),
    rfl, by decide +kernel⟩

theorem hyps_BundleBlocks_9 : ∃ (s : State) (u : State) (b : Nat) (lane : Nat) (p : Block), u = s.heard lane p ∧ ctlOk 0x03 namedAck p = false :=
  ⟨running [], _, 1, 3, 5#256,
    rfl, by decide +kernel⟩

theorem hyps_BundleBlocks_10 : ∃ (s : State) (u : State) (b : Nat) (lane : Nat) (p : Block), u = s.heard lane p ∧ ctlOk 0x04 namedNak p = false :=
  ⟨running [], _, 1, 3, 5#256,
    rfl, by decide +kernel⟩

theorem hyps_BundleBlocks_11 : ∃ (s : State) (u : State) (b : Nat) (lane : Nat) (p : Block), u = s.heard lane p ∧ ctlOk 0x10 namedSof p = false :=
  ⟨running [], _, 1, 3, 5#256,
    rfl, by decide +kernel⟩

theorem hyps_BundleBlocks_12 : ∃ (s : State) (u : State) (b : Nat) (lane : Nat) (p : Block), u = s.heard lane p ∧ ctlOk 0x11 namedEof p = false ∧ (u.bundle b).cur = none :=
  ⟨running [], _, 1, 3, 5#256,
    rfl, by decide +kernel⟩

theorem hyps_BundleBlocks_13 : ∃ (s : State) (u : State) (b : Nat) (lane : Nat) (p : Block), u = s.heard lane p ∧ u.carriesNone b = false ∧ ctlOk 0x10 namedSof p = true ∧ field p.toNat 217 216 ≤ 1 ∧ 1 ≤ field p.toNat 183 172 ∧ field p.toNat 183 172 ≤ 2048 ∧ (u.bundle b).cur = none ∧ (field p.toNat 247 240 = u.rd R.lx_CHAIN_ADDR ∨ (u.bundle (1 - b)).relay ≠ [] ∨ u.canSend (1 - b) (32 * field p.toNat 183 172) = false) :=
  ⟨(running [(R.lx_CHAIN_ADDR, 7),(R.bu_BUNDLE_STATE 0,3)]).setBundle 1 { Bundle.init with rxLseq := 77 }, _, 1, 3, ctlBlock 0x10 (8 * 2^240 + 9 * 2^232 + 2 * 2^172 + 77 * 2^184),
    rfl, by decide +kernel⟩

theorem hyps_BundleBlocks_14 : ∃ (s : State) (u : State) (b : Nat) (lane : Nat) (p : Block), u = s.heard lane p ∧ u.carriesNone b = false ∧ ctlOk 0x10 namedSof p = true ∧ field p.toNat 217 216 ≤ 1 ∧ 1 ≤ field p.toNat 183 172 ∧ field p.toNat 183 172 ≤ 2048 ∧ (u.bundle b).cur = none ∧ field p.toNat 247 240 ≠ u.rd R.lx_CHAIN_ADDR ∧ field p.toNat 239 232 ≠ u.rd R.lx_CHAIN_ADDR ∧ field p.toNat 231 224 < 255 ∧ field p.toNat 199 184 = (u.bundle b).rxLseq ∧ (u.bundle (1 - b)).relay = [] ∧ (u.bundle (1 - b)).cut = none ∧ u.canSend (1 - b) (32 * field p.toNat 183 172) = true ∧ b < 2 :=
  ⟨(running [(R.lx_CHAIN_ADDR, 7),(R.bu_BUNDLE_STATE 0,2)]).setBundle 1 { Bundle.init with rxLseq := 77 } |>.setBundle 0 { Bundle.init with credit := 5000 }, _, 1, 3, ctlBlock 0x10 (8 * 2^240 + 9 * 2^232 + 2 * 2^172 + 77 * 2^184),
    rfl, by decide +kernel⟩

theorem hyps_BundleBlocks_15 : ∃ (s : State) (u : State) (b : Nat) (lane : Nat) (p : Block) (f : RxFrame), u = s.heard lane p ∧ u.carriesNone b = false ∧ ctlOk 0x11 namedEof p = true ∧ 1 ≤ field p.toNat 231 226 ∧ field p.toNat 231 226 ≤ 32 ∧ (u.bundle b).cur = some f ∧ bitAt p.toNat 225 = false ∧ f.badHeader = false ∧ f.blocks = f.nblk ∧ crc32c f.octets = field p.toNat 63 32 ∧ f.lseq = (u.bundle b).rxLseq ∧ field p.toNat 247 232 = f.lseq :=
  ⟨(running [(R.lx_CHAIN_ADDR, 8)]).setBundle 1 { Bundle.init with cur := some (⟨7,9,0,3,0,5,77,1,false,false,false,List.replicate 32 1#8,1,false,false⟩ : RxFrame), rxLseq := 77 }, _, 1, 3, ctlBlock 0x11 (77 * 2^232 + 30 * 2^226 + crc32c (List.replicate 32 1#8) * 2^32), ⟨7,9,0,3,0,5,77,1,false,false,false,List.replicate 32 1#8,1,false,false⟩,
    rfl, by decide +kernel⟩

theorem hyps_BundleBlocks_16 : ∃ (s : State) (u : State) (b : Nat) (lane : Nat) (p : Block) (f : RxFrame), u = s.heard lane p ∧ u.carriesNone b = false ∧ ctlOk 0x11 namedEof p = true ∧ 1 ≤ field p.toNat 231 226 ∧ field p.toNat 231 226 ≤ 32 ∧ (u.bundle b).cur = some f ∧ bitAt p.toNat 225 = false ∧ (f.badHeader = true ∨ f.blocks ≠ f.nblk ∨ crc32c f.octets ≠ field p.toNat 63 32 ∨ f.lseq ≠ (u.bundle b).rxLseq ∨ field p.toNat 247 232 ≠ f.lseq) :=
  ⟨(running [(R.lx_CHAIN_ADDR, 7)]).setBundle 1 { Bundle.init with cur := some (⟨7,9,0,3,0,5,77,1,false,false,false,List.replicate 32 1#8,1,false,false⟩ : RxFrame), rxLseq := 78 }, _, 1, 3, ctlBlock 0x11 (77 * 2^232 + 30 * 2^226 + crc32c (List.replicate 32 1#8) * 2^32), ⟨7,9,0,3,0,5,77,1,false,false,false,List.replicate 32 1#8,1,false,false⟩,
    rfl, by decide +kernel⟩

theorem hyps_BundleBlocks_17 : ∃ (s : State) (u : State) (b : Nat) (lane : Nat) (p : Block) (f : RxFrame), u = s.heard lane p ∧ u.carriesNone b = false ∧ ctlOk 0x11 namedEof p = true ∧ 1 ≤ field p.toNat 231 226 ∧ field p.toNat 231 226 ≤ 32 ∧ (u.bundle b).cur = some f ∧ bitAt p.toNat 225 = true :=
  ⟨(running [(R.lx_CHAIN_ADDR, 7)]).setBundle 1 { Bundle.init with cur := some (⟨7,9,0,3,0,5,77,1,false,false,false,List.replicate 32 1#8,1,true,true⟩ : RxFrame), rxLseq := 77 }, _, 1, 3, ctlBlock 0x11 (77 * 2^232 + 30 * 2^226 + 2^225 + crc32c (List.replicate 32 1#8) * 2^32), ⟨7,9,0,3,0,5,77,1,false,false,false,List.replicate 32 1#8,1,true,true⟩,
    rfl, by decide +kernel⟩

theorem hyps_BundleBlocks_18 : ∃ (s : State) (u : State) (b : Nat) (lane : Nat) (p : Block) (f : RxFrame), u = s.heard lane p ∧ ctlOk 0x11 namedEof p = false ∧ (u.bundle b).cur = some f :=
  ⟨(running [(R.lx_CHAIN_ADDR, 7),(R.ln_LANE_STATE 3,4)]).setBundle 1 { Bundle.init with cur := some ⟨7,9,0,3,0,5,77,1,false,false,false,List.replicate 32 1#8,1,false,false⟩ }, _, 1, 3, 5#256, ⟨7,9,0,3,0,5,77,1,false,false,false,List.replicate 32 1#8,1,false,false⟩,
    rfl, by decide +kernel⟩

theorem hyps_BundleBlocks_19 : ∃ (s : State) (u : State) (b : Nat) (lane : Nat) (p : Block), u = s.heard lane p ∧ u.carriesNone b = true :=
  ⟨running [(R.bu_BUNDLE_STATE 1,5)], _, 1, 3, ctlBlock 0x10 (7 * 2^240 + 9 * 2^232 + 2 * 2^172 + 77 * 2^184),
    rfl, by decide +kernel⟩

theorem hyps_BundleBlocks_20 : ∃ (s : State) (u : State) (b : Nat) (lane : Nat) (p : Block), u = s.heard lane p ∧ u.carriesNone b = false ∧ ctlOk 0x10 namedSof p = true ∧ (2 ≤ field p.toNat 217 216 ∨ field p.toNat 183 172 = 0 ∨ 2048 < field p.toNat 183 172) :=
  ⟨running [(R.lx_CHAIN_ADDR, 7),(R.ln_LANE_STATE 3,4)], _, 1, 3, ctlBlock 0x10 (7 * 2^240 + 9 * 2^232 + 77 * 2^184),
    rfl, by decide +kernel⟩

theorem hyps_BundleBlocks_21 : ∃ (s : State) (u : State) (v : State) (b : Nat) (lane : Nat) (p : Block) (f : RxFrame), u = s.heard lane p ∧ v = u.frameFails b true ∧ u.carriesNone b = false ∧ ctlOk 0x10 namedSof p = true ∧ field p.toNat 217 216 ≤ 1 ∧ 1 ≤ field p.toNat 183 172 ∧ field p.toNat 183 172 ≤ 2048 ∧ (u.bundle b).cur = some f ∧ field p.toNat 247 240 = u.rd R.lx_CHAIN_ADDR ∧ v.rd R.lx_CHAIN_ADDR = u.rd R.lx_CHAIN_ADDR :=
  ⟨(running [(R.lx_CHAIN_ADDR, 7),(R.ln_LANE_STATE 3,4)]).setBundle 1 { Bundle.init with cur := some ⟨7,9,0,3,0,5,77,1,false,false,false,List.replicate 32 1#8,1,false,false⟩ }, _, _, 1, 3, ctlBlock 0x10 (7 * 2^240 + 9 * 2^232 + 2 * 2^172 + 77 * 2^184), ⟨7,9,0,3,0,5,77,1,false,false,false,List.replicate 32 1#8,1,false,false⟩,
    rfl, rfl, by decide +kernel⟩

theorem hyps_BundleBlocks_22 : ∃ (s : State) (u : State) (b : Nat) (lane : Nat) (p : Block), u = s.heard lane p ∧ u.carriesNone b = false ∧ ctlOk 0x11 namedEof p = true ∧ (field p.toNat 231 226 = 0 ∨ 32 < field p.toNat 231 226) :=
  ⟨running [(R.lx_CHAIN_ADDR, 7),(R.ln_LANE_STATE 3,4)], _, 1, 3, ctlBlock 0x11 (77 * 2^232 + 33 * 2^226),
    rfl, by decide +kernel⟩

theorem hyps_BundleBlocks_23 : ∃ (s : State) (u : State) (b : Nat) (lane : Nat) (p : Block), u = s.heard lane p ∧ u.carriesNone b = false ∧ ctlOk 0x11 namedEof p = true ∧ 1 ≤ field p.toNat 231 226 ∧ field p.toNat 231 226 ≤ 32 ∧ (u.bundle b).cur = none :=
  ⟨running [(R.lx_CHAIN_ADDR, 7),(R.ln_LANE_STATE 3,4)], _, 1, 3, ctlBlock 0x11 (77 * 2^232 + 3 * 2^226),
    rfl, by decide +kernel⟩

theorem hyps_BundleTimers_1 : ∃ (s : State) (b : Nat), s.rd (R.bu_BUNDLE_STATE b) = 2 :=
  ⟨running [(R.bu_BUNDLE_STATE 1,2)], 1,
    by decide +kernel⟩

theorem hyps_BundleTimers_2 : ∃ (s : State) (b : Nat) (l : Nat) (p : Block), p = ctlBlock 0x03 (((s.bundle b).rxLseq + 65535) % 65536 * 2 ^ 232 + (s.bundle b).grant % 2 ^ 24 * 2 ^ 208 + s.rxLanes b * 2 ^ 204) ∧ s.rd (R.bu_BUNDLE_STATE b) = 2 ∧ s.workLanes b = [l] :=
  ⟨(running [(R.ln_MODE 3,1),(R.ln_BUNDLE 3,1),(R.ln_LANE_STATE 3,5),(R.bu_BUNDLE_STATE 1,2)]).setBundle 1 { Bundle.init with peerLanes := 1 }, 1, 3, _,
    rfl, by decide +kernel⟩

theorem hyps_BundleTimers_3 : ∃ (s : State) (b : Nat) (f : TxFrame), s.rd (R.bu_BUNDLE_STATE b) = 2 ∧ (s.bundle b).replay = [f] ∧ (s.bundle b).cut = none ∧ (s.bundle b).lastAckAdvance + 163840 ≤ s.time.edge ∧ s.noInjection ∧ f.sends < 15 ∧ f.lseq < 65536 :=
  ⟨(runningLate [(R.bu_BUNDLE_STATE 1,2)]).setBundle 1 { Bundle.init with replay := [⟨1,2,0,0,0,0,false,false,false,[1#8],7,1⟩] }, 1, ⟨1,2,0,0,0,0,false,false,false,[1#8],7,1⟩,
    by decide +kernel⟩

theorem hyps_BundleTimers_4 : ∃ (s : State) (b : Nat) (l : Nat) (m : Nat) (f : TxFrame) (g : TxFrame) (c0 : List Bool × LineEnd) (c1 : List Bool × LineEnd) (c2 : List Bool × LineEnd), g = { f with sends := f.sends + 1 } ∧ c0 = codeLine (s.lane l).tx 9 (sofBlock f 1) ∧ c1 = codeLine (s.lane m).tx 6 (blockOfOctets (paddedOctets f)) ∧ c2 = codeLine c0.2 9 (eofBlock f.lseq f.octets.length false (crc32c (paddedOctets f))) ∧ s.rd (R.bu_BUNDLE_STATE b) = 2 ∧ (s.bundle b).replay = [f] ∧ (s.bundle b).cut = none ∧ (s.bundle b).lastAckAdvance + 163840 ≤ s.time.edge ∧ s.noInjection ∧ f.sends < 15 ∧ f.lseq < 65536 ∧ f.octets ≠ [] ∧ f.octets.length ≤ 32 ∧ s.workLanes b = [l, m] ∧ l ≠ m ∧ (s.bundle b).txLanes = [l, m] ∧ (s.bundle b).stripe = 0 :=
  ⟨(runningLate [(R.ln_MODE 3,1),(R.ln_BUNDLE 3,1),(R.ln_LANE_STATE 3,5),(R.ln_MODE 6,1),(R.ln_BUNDLE 6,1),(R.ln_LANE_STATE 6,4),(R.bu_BUNDLE_STATE 1,2)]).setBundle 1 { Bundle.init with peerLanes := 15, replay := [⟨1,2,0,0,0,0,false,false,false,[1#8],7,1⟩], txLanes := [3, 6] }, 1, 3, 6, ⟨1,2,0,0,0,0,false,false,false,[1#8],7,1⟩, _, _, _, _,
    rfl, rfl, rfl, rfl, by decide +kernel⟩

theorem hyps_BundleTimers_5 : ∃ (s : State) (b : Nat) (e : Nat), s.rd (R.bu_BUNDLE_STATE b) = 3 ∧ (s.bundle b).replay = [] ∧ (s.bundle b).relay = [] ∧ (s.bundle b).leftServiceAt = some e ∧ e + 16384000 ≤ s.time.edge :=
  ⟨(runningLate [(R.bu_BUNDLE_STATE 1,3)]).setBundle 1 { Bundle.init with leftServiceAt := some 5 }, 1, 5,
    by decide +kernel⟩

theorem hyps_BundleTimers_6 : ∃ (s : State) (e : Nat) (x : HeldFrame), s.lanes.holding = [x] ∧ s.expectedRseq x.origin x.route = some e ∧ e < 65536 ∧ x.rseq < 65536 ∧ s.rd R.lx_REORDER_HOLD * 16384 ≤ 10 * (s.time.edge - x.arrived) ∧ ((∀ r, r < 64 → s.rd (R.ro_QUEUE r) ≠ 0xFFFE)) :=
  ⟨(runningLate []).putLanes { (runningLate []).lanes with holding := [⟨9,3,4,false,[1#8],0⟩], expected := [(9,3,65535)] }, 65535, ⟨9,3,4,false,[1#8],0⟩,
    by decide +kernel⟩

theorem hyps_BundleTimers_7 : ∃ (s : State) (b : Nat) (load : Nat), load < 2 ^ 64 :=
  ⟨running [(R.bu_RELAY_RESERVE 1, 500)], 1, 2^63 + 5,
    by decide +kernel⟩

theorem hyps_BundleTimers_8 : ∃ (s : State) (b : Nat) (f : TxFrame) (l : List TxFrame), s.rd (R.bu_BUNDLE_STATE b) = 2 ∧ (s.bundle b).replay = f :: l ∧ (s.bundle b).lastAckAdvance + 163840 ≤ s.time.edge :=
  ⟨(runningLate [(R.bu_BUNDLE_STATE 1,2)]).setBundle 1 { Bundle.init with replay := [⟨1,2,0,0,0,0,false,false,false,[1#8],7,15⟩] }, 1, ⟨1,2,0,0,0,0,false,false,false,[1#8],7,15⟩, [],
    by decide +kernel⟩

theorem hyps_BundleTimers_9 : ∃ (s : State) (b : Nat) (e : Nat), s.rd (R.bu_BUNDLE_STATE b) = 3 ∧ (s.bundle b).leftServiceAt = some e ∧ e + 16384000 ≤ s.time.edge :=
  ⟨(runningLate [(R.bu_BUNDLE_STATE 1,3)]).setBundle 1 { Bundle.init with leftServiceAt := some 5, replay := [⟨1,2,0,0,0,0,false,false,false,[1#8],7,15⟩] }, 1, 5,
    by decide +kernel⟩

theorem hyps_BundleTimers_10 : ∃ (s : State) (o : Nat) (r : Nat) (k : Nat) (x : HeldFrame) (l : List HeldFrame), k = (l.map fun h => (h.rseq + 65536 - (s.expectedRseq o r).getD 0) % 65536).foldl min ((x.rseq + 65536 - (s.expectedRseq o r).getD 0) % 65536) ∧ (s.lanes.holding.filter fun h => h.origin == o && h.route == r) = x :: l ∧ (∃ h ∈ x :: l, s.rd R.lx_REORDER_HOLD * 16384 ≤ 10 * (s.time.edge - h.arrived)) :=
  ⟨(runningLate []).putLanes { (runningLate []).lanes with holding := [⟨9,3,4,false,[1#8],0⟩, ⟨9,3,1,false,[1#8],0⟩, ⟨8,3,1,false,[1#8],0⟩], expected := [(9,3,65535)] }, 9, 3, _, ⟨9,3,4,false,[1#8],0⟩, [⟨9,3,1,false,[1#8],0⟩],
    rfl, by decide +kernel⟩

theorem hyps_BundleTimers_13 : ∃ (s : State) (m : Nat) (ip : Nat), ip ≠ 0 ∧ s.rd (R.ma_IPV4 m) = ip :=
  ⟨running [(R.ma_IPV4 2, 77)], 2, 77,
    by decide +kernel⟩

theorem hyps_BundleTimers_15 : ∃ (s : State) (m : Nat) (up : Bool), s.lanes.gateway = [] :=
  ⟨running [], 2, false,
    by decide +kernel⟩

theorem hyps_BundleTimers_16 : ∃ (s : State) (i : Nat), s.mode.base = .acquire ∧ t64Past (s.rd R.ij_PERMIT_UNTIL) s.now = true ∧ s.activeRules = [i] :=
  ⟨running [(R.ir_ENABLE 3, 1),(R.ir_INJ_STATE 3, 1)], 3,
    by decide +kernel⟩

theorem hyps_BundleTimers_17 : ∃ (s : State) (m : Nat), s.rd (R.pt_ENABLE m) = 1 :=
  ⟨running [(R.pt_ENABLE 2, 1)], 2,
    by decide +kernel⟩

theorem hyps_BundleTimers_18 : ∃ (s : State) (m : Nat), s.rd (R.pt_ENABLE m) = 0 :=
  ⟨running [], 2,
    by decide +kernel⟩

theorem hyps_BundleTimers_19 : ∃ (s : State) (m : Nat) (ip : Nat), ip ≠ 0 ∧ s.rd (R.ma_IPV6 m) = ip :=
  ⟨running [(R.ma_IPV6 2, 2 ^ 100)], 2, 2 ^ 100,
    by decide +kernel⟩

theorem hyps_BundleTimers_20 : ∃ (s : State) (m : Nat) (ip : Nat), s.rd (R.ma_IPV4 m) ≠ ip :=
  ⟨running [(R.ma_IPV4 2, 77)], 2, 78,
    by decide +kernel⟩

theorem hyps_BundleTimers_21 : ∃ (s : State) (m : Nat) (n : Nat) (q : Nat), s.rd (R.ma_PAUSE_EN m) = 1 ∧ s.portRate (4 + m) = n ∧ n ≠ 0 :=
  ⟨running [(R.ma_PAUSE_EN 2, 1),(R.ln_MODE 5,4),(R.ln_MAC 5,2)], 2, 10000000000, 65535,
    by decide +kernel⟩

theorem hyps_BundleTimers_22 : ∃ (s : State), s.mode.base = .acquire ∧ t64Past (s.rd R.ij_PERMIT_UNTIL) s.now = true :=
  ⟨running [(R.ir_ENABLE 3, 1),(R.ir_INJ_STATE 3, 1),(R.ir_ENABLE 9, 1),(R.ir_INJ_STATE 9, 1)],
    by decide +kernel⟩

theorem hyps_ReadRequests_1 : ∃ (s : State) (h : Hdr), OwnerAsks s h 0x01 ∧ s.part.fronts ≤ 7 :=
  ⟨running [(R.tm_TIME_STATE,2)], ownHdr,
    asks_of _ _ _ (by decide +kernel), by decide +kernel⟩

theorem hyps_ReadRequests_2 : ∃ (s : State) (h : Hdr) (idx : Nat) (sub : Nat) (r : Reg) (row : Row) (l : List Byte), OwnerAsks s h 0x01 ∧ entryAt s.part idx sub = some (r, row) ∧ row.acc.readable = true ∧ ((row.acc = .ro → row.cls ≠ .A)) ∧ row.ty ≠ .dom ∧ s.reachCode r = 0 ∧ (s.touch h.session).readValue h.session r row = .ok l :=
  ⟨running [(R.tm_LOCK_WINDOW, 200)], ownHdr, 0x3000, 15, R.tm_LOCK_WINDOW, ⟨0x0F, .u 4, .rwc, .P, 100, .rg 1 100000, 0x2022⟩, [200#8, 0#8, 0#8, 0#8],
    asks_of _ _ _ (by decide +kernel), by decide +kernel⟩

theorem hyps_ReadRequests_3 : ∃ (s : State) (h : Hdr) (idx : Nat) (n : Nat), OwnerAsks s h 0x01 ∧ (idx < 0x1F00 ∨ 0x1FFF < idx) ∧ entryAt s.part idx 0 = none ∧ highestSub s.part idx = some n :=
  ⟨running [], ownHdr, 0x5005, 24,
    asks_of _ _ _ (by decide +kernel), by decide +kernel⟩

theorem hyps_ReadRequests_4 : ∃ (s : State) (h : Hdr) (idx : Nat) (sub : Nat), OwnerAsks s h 0x01 ∧ (idx < 0x1F00 ∨ 0x1FFF < idx) ∧ sub ≠ 0 ∧ entryAt s.part idx sub = none :=
  ⟨running [], ownHdr, 0x6FFF, 3,
    asks_of _ _ _ (by decide +kernel), by decide +kernel⟩

theorem hyps_ReadRequests_5 : ∃ (s : State) (h : Hdr) (idx : Nat) (sub : Nat) (r : Reg) (row : Row), OwnerAsks s h 0x01 ∧ entryAt s.part idx sub = some (r, row) ∧ row.acc.readable = false :=
  ⟨running [], ownHdr, Grp.base .modes, 3, R.mo_MODE_REQ, ⟨0x03, .u 1, .wo, .O, 0, .rg 1 7, 0x2131⟩,
    asks_of _ _ _ (by decide +kernel), by decide +kernel⟩

theorem hyps_ReadRequests_6 : ∃ (s : State) (h : Hdr) (p : Nat) (off : Nat) (len : Nat), OwnerAsks s h 0x03 ∧ p < 4096 ∧ 1 ≤ len ∧ len ≤ 16364 ∧ s.part.fronts ≤ 7 :=
  ⟨(running []).wrDom (R.pa_FIR_COEF 4095) [1,2,3,4,5,6,7,8], ownHdr, 4095, 2, 3,
    asks_of _ _ _ (by decide +kernel), by decide +kernel⟩

theorem hyps_ReadRequests_7 : ∃ (s : State) (h : Hdr) (off : Nat) (len : Nat), OwnerAsks s h 0x03 ∧ s.part.fronts ≤ 7 ∧ 1 ≤ len ∧ len ≤ 16364 ∧ off + len ≤ 65536 ∧ s.rd R.fz_FROZEN = 0 ∧ s.inAllocation 0 (s.rd R.dw_WIN_ADDR + off) len = true ∧ s.badRead (s.rd R.dw_WIN_ADDR + off) len = none ∧ ((∀ c, c < s.part.drams → s.rd (R.dc_CH_STATE c) ≠ 3)) :=
  ⟨(running [(R.dw_WIN_ADDR, 4096)]).putDram { (running [(R.dw_WIN_ADDR, 4096)]).dram with mem := memWrite [] 69627 [5,6,7,8], regions := [⟨0,1,4096,65536,true⟩] }, ownHdr, 65530, 6,
    asks_of _ _ _ (by decide +kernel), by decide +kernel⟩

theorem hyps_ReadRequests_8 : ∃ (s : State) (h : Hdr) (sub : Nat) (m : Nat), OwnerAsks s h 0x05 ∧ 1 ≤ m ∧ m ≤ 64 ∧ 1 ≤ sub ∧ sub ≤ 255 ∧ sub ≤ (s.touch h.session).capRecords.length ∧ (s.touch h.session).capRecords.length ≤ 255 :=
  ⟨running [], ownHdr, 3, 64,
    asks_of _ _ _ (by decide +kernel), by decide +kernel⟩

theorem hyps_ReadRequests_9 : ∃ (s : State) (h : Hdr) (sub : Nat) (m : Nat), OwnerAsks s h 0x05 ∧ 1 ≤ m ∧ m ≤ 64 ∧ (s.touch h.session).capRecords.length < sub :=
  ⟨running [], ownHdr, 255, 2,
    asks_of _ _ _ (by decide +kernel), by decide +kernel⟩

theorem hyps_ReadRequests_10 : ∃ (s : State) (u : State) (h : Hdr) (idx : Nat) (sub : Nat) (c : Nat) (r : Reg) (row : Row) (l : List Byte), OwnerAsks s h 0x01 ∧ u = (s.touch h.session).renewLease h.session c ∧ u.readEntry ⟨h.session, some 0, h.tag, none⟩ idx sub c = .ok (r, row, l) ∧ row.ty ≠ .dom :=
  ⟨(running [(R.cs_CL_STATE 9,1),(R.cs_CL_TENANT 9,0),(R.cs_CL_SESSION 9,3)]).setClause 9 { Clause.init with locks := [R.tm_LOCK_WINDOW], lease := 10000, staged := [(R.tm_LOCK_WINDOW, .num 5)] }, _, ownHdr, 0x3000, 15, 9, R.tm_LOCK_WINDOW, ⟨0x0F, .u 4, .rwc, .P, 100, .rg 1 100000, 0x2022⟩, natLE 4 5,
    asks_of _ _ _ (by decide +kernel), rfl, by decide +kernel⟩

theorem hyps_ReadRequests_11 : ∃ (s : State) (u : State) (h : Hdr) (idx : Nat) (sub : Nat) (c : Nat) (off : Nat) (len : Nat) (r : Reg) (row : Row) (l : List Byte), OwnerAsks s h 0x03 ∧ u = (s.touch h.session).renewLease h.session c ∧ 1 ≤ len ∧ len ≤ 65536 ∧ u.readEntry ⟨h.session, some 0, h.tag, none⟩ idx sub c = .ok (r, row, l) ∧ r.grp ≠ .dramWin :=
  ⟨(running []).wrDom (R.pa_FIR_COEF 4095) (List.replicate 30 7#8), _, ownHdr, 0x5000 + 4095, 8, 0, 2, 40000, R.pa_FIR_COEF 4095, ((rowAt .path 8).getD ⟨0, .oct 0, .ro, .V, 0, .any, 0⟩), List.replicate 30 7#8,
    asks_of _ _ _ (by decide +kernel), rfl, by decide +kernel⟩

theorem hyps_ReadRequests_12 : ∃ (s : State) (h : Hdr) (off : Nat) (len : Nat), OwnerAsks s h 0x03 ∧ s.part.fronts ≤ 7 ∧ 1 ≤ len ∧ off + len ≤ 65536 ∧ s.rd R.fz_FROZEN = 0 ∧ s.inAllocation 0 (s.rd R.dw_WIN_ADDR + off) len = true ∧ s.badRead (s.rd R.dw_WIN_ADDR + off) len = none :=
  ⟨(running [(R.dw_WIN_ADDR, 4096)]).putDram { (running [(R.dw_WIN_ADDR, 4096)]).dram with mem := memWrite [] 69627 [5,6,7,8], regions := [⟨0,1,4096,65536,true⟩] }, ownHdr, 2, 40000,
    asks_of _ _ _ (by decide +kernel), by decide +kernel⟩

theorem hyps_ReadRequests_13 : ∃ (s : State) (h : Hdr) (idx : Nat) (sub : Nat) (m : Nat) (k : Nat) (e : Nat) (l : List Nat), OwnerAsks s h 0x05 ∧ k = (idx - 0x1F00) * 255 + (sub - 1) ∧ l = ((s.touch h.session).capRecords.drop k).take m ∧ e = min (k + l.length) ((s.touch h.session).capRecords.length - 1) ∧ 1 ≤ m ∧ m ≤ 64 ∧ 0x1F00 ≤ idx ∧ idx ≤ 0x1FFF ∧ 1 ≤ sub ∧ k < (s.touch h.session).capRecords.length :=
  ⟨running [], ownHdr, 0x1F00, 3, 2, _, _, _,
    asks_of _ _ _ (by decide +kernel), rfl, rfl, rfl, by decide +kernel⟩

theorem hyps_WriteRequests_1 : ∃ (s : State) (h : Hdr) (v : Nat), OwnerAsks s h 0x02 ∧ s.part.fronts ≤ 7 ∧ s.free_ R.mo_WAKE_AT ∧ v < 2 ^ 64 ∧ (s.touch h.session).testCommit 0 [(R.mo_WAKE_AT, .num v)] = 0 :=
  ⟨running [], ownHdr, 2^64 - 1,
    asks_of _ _ _ (by decide +kernel), by decide +kernel⟩

theorem hyps_WriteRequests_2 : ∃ (s : State) (h : Hdr) (idx : Nat) (sub : Nat) (c : Nat) (value : List Byte) (v : Val) (r : Reg) (row : Row), OwnerAsks s h 0x02 ∧ 1 ≤ c ∧ c ≤ 64 ∧ entryAt s.part idx sub = some (r, row) ∧ (s.touch h.session).writeEntry (some 0) idx sub = .ok (r, row) ∧ s.rd (R.cs_CL_STATE c) = 1 ∧ s.rd (R.cs_CL_SESSION c) = h.session ∧ s.rd (R.cs_CL_TENANT c) = 0 ∧ (s.clause c).lease ≠ 0 ∧ (s.clause c).locks.contains r = true ∧ decodeVal row value = .ok v ∧ (s.touch h.session).valueCheck r row v = 0 :=
  ⟨(running [(R.cs_CL_STATE 9,1),(R.cs_CL_TENANT 9,0),(R.cs_CL_SESSION 9,3)]).setClause 9 { Clause.init with locks := [R.tm_LOCK_WINDOW], lease := 10000, staged := [(R.tm_LOCK_WINDOW, .num 5)] }, ownHdr, 0x3000, 15, 9, natLE 4 7700, .num 7700, R.tm_LOCK_WINDOW, ⟨0x0F, .u 4, .rwc, .P, 100, .rg 1 100000, 0x2022⟩,
    asks_of _ _ _ (by decide +kernel), by decide +kernel⟩

theorem hyps_WriteRequests_3 : ∃ (s : State) (h : Hdr) (idx : Nat) (sub : Nat) (value : List Byte) (r : Reg) (row : Row), OwnerAsks s h 0x02 ∧ entryAt s.part idx sub = some (r, row) ∧ row.acc = .ro :=
  ⟨running [], ownHdr, 0x3000, 2, [1#8], R.tm_TIME_STATE, ⟨0x02, .u 1, .ro, .V, 0, .any, 0x2022⟩,
    asks_of _ _ _ (by decide +kernel), by decide +kernel⟩

theorem hyps_WriteRequests_4 : ∃ (s : State) (h : Hdr) (idx : Nat) (sub : Nat) (value : List Byte), OwnerAsks s h 0x02 ∧ (idx < 0x1F00 ∨ 0x1FFF < idx) ∧ sub ≠ 0 ∧ entryAt s.part idx sub = none :=
  ⟨running [], ownHdr, 0x6FFF, 3, [],
    asks_of _ _ _ (by decide +kernel), by decide +kernel⟩

theorem hyps_WriteRequests_5 : ∃ (s : State) (h : Hdr) (idx : Nat) (sub : Nat) (value : List Byte) (r : Reg) (row : Row), OwnerAsks s h 0x02 ∧ (s.touch h.session).writeEntry (some 0) idx sub = .ok (r, row) ∧ row.acc.clauseOnly = true ∧ s.mode.base ≠ .commission :=
  ⟨running [], ownHdr, 0x3000, 15, natLE 4 7700, R.tm_LOCK_WINDOW, ⟨0x0F, .u 4, .rwc, .P, 100, .rg 1 100000, 0x2022⟩,
    asks_of _ _ _ (by decide +kernel), by decide +kernel⟩

theorem hyps_WriteRequests_6 : ∃ (s : State) (h : Hdr) (idx : Nat) (sub : Nat) (value : List Byte) (r : Reg) (row : Row), OwnerAsks s h 0x02 ∧ (s.touch h.session).writeEntry (some 0) idx sub = .ok (r, row) ∧ row.acc.clauseOnly = false ∧ s.lockHolder r ≠ none :=
  ⟨(running [(R.cs_CL_STATE 9,1),(R.cs_CL_TENANT 9,0),(R.cs_CL_SESSION 9,7)]).setClause 9 { Clause.init with locks := [R.mo_WAKE_AT], lease := 10000 }, ownHdr, Grp.base .modes, 10, natLE 8 7, R.mo_WAKE_AT, ⟨0x0A, .t64, .rw, .O, 0, .any, 0x2131⟩,
    asks_of _ _ _ (by decide +kernel), by decide +kernel⟩

theorem hyps_WriteRequests_7 : ∃ (s : State) (u : State) (t : State) (h : Hdr) (idx : Nat) (sub : Nat) (c : Nat) (value : List Byte) (v : Val) (r : Reg) (row : Row), OwnerAsks s h 0x02 ∧ u = (s.touch h.session).renewLease h.session c ∧ u.putValue ⟨h.session, some 0, h.tag, none⟩ c r v = (0, t) ∧ u.writeEntry (some 0) idx sub = .ok (r, row) ∧ u.lockCode h.session c r row = 0 ∧ decodeVal row value = .ok v ∧ u.valueCheck r row v = 0 :=
  ⟨running [], _, _, ownHdr, Grp.base .modes, 10, 0, natLE 8 7, .num 7, R.mo_WAKE_AT, ((rowAt .modes 10).getD ⟨0, .oct 0, .ro, .V, 0, .any, 0⟩),
    asks_of _ _ _ (by decide +kernel), rfl, okPair _ (by decide +kernel), by decide +kernel⟩

theorem hyps_WriteRequests_8 : ∃ (s : State) (u : State) (t : State) (h : Hdr) (idx : Nat) (sub : Nat) (value : List Byte) (v : Val) (r : Reg) (row : Row), OwnerAsks s h 0x02 ∧ u = s.touch h.session ∧ t = u.applyWrites 0 [(r, v)] none none ∧ u.writeEntry (some 0) idx sub = .ok (r, row) ∧ (row.acc.clauseOnly = false ∨ s.inCommission = true) ∧ s.free_ r ∧ decodeVal row value = .ok v ∧ u.valueCheck r row v = 0 ∧ isAction r = false ∧ u.testCommit 0 [(r, v)] = 0 :=
  ⟨running [], _, _, ownHdr, Grp.base .modes, 10, natLE 8 7, .num 7, R.mo_WAKE_AT, ((rowAt .modes 10).getD ⟨0, .oct 0, .ro, .V, 0, .any, 0⟩),
    asks_of _ _ _ (by decide +kernel), rfl, rfl, by decide +kernel⟩

theorem hyps_WriteRequests_9 : ∃ (s : State) (h : Hdr) (idx : Nat) (sub : Nat) (value : List Byte), OwnerAsks s h 0x02 ∧ entryAt s.part idx sub = none ∧ ((s.touch h.session).specialEntry idx sub).isSome = true :=
  ⟨running [], ownHdr, 0x1F00, 0, [],
    asks_of _ _ _ (by decide +kernel), by decide +kernel⟩

theorem hyps_WriteRequests_12 : ∃ (s : State) (h : Hdr) (c : Nat) (v : List Byte), s.part.amp = true :=
  ⟨{ (running []) with part := { (running []).part with amp := true } }, ownHdr, 9, [0],
    by decide +kernel⟩

theorem hyps_WriteRequests_13 : ∃ (s : State) (h : Hdr) (n : Nat) (c : Nat) (v : List Byte), n < s.part.channels :=
  ⟨running [], ownHdr, 895, 0, [1],
    by decide +kernel⟩

theorem hyps_WriteRequests_14 : ∃ (s : State) (h : Hdr) (n : Nat) (m : Nat) (c : Nat), n < s.part.quads :=
  ⟨running [], ownHdr, 223, 2, 0,
    by decide +kernel⟩

theorem hyps_WriteRequests_15 : ∃ (s : State) (h : Hdr) (n : Nat) (c : Nat) (v : List Byte), n < s.part.banks :=
  ⟨running [], ownHdr, 27, 0, [1],
    by decide +kernel⟩

theorem hyps_WriteRequests_16 : ∃ (s : State) (h : Hdr) (n : Nat) (c : Nat) (v : List Byte), n < s.part.fronts :=
  ⟨running [], ownHdr, 6, 0, [1],
    by decide +kernel⟩

theorem hyps_WriteRequests_17 : ∃ (s : State) (h : Hdr) (n : Nat) (c : Nat) (v : List Byte), n < 4 :=
  ⟨running [], ownHdr, 3, 0, [1],
    by decide +kernel⟩

theorem hyps_WriteRequests_18 : ∃ (s : State) (h : Hdr) (n : Nat) (c : Nat) (v : List Byte), n < 8192 :=
  ⟨running [], ownHdr, 7, 0, [1],
    by decide +kernel⟩

theorem hyps_WriteRequests_19 : ∃ (s : State) (h : Hdr) (n : Nat) (c : Nat) (v : List Byte), s.part.frit = true ∧ n < 32 :=
  ⟨running [], ownHdr, 31, 0, [1],
    by decide +kernel⟩

theorem hyps_WriteRequests_20 : ∃ (s : State) (h : Hdr) (n : Nat) (c : Nat) (v : List Byte), s.part.frit = true ∧ n < 64 :=
  ⟨running [], ownHdr, 63, 0, [1],
    by decide +kernel⟩

theorem hyps_BlockTransfers_1 : ∃ (s : State) (h : Hdr) (p : Nat) (c : Nat) (d : List Byte), OwnerAsks s h 0x04 ∧ s.part.fronts ≤ 7 ∧ p < 4096 ∧ 1 ≤ c ∧ c ≤ 64 ∧ s.rd (R.pa_TENANT p) = 0xFFFF ∧ s.sealedEntry (R.pa_FIR_COEF p) = false ∧ s.rd (R.cs_CL_STATE c) = 1 ∧ s.rd (R.cs_CL_SESSION c) = h.session ∧ (s.clause c).lease = 0 ∧ (s.clause c).locks.contains (R.pa_FIR_COEF p) = true ∧ (s.session h.session).xfers = [] :=
  ⟨(running [(R.pa_TENANT 4095,0xFFFF),(R.cs_CL_STATE 9,1),(R.cs_CL_TENANT 9,0),(R.cs_CL_SESSION 9,3)]).setClause 9 { Clause.init with locks := [R.pa_FIR_COEF 4095] }, ownHdr, 4095, 9, [1,2,3],
    asks_of _ _ _ (by decide +kernel), by decide +kernel⟩

theorem hyps_BlockTransfers_2 : ∃ (s : State) (h : Hdr) (p : Nat) (c : Nat) (k : Nat) (at_ : Nat) (d : List Byte) (e : List Byte), OwnerAsks s h 0x04 ∧ s.part.fronts ≤ 7 ∧ p < 4096 ∧ 1 ≤ c ∧ c ≤ 64 ∧ s.rd (R.pa_TENANT p) = 0xFFFF ∧ s.sealedEntry (R.pa_FIR_COEF p) = false ∧ s.rd (R.cs_CL_STATE c) = 1 ∧ s.rd (R.cs_CL_SESSION c) = h.session ∧ s.rd (R.cs_CL_TENANT c) = 0 ∧ (s.clause c).lease = 0 ∧ (s.clause c).locks.contains (R.pa_FIR_COEF p) = true ∧ (s.session h.session).xfers = [⟨[k], R.pa_FIR_COEF p, c, d, false, at_⟩] :=
  ⟨((running [(R.pa_TENANT 4095,0xFFFF),(R.cs_CL_STATE 9,1),(R.cs_CL_TENANT 9,0),(R.cs_CL_SESSION 9,3)]).setClause 9 { Clause.init with locks := [R.pa_FIR_COEF 4095] }).setSession 3 { Session.init with xfers := [⟨[6], R.pa_FIR_COEF 4095, 9, [1,2,3], false, 0⟩] }, ownHdr, 4095, 9, 6, 0, [1,2,3], [4,5],
    asks_of _ _ _ (by decide +kernel), by decide +kernel⟩

theorem hyps_BlockTransfers_3 : ∃ (s : State) (h : Hdr) (p : Nat) (c : Nat) (k : Nat) (off : Nat) (at_ : Nat) (d : List Byte) (e : List Byte) (m : Bool), OwnerAsks s h 0x04 ∧ s.part.fronts ≤ 7 ∧ p < 4096 ∧ 1 ≤ c ∧ c ≤ 64 ∧ s.rd (R.pa_TENANT p) = 0xFFFF ∧ s.sealedEntry (R.pa_FIR_COEF p) = false ∧ s.rd (R.cs_CL_STATE c) = 1 ∧ s.rd (R.cs_CL_SESSION c) = h.session ∧ (s.clause c).lease = 0 ∧ (s.clause c).locks.contains (R.pa_FIR_COEF p) = true ∧ (s.session h.session).xfers = [⟨[k], R.pa_FIR_COEF p, c, d, false, at_⟩] ∧ off ≠ d.length :=
  ⟨((running [(R.pa_TENANT 4095,0xFFFF),(R.cs_CL_STATE 9,1),(R.cs_CL_TENANT 9,0),(R.cs_CL_SESSION 9,3)]).setClause 9 { Clause.init with locks := [R.pa_FIR_COEF 4095] }).setSession 3 { Session.init with xfers := [⟨[6], R.pa_FIR_COEF 4095, 9, [1,2,3], false, 0⟩] }, ownHdr, 4095, 9, 6, 4, 0, [1,2,3], [4,5], true,
    asks_of _ _ _ (by decide +kernel), by decide +kernel⟩

theorem hyps_BlockTransfers_4 : ∃ (s : State) (h : Hdr) (d : List Byte), OwnerAsks s h 0x04 ∧ s.part.fronts ≤ 7 ∧ s.free_ R.dw_WIN_DATA ∧ (s.session h.session).xfers = [] ∧ s.rd R.fz_FROZEN = 0 ∧ d.length ≤ 65536 ∧ s.inAllocation 0 (s.rd R.dw_WIN_ADDR) d.length = true ∧ s.badWrite (s.rd R.dw_WIN_ADDR) d.length = none ∧ ((∀ c, c < s.part.drams → s.rd (R.dc_CH_STATE c) ≠ 3)) :=
  ⟨(running [(R.dw_WIN_ADDR, 4096)]).putDram { (running [(R.dw_WIN_ADDR, 4096)]).dram with mem := memWrite [] 4095 [5,6,7,8,9], regions := [⟨0,1,4096,65536,true⟩] }, ownHdr, [1,2,3],
    asks_of _ _ _ (by decide +kernel), by decide +kernel⟩

theorem hyps_BlockTransfers_5 : ∃ (s : State) (x : Nat) (tag : Nat), (∀ y ∈ (s.session x).xfers, y.reg.grp ≠ .fw ∧ y.reg.grp ≠ .ampProg) :=
  ⟨((running []).putTime { (running []).time with edge := edgesPerSec }).setSession 3 { Session.init with xfers := [⟨[6], R.pa_FIR_COEF 4095, 9, [1,2,3], false, 0⟩, ⟨[8], R.pa_FIR_COEF 4, 9, [1,2,3], false, 0⟩] }, 3, 6,
    by decide +kernel⟩

theorem hyps_BlockTransfers_6 : ∃ (s : State) (u : State) (v : State) (h : Hdr) (idx : Nat) (sub : Nat) (c : Nat) (d : List Byte) (got : List Byte) (r : Reg) (row : Row) (old : Option Xfer), OwnerAsks s h 0x04 ∧ u = (s.touch h.session).renewLease h.session c ∧ old = (u.session h.session).xfers.find? (fun x => x.reg == r && x.clause == c) ∧ got = (old.map (·.got)).getD [] ∧ v = u.setSession h.session { u.session h.session with xfers := State.otherXfers (u.session h.session) r c } ∧ u.writeEntry (some 0) idx sub = .ok (r, row) ∧ row.ty = .dom ∧ u.lockCode h.session c r row = 0 :=
  ⟨((running [(R.pa_TENANT 4095,0xFFFF),(R.cs_CL_STATE 9,1),(R.cs_CL_TENANT 9,0),(R.cs_CL_SESSION 9,3)]).setClause 9 { Clause.init with lease := 10000, locks := [R.pa_FIR_COEF 4095] }).setSession 3 { Session.init with xfers := [⟨[6], R.pa_FIR_COEF 4095, 9, [1,2,3], false, 0⟩, ⟨[7], R.pa_FIR_COEF 4094, 9, [1], false, 0⟩] }, _, _, ownHdr, 0x5000 + 4095, 8, 9, [9,8], _, R.pa_FIR_COEF 4095, ((rowAt .path 8).getD ⟨0, .oct 0, .ro, .V, 0, .any, 0⟩), _,
    asks_of _ _ _ (by decide +kernel), rfl, rfl, rfl, rfl, by decide +kernel⟩

theorem hyps_BlockTransfers_7 : ∃ (s : State) (u : State) (v : State) (t : State) (h : Hdr) (idx : Nat) (sub : Nat) (c : Nat) (d : List Byte) (got : List Byte) (r : Reg) (row : Row) (old : Option Xfer), OwnerAsks s h 0x04 ∧ u = (s.touch h.session).renewLease h.session c ∧ old = (u.session h.session).xfers.find? (fun x => x.reg == r && x.clause == c) ∧ got = (old.map (·.got)).getD [] ∧ v = u.setSession h.session { u.session h.session with xfers := State.otherXfers (u.session h.session) r c } ∧ v.putValue ⟨h.session, some 0, h.tag, none⟩ c r (.dom (got ++ d)) = (0, t) ∧ u.writeEntry (some 0) idx sub = .ok (r, row) ∧ row.ty = .dom ∧ u.lockCode h.session c r row = 0 :=
  ⟨((running [(R.pa_TENANT 4095,0xFFFF),(R.cs_CL_STATE 9,1),(R.cs_CL_TENANT 9,0),(R.cs_CL_SESSION 9,3)]).setClause 9 { Clause.init with lease := 10000, locks := [R.pa_FIR_COEF 4095] }).setSession 3 { Session.init with xfers := [⟨[6], R.pa_FIR_COEF 4095, 9, [1,2,3], false, 0⟩, ⟨[7], R.pa_FIR_COEF 4094, 9, [1], false, 0⟩] }, _, _, _, ownHdr, 0x5000 + 4095, 8, 9, [9,8], _, R.pa_FIR_COEF 4095, ((rowAt .path 8).getD ⟨0, .oct 0, .ro, .V, 0, .any, 0⟩), _,
    asks_of _ _ _ (by decide +kernel), rfl, rfl, rfl, rfl, okPair _ (by decide +kernel), by decide +kernel⟩

theorem hyps_BlockTransfers_9 : ∃ (s : State) (x : Nat) (tag : Nat) (y : Xfer), (s.session x).xfers = [y] ∧ y.tags.head? = some tag ∧ edgesPerSec ≤ s.time.edge - y.at_ ∧ y.reg = R.fw_FW_IMAGE :=
  ⟨((running [(R.fw_FW_STATE,1)]).putTime { (running [(R.fw_FW_STATE,1)]).time with edge := edgesPerSec }).setSession 3 { Session.init with xfers := [⟨[6], R.fw_FW_IMAGE, 0, [1,2,3], false, 0⟩] }, 3, 6, ⟨[6], R.fw_FW_IMAGE, 0, [1,2,3], false, 0⟩,
    by decide +kernel⟩

theorem hyps_ClauseOpens_1 : ∃ (s : State) (h : Hdr) (lease : Nat) (ms : Nat) (c : Nat) (items : List LockItem), OwnerAsks s h 0x06 ∧ items ≠ [] ∧ items.length ≤ 64 ∧ items.eraseDups.length = items.length ∧ (∀ i ∈ items, i.hub = s.rd R.lx_CHAIN_ADDR) ∧ State.leaseMs lease = some ms ∧ (∀ i ∈ items, (s.touch h.session).itemCode (some 0) i = 0) ∧ (s.touch h.session).freeClauseSlot = some c ∧ (s.touch h.session).clausesOf 0 < s.rd (R.te_CLAUSE_QUOTA 0) ∧ (∀ r ∈ s.localItems items, s.lockHolder r = none) :=
  ⟨running [(R.te_CLAUSE_QUOTA 0,4)], ownHdr, 0, 10000, 1, [⟨0x3000,0x0F,0⟩, ⟨0x5007,0x08,0⟩],
    asks_of _ _ _ (by decide +kernel), by decide +kernel⟩

theorem hyps_ClauseOpens_2 : ∃ (s : State) (h : Hdr) (lease : Nat) (chain : Bool), OwnerAsks s h 0x06 :=
  ⟨running [], ownHdr, 500, true,
    asks_of _ _ _ (by decide +kernel)⟩

theorem hyps_ClauseOpens_3 : ∃ (s : State) (h : Hdr) (lease : Nat) (ms : Nat) (c : Nat) (items : List LockItem) (r : Reg), OwnerAsks s h 0x06 ∧ items ≠ [] ∧ items.length ≤ 64 ∧ items.eraseDups.length = items.length ∧ (∀ i ∈ items, i.hub = s.rd R.lx_CHAIN_ADDR) ∧ State.leaseMs lease = some ms ∧ (∀ i ∈ items, (s.touch h.session).itemCode (some 0) i = 0) ∧ (s.touch h.session).freeClauseSlot = some c ∧ (s.touch h.session).clausesOf 0 < s.rd (R.te_CLAUSE_QUOTA 0) ∧ r ∈ s.localItems items ∧ s.lockHolder r ≠ none :=
  ⟨(running [(R.te_CLAUSE_QUOTA 0,4),(R.cs_CL_STATE 9,1),(R.cs_CL_SESSION 9,7)]).setClause 9 { Clause.init with locks := [R.tm_LOCK_WINDOW] }, ownHdr, 0, 10000, 1, [⟨0x3000,0x0F,0⟩, ⟨0x5007,0x08,0⟩], R.tm_LOCK_WINDOW,
    asks_of _ _ _ (by decide +kernel), by decide +kernel⟩

theorem hyps_ClauseOpens_4 : ∃ (s : State) (h : Hdr) (lease : Nat) (c : Nat) (items : List LockItem), OwnerAsks s h 0x06 ∧ items ≠ [] ∧ items.length ≤ 64 ∧ items.eraseDups.length = items.length ∧ State.leaseMs lease = some 10000 ∧ (∀ i ∈ items, i.hub = 5) ∧ s.rd R.lx_CHAIN_ADDR ≠ 5 ∧ (s.touch h.session).freeClauseSlot = some c ∧ (s.touch h.session).clausesOf 0 < s.rd (R.te_CLAUSE_QUOTA 0) ∧ (∀ x ∈ State.clauseIds, (s.clause x).waitItems = []) :=
  ⟨running [(R.te_CLAUSE_QUOTA 0,4),(R.lx_CHAIN_ADDR,3)], ownHdr, 10000, 1, [⟨0x3000,0x0F,5⟩, ⟨0x5007,0x08,5⟩],
    asks_of _ _ _ (by decide +kernel), by decide +kernel⟩

theorem hyps_ClauseOpens_5 : ∃ (s : State) (u : State) (h : Hdr) (lease : Nat) (ms : Nat) (c : Nat) (items : List LockItem), OwnerAsks s h 0x06 ∧ u = s.touch h.session ∧ items ≠ [] ∧ items.length ≤ 64 ∧ items.eraseDups.length = items.length ∧ State.leaseMs lease = some ms ∧ ((∀ i ∈ items, i.hub = s.rd R.lx_CHAIN_ADDR → u.itemCode (some 0) i = 0)) ∧ u.freeClauseSlot = some c ∧ u.clausesOf 0 < s.rd (R.te_CLAUSE_QUOTA 0) :=
  ⟨running [(R.te_CLAUSE_QUOTA 0,4),(R.lx_CHAIN_ADDR,3)], _, ownHdr, 10000, 10000, 1, [⟨0x3000,0x0F,5⟩, ⟨0x5007,0x08,3⟩],
    asks_of _ _ _ (by decide +kernel), rfl, by decide +kernel⟩

theorem hyps_ClauseCommits_1 : ∃ (s : State) (h : Hdr) (c : Nat) (v : Nat), OwnerAsks s h 0x07 ∧ 1 ≤ c ∧ c ≤ 64 ∧ s.rd (R.cs_CL_STATE c) = 1 ∧ s.rd (R.cs_CL_SESSION c) = h.session ∧ s.rd (R.cs_CL_TENANT c) = 0 ∧ s.clause c = { Clause.init with locks := [R.tm_LOCK_WINDOW], staged := [(R.tm_LOCK_WINDOW, .num v)] } ∧ s.mode.base = .acquire ∧ (∀ k ∈ State.clauseIds, (s.clause k).waitItems = []) ∧ s.fenced R.tm_LOCK_WINDOW = false ∧ (s.touch h.session).testCommit 0 [(R.tm_LOCK_WINDOW, .num v)] = 0 :=
  ⟨(running [(R.cs_CL_STATE 9,1),(R.cs_CL_TENANT 9,0),(R.cs_CL_SESSION 9,3),(R.cs_LOCKS 9,1)]).setClause 9 { Clause.init with locks := [R.tm_LOCK_WINDOW], staged := [(R.tm_LOCK_WINDOW, .num 7000)] }, ownHdr, 9, 7000,
    asks_of _ _ _ (by decide +kernel), by decide +kernel⟩

theorem hyps_ClauseCommits_2 : ∃ (s : State) (h : Hdr) (c : Nat) (v : Nat) (r : Reg), OwnerAsks s h 0x07 ∧ 1 ≤ c ∧ c ≤ 64 ∧ s.rd (R.cs_CL_STATE c) = 1 ∧ s.rd (R.cs_CL_SESSION c) = h.session ∧ s.clause c = { Clause.init with locks := [r], staged := [(r, .num v)] } ∧ s.fenced r = true :=
  ⟨(running [(R.bk_BANK_STATE 0,4),(R.cs_CL_STATE 9,1),(R.cs_CL_TENANT 9,0),(R.cs_CL_SESSION 9,3),(R.cs_LOCKS 9,1)]).setClause 9 { Clause.init with locks := [⟨.channel, 5, 3⟩], staged := [(⟨.channel, 5, 3⟩, .num 7)] }, ownHdr, 9, 7, ⟨.channel, 5, 3⟩,
    asks_of _ _ _ (by decide +kernel), by decide +kernel⟩

theorem hyps_ClauseCommits_3 : ∃ (s : State) (h : Hdr) (c : Nat), OwnerAsks s h 0x07 ∧ 1 ≤ c ∧ c ≤ 64 ∧ s.rd (R.cs_CL_STATE c) = 0 ∧ (s.clause c).chain = none :=
  ⟨(running []).setClause 9 { Clause.init with rolledBack := true }, ownHdr, 9,
    asks_of _ _ _ (by decide +kernel), by decide +kernel⟩

theorem hyps_ClauseCommits_4 : ∃ (s : State) (h : Hdr) (c : Nat) (whn : Nat), OwnerAsks s h 0x07 ∧ 1 ≤ c ∧ c ≤ 64 ∧ s.rd (R.cs_CL_STATE c) = 1 ∧ s.rd (R.cs_CL_SESSION c) = h.session ∧ (s.clause c).lease = 0 ∧ (s.clause c).chain = none ∧ whn ≠ 0 ∧ t64Past whn s.time.ticks = false ∧ (s.touch h.session).testClause c = 0 :=
  ⟨(running [(R.cs_CL_STATE 9,1),(R.cs_CL_TENANT 9,0),(R.cs_CL_SESSION 9,3),(R.cs_LOCKS 9,1)]).setClause 9 { Clause.init with locks := [R.tm_LOCK_WINDOW], staged := [(R.tm_LOCK_WINDOW, .num 7000)] }, ownHdr, 9, t64OfTicks (123456789012345678 + 65536000000),
    asks_of _ _ _ (by decide +kernel), by decide +kernel⟩

theorem hyps_ClauseCommits_5 : ∃ (s : State) (c : Nat) (v : Nat), 1 ≤ c ∧ c ≤ 64 ∧ s.rd (R.cs_CL_STATE c) = 2 ∧ t64Past (s.rd (R.cs_WHEN c)) s.time.ticks = true ∧ s.clause c = { Clause.init with locks := [R.tm_LOCK_WINDOW], staged := [(R.tm_LOCK_WINDOW, .num v)] } ∧ (∀ k ∈ State.clauseIds, (s.clause k).waitItems = []) ∧ s.mode.base = .acquire ∧ s.held = [] :=
  ⟨(running [(R.cs_CL_STATE 9,2),(R.cs_WHEN 9, t64OfTicks 123456789012345678),(R.cs_CL_TENANT 9,0),(R.cs_CL_SESSION 9,3),(R.cs_LOCKS 9,1)]).setClause 9 { Clause.init with locks := [R.tm_LOCK_WINDOW], staged := [(R.tm_LOCK_WINDOW, .num 7000)] }, 9, 7000,
    by decide +kernel⟩

theorem hyps_ClauseCommits_6 : ∃ (s : State) (c : Nat), s.rd (R.cs_CL_STATE c) ≠ 2 :=
  ⟨running [(R.cs_CL_STATE 9,1)], 9,
    by decide +kernel⟩

theorem hyps_ClauseCommits_7 : ∃ (s : State) (h : Hdr) (c : Nat), OwnerAsks s h 0x08 ∧ 1 ≤ c ∧ c ≤ 64 ∧ (s.rd (R.cs_CL_STATE c) = 1 ∨ s.rd (R.cs_CL_STATE c) = 2) ∧ s.rd (R.cs_CL_SESSION c) = h.session ∧ (s.clause c).chain = none ∧ (∀ k ∈ State.clauseIds, (s.clause k).waitItems = []) :=
  ⟨(running [(R.cs_CL_STATE 9,2),(R.cs_CL_TENANT 9,0),(R.cs_CL_SESSION 9,3),(R.cs_LOCKS 9,1)]).setClause 9 { Clause.init with locks := [R.tm_LOCK_WINDOW], lease := 500 }, ownHdr, 9,
    asks_of _ _ _ (by decide +kernel), by decide +kernel⟩

theorem hyps_ClauseCommits_8 : ∃ (s : State) (c : Nat), 1 ≤ c ∧ c ≤ 64 ∧ s.rd (R.cs_CL_STATE c) = 1 ∧ (s.clause c).chain = none ∧ (s.clause c).lease ≠ 0 ∧ ticksOfT96 (s.rd (R.cs_LEASE_END c)) ≤ s.time.ticks ∧ (∀ k ∈ State.clauseIds, (s.clause k).waitItems = []) ∧ s.held = [] :=
  ⟨(running [(R.cs_CL_STATE 9,1),(R.cs_LEASE_END 9, 530069882158510926),(R.cs_CL_TENANT 9,0),(R.cs_CL_SESSION 9,3),(R.cs_LOCKS 9,1)]).setClause 9 { Clause.init with locks := [R.tm_LOCK_WINDOW], lease := 500 }, 9,
    by decide +kernel⟩

theorem hyps_ClauseCommits_9 : ∃ (s : State) (c : Nat), s.time.ticks < ticksOfT96 (s.rd (R.cs_LEASE_END c)) :=
  ⟨(running [(R.cs_CL_STATE 9,1),(R.cs_LEASE_END 9, 540069882158510926),(R.cs_CL_TENANT 9,0),(R.cs_CL_SESSION 9,3),(R.cs_LOCKS 9,1)]).setClause 9 { Clause.init with locks := [R.tm_LOCK_WINDOW], lease := 500 }, 9,
    by decide +kernel⟩

theorem hyps_ClauseCommits_10 : ∃ (s : State) (u : State) (h : Hdr) (c : Nat) (ws : Writes), OwnerAsks s h 0x07 ∧ u = (s.touch h.session).renewLease h.session c ∧ ws = u.stagedInOrder c ∧ 1 ≤ c ∧ c ≤ 64 ∧ s.rd (R.cs_CL_STATE c) = 1 ∧ s.rd (R.cs_CL_SESSION c) = h.session ∧ (s.clause c).chain = none ∧ ws ≠ [] ∧ (∀ e ∈ ws, isAction e.1 = false) ∧ u.placeCode ws = 0 ∧ u.testCommit (s.rd (R.cs_CL_TENANT c)) ws = 0 :=
  ⟨(running [(R.cs_CL_STATE 9,1),(R.cs_CL_TENANT 9,0),(R.cs_CL_SESSION 9,3),(R.cs_LOCKS 9,1)]).setClause 9 { Clause.init with locks := [R.tm_LOCK_WINDOW], lease := 10000, staged := [(R.tm_LOCK_WINDOW, .num 7000)] }, _, ownHdr, 9, _,
    asks_of _ _ _ (by decide +kernel), rfl, rfl, by decide +kernel⟩

theorem hyps_ClauseCommits_11 : ∃ (s : State) (u : State) (t : State) (h : Hdr) (c : Nat), OwnerAsks s h 0x07 ∧ u = (s.touch h.session).renewLease h.session c ∧ u.commitWrites h.session (s.rd (R.cs_CL_TENANT c)) (u.stagedInOrder c) none = (0, t) ∧ 1 ≤ c ∧ c ≤ 64 ∧ s.rd (R.cs_CL_STATE c) = 1 ∧ s.rd (R.cs_CL_SESSION c) = h.session ∧ (s.clause c).chain = none :=
  ⟨(running [(R.cs_CL_STATE 9,1),(R.cs_CL_TENANT 9,0),(R.cs_CL_SESSION 9,3),(R.cs_LOCKS 9,1)]).setClause 9 { Clause.init with locks := [R.tm_LOCK_WINDOW], lease := 10000, staged := [(R.tm_LOCK_WINDOW, .num 7000)] }, _, _, ownHdr, 9,
    asks_of _ _ _ (by decide +kernel), rfl, okPair _ (by decide +kernel), by decide +kernel⟩

theorem hyps_ClauseCommits_12 : ∃ (s : State) (u : State) (t : State) (h : Hdr) (c : Nat) (whn : Nat), OwnerAsks s h 0x07 ∧ u = (s.touch h.session).renewLease h.session c ∧ u.commitWrites h.session (s.rd (R.cs_CL_TENANT c)) (u.stagedInOrder c) (some ((s.now : Int) + t64Diff whn s.now).toNat) = (0, t) ∧ 1 ≤ c ∧ c ≤ 64 ∧ s.rd (R.cs_CL_STATE c) = 1 ∧ s.rd (R.cs_CL_SESSION c) = h.session ∧ (s.clause c).chain = none ∧ whn ≠ 0 ∧ t64Past whn s.time.ticks = true :=
  ⟨(running [(R.cs_CL_STATE 9,1),(R.cs_CL_TENANT 9,0),(R.cs_CL_SESSION 9,3),(R.cs_LOCKS 9,1)]).setClause 9 { Clause.init with locks := [R.tm_LOCK_WINDOW], lease := 10000, staged := [(R.tm_LOCK_WINDOW, .num 7000)] }, _, _, ownHdr, 9, t64OfTicks 123456789012345600,
    asks_of _ _ _ (by decide +kernel), rfl, okPair _ (by decide +kernel), by decide +kernel⟩

theorem hyps_ClauseCommits_13 : ∃ (s : State) (u : State) (h : Hdr) (c : Nat) (whn : Nat), OwnerAsks s h 0x07 ∧ u = (s.touch h.session).renewLease h.session c ∧ 1 ≤ c ∧ c ≤ 64 ∧ s.rd (R.cs_CL_STATE c) = 1 ∧ s.rd (R.cs_CL_SESSION c) = h.session ∧ (s.clause c).chain = none ∧ whn ≠ 0 ∧ t64Past whn s.time.ticks = false ∧ u.testClause c = 0 :=
  ⟨(running [(R.cs_CL_STATE 9,1),(R.cs_CL_TENANT 9,0),(R.cs_CL_SESSION 9,3),(R.cs_LOCKS 9,1)]).setClause 9 { Clause.init with locks := [R.tm_LOCK_WINDOW], lease := 10000, staged := [(R.tm_LOCK_WINDOW, .num 7000)] }, _, ownHdr, 9, t64OfTicks (123456789012345678 + 65536000000),
    asks_of _ _ _ (by decide +kernel), rfl, by decide +kernel⟩

theorem hyps_ClauseCommits_14 : ∃ (s : State) (u : State) (v : State) (h : Hdr) (c : Nat) (whn : Nat) (k : Chain), OwnerAsks s h 0x07 ∧ u = (s.touch h.session).renewLease h.session c ∧ v = u.setClause c { u.clause c with chain := some { k with whn := whn, pendTag := h.tag, pendRemote := none, since := s.time.edge } } ∧ 1 ≤ c ∧ c ≤ 64 ∧ s.rd (R.cs_CL_STATE c) = 1 ∧ s.rd (R.cs_CL_SESSION c) = h.session ∧ (s.clause c).chain = some k ∧ whn ≠ 0 ∧ 250000000 * ticksPerNs ≤ t64Diff whn s.now ∧ ((s.clause c).locks = [] ∨ v.testClause c = 0) ∧ (k.members.filter fun m => m.1 != s.ownAddr) ≠ [] :=
  ⟨(running [(R.lx_CHAIN_ADDR,2),(R.cs_CL_STATE 9,1),(R.cs_CL_TENANT 9,0),(R.cs_CL_SESSION 9,3)]).setClause 9 { Clause.init with lease := 10000, chain := some ⟨2,9,[(2,.locked),(5,.locked)],0,false,77,none,0⟩ }, _, _, ownHdr, 9, t64OfTicks (123456789012345678 + 16384000000000), ⟨2,9,[(2,.locked),(5,.locked)],0,false,77,none,0⟩,
    asks_of _ _ _ (by decide +kernel), rfl, rfl, by decide +kernel⟩

theorem hyps_ClauseCommits_15 : ∃ (s : State) (u : State) (v : State) (h : Hdr) (c : Nat) (whn : Nat) (k : Chain), OwnerAsks s h 0x07 ∧ u = (s.touch h.session).renewLease h.session c ∧ v = u.setClause c { u.clause c with chain := some { k with whn := whn, pendTag := h.tag, pendRemote := none, since := s.time.edge } } ∧ 1 ≤ c ∧ c ≤ 64 ∧ s.rd (R.cs_CL_STATE c) = 1 ∧ s.rd (R.cs_CL_SESSION c) = h.session ∧ (s.clause c).chain = some k ∧ whn ≠ 0 ∧ 250000000 * ticksPerNs ≤ t64Diff whn s.now ∧ (s.clause c).locks ≠ [] ∧ v.testClause c ≠ 0 :=
  ⟨(running [(R.lx_CHAIN_ADDR,2),(R.bk_BANK_STATE 0,4),(R.cs_CL_STATE 9,1),(R.cs_CL_TENANT 9,0),(R.cs_CL_SESSION 9,3)]).setClause 9 { Clause.init with locks := [⟨.channel, 5, 3⟩], staged := [(⟨.channel, 5, 3⟩, .num 7)], chain := some ⟨2,9,[(2,.locked),(5,.locked)],0,false,77,none,0⟩ }, _, _, ownHdr, 9, t64OfTicks (123456789012345678 + 16384000000000), ⟨2,9,[(2,.locked),(5,.locked)],0,false,77,none,0⟩,
    asks_of _ _ _ (by decide +kernel), rfl, rfl, by decide +kernel⟩

theorem hyps_ClauseCommits_16 : ∃ (s : State) (c : Nat), s.rd (R.cs_CL_STATE c) = 2 ∧ t64Past (s.rd (R.cs_WHEN c)) s.time.ticks = true :=
  ⟨(running [(R.cs_CL_STATE 9,2),(R.cs_WHEN 9, t64OfTicks 123456789012345678),(R.cs_CL_TENANT 9,0),(R.cs_CL_SESSION 9,3),(R.cs_LOCKS 9,1)]).setClause 9 { Clause.init with locks := [R.tm_LOCK_WINDOW], staged := [(R.tm_LOCK_WINDOW, .num 7000)] }, 9,
    by decide +kernel⟩

theorem hyps_ClauseCommits_17 : ∃ (s : State) (h : Hdr) (c : Nat), OwnerAsks s h 0x08 ∧ 1 ≤ c ∧ c ≤ 64 ∧ 1 ≤ s.rd (R.cs_CL_STATE c) ∧ s.rd (R.cs_CL_STATE c) ≤ 4 ∧ s.rd (R.cs_CL_SESSION c) = h.session :=
  ⟨(running [(R.lx_CHAIN_ADDR,2),(R.cs_CL_STATE 9,2),(R.cs_CL_TENANT 9,0),(R.cs_CL_SESSION 9,3)]).setClause 9 { Clause.init with lease := 10000, chain := some ⟨2,9,[(2,.confirmed),(5,.confirmed)],0,false,77,none,0⟩ }, ownHdr, 9,
    asks_of _ _ _ (by decide +kernel), by decide +kernel⟩

theorem hyps_ClauseCommits_18 : ∃ (s : State) (c : Nat), (s.rd (R.cs_CL_STATE c) = 1 ∨ ((s.rd (R.cs_CL_STATE c) = 3 ∨ s.rd (R.cs_CL_STATE c) = 4) ∧ s.coordinates c = true)) ∧ (s.clause c).lease ≠ 0 ∧ ticksOfT96 (s.rd (R.cs_LEASE_END c)) ≤ s.time.ticks :=
  ⟨(running [(R.lx_CHAIN_ADDR,2),(R.cs_CL_STATE 9,3),(R.cs_CL_TENANT 9,0),(R.cs_CL_SESSION 9,3)]).setClause 9 { Clause.init with lease := 10000, chain := some ⟨2,9,[(2,.locked),(5,.waiting)],0,false,77,none,0⟩ }, 9,
    by decide +kernel⟩

theorem hyps_ChainMembers_1 : ∃ (s : State) (a : Nat) (b : Nat) (c : Nat) (items : List LockItem), s.memberSlot a b = none ∧ s.freeClauseSlot = some c ∧ ((∀ i ∈ items, i.hub = s.rd R.lx_CHAIN_ADDR → (entryAt s.part i.idx i.sub).isSome = true)) ∧ (∀ r ∈ s.localItems items, s.lockHolder r = none) :=
  ⟨running [(R.lx_CHAIN_ADDR,4)], 2, 7, 1, [⟨0x3000,0x0F,4⟩, ⟨0x3000,0x0F,5⟩],
    by decide +kernel⟩

theorem hyps_ChainMembers_2 : ∃ (s : State) (a : Nat) (b : Nat) (items : List LockItem) (i : LockItem), s.memberSlot a b = none ∧ i ∈ items ∧ i.hub = s.rd R.lx_CHAIN_ADDR ∧ entryAt s.part i.idx i.sub = none :=
  ⟨running [(R.lx_CHAIN_ADDR,4)], 2, 7, [⟨0x3000,0x0F,4⟩, ⟨0x6FFF,0x0F,4⟩], ⟨0x6FFF,0x0F,4⟩,
    by decide +kernel⟩

theorem hyps_ChainMembers_3 : ∃ (s : State) (a : Nat) (b : Nat) (c : Nat) (whn : Nat), s.memberSlot a b = some c ∧ s.rd (R.cs_CL_STATE c) = 1 ∧ s.testClause c = 0 :=
  ⟨(running [(R.lx_CHAIN_ADDR,4),(R.cs_CL_STATE 9,1),(R.cs_CL_SESSION 9,0xFFFF),(R.cs_CL_TENANT 9,0xFFFF)]).setClause 9 { Clause.init with chain := some ⟨2,7,[],0,false,0,none,0⟩ }, 2, 7, 9, 55,
    by decide +kernel⟩

theorem hyps_ChainMembers_4 : ∃ (s : State) (a : Nat) (b : Nat) (whn : Nat), s.memberSlot a b = none :=
  ⟨running [], 2, 7, 55,
    by decide +kernel⟩

theorem hyps_ChainMembers_5 : ∃ (s : State) (a : Nat) (b : Nat) (c : Nat), s.memberSlot a b = some c ∧ s.rd (R.cs_CL_STATE c) = 4 :=
  ⟨(running [(R.lx_CHAIN_ADDR,4),(R.cs_CL_STATE 9,4),(R.cs_CL_SESSION 9,0xFFFF),(R.cs_CL_TENANT 9,0xFFFF)]).setClause 9 { Clause.init with chain := some ⟨2,7,[],0,false,0,none,0⟩ }, 2, 7, 9,
    by decide +kernel⟩

theorem hyps_ChainMembers_6 : ∃ (s : State) (a : Nat) (b : Nat), s.memberSlot a b = none :=
  ⟨running [], 2, 7,
    by decide +kernel⟩

theorem hyps_ChainMembers_7 : ∃ (s : State) (a : Nat) (b : Nat) (c : Nat), s.memberSlot a b = some c ∧ s.rd (R.cs_CL_STATE c) = 4 ∧ t64Diff (s.rd (R.cs_WHEN c)) s.time.ticks ≤ 1000000 * ticksPerNs ∧ (∀ k ∈ State.clauseIds, (s.clause k).waitItems = []) ∧ s.held = [] :=
  ⟨(running [(R.lx_CHAIN_ADDR,4),(R.cs_CL_STATE 9,4),(R.cs_WHEN 9,t64OfTicks 123456789012345679),(R.cs_CL_SESSION 9,0xFFFF),(R.cs_CL_TENANT 9,0xFFFF)]).setClause 9 { Clause.init with chain := some ⟨2,7,[],0,false,0,none,0⟩ }, 2, 7, 9,
    by decide +kernel⟩

theorem hyps_ChainMembers_8 : ∃ (s : State) (a : Nat) (b : Nat) (c : Nat), s.memberSlot a b = some c ∧ (∀ k ∈ State.clauseIds, (s.clause k).waitItems = []) ∧ s.held = [] :=
  ⟨(running [(R.lx_CHAIN_ADDR,4),(R.cs_CL_STATE 9,2),(R.cs_WHEN 9,t64OfTicks 123456789012345679),(R.cs_CL_SESSION 9,0xFFFF),(R.cs_CL_TENANT 9,0xFFFF)]).setClause 9 { Clause.init with chain := some ⟨2,7,[],0,false,0,none,0⟩, locks := [R.tm_LOCK_WINDOW] }, 2, 7, 9,
    by decide +kernel⟩

theorem hyps_ChainMembers_9 : ∃ (s : State) (u : State) (a : Nat) (b : Nat) (c : Nat) (items : List LockItem) (hs : List Nat), u = s.takeSlot c 0xFFFF 0xFFFF 3 { Clause.init with chain := some ⟨a, b, [], 0, false, 0, none, 0⟩ } ∧ hs = u.holders c (s.localItems items) ∧ s.memberSlot a b = none ∧ s.freeClauseSlot = some c ∧ ((∀ i ∈ items, i.hub = s.rd R.lx_CHAIN_ADDR → (entryAt s.part i.idx i.sub).isSome = true)) ∧ hs ≠ [] ∧ ((∀ k ∈ hs, (u.clause k).chain = none ∨ a * 256 + b ≤ u.chainRank k)) :=
  ⟨(running [(R.lx_CHAIN_ADDR,4),(R.cs_CL_STATE 9,1),(R.cs_CL_SESSION 9,0xFFFF)]).setClause 9 { Clause.init with locks := [R.tm_LOCK_WINDOW], chain := some ⟨3,1,[],0,false,0,none,0⟩ }, _, 2, 7, 1, [⟨0x3000,0x0F,4⟩], _,
    rfl, rfl, by decide +kernel⟩

theorem hyps_ChainMembers_10 : ∃ (s : State) (u : State) (a : Nat) (b : Nat) (c : Nat) (k : Nat) (items : List LockItem), u = s.takeSlot c 0xFFFF 0xFFFF 3 { Clause.init with chain := some ⟨a, b, [], 0, false, 0, none, 0⟩ } ∧ s.memberSlot a b = none ∧ s.freeClauseSlot = some c ∧ ((∀ i ∈ items, i.hub = s.rd R.lx_CHAIN_ADDR → (entryAt s.part i.idx i.sub).isSome = true)) ∧ k ∈ u.holders c (s.localItems items) ∧ (u.clause k).chain ≠ none ∧ u.chainRank k < a * 256 + b :=
  ⟨(running [(R.lx_CHAIN_ADDR,4),(R.cs_CL_STATE 9,1),(R.cs_CL_SESSION 9,0xFFFF)]).setClause 9 { Clause.init with locks := [R.tm_LOCK_WINDOW], chain := some ⟨2,6,[],0,false,0,none,0⟩ }, _, 2, 7, 1, 9, [⟨0x3000,0x0F,4⟩],
    rfl, by decide +kernel⟩

theorem hyps_ChainMembers_11 : ∃ (s : State) (a : Nat) (b : Nat) (items : List LockItem), s.memberSlot a b = none ∧ s.freeClauseSlot = none ∧ ((∀ i ∈ items, i.hub = s.rd R.lx_CHAIN_ADDR → (entryAt s.part i.idx i.sub).isSome = true)) :=
  ⟨running ((List.range 64).map fun i => (R.cs_CL_STATE (i + 1), 1)), 2, 7, [],
    by decide +kernel⟩

theorem hyps_ChainMembers_12 : ∃ (s : State) (a : Nat) (b : Nat) (c : Nat) (whn : Nat), s.memberSlot a b = some c ∧ s.rd (R.cs_CL_STATE c) = 1 ∧ s.testClause c ≠ 0 :=
  ⟨(running [(R.bk_BANK_STATE 0,4),(R.cs_CL_STATE 9,1),(R.cs_CL_SESSION 9,0xFFFF),(R.cs_CL_TENANT 9,0)]).setClause 9 { Clause.init with locks := [⟨.channel, 5, 3⟩], staged := [(⟨.channel, 5, 3⟩, .num 7)], chain := some ⟨2,7,[],0,false,0,none,0⟩ }, 2, 7, 9, 55,
    by decide +kernel⟩

theorem hyps_ChainMembers_13 : ∃ (s : State) (a : Nat) (b : Nat) (c : Nat) (whn : Nat), s.memberSlot a b = some c ∧ s.rd (R.cs_CL_STATE c) ≠ 1 :=
  ⟨(running [(R.cs_CL_STATE 9,4),(R.cs_CL_SESSION 9,0xFFFF)]).setClause 9 { Clause.init with chain := some ⟨2,7,[],0,false,0,none,0⟩ }, 2, 7, 9, 55,
    by decide +kernel⟩

theorem hyps_ChainMembers_14 : ∃ (s : State) (a : Nat) (b : Nat) (c : Nat), s.memberSlot a b = some c ∧ s.rd (R.cs_CL_STATE c) ≠ 4 :=
  ⟨(running [(R.cs_CL_STATE 9,1),(R.cs_CL_SESSION 9,0xFFFF)]).setClause 9 { Clause.init with chain := some ⟨2,7,[],0,false,0,none,0⟩ }, 2, 7, 9,
    by decide +kernel⟩

theorem hyps_ChainMembers_15 : ∃ (s : State) (a : Nat) (b : Nat) (c : Nat), s.memberSlot a b = some c ∧ s.rd (R.cs_CL_STATE c) = 4 ∧ t64Diff (s.rd (R.cs_WHEN c)) s.time.ticks ≤ 1000000 * ticksPerNs :=
  ⟨(running [(R.lx_CHAIN_ADDR,4),(R.cs_CL_STATE 9,4),(R.cs_WHEN 9,t64OfTicks 123456789012345679),(R.cs_CL_SESSION 9,0xFFFF)]).setClause 9 { Clause.init with chain := some ⟨2,7,[],0,false,0,none,0⟩ }, 2, 7, 9,
    by decide +kernel⟩

theorem hyps_ChainMembers_16 : ∃ (s : State) (a : Nat) (b : Nat) (c : Nat), s.memberSlot a b = some c :=
  ⟨(running [(R.cs_CL_STATE 9,3),(R.cs_CL_SESSION 9,0xFFFF)]).setClause 9 { Clause.init with chain := some ⟨2,7,[],0,false,0,none,0⟩ }, 2, 7, 9,
    by decide +kernel⟩

theorem hyps_ChainCoordinator_1 : ∃ (s : State) (c : Nat) (m : Nat) (k : Chain), 1 ≤ c ∧ c ≤ 64 ∧ (s.clause c).chain = some k ∧ s.rd (R.cs_CL_SESSION c) < 64 ∧ s.rd (R.cs_CL_STATE c) = 3 ∧ k.backoff = false ∧ k.members = [(m, .waiting)] ∧ s.held = [] ∧ (∀ x ∈ State.clauseIds, (s.clause x).waitItems = []) :=
  ⟨(running [(R.lx_CHAIN_ADDR,2),(R.cs_CL_STATE 9,3),(R.cs_CL_SESSION 9,3),(R.cs_LEASE_END 9,88)]).setClause 9 { Clause.init with chain := some ⟨2,9,[(5,.waiting)],0,false,77,none,0⟩ }, 9, 5, ⟨2,9,[(5,.waiting)],0,false,77,none,0⟩,
    by decide +kernel⟩

theorem hyps_ChainCoordinator_2 : ∃ (s : State) (c : Nat) (m : Nat) (k : Chain), (s.clause c).chain = some k ∧ s.rd (R.cs_CL_SESSION c) ≠ 0xFFFF ∧ s.rd (R.cs_CL_STATE c) = 3 ∧ k.backoff = false ∧ k.members = [(m, .waiting)] ∧ m ≠ s.rd R.lx_CHAIN_ADDR ∧ s.rd (R.cs_CL_RETRIES c) < 8 ∧ s.held = [] ∧ ((∀ x ∈ State.clauseIds, x ≠ c → (s.clause x).waitItems = [])) :=
  ⟨(running [(R.lx_CHAIN_ADDR,2),(R.cs_CL_STATE 9,3),(R.cs_CL_SESSION 9,3),(R.cs_LOCKS 9,1)]).setClause 9 { Clause.init with locks := [R.tm_LOCK_WINDOW], chain := some ⟨2,9,[(5,.waiting)],0,false,77,none,0⟩ }, 9, 5, ⟨2,9,[(5,.waiting)],0,false,77,none,0⟩,
    by decide +kernel⟩

theorem hyps_ChainCoordinator_3 : ∃ (s : State) (c : Nat) (m : Nat) (k : Chain), (s.clause c).chain = some k ∧ k.backoff = true ∧ k.members = [(m, .waiting)] ∧ edgesPerSec ≤ 1000 * (s.time.edge - k.since) ∧ m ≠ s.rd R.lx_CHAIN_ADDR ∧ s.held = [] ∧ (∀ x ∈ State.clauseIds, (s.clause x).waitItems = []) :=
  ⟨(runningLate [(R.lx_CHAIN_ADDR,2),(R.cs_CL_STATE 9,3),(R.cs_CL_SESSION 9,3)]).setClause 9 { Clause.init with chain := some ⟨2,9,[(5,.waiting)],0,true,77,none,0⟩ }, 9, 5, ⟨2,9,[(5,.waiting)],0,true,77,none,0⟩,
    by decide +kernel⟩

theorem hyps_ChainCoordinator_4 : ∃ (s : State) (c : Nat) (m : Nat) (x : Nat) (k : Chain), (s.clause c).chain = some k ∧ s.rd (R.cs_CL_SESSION c) < 64 ∧ (s.clause c).waitItems ≠ [] ∧ x ∈ s.holders c (s.clause c).waitItems ∧ (s.clause x).chain = none ∧ k.members = [(m, .locked), (s.rd R.lx_CHAIN_ADDR, .waiting)] ∧ m ≠ s.rd R.lx_CHAIN_ADDR ∧ edgesPerSec ≤ 10 * (s.time.edge - (s.clause c).waitSince) ∧ s.held = [] ∧ ((∀ y ∈ State.clauseIds, y ≠ c → (s.clause y).waitItems = [])) :=
  ⟨((runningLate [(R.lx_CHAIN_ADDR,2),(R.cs_CL_STATE 9,3),(R.cs_CL_STATE 4,1),(R.cs_CL_SESSION 9,3)]).setClause 9 { Clause.init with waitItems := [R.tm_LOCK_WINDOW], chain := some ⟨2,9,[(5,.locked),(2,.waiting)],0,false,77,none,0⟩ }).setClause 4 { Clause.init with locks := [R.tm_LOCK_WINDOW] }, 9, 5, 4, ⟨2,9,[(5,.locked),(2,.waiting)],0,false,77,none,0⟩,
    by decide +kernel⟩

theorem hyps_ChainCoordinator_5 : ∃ (s : State) (c : Nat) (m : Nat) (k : Chain), (s.clause c).chain = some k ∧ s.rd (R.cs_CL_SESSION c) < 64 ∧ s.rd (R.cs_CL_STATE c) = 4 ∧ k.members = [(m, .locked)] ∧ m ≠ s.rd R.lx_CHAIN_ADDR ∧ (∀ j ∈ State.clauseIds, (s.clause j).waitItems = []) ∧ edgesPerSec ≤ 10 * (s.time.edge - k.since) ∧ s.held = [] :=
  ⟨(runningLate [(R.lx_CHAIN_ADDR,2),(R.cs_CL_STATE 9,4),(R.cs_CL_SESSION 9,3)]).setClause 9 { Clause.init with chain := some ⟨2,9,[(5,.locked)],0,false,77,none,0⟩ }, 9, 5, ⟨2,9,[(5,.locked)],0,false,77,none,0⟩,
    by decide +kernel⟩

theorem hyps_ChainCoordinator_6 : ∃ (s : State) (c : Nat) (m : Nat) (k : Chain), (s.clause c).chain = some k ∧ s.rd (R.cs_CL_SESSION c) < 64 ∧ s.rd (R.cs_CL_STATE c) = 4 ∧ k.members = [(m, .locked)] ∧ m ≠ s.rd R.lx_CHAIN_ADDR ∧ t64Diff k.whn s.time.ticks ≤ 2000000 * ticksPerNs ∧ (∀ j ∈ State.clauseIds, (s.clause j).waitItems = []) ∧ s.held = [] :=
  ⟨(running [(R.lx_CHAIN_ADDR,2),(R.cs_CL_STATE 9,4),(R.cs_CL_SESSION 9,3)]).setClause 9 { Clause.init with chain := some ⟨2,9,[(5,.locked)],t64OfTicks 123456789012345679,false,77,none,0⟩ }, 9, 5, ⟨2,9,[(5,.locked)],t64OfTicks 123456789012345679,false,77,none,0⟩,
    by decide +kernel⟩

theorem hyps_ChainCoordinator_7 : ∃ (s : State) (c : Nat) (m : Nat) (k : Chain), (s.clause c).chain = some k ∧ s.rd (R.cs_CL_SESSION c) ≠ 0xFFFF ∧ s.rd (R.cs_CL_STATE c) = 4 ∧ k.backoff = false ∧ k.members = [(m, .locked)] ∧ m ≠ s.rd R.lx_CHAIN_ADDR ∧ 2000000 * ticksPerNs ≤ t64Diff k.whn s.time.ticks ∧ s.held = [] :=
  ⟨(running [(R.lx_CHAIN_ADDR,2),(R.cs_CL_STATE 9,4),(R.cs_CL_SESSION 9,3)]).setClause 9 { Clause.init with chain := some ⟨2,9,[(5,.locked)],t64OfTicks (123456789012345679 + 2000000 * ticksPerNs),false,77,none,0⟩ }, 9, 5, ⟨2,9,[(5,.locked)],t64OfTicks (123456789012345679 + 2000000 * ticksPerNs),false,77,none,0⟩,
    by decide +kernel⟩

theorem hyps_ChainCoordinator_8 : ∃ (s : State) (c : Nat) (m : Nat) (k : Chain), (s.clause c).chain = some k ∧ s.rd (R.cs_CL_SESSION c) < 64 ∧ s.rd (R.cs_CL_STATE c) = 2 ∧ k.backoff = false ∧ k.members = [(m, .admitted)] ∧ s.held = [] :=
  ⟨(running [(R.lx_CHAIN_ADDR,2),(R.cs_CL_STATE 9,2),(R.cs_CL_SESSION 9,3)]).setClause 9 { Clause.init with chain := some ⟨2,9,[(5,.admitted)],t64OfTicks (123456789012345679 + 2000000 * ticksPerNs),false,77,none,0⟩ }, 9, 5, ⟨2,9,[(5,.admitted)],t64OfTicks (123456789012345679 + 2000000 * ticksPerNs),false,77,none,0⟩,
    by decide +kernel⟩

theorem hyps_ChainCoordinator_9 : ∃ (s : State) (c : Nat) (m : Nat) (k : Chain), (s.clause c).chain = some k ∧ s.rd (R.cs_CL_SESSION c) ≠ 0xFFFF ∧ s.rd (R.cs_CL_STATE c) = 3 ∧ k.backoff = false ∧ k.members.find? (fun e => e.1 == m) = some (m, .waiting) :=
  ⟨(running [(R.lx_CHAIN_ADDR,2),(R.cs_CL_STATE 9,3),(R.cs_CL_SESSION 9,3)]).setClause 9 { Clause.init with chain := some ⟨2,9,[(5,.waiting),(7,.waiting)],0,false,77,none,0⟩ }, 9, 5, ⟨2,9,[(5,.waiting),(7,.waiting)],0,false,77,none,0⟩,
    by decide +kernel⟩

theorem hyps_ChainCoordinator_10 : ∃ (s : State) (c : Nat) (m : Nat) (k : Chain) (st : MemberSt), (s.clause c).chain = some k ∧ s.rd (R.cs_CL_SESSION c) ≠ 0xFFFF ∧ s.rd (R.cs_CL_STATE c) = 3 ∧ k.backoff = false ∧ k.members.find? (fun e => e.1 == m) = some (m, st) ∧ (st = .waiting ∨ st = .locked) :=
  ⟨(running [(R.lx_CHAIN_ADDR,2),(R.cs_CL_STATE 9,3),(R.cs_CL_SESSION 9,3),(R.cs_CL_RETRIES 9,8)]).setClause 9 { Clause.init with chain := some ⟨2,9,[(5,.locked),(7,.waiting)],0,false,77,none,0⟩ }, 9, 5, ⟨2,9,[(5,.locked),(7,.waiting)],0,false,77,none,0⟩, .locked,
    by decide +kernel⟩

theorem hyps_ChainCoordinator_11 : ∃ (s : State) (c : Nat) (m : Nat) (code : Nat) (k : Chain) (st : MemberSt), (s.clause c).chain = some k ∧ s.rd (R.cs_CL_SESSION c) ≠ 0xFFFF ∧ s.rd (R.cs_CL_STATE c) = 3 ∧ k.backoff = false ∧ k.members.find? (fun e => e.1 == m) = some (m, st) ∧ (st = .waiting ∨ st = .locked) ∧ code ≠ 0 ∧ code ≠ 0x5001 :=
  ⟨(running [(R.lx_CHAIN_ADDR,2),(R.cs_CL_STATE 9,3),(R.cs_CL_SESSION 9,3)]).setClause 9 { Clause.init with chain := some ⟨2,9,[(5,.waiting),(7,.waiting)],0,false,77,none,0⟩ }, 9, 5, 0x2001, ⟨2,9,[(5,.waiting),(7,.waiting)],0,false,77,none,0⟩, .waiting,
    by decide +kernel⟩

theorem hyps_ChainCoordinator_12 : ∃ (s : State) (c : Nat) (m : Nat) (k : Chain), (s.clause c).chain = some k ∧ s.rd (R.cs_CL_SESSION c) ≠ 0xFFFF ∧ s.rd (R.cs_CL_STATE c) = 4 ∧ k.backoff = false ∧ k.members.find? (fun e => e.1 == m) = some (m, .locked) :=
  ⟨(running [(R.lx_CHAIN_ADDR,2),(R.cs_CL_STATE 9,4),(R.cs_CL_SESSION 9,3)]).setClause 9 { Clause.init with chain := some ⟨2,9,[(2,.admitted),(5,.locked),(7,.locked)],t64OfTicks (123456789012345679 + 20000000 * ticksPerNs),false,77,none,0⟩ }, 9, 5, ⟨2,9,[(2,.admitted),(5,.locked),(7,.locked)],t64OfTicks (123456789012345679 + 20000000 * ticksPerNs),false,77,none,0⟩,
    by decide +kernel⟩

theorem hyps_ChainCoordinator_13 : ∃ (s : State) (c : Nat) (m : Nat) (code : Nat) (k : Chain), (s.clause c).chain = some k ∧ s.rd (R.cs_CL_SESSION c) ≠ 0xFFFF ∧ s.rd (R.cs_CL_STATE c) = 4 ∧ k.backoff = false ∧ k.members.find? (fun e => e.1 == m) = some (m, .locked) ∧ code ≠ 0 :=
  ⟨(running [(R.lx_CHAIN_ADDR,2),(R.cs_CL_STATE 9,4),(R.cs_CL_SESSION 9,3)]).setClause 9 { Clause.init with chain := some ⟨2,9,[(2,.admitted),(5,.locked),(7,.locked)],0,false,77,none,0⟩ }, 9, 5, 0x4010, ⟨2,9,[(2,.admitted),(5,.locked),(7,.locked)],0,false,77,none,0⟩,
    by decide +kernel⟩

theorem hyps_ChainCoordinator_14 : ∃ (s : State) (c : Nat) (m : Nat) (code : Nat) (k : Chain), (s.clause c).chain = some k ∧ s.rd (R.cs_CL_SESSION c) ≠ 0xFFFF ∧ s.rd (R.cs_CL_STATE c) = 2 ∧ k.backoff = false ∧ k.members.find? (fun e => e.1 == m) = some (m, .admitted) ∧ code ≠ 0 :=
  ⟨(running [(R.lx_CHAIN_ADDR,2),(R.cs_CL_STATE 9,2),(R.cs_CL_SESSION 9,3)]).setClause 9 { Clause.init with chain := some ⟨2,9,[(2,.confirmed),(5,.admitted),(7,.gone)],0,false,77,none,0⟩ }, 9, 5, 0x3121, ⟨2,9,[(2,.confirmed),(5,.admitted),(7,.gone)],0,false,77,none,0⟩,
    by decide +kernel⟩

theorem hyps_ChainCoordinator_15 : ∃ (s : State) (c : Nat) (m : Nat) (k : Chain), (s.clause c).chain = some k ∧ s.rd (R.cs_CL_SESSION c) ≠ 0xFFFF ∧ s.rd (R.cs_CL_STATE c) = 2 ∧ k.backoff = false ∧ k.members.find? (fun e => e.1 == m) = some (m, .admitted) ∧ (∃ e ∈ k.members, e.1 ≠ m ∧ e.2 ≠ .confirmed) :=
  ⟨(running [(R.lx_CHAIN_ADDR,2),(R.cs_CL_STATE 9,2),(R.cs_CL_SESSION 9,3)]).setClause 9 { Clause.init with chain := some ⟨2,9,[(2,.confirmed),(5,.admitted),(7,.admitted)],0,false,77,none,0⟩ }, 9, 5, ⟨2,9,[(2,.confirmed),(5,.admitted),(7,.admitted)],0,false,77,none,0⟩,
    by decide +kernel⟩

theorem hyps_ChainCoordinator_17 : ∃ (s : State) (c : Nat) (k : Chain), (s.clause c).chain = some k ∧ k.backoff = true ∧ edgesPerSec ≤ 1000 * (s.time.edge - k.since) :=
  ⟨(runningLate [(R.lx_CHAIN_ADDR,2),(R.cs_CL_STATE 9,3),(R.cs_CL_SESSION 9,3)]).setClause 9 { Clause.init with chain := some ⟨2,9,[(5,.waiting),(7,.waiting)],0,true,77,none,0⟩ }, 9, ⟨2,9,[(5,.waiting),(7,.waiting)],0,true,77,none,0⟩,
    by decide +kernel⟩

theorem hyps_ChainCoordinator_18 : ∃ (s : State) (c : Nat) (x : Nat), (s.clause c).waitItems ≠ [] ∧ x ∈ s.holders c (s.clause c).waitItems ∧ (s.clause x).chain = none ∧ s.coordinates c = true ∧ edgesPerSec ≤ 10 * (s.time.edge - (s.clause c).waitSince) :=
  ⟨((runningLate [(R.lx_CHAIN_ADDR,2),(R.cs_CL_STATE 9,3),(R.cs_CL_STATE 4,1),(R.cs_CL_SESSION 9,3)]).setClause 9 { Clause.init with waitItems := [R.tm_LOCK_WINDOW], chain := some ⟨2,9,[(5,.locked),(2,.waiting)],0,false,77,none,0⟩ }).setClause 4 { Clause.init with locks := [R.tm_LOCK_WINDOW] }, 9, 4,
    by decide +kernel⟩

theorem hyps_ChainCoordinator_19 : ∃ (s : State) (c : Nat) (x : Nat) (k : Chain), (s.clause c).waitItems ≠ [] ∧ x ∈ s.holders c (s.clause c).waitItems ∧ (s.clause x).chain = none ∧ (s.clause c).chain = some k ∧ s.rd (R.cs_CL_SESSION c) = 0xFFFF ∧ edgesPerSec ≤ 10 * (s.time.edge - (s.clause c).waitSince) :=
  ⟨((runningLate [(R.lx_CHAIN_ADDR,2),(R.cs_CL_STATE 9,3),(R.cs_CL_STATE 4,1),(R.cs_CL_SESSION 9,0xFFFF)]).setClause 9 { Clause.init with waitItems := [R.tm_LOCK_WINDOW], chain := some ⟨3,9,[],0,false,0,none,0⟩ }).setClause 4 { Clause.init with locks := [R.tm_LOCK_WINDOW] }, 9, 4, ⟨3,9,[],0,false,0,none,0⟩,
    by decide +kernel⟩

theorem hyps_ChainCoordinator_20 : ∃ (s : State) (c : Nat) (m : Nat) (k : Chain), (s.clause c).chain = some k ∧ s.rd (R.cs_CL_SESSION c) ≠ 0xFFFF ∧ s.rd (R.cs_CL_STATE c) = 4 ∧ k.members.find? (fun e => e.1 == m) = some (m, .locked) ∧ edgesPerSec ≤ 10 * (s.time.edge - k.since) :=
  ⟨(runningLate [(R.lx_CHAIN_ADDR,2),(R.cs_CL_STATE 9,4),(R.cs_CL_SESSION 9,3)]).setClause 9 { Clause.init with chain := some ⟨2,9,[(2,.admitted),(5,.locked),(7,.locked)],0,false,77,none,0⟩ }, 9, 5, ⟨2,9,[(2,.admitted),(5,.locked),(7,.locked)],0,false,77,none,0⟩,
    by decide +kernel⟩

theorem hyps_ChainCoordinator_21 : ∃ (s : State) (c : Nat) (m : Nat) (k : Chain), (s.clause c).chain = some k ∧ s.rd (R.cs_CL_SESSION c) ≠ 0xFFFF ∧ s.rd (R.cs_CL_STATE c) = 2 ∧ k.members.find? (fun e => e.1 == m) = some (m, .admitted) ∧ edgesPerSec ≤ 10 * (s.time.edge - k.since) :=
  ⟨(runningLate [(R.lx_CHAIN_ADDR,2),(R.cs_CL_STATE 9,2),(R.cs_CL_SESSION 9,3)]).setClause 9 { Clause.init with chain := some ⟨2,9,[(2,.confirmed),(5,.admitted),(7,.admitted)],0,false,77,none,0⟩ }, 9, 5, ⟨2,9,[(2,.confirmed),(5,.admitted),(7,.admitted)],0,false,77,none,0⟩,
    by decide +kernel⟩

theorem hyps_ChainCoordinator_22 : ∃ (s : State) (c : Nat) (k : Chain), (s.clause c).chain = some k ∧ s.rd (R.cs_CL_SESSION c) ≠ 0xFFFF ∧ s.rd (R.cs_CL_STATE c) = 4 ∧ t64Diff k.whn s.time.ticks ≤ 2000000 * ticksPerNs :=
  ⟨(running [(R.lx_CHAIN_ADDR,2),(R.cs_CL_STATE 9,4),(R.cs_CL_SESSION 9,3)]).setClause 9 { Clause.init with chain := some ⟨2,9,[(2,.admitted),(5,.admitted),(7,.locked)],t64OfTicks 123456789012345679,false,77,none,0⟩ }, 9, ⟨2,9,[(2,.admitted),(5,.admitted),(7,.locked)],t64OfTicks 123456789012345679,false,77,none,0⟩,
    by decide +kernel⟩

theorem hyps_Aborts_1 : ∃ (s : State) (h : Hdr) (n : Nat), OwnerAsks s h 0x0B ∧ n < s.part.channels ∧ s.rd (R.pu_CAP_ENABLE n) ≠ 0 ∧ s.rd (R.pu_ARM_STATE n) = 2 :=
  ⟨running [(R.pu_CAP_ENABLE 895,1),(R.pu_ARM_STATE 895,2)], ownHdr, 895,
    asks_of _ _ _ (by decide +kernel), by decide +kernel⟩

theorem hyps_Aborts_2 : ∃ (s : State) (h : Hdr) (p : Nat), OwnerAsks s h 0x0B ∧ p < 4096 ∧ s.rd (R.pa_ENABLE p) ≠ 0 ∧ (s.path p).live = true ∧ (s.path p).closed = true ∧ (s.chan (s.path p).fr.source).streamOpen = false ∧ (s.chan (s.path p).fr.source).tailWords = [] ∧ s.newestCopy = none ∧ s.lives p = [] :=
  ⟨(running [(R.pa_ENABLE 4095,1),(R.pa_PATH_STATE 4095,1)]).setPath 4095 { Path.init with live := true, closed := true, notBefore := 5, fr := ⟨4,7,1,3⟩ }, ownHdr, 4095,
    asks_of _ _ _ (by decide +kernel), by decide +kernel⟩

theorem hyps_Aborts_3 : ∃ (s : State) (h : Hdr) (p : Nat) (c : Copy), OwnerAsks s h 0x0B ∧ p < 4096 ∧ s.rd (R.pa_ENABLE p) ≠ 0 ∧ (s.path p).live = true ∧ (s.path p).closed = true ∧ (s.chan (s.path p).fr.source).streamOpen = false ∧ (s.chan (s.path p).fr.source).tailWords = [] ∧ s.newestCopy = some c :=
  ⟨{ ((running [(R.pa_ENABLE 4095,1),(R.pa_PATH_STATE 4095,1)]).setPath 4095 { Path.init with live := true, closed := true, fr := ⟨4,7,1,3⟩ }) with mram := { ((running [(R.pa_ENABLE 4095,1),(R.pa_PATH_STATE 4095,1)]).setPath 4095 { Path.init with live := true, closed := true, fr := ⟨4,7,1,3⟩ }).mram with copyB := ⟨6, true, [(R.pa_ENABLE 4095,1)], []⟩ } }, ownHdr, 4095, ⟨6, true, [(R.pa_ENABLE 4095,1)], []⟩,
    asks_of _ _ _ (by decide +kernel), by decide +kernel⟩

theorem hyps_Aborts_4 : ∃ (s : State) (h : Hdr), OwnerAsks s h 0x0B ∧ s.newestCopy = none ∧ ((∀ p ∈ s.enabledPaths, s.rd (R.pa_TENANT p) = 0 → (s.path p).live = false ∧ s.lives p = [] ∧ (s.chan (s.path p).fr.source).streamOpen = false ∧ (s.chan (s.path p).fr.source).tailWords = [])) :=
  ⟨running [(R.pa_ENABLE 4095,1),(R.pa_TENANT 4095,0),(R.pa_PATH_STATE 4095,6),(R.pa_ENABLE 5,1),(R.pa_TENANT 5,7)], ownHdr,
    asks_of _ _ _ (by decide +kernel), by decide +kernel⟩

theorem hyps_Aborts_5 : ∃ (s : State) (h : Hdr) (j : Nat), OwnerAsks s h 0x0B ∧ s.part.frit = true ∧ j < 32 ∧ s.rd (R.fj_JOB_STATE j) = 1 ∧ (s.job j).submitEdge ≠ some s.time.edge :=
  ⟨running [(R.fj_JOB_STATE 31,1)], ownHdr, 31,
    asks_of _ _ _ (by decide +kernel), by decide +kernel⟩

theorem hyps_Aborts_6 : ∃ (s : State) (h : Hdr) (x : Nat), OwnerAsks s h 0x0B ∧ (∀ y ∈ (s.session h.session).xfers, y.reg.grp ≠ .fw ∧ y.reg.grp ≠ .ampProg) :=
  ⟨(running []).setSession 3 { Session.init with xfers := [⟨[6], R.dw_WIN_DATA, 0, [1,2,3], true, 0⟩, ⟨[6], R.pa_FIR_COEF 4, 9, [1,2,3], false, 0⟩] }, ownHdr, 6,
    asks_of _ _ _ (by decide +kernel), by decide +kernel⟩

theorem hyps_Aborts_7 : ∃ (s : State) (h : Hdr) (x : Nat), OwnerAsks s h 0x0B ∧ (∀ y ∈ (s.session h.session).xfers, y.reg.grp ≠ .fw ∧ y.reg.grp ≠ .ampProg) :=
  ⟨(running []).setSession 3 { Session.init with xfers := [⟨[6], R.dw_WIN_DATA, 0, [1,2,3], true, 0⟩, ⟨[6], R.pa_FIR_COEF 4, 9, [1,2,3], false, 0⟩] }, ownHdr, 6,
    asks_of _ _ _ (by decide +kernel), by decide +kernel⟩

theorem hyps_Aborts_8 : ∃ (s : State) (h : Hdr) (c : Nat), OwnerAsks s h 0x0B ∧ 1 ≤ c ∧ c ≤ 64 ∧ (s.rd (R.cs_CL_STATE c) = 1 ∨ s.rd (R.cs_CL_STATE c) = 2) ∧ (s.clause c).chain = none ∧ (∀ k ∈ State.clauseIds, (s.clause k).waitItems = []) :=
  ⟨(running [(R.cs_CL_STATE 64,2),(R.cs_CL_TENANT 64,5),(R.cs_CL_SESSION 64,9)]).setClause 64 { Clause.init with locks := [R.tm_LOCK_WINDOW] }, ownHdr, 64,
    asks_of _ _ _ (by decide +kernel), by decide +kernel⟩

theorem hyps_Aborts_9 : ∃ (s : State) (h : Hdr), OwnerAsks s h 0x0B ∧ s.capChannels = [] ∧ s.enabledPaths = [] ∧ s.livePathList = [] ∧ ((∀ n, n < s.part.channels → (s.chan n).tdrPending = false ∧ bitAt (s.rd (R.ch_CH_STATUS n)) 6 = false)) ∧ ((∀ j, j < 32 → s.rd (R.fj_JOB_STATE j) = 0)) ∧ (∀ c ∈ State.clauseIds, s.rd (R.cs_CL_STATE c) = 0) ∧ (∀ e ∈ s.sessions, ∀ y ∈ e.2.xfers, y.reg.grp ≠ .fw ∧ y.reg.grp ≠ .ampProg) :=
  ⟨(running []).setSession 9 { Session.init with xfers := [⟨[6], R.dw_WIN_DATA, 0, [1,2,3], true, 0⟩] }, ownHdr,
    asks_of _ _ _ (by decide +kernel), by decide +kernel⟩

theorem hyps_Aborts_10 : ∃ (s : State) (v : State) (h : Hdr) (n : Nat), OwnerAsks s h 0x0B ∧ v = (s.touch h.session).closeCapture n 1 ∧ n < s.part.channels :=
  ⟨running [(R.pu_CAP_ENABLE 895,1),(R.pu_ARM_STATE 895,3)], _, ownHdr, 895,
    asks_of _ _ _ (by decide +kernel), rfl, by decide +kernel⟩

theorem hyps_Aborts_11 : ∃ (s : State) (v : State) (h : Hdr) (n : Nat), OwnerAsks s h 0x0B ∧ v = (s.touch h.session).abortOneTdr n ∧ n < s.part.channels :=
  ⟨running [(R.ch_CH_STATUS 895,64)], _, ownHdr, 895,
    asks_of _ _ _ (by decide +kernel), rfl, by decide +kernel⟩

theorem hyps_Aborts_12 : ∃ (s : State) (v : State) (h : Hdr) (p : Nat), OwnerAsks s h 0x0B ∧ v = ((s.touch h.session).abortPath p).commitEntry (R.pa_ENABLE p) 0 ∧ p < 4096 ∧ (s.rd (R.pa_ENABLE p) ≠ 0 ∨ (s.path p).live = true) :=
  ⟨(running [(R.pa_ENABLE 4095,1),(R.pa_PATH_STATE 4095,1)]).setPath 4095 { Path.init with live := true, words := [5], fr := ⟨4,7,1,3⟩ }, _, ownHdr, 4095,
    asks_of _ _ _ (by decide +kernel), rfl, by decide +kernel⟩

theorem hyps_Aborts_13 : ∃ (s : State) (v : State) (h : Hdr), OwnerAsks s h 0x0B ∧ v = (s.touch h.session).each ((s.touch h.session).enabledPaths.filter fun p => (s.touch h.session).rd (R.pa_TENANT p) == 0) State.abortOnePath :=
  ⟨(running [(R.pa_ENABLE 4095,1),(R.pa_TENANT 4095,0),(R.pa_PATH_STATE 4095,1)]).setPath 4095 { Path.init with live := true, words := [5], fr := ⟨4,7,1,3⟩ }, _, ownHdr,
    asks_of _ _ _ (by decide +kernel), rfl⟩

theorem hyps_Aborts_14 : ∃ (s : State) (v : State) (h : Hdr) (j : Nat), OwnerAsks s h 0x0B ∧ v = (s.touch h.session).abortJob j ∧ s.part.frit = true ∧ j < 32 :=
  ⟨running [(R.fj_JOB_STATE 31,2)], _, ownHdr, 31,
    asks_of _ _ _ (by decide +kernel), rfl, by decide +kernel⟩

theorem hyps_Aborts_15 : ∃ (s : State) (v : State) (h : Hdr) (x : Nat), OwnerAsks s h 0x0B ∧ v = (s.touch h.session).endXfers h.session (fun y => y.window && y.tags.contains x) :=
  ⟨(running []).setSession 3 { Session.init with xfers := [⟨[6], R.dw_WIN_DATA, 0, [1,2,3], true, 0⟩] }, _, ownHdr, 6,
    asks_of _ _ _ (by decide +kernel), rfl⟩

theorem hyps_Aborts_16 : ∃ (s : State) (v : State) (h : Hdr) (x : Nat), OwnerAsks s h 0x0B ∧ v = (s.touch h.session).endXfers h.session (fun y => !y.window && y.tags.contains x) :=
  ⟨(running [(R.fw_FW_STATE,1)]).setSession 3 { Session.init with xfers := [⟨[6], R.fw_FW_IMAGE, 0, [1,2,3], false, 0⟩] }, _, ownHdr, 6,
    asks_of _ _ _ (by decide +kernel), rfl⟩

theorem hyps_Aborts_17 : ∃ (s : State) (v : State) (h : Hdr) (c : Nat), OwnerAsks s h 0x0B ∧ v = (s.touch h.session).withdraw c 0x3124 ∧ 1 ≤ c ∧ c ≤ 64 ∧ s.rd (R.cs_CL_STATE c) ≠ 0 :=
  ⟨(running [(R.lx_CHAIN_ADDR,2),(R.cs_CL_STATE 64,4),(R.cs_CL_TENANT 64,5),(R.cs_CL_SESSION 64,9)]).setClause 64 { Clause.init with chain := some ⟨2,64,[(2,.admitted),(5,.locked)],0,false,77,none,0⟩ }, _, ownHdr, 64,
    asks_of _ _ _ (by decide +kernel), rfl, by decide +kernel⟩

theorem hyps_Aborts_18 : ∃ (s : State) (v : State) (h : Hdr), OwnerAsks s h 0x0B ∧ v = (s.touch h.session).abortEverything ⟨h.session, some 0, h.tag, none⟩ :=
  ⟨((running [(R.pu_CAP_ENABLE 895,1),(R.pu_ARM_STATE 895,3),(R.cs_CL_STATE 9,1)]).setClause 9 { Clause.init with locks := [R.tm_LOCK_WINDOW] }).setSession 9 { Session.init with xfers := [⟨[6], R.dw_WIN_DATA, 0, [1,2,3], true, 0⟩] }, _, ownHdr,
    asks_of _ _ _ (by decide +kernel), rfl⟩

theorem hyps_Sessions_1 : ∃ (s : State) (k : Nat) (x : Nat) (u : Nat), s.mode.coresRun = true ∧ s.freeSession = some x ∧ u < 1024 ∧ s.rd (R.te_ENABLE u) ≠ 0 ∧ s.rd (R.te_CERT_KEY u) = k ∧ k ≠ 0 ∧ ((∀ v, v < u → s.rd (R.te_ENABLE v) = 0 ∨ s.rd (R.te_CERT_KEY v) ≠ k)) :=
  ⟨running [(R.te_ENABLE 1023,1),(R.te_CERT_KEY 1023,77),(R.te_CERT_KEY 2,77)], 77, 0, 1023,
    by decide +kernel⟩

theorem hyps_Sessions_2 : ∃ (s : State) (k : Nat) (x : Nat), s.mode.coresRun = true ∧ s.freeSession = some x ∧ ((∀ v, v < 1024 → s.rd (R.te_ENABLE v) = 0 ∨ s.rd (R.te_CERT_KEY v) ≠ k)) :=
  ⟨running [(R.te_ENABLE 1023,1),(R.te_CERT_KEY 2,77)], 77, 0,
    by decide +kernel⟩

theorem hyps_Sessions_3 : ∃ (s : State) (k : Nat), s.mode.coresRun = true ∧ s.freeSession = none :=
  ⟨running ((List.range 64).map fun i => (R.se_S_TRANSPORT i, 1)), 77,
    by decide +kernel⟩

theorem hyps_Sessions_5 : ∃ (s : State) (n : Nat) (d : List Byte) (e : List Byte), s.canIn = some (n, d) :=
  ⟨(running []).putCanIn (some (63, [1,2])), 63, [1,2], [3],
    by decide +kernel⟩

theorem hyps_Sessions_6 : ∃ (s : State) (n : Nat) (m : Nat) (d : List Byte) (e : List Byte) (l : Bool), s.canIn = some (n, d) ∧ m ≠ n :=
  ⟨(running []).putCanIn (some (63, [1,2])), 63, 62, [1,2], [3], true,
    by decide +kernel⟩

theorem hyps_Sessions_7 : ∃ (s : State) (n : Nat) (x : Nat) (tag : Nat), s.mode.coresRun = true ∧ s.mode.base ≠ .boot ∧ ((List.range 64).find? fun y => s.rd (R.se_S_TRANSPORT y) == 2) = some x ∧ tag < 65536 ∧ (s.session x).store.find? (fun e => e.typ == 0x01 && e.tag == tag) = none ∧ s.part.fronts ≤ 7 ∧ s.held = [] ∧ s.awaits x = false :=
  ⟨running [(R.se_S_TRANSPORT 2,2),(R.tm_TIME_STATE,3)], 5, 2, 65535,
    by decide +kernel⟩

theorem hyps_Sessions_8 : ∃ (s : State) (x : Nat), ((List.range 64).find? fun y => s.rd (R.se_S_TRANSPORT y) == 2) = some x ∧ (∀ c ∈ State.clauseIds, s.rd (R.cs_CL_SESSION c) ≠ x) ∧ (∀ e ∈ s.queues, e.2.subscriber ≠ some x) ∧ s.held = [] :=
  ⟨(running [(R.se_S_TRANSPORT 2,2),(R.se_S_TENANT 2,0),(R.se_S_LAST_RX 2,8)]).putForwarded [⟨2,5,1,7,0⟩,⟨3,5,1,7,0⟩], 2,
    by decide +kernel⟩

theorem hyps_Sessions_9 : ∃ (s : State) (x : Nat) (c : Nat), x < 64 ∧ s.rd (R.se_S_TRANSPORT x) = 1 ∧ c ∈ State.clauseIds ∧ s.rd (R.cs_CL_SESSION c) = x ∧ s.rd (R.cs_CL_STATE c) = 1 ∧ ((∀ k ∈ State.clauseIds, k ≠ c → s.rd (R.cs_CL_SESSION k) ≠ x)) ∧ (s.clause c).chain = none ∧ (∀ k ∈ State.clauseIds, (s.clause k).waitItems = []) ∧ (∀ e ∈ s.queues, e.2.subscriber ≠ some x) ∧ s.held = [] :=
  ⟨(running [(R.cs_CL_STATE 64,1),(R.cs_CL_TENANT 64,0),(R.cs_CL_SESSION 64,3)]).setClause 64 { Clause.init with locks := [R.tm_LOCK_WINDOW] }, 3, 64,
    by decide +kernel⟩

theorem hyps_Sessions_10 : ∃ (s : State) (x : Nat), x < 64 ∧ s.rd (R.se_S_TRANSPORT x) ≠ 0 ∧ s.rd R.ad_SESSION_TIMEOUT * edgesPerSec ≤ s.time.edge - (s.session x).lastRx ∧ (∀ c ∈ State.clauseIds, s.rd (R.cs_CL_SESSION c) ≠ x) ∧ (∀ e ∈ s.queues, e.2.subscriber ≠ some x) ∧ s.held = [] :=
  ⟨(running [(R.ad_SESSION_TIMEOUT, 30)]).putTime { (running [(R.ad_SESSION_TIMEOUT, 30)]).time with edge := 30 * edgesPerSec }, 3,
    by decide +kernel⟩

theorem hyps_Sessions_11 : ∃ (s : State) (x : Nat), s.time.edge - (s.session x).lastRx < s.rd R.ad_SESSION_TIMEOUT * edgesPerSec :=
  ⟨(running [(R.ad_SESSION_TIMEOUT, 30)]).putTime { (running [(R.ad_SESSION_TIMEOUT, 30)]).time with edge := 30 * edgesPerSec - 1 }, 3,
    by decide +kernel⟩

theorem hyps_Sessions_12 : ∃ (s : State) (n : Nat) (d : List Byte) (e : List Byte), s.canIn = some (n, d) :=
  ⟨((running [(R.se_S_TRANSPORT 2,2)]).putCanIn (some (5,[1,1,7,0,0]))), 5, [1,1,7,0,0], [0,0,0,4,0,0,0,0,0x30,2,0,9],
    by decide +kernel⟩

theorem hyps_Sessions_13 : ∃ (s : State) (x : Nat), ((List.range 64).find? fun y => s.rd (R.se_S_TRANSPORT y) == 2) = some x :=
  ⟨running [(R.se_S_TRANSPORT 2,2),(R.se_S_TENANT 2,0),(R.cs_CL_STATE 9,1),(R.cs_CL_SESSION 9,2)], 2,
    by decide +kernel⟩

theorem hyps_Sessions_14 : ∃ (s : State) (x : Nat), s.rd (R.se_S_TRANSPORT x) = 1 :=
  ⟨(running []).setQueue 7 { Queue.init with subscriber := some 3, credit := 9 }, 3,
    by decide +kernel⟩

theorem hyps_Sessions_15 : ∃ (s : State) (x : Nat), s.sessionOpen x = true ∧ s.rd R.ad_SESSION_TIMEOUT * edgesPerSec ≤ s.time.edge - (s.session x).lastRx :=
  ⟨(running [(R.ad_SESSION_TIMEOUT, 30),(R.cs_CL_STATE 9,1),(R.cs_CL_SESSION 9,3)]).putTime { (running [(R.ad_SESSION_TIMEOUT, 30),(R.cs_CL_STATE 9,1),(R.cs_CL_SESSION 9,3)]).time with edge := 30 * edgesPerSec }, 3,
    by decide +kernel⟩

theorem hyps_Relayed_1 : ∃ (s : State) (b : Nat) (o : Nat) (u : Nat) (g : Nat) (tag : Nat), s.mode.coresRun = true ∧ s.mode.base ≠ .boot ∧ b < 2 ∧ o < 256 ∧ g < 64 ∧ s.rd (R.bu_BUNDLE_STATE b) = 2 ∧ u < 1024 ∧ s.rd (R.te_ENABLE u) ≠ 0 ∧ s.rd (R.te_CLASS u) ≤ 3 ∧ tag < 65536 ∧ s.part.fronts ≤ 7 ∧ (s.session (256 + 128 * o + 64 * b + g)).store.find? (fun e => e.typ == 0x01 && e.tag == tag) = none ∧ s.held = [] ∧ s.awaits (256 + 128 * o + 64 * b + g) = false :=
  ⟨running [(R.bu_BUNDLE_STATE 1,2),(R.te_ENABLE 9,1),(R.tm_TIME_STATE,2),(R.lx_CHAIN_ADDR,7)], 1, 200, 9, 5, 300,
    by decide +kernel⟩

theorem hyps_Relayed_2 : ∃ (s : State) (b : Nat) (o : Nat) (u : Nat) (g : Nat) (tag : Nat), s.mode.coresRun = true ∧ s.mode.base ≠ .boot ∧ b < 2 ∧ o < 256 ∧ g < 64 ∧ s.rd (R.bu_BUNDLE_STATE b) = 2 ∧ u < 1024 ∧ s.rd (R.te_ENABLE u) = 0 ∧ tag < 65536 :=
  ⟨running [(R.bu_BUNDLE_STATE 1,2),(R.lx_CHAIN_ADDR,7)], 1, 200, 9, 5, 300,
    by decide +kernel⟩

theorem hyps_Relayed_3 : ∃ (s : State) (b : Nat) (o : Nat) (u : Nat) (g : Nat) (tag : Nat) (code : Nat) (d : List Byte) (f : Fwd), s.mode.coresRun = true ∧ s.rd (R.bu_BUNDLE_STATE b) = 2 ∧ g < 64 ∧ tag < 65536 ∧ code < 65536 ∧ s.forwarded.find? (fun e => e.session == g && e.tag == tag && e.typ == 0x01) = some f ∧ s.held = [] :=
  ⟨(running [(R.bu_BUNDLE_STATE 1,2),(R.lx_CHAIN_ADDR,2)]).putForwarded [⟨3,300,1,9,0⟩,⟨3,301,1,9,0⟩], 1, 200, 9, 3, 300, 0x2001, [7#8], ⟨3,300,1,9,0⟩,
    by decide +kernel⟩

theorem hyps_Relayed_4 : ∃ (s : State) (x : Nat) (tag : Nat) (typ : Nat) (hub : Nat) (at_ : Nat), x < 64 ∧ s.forwarded = [⟨x, tag, typ, hub, at_⟩] ∧ edgesPerSec ≤ s.time.edge - at_ ∧ s.held = [] :=
  ⟨(runningLate []).putForwarded [⟨3,9,2,9,5⟩], 3, 9, 2, 9, 5,
    by decide +kernel⟩

theorem hyps_Relayed_5 : ∃ (s : State) (x : Nat) (tag : Nat), ((∀ e ∈ s.forwarded, e.session ≠ x ∨ e.tag ≠ tag ∨ s.time.edge - e.at_ < edgesPerSec)) :=
  ⟨(runningLate []).putForwarded [⟨3,8,2,9,5⟩], 3, 9,
    by decide +kernel⟩

theorem hyps_Relayed_6 : ∃ (s : State) (b : Nat) (o : Nat) (u : Nat) (g : Nat) (m : List Byte), s.mode.coresRun = true ∧ s.rd (R.bu_BUNDLE_STATE b) = 2 ∧ bitAt (leNat ((m.drop 10).take 1)) 0 = false ∧ u < 1024 ∧ s.rd (R.te_ENABLE u) ≠ 0 ∧ s.held = [] ∧ s.awaits (256 + 128 * (o % 256) + 64 * (b % 2) + g % 64) = false :=
  ⟨running [(R.bu_BUNDLE_STATE 1,2),(R.te_ENABLE 9,1),(R.te_CLASS 9,1),(R.te_TIME_RIGHT 9,1)], 1, 200, 9, 5, adpMessage 0x02 300 0 0 true false false 7 (natLE 2 0x3000 ++ natLE 1 0x0F ++ natLE 1 0 ++ natLE 4 77),
    by decide +kernel⟩

theorem hyps_Relayed_7 : ∃ (s : State) (b : Nat) (o : Nat) (u : Nat) (g : Nat) (x : Nat) (hub : Nat) (at_ : Nat) (m : List Byte), s.mode.coresRun = true ∧ s.rd (R.bu_BUNDLE_STATE b) = 2 ∧ bitAt (leNat ((m.drop 10).take 1)) 0 = true ∧ s.forwarded = [⟨g, leNat ((m.drop 2).take 2), leNat ((m.drop 1).take 1), hub, at_⟩] ∧ bitAt (leNat ((m.drop 10).take 1)) 1 = (x == 1) :=
  ⟨(running [(R.bu_BUNDLE_STATE 1,2)]).putForwarded [⟨3,300,3,7,5⟩], 1, 200, 9, 3, 1, 7, 5, adpMessage 0x03 300 0 0 true true true 7 [1,2,3],
    by decide +kernel⟩

theorem hyps_Relayed_8 : ∃ (s : State) (x : Nat) (tag : Nat) (e : Fwd), s.forwarded.find? (fun e => e.session == x && e.tag == tag && edgesPerSec ≤ s.time.edge - e.at_) = some e :=
  ⟨(runningLate []).putForwarded [⟨4,9,1,9,0⟩,⟨3,9,2,9,5⟩,⟨5,1,1,9,0⟩], 3, 9, ⟨3,9,2,9,5⟩,
    by decide +kernel⟩

theorem hyps_Relayed_9 : ∃ (s : State) (h : Hdr) (i : Nat) (sub : Nat) (c : Nat), s.mode.coresRun = true ∧ s.mode.base ≠ .boot ∧ s.sessionOpen h.session = true ∧ (s.session h.session).withdrawn = false ∧ h.formOk = true ∧ h.remote = false ∧ h.hub = 0 ∧ s.awaits h.session = true ∧ s.held = [] :=
  ⟨(running []).putForwarded [⟨3,9,2,7,5⟩], ownHdr, 0x3000, 2, 0,
    by decide +kernel⟩

theorem hyps_ModeRequests_1 : ∃ (s : State) (h : Hdr), OwnerAsks s h 0x02 ∧ s.part.fronts ≤ 7 ∧ s.free_ R.mo_MODE_REQ ∧ s.mode.base = .commission ∧ s.mode.dormantPending = false :=
  ⟨{ (running [(R.bk_BANK_POWER 3,2),(R.di_DIE_STATE 0,1),(R.ch_STAGE 100,1)]) with mode := { (running [(R.bk_BANK_POWER 3,2),(R.di_DIE_STATE 0,1),(R.ch_STAGE 100,1)]).mode with base := .commission } }, ownHdr,
    asks_of _ _ _ (by decide +kernel), by decide +kernel⟩

theorem hyps_ModeRequests_2 : ∃ (s : State) (h : Hdr), OwnerAsks s h 0x02 ∧ s.part.fronts ≤ 7 ∧ s.free_ R.mo_MODE_REQ ∧ s.mode.base = .dormant ∧ s.mode.dormantPending = false :=
  ⟨{ ((running [(R.dc_CH_STATE 1,3),(R.ln_MODE 4,1)]).setLane 4 { Lane.init with idle := true, txIdle := true }) with mode := { ((running [(R.dc_CH_STATE 1,3),(R.ln_MODE 4,1)]).setLane 4 { Lane.init with idle := true, txIdle := true }).mode with base := .dormant } }, ownHdr,
    asks_of _ _ _ (by decide +kernel), by decide +kernel⟩

theorem hyps_ModeRequests_3 : ∃ (s : State) (h : Hdr), OwnerAsks s h 0x02 ∧ s.part.fronts ≤ 7 ∧ s.free_ R.mo_MODE_REQ ∧ s.mode.base = .acquire ∧ s.mode.dormantPending = false :=
  ⟨running [(R.ir_ENABLE 3,1),(R.ir_INJ_STATE 3,1)], ownHdr,
    asks_of _ _ _ (by decide +kernel), by decide +kernel⟩

theorem hyps_ModeRequests_4 : ∃ (s : State) (h : Hdr), OwnerAsks s h 0x02 ∧ s.part.fronts ≤ 7 ∧ s.free_ R.mo_MODE_REQ ∧ (s.mode.base = .acquire ∨ s.mode.base = .commission) ∧ s.mode.dormantPending = false :=
  ⟨running [(R.ir_ENABLE 3,1),(R.ir_INJ_STATE 3,1)], ownHdr,
    asks_of _ _ _ (by decide +kernel), by decide +kernel⟩

theorem hyps_ModeRequests_5 : ∃ (s : State) (h : Hdr), OwnerAsks s h 0x02 ∧ s.part.fronts ≤ 7 ∧ s.free_ R.mo_MODE_REQ ∧ s.mode.base = .test ∧ s.mode.dormantPending = false :=
  ⟨{ (running [(R.ir_ENABLE 3,1),(R.ir_INJ_STATE 3,1),(R.bk_BANK_POWER 3,2),(R.di_DIE_STATE 0,1),(R.ch_STAGE 100,1)]) with mode := { (running [(R.ir_ENABLE 3,1),(R.ir_INJ_STATE 3,1),(R.bk_BANK_POWER 3,2),(R.di_DIE_STATE 0,1),(R.ch_STAGE 100,1)]).mode with base := .test } }, ownHdr,
    asks_of _ _ _ (by decide +kernel), by decide +kernel⟩

theorem hyps_ModeRequests_6 : ∃ (s : State) (h : Hdr), OwnerAsks s h 0x02 ∧ s.part.fronts ≤ 7 ∧ s.free_ R.mo_MODE_REQ ∧ s.mode.base ≠ .safe :=
  ⟨((running [(R.bk_BANK_STATE 3,3),(R.bk_BANK_STATE 1,5),(R.ch_STAGE 100,1),(R.ir_ENABLE 3,1),(R.ir_INJ_STATE 3,1)]).setQuad 7 { Quad.init with driverOn := true }).setPath 3 { Path.init with live := true }, ownHdr,
    asks_of _ _ _ (by decide +kernel), by decide +kernel⟩

theorem hyps_ModeRequests_7 : ∃ (s : State) (h : Hdr), OwnerAsks s h 0x02 ∧ s.part.fronts ≤ 7 ∧ s.free_ R.mo_MODE_REQ ∧ s.mode.base = .safe ∧ s.changing = false ∧ s.causeCleared = true :=
  ⟨{ (running [(R.bk_BANK_POWER 3,2),(R.di_DIE_STATE 0,1),(R.ch_STAGE 100,1)]) with mode := { (running [(R.bk_BANK_POWER 3,2),(R.di_DIE_STATE 0,1),(R.ch_STAGE 100,1)]).mode with base := .safe } }, ownHdr,
    asks_of _ _ _ (by decide +kernel), by decide +kernel⟩

theorem hyps_ModeRequests_8 : ∃ (s : State) (h : Hdr), OwnerAsks s h 0x02 ∧ s.part.fronts ≤ 7 ∧ s.free_ R.mo_MODE_REQ ∧ s.mode.base = .acquire ∧ s.mode.dormantPending = false ∧ s.amp.legal = [] ∧ s.rd R.fz_FROZEN = 0 ∧ s.repairing = false ∧ s.backlogBits = 0 :=
  ⟨running [(R.bk_BANK_STATE 3,3),(R.bk_BANK_STATE 1,5),(R.ch_STAGE 100,1)], ownHdr,
    asks_of _ _ _ (by decide +kernel), by decide +kernel⟩

theorem hyps_ModeRequests_9 : ∃ (s : State) (h : Hdr), OwnerAsks s h 0x02 ∧ s.part.fronts ≤ 7 ∧ s.free_ R.mo_MODE_REQ ∧ s.mode.base = .test ∧ s.mode.dormantPending = false :=
  ⟨{ (running []) with mode := { (running []).mode with base := .test } }, ownHdr,
    asks_of _ _ _ (by decide +kernel), by decide +kernel⟩

theorem hyps_ModeRequests_10 : ∃ (s : State) (t : State) (h : Hdr) (v : Nat), OwnerAsks s h 0x02 ∧ (s.touch h.session).modeReqAct v = (0, t) ∧ s.part.fronts ≤ 7 ∧ s.free_ R.mo_MODE_REQ ∧ 1 ≤ v ∧ v ≤ 7 :=
  ⟨running [], _, ownHdr, 5,
    asks_of _ _ _ (by decide +kernel), okPair _ (by decide +kernel), by decide +kernel⟩

theorem hyps_ModeRequests_11 : ∃ (s : State) (h : Hdr), OwnerAsks s h 0x02 ∧ s.part.fronts ≤ 7 ∧ s.free_ R.mo_MODE_REQ ∧ s.mode.base = .acquire ∧ s.mode.dormantPending = false ∧ s.amp.legal ≠ [] :=
  ⟨{ (running []) with amp := { (running []).amp with legal := [3] } }, ownHdr,
    asks_of _ _ _ (by decide +kernel), by decide +kernel⟩

theorem hyps_ModeRequests_12 : ∃ (s : State) (h : Hdr), OwnerAsks s h 0x02 ∧ s.part.fronts ≤ 7 ∧ s.free_ R.mo_MODE_REQ ∧ s.mode.base = .safe :=
  ⟨{ (running []) with mode := { (running []).mode with base := .safe } }, ownHdr,
    asks_of _ _ _ (by decide +kernel), by decide +kernel⟩

theorem hyps_LeavingSafe_1 : ∃ (s : State) (h : Hdr), OwnerAsks s h 0x02 ∧ s.part.fronts ≤ 7 ∧ s.free_ R.mo_MODE_REQ ∧ s.mode.base = .safe ∧ s.changing = false ∧ s.causeCleared = true :=
  ⟨{ (running [(R.mo_SAFE_CAUSE, 0x7134),(R.bk_BANK_POWER 3,2),(R.di_DIE_STATE 0,1)]) with mode := { (running [(R.mo_SAFE_CAUSE, 0x7134),(R.bk_BANK_POWER 3,2),(R.di_DIE_STATE 0,1)]).mode with base := .safe, tj := (List.range 8).map fun d => (d, 500) } }, ownHdr,
    asks_of _ _ _ (by decide +kernel), by decide +kernel⟩

theorem hyps_LeavingSafe_2 : ∃ (s : State) (h : Hdr), OwnerAsks s h 0x02 ∧ s.part.fronts ≤ 7 ∧ s.free_ R.mo_MODE_REQ ∧ s.mode.base = .safe ∧ s.changing = false ∧ s.causeCleared = false :=
  ⟨{ (running [(R.mo_SAFE_CAUSE, 0x7134)]) with mode := { (running [(R.mo_SAFE_CAUSE, 0x7134)]).mode with base := .safe, tj := (List.range 8).map fun d => (d, 1000) } }, ownHdr,
    asks_of _ _ _ (by decide +kernel), by decide +kernel⟩

theorem hyps_ResetsAndBoot_1 : ∃ (s : State), (s.mode.brownedOut = true ∨ s.part.amp = false) ∧ s.mode.refclk = true ∧ s.mode.rstN = true ∧ s.amp.legal = [] :=
  ⟨{ (running [(R.fw_FW_MIN_VERSION, 7),(R.tm_TIME_STATE,2),(R.am_EVENT_COUNT,6)]) with mode := { (running [(R.fw_FW_MIN_VERSION, 7),(R.tm_TIME_STATE,2),(R.am_EVENT_COUNT,6)]).mode with brownedOut := true } },
    by decide +kernel⟩

theorem hyps_ResetsAndBoot_2 : ∃ (s : State), s.mode.refclk = true ∧ s.amp.legal = [] :=
  ⟨((running [(R.fw_FW_MIN_VERSION, 7),(R.tm_TIME_STATE,2),(R.am_EVENT_COUNT,6),(R.cs_CL_STATE 4,2)])).setClause 4 { Clause.init with lease := 77 },
    by decide +kernel⟩

theorem hyps_ResetsAndBoot_3 : ∃ (s : State), s.mode.rstN = false ∧ s.mode.refclk = true ∧ s.time.running = false :=
  ⟨{ (presets []) with mode := { (presets []).mode with rstN := false, jtag := .extest }, time := { (presets []).time with edge := 99 } },
    by decide +kernel⟩

theorem hyps_ResetsAndBoot_4 : ∃ (s : State), s.mode.refclk = true ∧ s.amp.legal = [] :=
  ⟨running [(R.fw_FW_MIN_VERSION, 7),(R.tm_TIME_STATE,2)],
    by decide +kernel⟩

theorem hyps_ResetsAndBoot_5 : ∃ (s : State), s.part.amp = true ∧ s.mode.refclk = true ∧ s.amp.legal = [] ∧ s.amp.key = none :=
  ⟨{ (running [(R.am_AMP_STATE, 5)]) with part := { (running [(R.am_AMP_STATE, 5)]).part with amp := true } },
    by decide +kernel⟩

theorem hyps_ResetsAndBoot_6 : ∃ (s : State), s.mode.base = .boot ∧ s.time.running = true ∧ s.mode.rstN = true ∧ s.mode.bootFailed = false ∧ s.mode.fwNext = none :=
  ⟨{ (presets []) with time := { (presets []).time with running := true } },
    by decide +kernel⟩

theorem hyps_ResetsAndBoot_7 : ∃ (s : State) (a : Bool) (b : Bool), s.mode.base = .boot ∧ s.time.running = true ∧ s.mode.rstN = true ∧ s.mode.bootFailed = false ∧ s.mode.fwNext = none ∧ (a = true ∨ b = true) ∧ s.rd R.fw_FW_ACTIVE < 2 ∧ s.newestCopy = none ∧ s.mram.copyA.seq = 0 ∧ s.mram.copyB.seq = 0 :=
  ⟨{ (presets []) with time := { (presets []).time with running := true } }, false, true,
    by decide +kernel⟩

theorem hyps_ResetsAndBoot_8 : ∃ (s : State) (a : Bool) (b : Bool) (c : Copy), s.mode.base = .boot ∧ s.time.running = true ∧ s.mode.rstN = true ∧ s.mode.bootFailed = false ∧ s.mode.fwNext = none ∧ (a = true ∨ b = true) ∧ s.rd R.fw_FW_ACTIVE < 2 ∧ s.newestCopy = some c :=
  ⟨{ (presets []) with time := { (presets []).time with running := true }, mram := { (presets []).mram with copyB := ⟨6, true, [(R.tm_LOCK_WINDOW, 900)], []⟩ } }, true, true, ⟨6, true, [(R.tm_LOCK_WINDOW, 900)], []⟩,
    by decide +kernel⟩

theorem hyps_ResetsAndBoot_9 : ∃ (s : State) (u : State) (a : Bool) (b : Bool) (k : Nat) (c : Copy), k = s.mode.fwNext.getD (s.rd R.fw_FW_ACTIVE) ∧ u = (s.putMode { s.mode with coresRun := true, fwNext := none }).wr R.fw_FW_ACTIVE (if (if k = 0 then a else b) = true then k else 1 - k) ∧ s.mode.base = .boot ∧ s.time.running = true ∧ s.mode.rstN = true ∧ s.mode.bootFailed = false ∧ ((if k = 0 then a else b) = true ∨ (if 1 - k = 0 then a else b) = true) ∧ s.newestCopy = some c :=
  ⟨{ (presets []) with time := { (presets []).time with running := true }, mode := { (presets []).mode with fwNext := some 1 }, mram := { (presets []).mram with copyB := ⟨6, true, [(R.tm_LOCK_WINDOW, 900)], []⟩ } }, _, true, false, _, ⟨6, true, [(R.tm_LOCK_WINDOW, 900)], []⟩,
    rfl, rfl, by decide +kernel⟩

theorem hyps_ResetsAndBoot_10 : ∃ (s : State) (u : State) (a : Bool) (b : Bool) (k : Nat), k = s.mode.fwNext.getD (s.rd R.fw_FW_ACTIVE) ∧ u = (s.putMode { s.mode with coresRun := true, fwNext := none }).wr R.fw_FW_ACTIVE (if (if k = 0 then a else b) = true then k else 1 - k) ∧ s.mode.base = .boot ∧ s.time.running = true ∧ s.mode.rstN = true ∧ s.mode.bootFailed = false ∧ ((if k = 0 then a else b) = true ∨ (if 1 - k = 0 then a else b) = true) ∧ s.newestCopy = none ∧ (s.mram.copyA.seq ≠ 0 ∨ s.mram.copyB.seq ≠ 0) :=
  ⟨{ (presets []) with time := { (presets []).time with running := true }, mram := { (presets []).mram with copyB := ⟨6, false, [], []⟩ } }, _, true, true, _,
    rfl, rfl, by decide +kernel⟩

theorem hyps_ResetsAndBoot_11 : ∃ (s : State) (a : Bool) (b : Bool), (s.mode.base ≠ .boot ∨ s.time.running = false ∨ s.mode.rstN = false ∨ s.mode.bootFailed = true) :=
  ⟨running [], true, true,
    by decide +kernel⟩

theorem hyps_ResetsAndBoot_12 : ∃ (s : State), s.mode.rstN = false :=
  ⟨{ (presets []) with mode := { (presets []).mode with rstN := false, refclk := false, jtag := .idcode } },
    by decide +kernel⟩

theorem hyps_ResetsAndBoot_13 : ∃ (s : State) (n : State), n = s.restart 2 :=
  ⟨{ (running [(R.ch_LEGAL 3,1)]) with amp := { (running [(R.ch_LEGAL 3,1)]).amp with legal := [3] } }, _,
    rfl⟩

theorem hyps_ResetsAndBoot_14 : ∃ (s : State) (c : Nat), c ∈ s.amp.legal :=
  ⟨{ (running [(R.ch_LEGAL 3,1)]) with amp := { (running [(R.ch_LEGAL 3,1)]).amp with legal := [3], key := some 6 } }, 3,
    by decide +kernel⟩

theorem hyps_ResetsAndBoot_15 : ∃ (s : State) (n : State) (b : Bool), n = (if b = true then s.ampPowerLoss else s).restart 3 :=
  ⟨{ (running [(R.ch_LEGAL 3,1)]) with part := { (running [(R.ch_LEGAL 3,1)]).part with amp := true }, amp := { (running [(R.ch_LEGAL 3,1)]).amp with legal := [3], key := some 6 } }, _, true,
    rfl⟩

theorem hyps_ResetsAndBoot_16 : ∃ (s : State) (n : State), n = (if s.mode.brownedOut = true then s else s.ampPowerLoss).restart (if s.mode.brownedOut = true then 3 else 1) :=
  ⟨{ (running [(R.ch_LEGAL 3,1)]) with part := { (running [(R.ch_LEGAL 3,1)]).part with amp := true }, amp := { (running [(R.ch_LEGAL 3,1)]).amp with legal := [3], key := some 6 } }, _,
    rfl⟩

theorem hyps_CalibrateDormantWake_1 : ∃ (s : State), s.mode.base = .calibrate ∧ s.allCalibrated = true ∧ s.mode.started = true ∧ s.rd R.mo_LAST_START ≠ 0 ∧ s.enabledPaths = [] ∧ ((∀ q, q < 32 * s.part.fronts → s.rd (R.qd_EXC_MODE q) = 0)) :=
  ⟨{ (running [(R.mo_LAST_START, 40)]) with mode := { (running [(R.mo_LAST_START, 40)]).mode with base := .calibrate } },
    by decide +kernel⟩

theorem hyps_CalibrateDormantWake_2 : ∃ (s : State) (p : Nat), s.mode.base = .calibrate ∧ s.allCalibrated = true ∧ s.mode.started = true ∧ s.rd R.mo_LAST_START ≠ 0 ∧ s.enabledPaths = [p] ∧ (s.path p).live = false ∧ ((∀ q, q < 32 * s.part.fronts → s.rd (R.qd_EXC_MODE q) = 0)) :=
  ⟨{ (running [(R.mo_LAST_START, 40),(R.pa_ENABLE 7,1),(R.pa_OUT_PERIOD 7,65536000)]) with mode := { (running [(R.mo_LAST_START, 40),(R.pa_ENABLE 7,1),(R.pa_OUT_PERIOD 7,65536000)]).mode with base := .calibrate } }, 7,
    by decide +kernel⟩

theorem hyps_CalibrateDormantWake_3 : ∃ (s : State), s.mode.base = .calibrate ∧ s.allCalibrated = true :=
  ⟨{ (presets [(R.tm_INCR, 40000*2^32)]) with mode := { (presets [(R.tm_INCR, 40000*2^32)]).mode with base := .calibrate, coresRun := true } },
    by decide +kernel⟩

theorem hyps_CalibrateDormantWake_4 : ∃ (s : State), s.mode.base = .calibrate ∧ s.allCalibrated = false :=
  ⟨{ (running [(R.bk_BANK_POWER 3,2),(R.bk_BANK_STATE 3,1),(R.di_DIE_POWER 0,1)]) with mode := { (running [(R.bk_BANK_POWER 3,2),(R.bk_BANK_STATE 3,1),(R.di_DIE_POWER 0,1)]).mode with base := .calibrate } },
    by decide +kernel⟩

theorem hyps_CalibrateDormantWake_5 : ∃ (s : State), s.mode.base = .acquire ∧ s.mode.dormantPending = true ∧ ((∀ b, b < 4 * s.part.fronts → s.rd (R.bk_BANK_STATE b) = 0)) ∧ ((∀ q, q ∈ s.queueIds → s.rd (R.qu_CONSUMER q) = 1 → (s.queue q).frames = [])) ∧ (s.source 1).qualified = false :=
  ⟨{ (running [(R.ln_MODE 3,1),(R.ln_MODE 4,2),(R.dc_CH_STATE 1,2)]) with mode := { (running [(R.ln_MODE 3,1),(R.ln_MODE 4,2),(R.dc_CH_STATE 1,2)]).mode with dormantPending := true } },
    by decide +kernel⟩

theorem hyps_CalibrateDormantWake_6 : ∃ (s : State), s.mode.base = .dormant :=
  ⟨{ ((running [(R.dc_CH_STATE 1,3),(R.ln_MODE 4,1)]).setLane 4 { Lane.init with idle := true, txIdle := true }) with mode := { ((running [(R.dc_CH_STATE 1,3),(R.ln_MODE 4,1)]).setLane 4 { Lane.init with idle := true, txIdle := true }).mode with base := .dormant } },
    by decide +kernel⟩

theorem hyps_CalibrateDormantWake_7 : ∃ (s : State), s.mode.base ≠ .dormant :=
  ⟨running [],
    by decide +kernel⟩

theorem hyps_CalibrateDormantWake_8 : ∃ (s : State), s.mode.base = .dormant ∧ s.rd R.mo_WAKE_AT ≠ 0 ∧ t64Past (s.rd R.mo_WAKE_AT) s.time.ticks = true :=
  ⟨{ (running [(R.mo_WAKE_AT,4096)]) with mode := { (running [(R.mo_WAKE_AT,4096)]).mode with base := .dormant } },
    by decide +kernel⟩

theorem hyps_CalibrateDormantWake_9 : ∃ (s : State) (u : State), u = s.setBase .acquire ∧ s.mode.base = .calibrate ∧ s.allCalibrated = true ∧ s.mode.started = true ∧ s.rd R.mo_LAST_START ≠ 0 :=
  ⟨{ (running [(R.mo_LAST_START, 40),(R.qd_EXC_MODE 3,1),(R.pa_ENABLE 7,1),(R.pa_OUT_PERIOD 7,65536000)]) with mode := { (running [(R.mo_LAST_START, 40),(R.qd_EXC_MODE 3,1),(R.pa_ENABLE 7,1),(R.pa_OUT_PERIOD 7,65536000)]).mode with base := .calibrate } }, _,
    rfl, by decide +kernel⟩

theorem hyps_CalibrateDormantWake_10 : ∃ (s : State) (u : State), u = (s.setBase .acquire).putMode { (s.setBase .acquire).mode with started := true } ∧ s.mode.base = .calibrate ∧ s.allCalibrated = true ∧ s.mode.started = false ∧ s.rd R.mo_LAST_START ≠ 0 ∧ u.startConfig.rd R.mo_LAST_START ≠ 0 :=
  ⟨{ (presets [(R.tm_INCR, 40000*2^32),(R.mo_LAST_START, 40)]) with mode := { (presets [(R.tm_INCR, 40000*2^32),(R.mo_LAST_START, 40)]).mode with base := .calibrate, coresRun := true } }, _,
    rfl, by decide +kernel⟩

theorem hyps_CalibrateDormantWake_11 : ∃ (s : State), s.mode.base = .acquire ∧ s.mode.dormantPending = true ∧ ((∀ b, b < 4 * s.part.fronts → s.rd (R.bk_BANK_STATE b) = 0)) ∧ ((∀ q, q ∈ s.queueIds → s.rd (R.qu_CONSUMER q) = 1 → (s.queue q).frames = [])) ∧ (s.source 1).qualified = true :=
  ⟨{ ((running [(R.ln_MODE 3,1),(R.tm_SRC_SELECTED,1),(R.tm_SRC_PRIORITY,1),(R.tm_TIME_STATE,2)]).setSource 1 { State.source (running []) 1 with qualified := true, seen := true }) with mode := { ((running [(R.ln_MODE 3,1),(R.tm_SRC_SELECTED,1),(R.tm_SRC_PRIORITY,1),(R.tm_TIME_STATE,2)]).setSource 1 { State.source (running []) 1 with qualified := true, seen := true }).mode with dormantPending := true } },
    by decide +kernel⟩

theorem hyps_CalibrateDormantWake_12 : ∃ (s : State) (b : Nat), s.mode.dormantPending = true ∧ b < 4 * s.part.fronts ∧ s.rd (R.bk_BANK_STATE b) ≠ 0 :=
  ⟨{ (running [(R.bk_BANK_STATE 27,4)]) with mode := { (running [(R.bk_BANK_STATE 27,4)]).mode with dormantPending := true } }, 27,
    by decide +kernel⟩

theorem hyps_HeatAndCurrent_1 : ∃ (s : State) (d : Nat) (tj : Int), s.rdI R.th_TJ_THROTTLE 16 ≤ tj ∧ tabGet 0 s.mode.throttle d < 7 :=
  ⟨running [(R.th_TJ_THROTTLE, 1000)], 7, 1000,
    by decide +kernel⟩

theorem hyps_HeatAndCurrent_2 : ∃ (s : State) (d : Nat) (tj : Int), tj ≤ s.rdI R.th_TJ_THROTTLE 16 - 30 ∧ tabGet 0 s.mode.throttle d = 1 ∧ d ∉ s.mode.ageSlow ∧ edgesPerSec ≤ s.time.edge - tabGet 0 s.mode.hotAt d :=
  ⟨{ (runningLate [(R.th_TJ_THROTTLE, 1000)]) with mode := { (runningLate [(R.th_TJ_THROTTLE, 1000)]).mode with throttle := [(7,1)] } }, 7, 970,
    by decide +kernel⟩

theorem hyps_HeatAndCurrent_3 : ∃ (s : State) (d : Nat) (k : Nat) (tj : Int), tj ≤ s.rdI R.th_TJ_THROTTLE 16 - 30 ∧ tabGet 0 s.mode.throttle d = k + 2 ∧ edgesPerSec ≤ s.time.edge - tabGet 0 s.mode.hotAt d :=
  ⟨{ (runningLate [(R.th_TJ_THROTTLE, 1000)]) with mode := { (runningLate [(R.th_TJ_THROTTLE, 1000)]).mode with throttle := [(7,2)], ageSlow := [7] } }, 7, 0, -400,
    by decide +kernel⟩

theorem hyps_HeatAndCurrent_5 : ∃ (s : State), s.mode.currentLimit = true ∧ edgesPerSec ≤ 10 * (s.time.edge - s.mode.limitAt) ∧ s.mode.base ≠ .boot ∧ s.mode.base ≠ .safe :=
  ⟨{ ((runningLate []).setQuad 7 { Quad.init with driverOn := true }) with mode := { ((runningLate []).setQuad 7 { Quad.init with driverOn := true }).mode with currentLimit := true } },
    by decide +kernel⟩

theorem hyps_HeatAndCurrent_6 : ∃ (s : State) (d : Nat) (n : Nat) (tj : Int), 1150 ≤ tj ∧ s.mode.base ≠ .boot ∧ s.mode.base ≠ .safe :=
  ⟨(running [(R.ch_STAGE 12,3),(R.bk_BANK_STATE 0,3),(R.ch_PD_BIAS 12,2000)]).setQuad 7 { Quad.init with driverOn := true }, 3, 12, 1150,
    by decide +kernel⟩

theorem hyps_HeatAndCurrent_7 : ∃ (s : State) (d : Nat) (tj : Int), 1100 ≤ tj ∧ s.mode.base ≠ .boot ∧ s.mode.base ≠ .safe :=
  ⟨running [], 3, 1100,
    by decide +kernel⟩

theorem hyps_HeatAndCurrent_8 : ∃ (s : State) (d : Nat) (tj : Int), tj < 1100 :=
  ⟨running [], 3, 1099,
    by decide +kernel⟩

theorem hyps_HeatAndCurrent_9 : ∃ (s : State) (d : Nat) (tj : Int), s.rdI R.th_TJ_THROTTLE 16 ≤ tj :=
  ⟨{ (running [(R.th_TJ_THROTTLE, 1000)]) with mode := { (running [(R.th_TJ_THROTTLE, 1000)]).mode with throttle := [(7,7)] } }, 7, 1000,
    by decide +kernel⟩

theorem hyps_HeatAndCurrent_10 : ∃ (s : State) (d : Nat) (tj : Int), tj < s.rdI R.th_TJ_THROTTLE 16 :=
  ⟨running [(R.th_TJ_THROTTLE, 1000)], 7, 999,
    by decide +kernel⟩

theorem hyps_HeatAndCurrent_11 : ∃ (s : State) (d : Nat) (tj : Int), (s.rdI R.th_TJ_THROTTLE 16 - 30 < tj ∨ tabGet 0 s.mode.throttle d = 0 ∨ s.time.edge - tabGet 0 s.mode.hotAt d < edgesPerSec) :=
  ⟨{ (running [(R.th_TJ_THROTTLE, 1000)]) with mode := { (running [(R.th_TJ_THROTTLE, 1000)]).mode with throttle := [(7,2)] } }, 7, 971,
    by decide +kernel⟩

theorem hyps_HeatAndCurrent_12 : ∃ (s : State), s.mode.currentLimit = true ∧ edgesPerSec ≤ 10 * (s.time.edge - s.mode.limitAt) :=
  ⟨{ (runningLate []) with mode := { (runningLate []).mode with currentLimit := true, base := .safe } },
    by decide +kernel⟩

theorem hyps_HeatAndCurrent_13 : ∃ (s : State), (s.mode.currentLimit = false ∨ 10 * (s.time.edge - s.mode.limitAt) < edgesPerSec) :=
  ⟨running [],
    by decide +kernel⟩

theorem hyps_HeatAndCurrent_14 : ∃ (s : State) (d : Nat) (tj : Int) (b : Bool), (1150 ≤ tj ∨ (1100 ≤ tj ∧ b = true)) :=
  ⟨{ (running []) with mode := { (running []).mode with base := .safe } }, 3, 1100, true,
    by decide +kernel⟩

theorem hyps_FirmwareAndPackage_1 : ∃ (s : State) (h : Hdr), OwnerAsks s h 0x02 ∧ s.part.fronts ≤ 7 ∧ s.free_ R.fw_FW_ACTIVATE ∧ s.rd R.fw_FW_STATE = 2 ∧ s.cores.spareUsed = false :=
  ⟨running [(R.fw_FW_STATE, 2)], ownHdr,
    asks_of _ _ _ (by decide +kernel), by decide +kernel⟩

theorem hyps_FirmwareAndPackage_2 : ∃ (s : State) (h : Hdr), OwnerAsks s h 0x02 ∧ s.part.fronts ≤ 7 ∧ s.free_ R.fw_FW_ACTIVATE ∧ s.rd R.fw_FW_STATE = 2 :=
  ⟨running [(R.fw_FW_STATE, 2), (R.fw_FW_ACTIVE, 1)], ownHdr,
    asks_of _ _ _ (by decide +kernel), by decide +kernel⟩

theorem hyps_FirmwareAndPackage_3 : ∃ (s : State) (h : Hdr), OwnerAsks s h 0x02 ∧ s.part.fronts ≤ 7 ∧ s.free_ R.fw_FW_ACTIVATE ∧ s.rd R.fw_FW_STATE ≠ 2 :=
  ⟨running [(R.fw_FW_STATE, 3)], ownHdr,
    asks_of _ _ _ (by decide +kernel), by decide +kernel⟩

theorem hyps_FirmwareAndPackage_4 : ∃ (s : State) (k : Nat), s.mode.handover = some k ∧ k < 3 ∧ (∀ c ∈ State.clauseIds, s.rd (R.cs_CL_STATE c) ≠ 1) :=
  ⟨{ (running []) with mode := { (running []).mode with handover := some 2 } }, 2,
    by decide +kernel⟩

theorem hyps_FirmwareAndPackage_5 : ∃ (s : State), s.mode.handover = some 3 ∧ s.rd R.fw_FW_ACTIVE < 2 ∧ (∀ c ∈ State.clauseIds, s.rd (R.cs_CL_STATE c) ≠ 1) :=
  ⟨{ (running [(R.fw_FW_STATE, 3)]) with mode := { (running [(R.fw_FW_STATE, 3)]).mode with handover := some 3 } },
    by decide +kernel⟩

theorem hyps_FirmwareAndPackage_6 : ∃ (s : State) (k : Nat), s.mode.handover = some k :=
  ⟨{ (running [(R.fw_FW_STATE, 3)]) with mode := { (running [(R.fw_FW_STATE, 3)]).mode with handover := some 1 } }, 1,
    by decide +kernel⟩

theorem hyps_FirmwareAndPackage_7 : ∃ (s : State), s.mode.coresRun = true ∧ s.mode.base ≠ .boot ∧ s.mode.base ≠ .safe ∧ s.chSetNow ≠ [] ∧ edgesPerSec ≤ 10 * (s.time.edge - s.mode.trainDue) ∧ (∃ c, c < s.part.drams ∧ s.rd (R.dc_CH_STATE c) = 1) :=
  ⟨(runningLate [(R.dc_CH_STATE 1,1)]).putDram { (runningLate [(R.dc_CH_STATE 1,1)]).dram with chSet := 2 },
    by decide +kernel⟩

theorem hyps_FirmwareAndPackage_8 : ∃ (s : State), (s.mode.rstN = true ∨ s.amp.key ≠ none) :=
  ⟨running [],
    by decide +kernel⟩

theorem hyps_FirmwareAndPackage_9 : ∃ (s : State), s.mode.rstN = false ∧ s.amp.key = none :=
  ⟨{ (running []) with mode := { (running []).mode with rstN := false } },
    by decide +kernel⟩

theorem hyps_FirmwareAndPackage_10 : ∃ (s : State) (i : JtagInstr), (i = .idcode ∨ i = .bypass ∨ i = .samplePreload) :=
  ⟨running [], .samplePreload,
    by decide +kernel⟩

theorem hyps_FirmwareAndPackage_11 : ∃ (s : State) (h : Hdr), OwnerAsks s h 0x02 ∧ s.part.fronts ≤ 7 ∧ s.free_ R.fw_FW_ACTIVATE ∧ s.rd R.fw_FW_STATE = 2 ∧ s.cores.spareUsed = true :=
  ⟨(running [(R.fw_FW_STATE, 2)]).putCores { (running [(R.fw_FW_STATE, 2)]).cores with spareUsed := true }, ownHdr,
    asks_of _ _ _ (by decide +kernel), by decide +kernel⟩

theorem hyps_FirmwareAndPackage_12 : ∃ (s : State) (k : Nat), s.mode.handover = some k ∧ k < 3 :=
  ⟨{ (running [(R.cs_CL_STATE 9,1),(R.cs_LEASE_END 9,540069882158510926)]) with mode := { (running [(R.cs_CL_STATE 9,1),(R.cs_LEASE_END 9,540069882158510926)]).mode with handover := some 2 } }, 2,
    by decide +kernel⟩

theorem hyps_FirmwareAndPackage_13 : ∃ (s : State) (c : Nat), s.mode.handover = some 3 ∧ s.rd R.fw_FW_ACTIVE < 2 ∧ c ∈ State.clauseIds ∧ s.rd (R.cs_CL_STATE c) = 1 :=
  ⟨{ (running [(R.fw_FW_STATE, 3),(R.cs_CL_STATE 9,1),(R.cs_LEASE_END 9,540069882158510926)]) with mode := { (running [(R.fw_FW_STATE, 3),(R.cs_CL_STATE 9,1),(R.cs_LEASE_END 9,540069882158510926)]).mode with handover := some 3 } }, 9,
    by decide +kernel⟩

theorem hyps_FirmwareAndPackage_14 : ∃ (s : State) (a : Bool), s.mode.handover = none :=
  ⟨running [], true,
    by decide +kernel⟩

theorem hyps_FirmwareAndPackage_15 : ∃ (s : State), s.mode.coresRun = true ∧ s.chSetNow = [] ∧ edgesPerSec ≤ 10 * (s.time.edge - s.mode.trainDue) ∧ (∃ c, c < s.part.drams ∧ s.rd (R.dc_CH_STATE c) = 1) :=
  ⟨(runningLate [(R.dc_CH_STATE 1,1)]).putDram { (runningLate [(R.dc_CH_STATE 1,1)]).dram with chSet := 0 },
    by decide +kernel⟩

theorem hyps_FirmwareAndPackage_16 : ∃ (s : State), (s.mode.rstN = true ∨ s.amp.key ≠ none) :=
  ⟨running [],
    by decide +kernel⟩

theorem hyps_FirmwareAndPackage_17 : ∃ (s : State), s.mode.rstN = false ∧ s.amp.key = none :=
  ⟨{ (running []) with mode := { (running []).mode with rstN := false } },
    by decide +kernel⟩

theorem hyps_Sealing_1 : ∃ (s : State) (h : Hdr), OwnerAsks s h 0x02 ∧ s.part.fronts ≤ 7 ∧ s.part.amp = true ∧ s.free_ R.am_SEAL ∧ s.legalSet.eraseDups.length = s.legalSet.length ∧ (∀ n ∈ s.legalSet, n < s.part.channels) ∧ s.rd R.am_AMP_STATE = 1 ∧ s.rd R.am_LOOP = 1 ∧ 10 ≤ s.amp.loopSince ∧ s.rd R.ap_PROG_STATE = 3 ∧ s.legalSet ≠ [] ∧ (∀ n ∈ s.legalSet, ∃ p ∈ s.pathsFrom s.legalSet, s.rd (R.pa_SOURCE p) = n ∧ s.rd (R.pa_ENABLE p) ≠ 0 ∧ s.rd (R.pa_SEAL p) ≠ 0) ∧ s.sealBlocked s.legalSet = false ∧ s.legalRate (s.pathsFrom s.legalSet) ≤ 2000000 * 65536 ∧ s.rd R.am_EVENT_COUNT ≠ 0xFFFFFFFF ∧ s.rd R.au_CHANGES_LEFT ≠ 0 :=
  ⟨{ (running [(R.ls_LEGAL_CH 5, 3),(R.am_AMP_STATE,1),(R.am_LOOP,1),(R.ap_PROG_STATE,3),(R.pa_ENABLE 2,1),(R.pa_SEAL 2,1),(R.pa_SOURCE 2,3),(R.pa_OUT_PERIOD 2,65536000),(R.au_CHANGES_LEFT,7)]) with part := { (running [(R.ls_LEGAL_CH 5, 3),(R.am_AMP_STATE,1),(R.am_LOOP,1),(R.ap_PROG_STATE,3),(R.pa_ENABLE 2,1),(R.pa_SEAL 2,1),(R.pa_SOURCE 2,3),(R.pa_OUT_PERIOD 2,65536000),(R.au_CHANGES_LEFT,7)]).part with amp := true }, amp := { (running [(R.ls_LEGAL_CH 5, 3),(R.am_AMP_STATE,1),(R.am_LOOP,1),(R.ap_PROG_STATE,3),(R.pa_ENABLE 2,1),(R.pa_SEAL 2,1),(R.pa_SOURCE 2,3),(R.pa_OUT_PERIOD 2,65536000),(R.au_CHANGES_LEFT,7)]).amp with loopSince := 10 } }, ownHdr,
    asks_of _ _ _ (by decide +kernel), by decide +kernel⟩

theorem hyps_Sealing_2 : ∃ (s : State) (h : Hdr), OwnerAsks s h 0x02 ∧ s.part.fronts ≤ 7 ∧ s.part.amp = true ∧ s.free_ R.am_SEAL ∧ s.legalSet.eraseDups.length = s.legalSet.length ∧ (∀ n ∈ s.legalSet, n < s.part.channels) ∧ s.rd R.am_LOOP ≠ 1 :=
  ⟨{ (running [(R.ls_LEGAL_CH 5, 3),(R.am_AMP_STATE,1),(R.am_LOOP,0)]) with part := { (running [(R.ls_LEGAL_CH 5, 3),(R.am_AMP_STATE,1),(R.am_LOOP,0)]).part with amp := true } }, ownHdr,
    asks_of _ _ _ (by decide +kernel), by decide +kernel⟩

theorem hyps_Sealing_3 : ∃ (s : State), s.rd R.am_AMP_STATE = 2 :=
  ⟨{ (running [(R.am_AMP_STATE,2),(R.au_CHANGES_LEFT,7)]) with part := { (running [(R.am_AMP_STATE,2),(R.au_CHANGES_LEFT,7)]).part with amp := true }, amp := { (running [(R.am_AMP_STATE,2),(R.au_CHANGES_LEFT,7)]).amp with legal := [3], paths := [2] } },
    by decide +kernel⟩

theorem hyps_Sealing_4 : ∃ (s : State) (h : Hdr), OwnerAsks s h 0x02 ∧ s.part.fronts ≤ 7 ∧ s.part.amp = true ∧ s.free_ R.am_UNSEAL ∧ s.rd R.am_AMP_STATE = 3 ∧ s.rd R.am_LOOP = 0 ∧ 10 ≤ s.amp.loopSince ∧ s.rd R.au_CHANGES_LEFT ≠ 0 ∧ s.rd R.am_EVENT_COUNT < 0xFFFFFFFF :=
  ⟨{ (running [(R.am_AMP_STATE,3),(R.am_LOOP,0),(R.au_CHANGES_LEFT,7),(R.am_KEY_ID,99)]) with part := { (running [(R.am_AMP_STATE,3),(R.am_LOOP,0),(R.au_CHANGES_LEFT,7),(R.am_KEY_ID,99)]).part with amp := true }, amp := { (running [(R.am_AMP_STATE,3),(R.am_LOOP,0),(R.au_CHANGES_LEFT,7),(R.am_KEY_ID,99)]).amp with key := some 9, loopSince := 10 } }, ownHdr,
    asks_of _ _ _ (by decide +kernel), by decide +kernel⟩

theorem hyps_Sealing_5 : ∃ (s : State), s.rd R.am_AMP_STATE = 4 :=
  ⟨{ (running [(R.am_AMP_STATE,4),(R.am_KEY_ID,99),(R.am_PUBKEY,88),(R.ch_LEGAL 3,1)]) with part := { (running [(R.am_AMP_STATE,4),(R.am_KEY_ID,99),(R.am_PUBKEY,88),(R.ch_LEGAL 3,1)]).part with amp := true }, amp := { (running [(R.am_AMP_STATE,4),(R.am_KEY_ID,99),(R.am_PUBKEY,88),(R.ch_LEGAL 3,1)]).amp with key := some 9, legal := [3] } },
    by decide +kernel⟩

theorem hyps_Sealing_6 : ∃ (s : State) (t : State) (h : Hdr), OwnerAsks s h 0x02 ∧ (s.touch h.session).sealAct 0 true = (0, t) ∧ s.part.fronts ≤ 7 ∧ s.part.amp = true ∧ s.free_ R.am_SEAL :=
  ⟨{ (running [(R.ls_LEGAL_CH 5, 3),(R.am_AMP_STATE,1),(R.am_LOOP,1),(R.ap_PROG_STATE,3),(R.pa_ENABLE 2,1),(R.pa_SEAL 2,1),(R.pa_SOURCE 2,3),(R.pa_OUT_PERIOD 2,65536000),(R.au_CHANGES_LEFT,7)]) with part := { (running [(R.ls_LEGAL_CH 5, 3),(R.am_AMP_STATE,1),(R.am_LOOP,1),(R.ap_PROG_STATE,3),(R.pa_ENABLE 2,1),(R.pa_SEAL 2,1),(R.pa_SOURCE 2,3),(R.pa_OUT_PERIOD 2,65536000),(R.au_CHANGES_LEFT,7)]).part with amp := true }, amp := { (running [(R.ls_LEGAL_CH 5, 3),(R.am_AMP_STATE,1),(R.am_LOOP,1),(R.ap_PROG_STATE,3),(R.pa_ENABLE 2,1),(R.pa_SEAL 2,1),(R.pa_SOURCE 2,3),(R.pa_OUT_PERIOD 2,65536000),(R.au_CHANGES_LEFT,7)]).amp with loopSince := 10 } }, _, ownHdr,
    asks_of _ _ _ (by decide +kernel), okPair _ (by decide +kernel), by decide +kernel⟩

theorem hyps_Sealing_7 : ∃ (s : State) (t : State) (h : Hdr), OwnerAsks s h 0x02 ∧ (s.touch h.session).unsealAct 0 true = (0, t) ∧ s.part.fronts ≤ 7 ∧ s.part.amp = true ∧ s.free_ R.am_UNSEAL :=
  ⟨{ (running [(R.am_AMP_STATE,3),(R.am_LOOP,0),(R.au_CHANGES_LEFT,7),(R.am_EVENT_COUNT,0xFFFFFFFF)]) with part := { (running [(R.am_AMP_STATE,3),(R.am_LOOP,0),(R.au_CHANGES_LEFT,7),(R.am_EVENT_COUNT,0xFFFFFFFF)]).part with amp := true }, amp := { (running [(R.am_AMP_STATE,3),(R.am_LOOP,0),(R.au_CHANGES_LEFT,7),(R.am_EVENT_COUNT,0xFFFFFFFF)]).amp with key := some 9, loopSince := 10 } }, _, ownHdr,
    asks_of _ _ _ (by decide +kernel), okPair _ (by decide +kernel), by decide +kernel⟩

theorem hyps_Sealing_8 : ∃ (s : State) (h : Hdr), OwnerAsks s h 0x02 ∧ s.part.fronts ≤ 7 ∧ s.part.amp = true ∧ s.free_ R.am_UNSEAL ∧ (s.rd R.am_AMP_STATE ≠ 3 ∨ s.rd R.am_LOOP ≠ 0 ∨ s.amp.loopSince < 10) :=
  ⟨{ (running [(R.am_AMP_STATE,3),(R.am_LOOP,1)]) with part := { (running [(R.am_AMP_STATE,3),(R.am_LOOP,1)]).part with amp := true }, amp := { (running [(R.am_AMP_STATE,3),(R.am_LOOP,1)]).amp with key := some 9, loopSince := 10 } }, ownHdr,
    asks_of _ _ _ (by decide +kernel), by decide +kernel⟩

theorem hyps_Sealing_9 : ∃ (s : State), s.rd R.am_AMP_STATE ≠ 2 :=
  ⟨running [],
    by decide +kernel⟩

theorem hyps_Sealing_10 : ∃ (s : State), s.rd R.am_AMP_STATE ≠ 4 :=
  ⟨running [],
    by decide +kernel⟩

theorem hyps_Sealing_11 : ∃ (s : State) (ohms : Nat), s.part.amp = true ∧ 1000 < ohms ∧ ohms < 10000 :=
  ⟨{ (running []) with part := { (running []).part with amp := true } }, 1001,
    by decide +kernel⟩

theorem hyps_Sealing_12 : ∃ (s : State) (ohms : Nat), s.part.amp = true ∧ ohms ≤ 1000 ∧ s.amp.loopKind = 1 ∧ 2 ≤ s.amp.loopRun ∧ s.rd R.am_LOOP = 0 ∧ s.amp.key = none :=
  ⟨{ (running [(R.am_LOOP,0)]) with part := { (running [(R.am_LOOP,0)]).part with amp := true }, amp := { (running [(R.am_LOOP,0)]).amp with loopRun := 2, loopKind := 1, loopSince := 90 } }, 1000,
    by decide +kernel⟩

theorem hyps_Sealing_13 : ∃ (s : State) (ohms : Nat) (k : Nat), s.part.amp = true ∧ 10000 ≤ ohms ∧ s.amp.loopKind = 0 ∧ 2 ≤ s.amp.loopRun ∧ s.rd R.am_LOOP = 1 ∧ s.amp.key = some k ∧ s.amp.notices.length < 1024 :=
  ⟨{ (running [(R.am_LOOP,1)]) with part := { (running [(R.am_LOOP,1)]).part with amp := true }, amp := { (running [(R.am_LOOP,1)]).amp with key := some 7, loopRun := 2, loopKind := 0, loopSince := 90 } }, 10000, 7,
    by decide +kernel⟩

theorem hyps_Sealing_14 : ∃ (s : State) (ohms : Nat) (k : Nat) (n : Nat), k = (if ohms ≤ 1000 then 1 else 0) ∧ n = (if s.amp.loopKind = k then s.amp.loopRun + 1 else 1) ∧ s.part.amp = true ∧ (ohms ≤ 1000 ∨ 10000 ≤ ohms) ∧ (n < 3 ∨ s.rd R.am_LOOP = k) :=
  ⟨{ (running [(R.am_LOOP,1)]) with part := { (running [(R.am_LOOP,1)]).part with amp := true }, amp := { (running [(R.am_LOOP,1)]).amp with loopRun := 7, loopKind := 1 } }, 10000, _, _,
    rfl, rfl, by decide +kernel⟩

theorem hyps_Sealing_15 : ∃ (s : State) (ohms : Nat), s.part.amp = true ∧ 10000 ≤ ohms ∧ s.amp.loopKind = 0 ∧ 2 ≤ s.amp.loopRun ∧ s.rd R.am_LOOP = 1 ∧ s.amp.key = none :=
  ⟨{ (running [(R.am_LOOP,1)]) with part := { (running [(R.am_LOOP,1)]).part with amp := true }, amp := { (running [(R.am_LOOP,1)]).amp with loopRun := 2, loopKind := 0 } }, 10000,
    by decide +kernel⟩

theorem hyps_Sealing_16 : ∃ (s : State) (ohms : Nat) (k : Nat), s.part.amp = true ∧ ohms ≤ 1000 ∧ s.amp.loopKind = 1 ∧ 2 ≤ s.amp.loopRun ∧ s.rd R.am_LOOP = 0 ∧ s.amp.key = some k ∧ s.amp.notices.length < 1024 :=
  ⟨{ (running []) with part := { (running []).part with amp := true }, amp := { (running []).amp with key := some 4, loopRun := 2, loopKind := 1, openSpans := [(5,none),(3,some 4)] } }, 9, 4,
    by decide +kernel⟩

theorem hyps_Sealing_17 : ∃ (s : State) (ohms : Nat), s.part.amp = false :=
  ⟨{ (running []) with part := { (running []).part with amp := false } }, 1,
    by decide +kernel⟩

theorem hyps_LegalProgram_1 : ∃ (s : State) (h : Hdr), OwnerAsks s h 0x02 ∧ s.part.fronts ≤ 7 ∧ s.part.amp = true ∧ s.free_ R.ap_PROG_ACTIVATE ∧ s.amp.key = none ∧ s.rd R.am_AMP_STATE ≠ 2 ∧ s.rd R.am_EVENT_COUNT < 0xFFFFFFFF ∧ s.rd R.au_CHANGES_LEFT ≠ 0 ∧ s.rd R.ap_PROG_STATE = 2 :=
  ⟨{ (running [(R.am_AMP_STATE,1),(R.ap_PROG_STATE,2),(R.au_CHANGES_LEFT,7)]) with part := { (running [(R.am_AMP_STATE,1),(R.ap_PROG_STATE,2),(R.au_CHANGES_LEFT,7)]).part with amp := true } }, ownHdr,
    asks_of _ _ _ (by decide +kernel), by decide +kernel⟩

theorem hyps_LegalProgram_2 : ∃ (s : State) (h : Hdr), OwnerAsks s h 0x02 ∧ s.part.fronts ≤ 7 ∧ s.part.amp = true ∧ s.amp.key ≠ none :=
  ⟨{ (running [(R.am_AMP_STATE,3),(R.ap_PROG_STATE,2),(R.au_CHANGES_LEFT,7)]) with part := { (running [(R.am_AMP_STATE,3),(R.ap_PROG_STATE,2),(R.au_CHANGES_LEFT,7)]).part with amp := true }, amp := { (running [(R.am_AMP_STATE,3),(R.ap_PROG_STATE,2),(R.au_CHANGES_LEFT,7)]).amp with key := some 4 } }, ownHdr,
    asks_of _ _ _ (by decide +kernel), by decide +kernel⟩

theorem hyps_LegalProgram_3 : ∃ (s : State) (p : Nat) (block : List Nat), (s.rd R.am_AMP_STATE ≠ 3 ∨ s.amp.paths.contains p = false) :=
  ⟨running [], 7, [],
    by decide +kernel⟩

theorem hyps_LegalProgram_4 : ∃ (s : State) (p : Nat) (bseq : Nat) (count : Nat) (first : Nat), s.rd R.am_AMP_STATE = 3 ∧ s.amp.paths.contains p = true ∧ p < 4096 ∧ bseq < 65535 ∧ 1 ≤ count ∧ count < 2048 ∧ first < 2 ^ 64 ∧ tabGet none s.amp.expect p = some (bseq, first) ∧ s.rd (R.pa_OUT_PERIOD p) ≠ 0 ∧ 8192 ≤ s.rd R.lr_LREC_COPY ∧ ticksOfT96 (t96OfTicks first) = first :=
  ⟨{ (running [(R.lr_LREC_COPY,0xFFFF),(R.am_AMP_STATE,3),(R.pa_OUT_PERIOD 7,65536000),(R.pa_FIR_DEC 7,1)]) with amp := { (running [(R.lr_LREC_COPY,0xFFFF),(R.am_AMP_STATE,3),(R.pa_OUT_PERIOD 7,65536000),(R.pa_FIR_DEC 7,1)]).amp with paths := [7], expect := [(7, some (9, 50 * 65536000))] } }, 7, 9, 2, 50 * 65536000,
    by decide +kernel⟩

theorem hyps_LegalProgram_5 : ∃ (s : State) (p : Nat) (k : Nat) (n : Nat) (b : Nat) (first : Nat), n = (s.time.ticks - s.blockDeadline p first) / s.rd (R.pa_OUT_PERIOD p) + 1 ∧ s.amp.key = some k ∧ s.amp.paths.contains p = true ∧ tabGet none s.amp.expect p = some (b, first) ∧ 1 ≤ s.rd (R.pa_OUT_PERIOD p) ∧ s.blockDeadline p first ≤ s.time.ticks ∧ s.amp.notices.length < 1024 :=
  ⟨{ (running [(R.am_AMP_STATE,3),(R.pa_OUT_PERIOD 7,65536000),(R.pa_FIR_DEC 7,1)]) with amp := { (running [(R.am_AMP_STATE,3),(R.pa_OUT_PERIOD 7,65536000),(R.pa_FIR_DEC 7,1)]).amp with key := some 5, paths := [7], expect := [(7, some (9, 123456789012345678 - 5000000 * 65536000))] } }, 7, 5, _, 9, 123456789012345678 - 5000000 * 65536000,
    rfl, by decide +kernel⟩

theorem hyps_LegalProgram_6 : ∃ (s : State) (p : Nat) (count : Nat) (first : Nat) (block : List Nat), count = field (block.getD 1 0) 31 21 ∧ first = ticksOfT96 (block.getD 2 0 + block.getD 3 0 * 2 ^ 32 + block.getD 4 0 * 2 ^ 64) ∧ s.rd R.am_AMP_STATE = 3 ∧ s.amp.paths.contains p = true ∧ 0 < count :=
  ⟨{ (running [(R.lr_LREC_COPY,0xFFFF),(R.am_AMP_STATE,3),(R.pa_OUT_PERIOD 7,65536000),(R.pa_FIR_DEC 7,1)]) with amp := { (running [(R.lr_LREC_COPY,0xFFFF),(R.am_AMP_STATE,3),(R.pa_OUT_PERIOD 7,65536000),(R.pa_FIR_DEC 7,1)]).amp with key := some 5, paths := [7], expect := [(7, some (9, 50 * 65536000))] } }, 7, _, _, lehrBlock 7 11 0 (60 * 65536000) 0 false false true [0,0],
    rfl, rfl, by decide +kernel⟩

theorem hyps_LegalProgram_7 : ∃ (s : State) (p : Nat) (count : Nat) (first : Nat) (b : Nat) (from_ : Nat) (block : List Nat), count = field (block.getD 1 0) 31 21 ∧ first = ticksOfT96 (block.getD 2 0 + block.getD 3 0 * 2 ^ 32 + block.getD 4 0 * 2 ^ 64) ∧ s.rd R.am_AMP_STATE = 3 ∧ s.amp.paths.contains p = true ∧ 0 < count ∧ tabGet none s.amp.expect p = some (b, from_) ∧ from_ < first :=
  ⟨{ (running [(R.lr_LREC_COPY,0xFFFF),(R.am_AMP_STATE,3),(R.pa_OUT_PERIOD 7,65536000),(R.pa_FIR_DEC 7,1)]) with amp := { (running [(R.lr_LREC_COPY,0xFFFF),(R.am_AMP_STATE,3),(R.pa_OUT_PERIOD 7,65536000),(R.pa_FIR_DEC 7,1)]).amp with key := some 5, paths := [7], expect := [(7, some (9, 50 * 65536000))] } }, 7, _, _, 9, 50 * 65536000, lehrBlock 7 11 0 (60 * 65536000) 0 false false true [0,0],
    rfl, rfl, by decide +kernel⟩

theorem hyps_LegalProgram_8 : ∃ (s : State) (p : Nat) (count : Nat) (first : Nat) (block : List Nat), count = field (block.getD 1 0) 31 21 ∧ first = ticksOfT96 (block.getD 2 0 + block.getD 3 0 * 2 ^ 32 + block.getD 4 0 * 2 ^ 64) ∧ s.rd R.am_AMP_STATE = 3 ∧ s.amp.paths.contains p = true ∧ count = 0 :=
  ⟨{ (running [(R.lr_LREC_COPY,0xFFFF),(R.am_AMP_STATE,3),(R.pa_OUT_PERIOD 7,65536000),(R.pa_FIR_DEC 7,1)]) with amp := { (running [(R.lr_LREC_COPY,0xFFFF),(R.am_AMP_STATE,3),(R.pa_OUT_PERIOD 7,65536000),(R.pa_FIR_DEC 7,1)]).amp with key := some 5, paths := [7], expect := [(7, some (9, 50 * 65536000))] } }, 7, _, _, lehrBlock 7 11 0 (60 * 65536000) 0 false false true [],
    rfl, rfl, by decide +kernel⟩

theorem hyps_LegalProgram_9 : ∃ (s : State) (p : Nat) (n : Nat) (b : Nat) (first : Nat) (period : Nat), period = max 1 (s.pathFrame p).period ∧ n = (s.time.ticks - s.blockDeadline p first) / period + 1 ∧ s.amp.key ≠ none ∧ s.amp.paths.contains p = true ∧ tabGet none s.amp.expect p = some (b, first) ∧ s.blockDeadline p first ≤ s.time.ticks :=
  ⟨{ (running [(R.am_AMP_STATE,3),(R.pa_OUT_PERIOD 7,65536000),(R.pa_FIR_DEC 7,1)]) with amp := { (running [(R.am_AMP_STATE,3),(R.pa_OUT_PERIOD 7,65536000),(R.pa_FIR_DEC 7,1)]).amp with key := some 5, paths := [7], expect := [(7, some (9, 123456789012345678 - 5000000 * 65536000))] } }, 7, _, 9, 123456789012345678 - 5000000 * 65536000, _,
    rfl, rfl, by decide +kernel⟩

theorem hyps_LegalProgram_10 : ∃ (s : State) (p : Nat) (b : Nat) (first : Nat), tabGet none s.amp.expect p = some (b, first) ∧ s.time.ticks < s.blockDeadline p first :=
  ⟨{ (running []) with amp := { (running []).amp with key := some 5, paths := [7], expect := [(7, some (9, 123456789012345679))] } }, 7, 9, 123456789012345679,
    by decide +kernel⟩

theorem hyps_LegalProgram_11 : ∃ (s : State) (t : State) (h : Hdr), OwnerAsks s h 0x02 ∧ (s.touch h.session).progActivateAct 0 true = (0, t) ∧ s.part.fronts ≤ 7 ∧ s.part.amp = true ∧ s.amp.key = none ∧ s.rd R.am_AMP_STATE ≠ 2 ∧ s.free_ R.ap_PROG_ACTIVATE :=
  ⟨{ (running [(R.am_AMP_STATE,1),(R.ap_PROG_STATE,2),(R.au_CHANGES_LEFT,7)]) with part := { (running [(R.am_AMP_STATE,1),(R.ap_PROG_STATE,2),(R.au_CHANGES_LEFT,7)]).part with amp := true } }, _, ownHdr,
    asks_of _ _ _ (by decide +kernel), okPair _ (by decide +kernel), by decide +kernel⟩

theorem hyps_AmpouleRuns_2 : ∃ (s : State) (d : Nat), s.part.amp = true ∧ d ∉ s.amp.suspect ∧ s.amp.notices.length < 1024 :=
  ⟨{ (running []) with part := { (running []).part with amp := true } }, 3,
    by decide +kernel⟩

theorem hyps_AmpouleRuns_3 : ∃ (s : State) (d : Nat) (uv : Nat), s.part.amp = true :=
  ⟨{ (running []) with part := { (running []).part with amp := true }, amp := { (running []).amp with suspect := [2,3] } }, 3, 40,
    by decide +kernel⟩

theorem hyps_AmpouleRuns_4 : ∃ (s : State) (at_ : Nat), s.part.amp = true ∧ 1024 ≤ s.amp.notices.length :=
  ⟨{ (running []) with part := { (running []).part with amp := true }, amp := { (running []).amp with notices := List.replicate 1024 (auditEntry 1 false 0 0 0 0 0 [] []) } }, 40,
    by decide +kernel⟩

theorem hyps_AmpouleRuns_5 : ∃ (s : State), s.part.amp = true ∧ s.rd R.am_AMP_STATE ≠ 5 ∧ (s.amp.restarts.filter fun x => s.time.edge < x + 3600 * edgesPerSec).length < 3 :=
  ⟨{ (running [(R.am_AMP_STATE,3)]) with part := { (running [(R.am_AMP_STATE,3)]).part with amp := true }, amp := { (running [(R.am_AMP_STATE,3)]).amp with restarts := [0, 0] } },
    by decide +kernel⟩

theorem hyps_AmpouleRuns_6 : ∃ (s : State), s.part.amp = true ∧ s.rd R.am_AMP_STATE ≠ 5 ∧ 3 ≤ (s.amp.restarts.filter fun x => s.time.edge < x + 3600 * edgesPerSec).length :=
  ⟨{ (running [(R.am_AMP_STATE,3)]) with part := { (running [(R.am_AMP_STATE,3)]).part with amp := true }, amp := { (running [(R.am_AMP_STATE,3)]).amp with restarts := [0, 0, 0] } },
    by decide +kernel⟩

theorem hyps_AmpouleRuns_7 : ∃ (s : State) (h : Hdr), OwnerAsks s h 0x02 ∧ s.part.fronts ≤ 7 ∧ s.part.amp = true ∧ s.free_ R.am_AMP_RESTART :=
  ⟨{ (running [(R.am_AMP_STATE,5)]) with part := { (running [(R.am_AMP_STATE,5)]).part with amp := true }, amp := { (running [(R.am_AMP_STATE,5)]).amp with held := true } }, ownHdr,
    asks_of _ _ _ (by decide +kernel), by decide +kernel⟩

theorem hyps_AmpouleRuns_8 : ∃ (s : State), s.rd R.am_AMP_STATE = 5 ∧ s.amp.held = false ∧ s.amp.key = none :=
  ⟨{ (running [(R.am_AMP_STATE,5)]) with part := { (running [(R.am_AMP_STATE,5)]).part with amp := true } },
    by decide +kernel⟩

theorem hyps_AmpouleRuns_9 : ∃ (s : State) (k : Nat) (f : Nat), s.rd R.am_AMP_STATE = 5 ∧ s.amp.held = false ∧ s.amp.key = some k ∧ s.amp.outageFrom = some f ∧ s.amp.notices.length < 1024 :=
  ⟨{ (running [(R.am_AMP_STATE,5)]) with part := { (running [(R.am_AMP_STATE,5)]).part with amp := true }, amp := { (running [(R.am_AMP_STATE,5)]).amp with key := some 8, paths := [2,3], outageFrom := some 44, nextRnum := 9, reserved := 257 } }, 8, 44,
    by decide +kernel⟩

theorem hyps_AmpouleRuns_10 : ∃ (s : State), s.amp.held = true :=
  ⟨{ (running [(R.am_AMP_STATE,5)]) with amp := { (running [(R.am_AMP_STATE,5)]).amp with held := true } },
    by decide +kernel⟩

theorem hyps_AmpouleRuns_11 : ∃ (s : State) (h : Hdr) (eno : Nat), OwnerAsks s h 0x02 ∧ s.part.fronts ≤ 7 ∧ s.free_ R.au_AUDIT_SEL ∧ eno < 2 ^ 32 ∧ (s.auditHeld eno).isSome = true :=
  ⟨{ (running []) with amp := { (running []).amp with notices := [auditEntry 1 false 0 5 0 0 0 [] []] } }, ownHdr, 5,
    asks_of _ _ _ (by decide +kernel), by decide +kernel⟩

theorem hyps_AmpouleRuns_12 : ∃ (s : State) (h : Hdr) (eno : Nat), OwnerAsks s h 0x02 ∧ s.part.fronts ≤ 7 ∧ s.free_ R.au_AUDIT_SEL ∧ eno < 2 ^ 32 ∧ s.auditHeld eno = none :=
  ⟨running [], ownHdr, 5,
    asks_of _ _ _ (by decide +kernel), by decide +kernel⟩

theorem hyps_AmpouleRuns_13 : ∃ (s : State) (h : Hdr) (x : LegalRec) (rest : List LegalRec), OwnerAsks s h 0x02 ∧ s.part.fronts ≤ 7 ∧ s.part.amp = true ∧ s.free_ R.lr_LREC_POP ∧ s.rd R.lr_LREC_TENANT = 0 ∧ s.amp.queue = x :: rest ∧ x.rnum < 2 ^ 32 :=
  ⟨{ (running [(R.lr_LREC_TENANT,0)]) with part := { (running [(R.lr_LREC_TENANT,0)]).part with amp := true }, amp := { (running [(R.lr_LREC_TENANT,0)]).amp with queue := [⟨77, [1], 2⟩] } }, ownHdr, ⟨77, [1], 2⟩, [],
    asks_of _ _ _ (by decide +kernel), by decide +kernel⟩

theorem hyps_AmpouleRuns_14 : ∃ (s : State) (h : Hdr) (n : Nat), OwnerAsks s h 0x02 ∧ s.part.fronts ≤ 7 ∧ s.part.amp = true ∧ s.free_ R.lr_LREC_POP ∧ s.rd R.lr_LREC_TENANT = 0 ∧ s.amp.queue = [] ∧ n < 2 ^ 32 :=
  ⟨{ (running [(R.lr_LREC_TENANT,0)]) with part := { (running [(R.lr_LREC_TENANT,0)]).part with amp := true } }, ownHdr, 7,
    asks_of _ _ _ (by decide +kernel), by decide +kernel⟩

theorem hyps_AmpouleRuns_15 : ∃ (s : State) (n : Notice), (∀ d, n ≠ .refSuspect d) ∧ (∀ d uv, n ≠ .recalibrated d uv) ∧ (∀ c k, n ≠ .substitution c k) ∧ s.part.amp = true :=
  ⟨{ (running []) with part := { (running []).part with amp := true } }, .stepAccepted 2 3 4 5,
    nofun, nofun, nofun, by decide +kernel⟩

theorem hyps_AmpouleRuns_16 : ∃ (s : State) (d : Nat), s.part.amp = true ∧ d ∈ (s.noticeEntry (.refSuspect d)).amp.suspect :=
  ⟨{ (running []) with part := { (running []).part with amp := true }, amp := { (running []).amp with suspect := [3] } }, 3,
    by decide +kernel⟩

theorem hyps_AmpouleRuns_17 : ∃ (s : State) (u : State) (c : Nat) (k : Nat), u = s.noticeEntry (.substitution c k) ∧ s.part.amp = true :=
  ⟨{ (running [(R.pa_SOURCE 7,3)]) with part := { (running [(R.pa_SOURCE 7,3)]).part with amp := true }, amp := { (running [(R.pa_SOURCE 7,3)]).amp with paths := [6,7], key := some 3 } }, _, 3, 2,
    rfl, by decide +kernel⟩

theorem hyps_AmpouleRuns_18 : ∃ (s : State), (s.part.amp = false ∨ s.rd R.am_AMP_STATE = 5) :=
  ⟨running [(R.am_AMP_STATE,5)],
    by decide +kernel⟩

theorem hyps_AmpouleRuns_19 : ∃ (s : State), s.rd R.am_AMP_STATE ≠ 5 :=
  ⟨running [(R.am_AMP_STATE,3)],
    by decide +kernel⟩

theorem hyps_AmpouleRuns_20 : ∃ (s : State) (from_ : Nat), from_ = s.amp.outageFrom.getD s.now ∧ s.rd R.am_AMP_STATE = 5 ∧ s.amp.held = false :=
  ⟨{ (running [(R.am_AMP_STATE,5)]) with amp := { (running [(R.am_AMP_STATE,5)]).amp with key := some 4, paths := [5] } }, _,
    rfl, by decide +kernel⟩

theorem hyps_AmpouleRuns_21 : ∃ (s : State) (h : Hdr) (n : Nat), OwnerAsks s h 0x02 ∧ s.part.fronts ≤ 7 ∧ s.part.amp = true ∧ s.free_ R.lr_LREC_POP ∧ s.rd R.lr_LREC_TENANT ≠ 0 ∧ n < 2 ^ 32 :=
  ⟨{ (running [(R.lr_LREC_TENANT,4)]) with part := { (running [(R.lr_LREC_TENANT,4)]).part with amp := true } }, ownHdr, 5,
    asks_of _ _ _ (by decide +kernel), by decide +kernel⟩

theorem hyps_AmpouleRuns_22 : ∃ (s : State) (h : Hdr) (x : LegalRec) (rest : List LegalRec) (n : Nat), OwnerAsks s h 0x02 ∧ s.part.fronts ≤ 7 ∧ s.part.amp = true ∧ s.free_ R.lr_LREC_POP ∧ s.rd R.lr_LREC_TENANT = 0 ∧ s.amp.queue = x :: rest ∧ x.rnum ≠ n ∧ n < 2 ^ 32 :=
  ⟨{ (running [(R.lr_LREC_TENANT,0)]) with part := { (running [(R.lr_LREC_TENANT,0)]).part with amp := true }, amp := { (running [(R.lr_LREC_TENANT,0)]).amp with queue := [⟨6, [], 0⟩] } }, ownHdr, ⟨6, [], 0⟩, [], 5,
    asks_of _ _ _ (by decide +kernel), by decide +kernel⟩

end Sys2Proof.Tests
end

section
/-! PROOFS of the scope family: the time formats, one main-clock edge, and a write of SET_TIME that the type check refuses
(R5 to R7). -/

namespace Sys2Proof.Machine

/-! ### The values of a request as octets, and the T96 and T64 formats (R5 to R8) -/

@[simp] theorem length_natLE (n v : Nat) : (natLE n v).length = n := by
  induction n generalizing v with
  | zero => rfl
  | succ n ih => simp [natLE, ih]

/-- The octets of a number read back as its low octets. -/
theorem leNat_natLE (n v : Nat) : leNat (natLE n v) = v % 256 ^ n := by
  induction n generalizing v with
  | zero => simp [natLE, leNat, Nat.mod_one]
  | succ n ih =>
    simp only [natLE, leNat, ih, BitVec.toNat_ofNat, Nat.reducePow, pow_succ' 256 n, Nat.mod_mul]

theorem t96Valid_iff (v : Nat) :
    t96Valid v = true ↔ field v 47 46 = 0 ∧ field v 45 16 < 1000000000 ∧ v < 2 ^ 96 := by
  simp [t96Valid, and_assoc]

/-- Bits [47:16] at or above 1,000,000,000 break R6: bits [47:46] are not zero, or the nanoseconds are too many. -/
theorem t96Valid_eq_false (v : Nat) (h : 1000000000 ≤ v / 2 ^ 16 % 2 ^ 32) : t96Valid v = false := by
  rw [Bool.eq_false_iff, ne_eq, t96Valid_iff]
  simp only [field]
  omega

section
variable {sec ns frac : Nat} (hns : ns < 1000000000) (hfrac : frac < 65536) (hsec : sec < 2 ^ 48)
include hns hfrac

/-- The fields of a value laid out as R6 lays out a T96. -/
theorem fields_of_t96 : field (sec * 2 ^ 48 + ns * 2 ^ 16 + frac) 47 46 = 0
    ∧ field (sec * 2 ^ 48 + ns * 2 ^ 16 + frac) 45 16 = ns
    ∧ field (sec * 2 ^ 48 + ns * 2 ^ 16 + frac) 15 0 = frac := by
  simp only [field]
  omega

include hsec in
theorem seconds_of_t96 : field (sec * 2 ^ 48 + ns * 2 ^ 16 + frac) 95 48 = sec := by
  simp only [field]
  omega

include hsec in
theorem t96Valid_fields : t96Valid (sec * 2 ^ 48 + ns * 2 ^ 16 + frac) = true := by
  obtain ⟨hzero, hnano, -⟩ := fields_of_t96 (sec := sec) hns hfrac
  rw [t96Valid_iff, hzero, hnano]
  omega

include hsec in
theorem ticksOfT96_fields :
    ticksOfT96 (sec * 2 ^ 48 + ns * 2 ^ 16 + frac) = (sec * 1000000000 + ns) * 65536 + frac := by
  obtain ⟨-, hnano, hticks⟩ := fields_of_t96 (sec := sec) hns hfrac
  rw [ticksOfT96, seconds_of_t96 hns hfrac hsec, hnano, hticks]
  simp only [ticksPerSec, ticksPerNs]
  omega

theorem t96OfTicks_fields :
    t96OfTicks ((sec * 1000000000 + ns) * 65536 + frac) = sec * 2 ^ 48 + ns * 2 ^ 16 + frac := by
  simp only [t96OfTicks, ticksPerSec, ticksPerNs]
  omega

end

/-- An entry of type T96 refuses twelve octets that break R6 with 0x2021. -/
theorem decodeVal_t96_error (w : Row) (v : Nat) (hw : w.ty = .t96) (hv : v < 2 ^ 96) (h : t96Valid v = false) :
    decodeVal w (natLE 12 v) = .error 0x2021 := by
  have hread : leNat (natLE 12 v) = v := by
    rw [leNat_natLE]
    exact Nat.mod_eq_of_lt hv
  simp [decodeVal, hw, hread, h]

/-- The signed 64-bit difference is the true one, but for a multiple of 2^64 ticks that brings it into its range (R7). -/
theorem t64Diff_eq_of_sub_eq (target now : Nat) (d : Int) (k : Int) (hd : (target : Int) - now = d + k * 2 ^ 64)
    (hlow : -2 ^ 63 < d) (hhigh : d < 2 ^ 63) : t64Diff (t64OfTicks target) now = d := by
  unfold t64Diff toSigned ofSigned t64OfTicks
  split <;> omega

theorem t64Past_iff (target now : Nat) : t64Past target now = true ↔ t64Diff target now ≤ 0 := by
  simp [t64Past]

/-! ### The injection delays leave hub time alone (R293) -/

namespace State

theorem sendBlock_keeps (s : State) (l header : Nat) (p : Block) : Keeps s (s.sendBlock l header p) [.lanes, .out] :=
  ((Keeps.refl s _).setLane _ _ (by simp)).emit _ (by simp)

theorem sendStriped_keeps (s : State) (b : Nat) (l : List (Nat × Block)) : Keeps s (s.sendStriped b l) [.lanes, .out] := by
  unfold sendStriped
  dsimp only
  split
  · exact (Keeps.refl s _).setBundle _ _ (by simp)
  · exact ((Keeps.refl s _).setBundle _ _ (by simp)).then_ (Keeps.each (fun u e => sendBlock_keeps u _ _ _) _ _) (by simp)

/-- A unit that goes out changes the lanes that carry it and what has left, and nothing else. -/
theorem leave_keeps (s : State) (flip : Option Nat) (o : Out) : Keeps s (s.leave flip o) [.lanes, .out] := by
  unfold leave
  split
  · split
    · exact ((Keeps.refl s _).emit _ (by simp)).then_ (sendStriped_keeps _ _ _) (by simp)
    · exact ((Keeps.refl s _).emit _ (by simp)).then_ (sendStriped_keeps _ _ _) (by simp)
  · exact (Keeps.refl s _).emit _ (by simp)

theorem leaveDelayed_keeps (s : State) : Keeps s s.leaveDelayed [.lanes, .out] :=
  ((Keeps.refl s _).putLanes _ (by simp)).then_ (Keeps.each (fun u e => leave_keeps u _ _) _ _) (by simp)

@[simp] theorem leaveDelayed_time (s : State) : s.leaveDelayed.time = s.time := (leaveDelayed_keeps s).same .time (by simp)

/-- Recording how the counter goes on changes the record alone. -/
theorem recordTime_eq (s : State) : s.recordTime = s ∨ ∃ l, s.recordTime = s.putTime { s.time with hist := l } := by
  unfold recordTime
  dsimp only
  split
  · exact .inl rfl
  · exact .inr ⟨_, rfl⟩

@[simp] theorem recordTime_rd (s : State) (r : Reg) : s.recordTime.rd r = s.rd r := by
  rcases recordTime_eq s with h | ⟨l, h⟩ <;> rw [h]
  exact putTime_rd _ _ _

@[simp] theorem recordTime_counter (s : State) : s.recordTime.counter = s.counter := by
  rcases recordTime_eq s with h | ⟨l, h⟩ <;> rw [h]
  rfl

/-- What one main-clock edge makes of a running counter, in 2^-32 of a tick (R31). -/
theorem tick_running (s : State) (h : s.time.running = true) :
    s.tick.time.ticks = (s.counter + s.rd R.tm_INCR) / 2 ^ 32 ∧ s.tick.time.frac = (s.counter + s.rd R.tm_INCR) % 2 ^ 32 := by
  simp [tick, h]

end State

/-- With nothing waiting, one main-clock edge passes. -/
theorem step_of_empty (s : State) (h : s.pending = []) : step s = .next s.tick := by
  simp [step, h]

/-! ### A refused request of the Owner (R301) -/

/-- A request whose checks answer a code and leave the state is refused with it. -/
theorem refused_of_perform (s : State) (h : Hdr) (q : Req) (code : Nat) (a : OwnerAsks s h q.typ) (hq : q.formOk = true)
    (hp : (s.touch h.session).perform ⟨h.session, some 0, h.tag, none⟩ q = (s.touch h.session, answer code)) :
    Refused s (s.serve h q) h q.typ code := by
  have hx : h.session < 64 := by
    have hopen := a.opened
    simp only [State.sessionOpen, Bool.and_eq_true, decide_eq_true_eq] at hopen
    exact hopen.1
  rw [serve_owner s h q a hq _ _ (by simp [answer]) hp (by simp)]
  refine ⟨fun r => ?_, ?_, ?_⟩
  · rw [answer, State.reply_one_rd _ _ _ _ _ (by simp only; omega), State.touch_rd s _ a.opened]
    rfl
  · rw [answer, State.reply_one_out _ _ _ _ _ _ _ (by omega), State.touch_out]
  · exact ((State.touch_keeps s _).mono (by simp)).then_ (State.reply_keeps _ _ _ _ (by simp only; omega)) (by simp)

/-- A write outside a clause, whose entry is the writer's to write and free, is refused with the code of the type check
(R301 step 8). -/
theorem perform_write_decode_error (s : State) (w : Who) (idx sub code : Nat) (value : List Byte) (r : Reg) (row : Row)
    (hentry : s.writeEntry w.tenant idx sub = .ok (r, row)) (hlock : s.lockCode w.key 0 r row = 0)
    (hval : decodeVal row value = .error code) :
    s.perform w (.write idx sub 0 value) = (s, answer code) := by
  have hslot : s.slotFor w.key 0 = 0 := by simp [State.slotFor]
  have hrenew : s.renewLease w.key 0 = s := by simp [State.renewLease]
  simp [State.perform, hslot, hrenew, State.doWrite, hentry, hlock, hval]

/-- The row of SET_TIME in Table 2-5. -/
def rowSetTime : Row := ⟨0x13, .t96, .wo, .P, 0, .any, 0x2022⟩

/-- The Owner may write SET_TIME, which no seal freezes (R37, R41). -/
theorem writeEntry_setTime (s : State) (hp : s.part.fronts ≤ 7) :
    s.writeEntry (some 0) (s.indexOf .time 0) R.tm_SET_TIME.sub = .ok (R.tm_SET_TIME, rowSetTime) := by
  have hrow : rowAt .time R.tm_SET_TIME.sub = some rowSetTime := rfl
  have hent := entryAt_indexOf s hp .time 0 R.tm_SET_TIME.sub rowSetTime rfl rfl hrow
  have hrights : s.rightsCode (some 0) R.tm_SET_TIME rowSetTime true = 0 := rfl
  have hlegal : s.legalCode R.tm_SET_TIME = 0 := by
    simp [State.legalCode, State.sealedEntry, State.frozenBy, hrow, rowSetTime, Acc.legal, codeIf]
  have hwo : (rowSetTime.acc == .ro) = false := rfl
  simp [State.writeEntry, hent, hrights, hlegal, hwo, firstCode, codeIf]

/-- A write of SET_TIME with a value that breaks R6 is refused with 0x2021. -/
theorem exec_setTime_refused (s : State) (h : Hdr) (v : Nat) (a : OwnerAsks s h 0x02) (hp : s.part.fronts ≤ 7)
    (hfree : s.free_ R.tm_SET_TIME) (hv : v < 2 ^ 96) (hbad : t96Valid v = false) :
    ∃ t, exec (.setTime h 0 (natLE 12 v)) s = .next t ∧ Refused s t h 0x02 0x2021 := by
  refine ⟨_, rfl, refused_of_perform s h (.write (s.indexOf .time 0) 0x13 0 (natLE 12 v)) 0x2021 a rfl ?_⟩
  refine perform_write_decode_error _ _ _ _ _ _ R.tm_SET_TIME rowSetTime ?_ ?_
    (decodeVal_t96_error rowSetTime v rfl hv hbad)
  · exact writeEntry_setTime (s.touch h.session) (by simpa using hp)
  · simp [State.lockCode, firstCode, codeIf, rowSetTime, Acc.clauseOnly, State.touch_lockHolder, hfree.1]

/-! ### The obligations -/

/-- Settles O2: after an edge the counter is its old value and INCR, and 40,000 ticks of INCR leave the fraction. -/
theorem tickAndMainClock : Obligations.TickAndMainClock := by
  unfold Obligations.TickAndMainClock
  refine ⟨rfl, rfl, fun s hempty hrun hincr hfrac => ⟨_, step_of_empty s hempty, ?_⟩⟩
  obtain ⟨hticks, hrest⟩ := State.tick_running s hrun
  rw [hticks, hrest, hincr, State.counter]
  omega

/-- Settles O3, by the fields of the layout, and by the type check that a write of SET_TIME meets. -/
theorem t96Values : Obligations.T96Values := by
  unfold Obligations.T96Values
  refine ⟨fun sec ns frac hns hfrac hsec => ?_, fun w v hw hv hbad => ?_, fun s h v a hp hfree hv hbad => ?_⟩
  · exact ⟨t96Valid_fields hns hfrac hsec, ticksOfT96_fields hns hfrac hsec, t96OfTicks_fields hns hfrac⟩
  · exact decodeVal_t96_error w v hw hv (t96Valid_eq_false v hbad)
  · exact exec_setTime_refused s h v a hp hfree hv (t96Valid_eq_false v hbad)

/-- Settles O4: a target more than 2^47 ns ahead differs by its distance less 2^64 ticks, which is not positive. -/
theorem t64Targets : Obligations.T64Targets := by
  unfold Obligations.T64Targets
  refine ⟨fun n => ⟨rfl, ?_⟩, fun now target hhigh hlow => ?_, fun now k hlow hhigh => ?_⟩
  · simp only [t64OfTicks, ticksPerNs]
    omega
  · have hdiff := t64Diff_eq_of_sub_eq target now _ 0 (by simp) hlow hhigh
    refine ⟨hdiff, ?_⟩
    rw [t64Past_iff, hdiff]
    omega
  · simp only [ticksPerNs] at hlow hhigh
    have hdiff := t64Diff_eq_of_sub_eq (now + k) now (k - 2 ^ 64) 1 (by push_cast; ring) (by omega) (by omega)
    rw [t64Past_iff, hdiff]
    omega

end Sys2Proof.Machine
end

section
/-! PROOFS of the modes family: what starts a bank leaves the mode and hub time alone, the causes of Table 13-4 do not
depend on the sessions, and MODE_REQ 6 leaves Safe (R322, R332, R333). -/

namespace Sys2Proof.Machine

/-! ### What banks, channels and die links do leaves the mode, hub time and the entries of the modes alone -/

/-- The mode, hub time and the entries of the modes are the same in two states. -/
structure KeepsModes (s t : State) : Prop where
  mode : t.mode = s.mode
  time : t.time = s.time
  regs : ∀ r, r.grp = .modes → t.rd r = s.rd r

namespace KeepsModes

theorem refl (s : State) : KeepsModes s s := ⟨rfl, rfl, fun _ _ => rfl⟩

theorem trans {s t u : State} (h : KeepsModes s t) (k : KeepsModes t u) : KeepsModes s u :=
  ⟨k.mode.trans h.mode, k.time.trans h.time, fun r hr => (k.regs r hr).trans (h.regs r hr)⟩

theorem of_keeps {s t : State} {l : List Field} (k : Keeps s t l) (hl : ∀ f ∈ l, f ≠ .mode ∧ f ≠ .time ∧ f ≠ .regs) :
    KeepsModes s t := by
  refine ⟨k.same .mode fun hm => (hl _ hm).1 rfl, k.same .time fun hm => (hl _ hm).2.1 rfl, fun r _ => ?_⟩
  have hregs : t.regs = s.regs := k.same .regs fun hm => (hl _ hm).2.2 rfl
  rw [State.rd, State.rd, hregs]

theorem each {α : Type} {f : State → α → State} (hf : ∀ s a, KeepsModes s (f s a)) (s : State) (L : List α) :
    KeepsModes s (s.each L f) := by
  induction L generalizing s with
  | nil => exact refl s
  | cons a t ih => exact (hf s a).trans (ih (f s a))

theorem ite {s t u : State} {c : Prop} [Decidable c] (ht : KeepsModes s t) (hu : KeepsModes s u) :
    KeepsModes s (if c then t else u) := by
  split
  · exact ht
  · exact hu

variable {s u : State} (h : KeepsModes s u)
include h

theorem wr (r : Reg) (v : Nat) (hr : r.grp ≠ .modes) : KeepsModes s (u.wr r v) := by
  refine h.trans ⟨rfl, rfl, fun k hk => ?_⟩
  have hne : k ≠ r := fun hkr => hr (hkr ▸ hk)
  rw [State.wr_rd, if_neg hne]

theorem count (r : Reg) (n : Nat) (hr : r.grp ≠ .modes) : KeepsModes s (u.count r n) := h.wr r _ hr

theorem wrBit (r : Reg) (i : Nat) (b : Bool) (hr : r.grp ≠ .modes) : KeepsModes s (u.wrBit r i b) := h.wr r _ hr

theorem bump : KeepsModes s u.bump :=
  h.trans (of_keeps ((Keeps.refl u [.freeCount]).bump (by simp)) (by simp))

theorem putLanes (x : Lanes) : KeepsModes s (u.putLanes x) :=
  h.trans (of_keeps ((Keeps.refl u [.lanes]).putLanes x (by simp)) (by simp))

theorem setLink (i : Nat) (x : DieLink) : KeepsModes s (u.setLink i x) :=
  h.trans (of_keeps ((Keeps.refl u [.links]).setLink i x (by simp)) (by simp))

theorem setChan (i : Nat) (x : Chan) : KeepsModes s (u.setChan i x) :=
  h.trans (of_keeps ((Keeps.refl u [.chans]).setChan i x (by simp)) (by simp))

theorem setQuad (i : Nat) (x : Quad) : KeepsModes s (u.setQuad i x) :=
  h.trans (of_keeps ((Keeps.refl u [.quads]).setQuad i x (by simp)) (by simp))

theorem setCap (i : Nat) (x : Cap) : KeepsModes s (u.setCap i x) :=
  h.trans (of_keeps ((Keeps.refl u [.caps]).setCap i x (by simp)) (by simp))

end KeepsModes

namespace State

/-! The injection rules and the die links (R13 to R16, R293). -/

theorem leave_keepsModes (s : State) (flip : Option Nat) (o : Out) : KeepsModes s (s.leave flip o) :=
  .of_keeps (leave_keeps s flip o) (by simp)

theorem ruleActs_keepsModes (s : State) (i : Nat) : KeepsModes s (s.ruleActs i).2 := by
  have counted : KeepsModes s (s.putLanes { s.lanes with
      injCount := tabPut 0 i (tabGet 0 s.lanes.injCount i + 1) s.lanes.injCount }).bump :=
    ((KeepsModes.refl s).putLanes _).bump
  unfold ruleActs
  simp only [apply_ite Prod.snd]
  exact .ite counted (.ite (((counted.count _ _ (by simp)).wr _ _ (by simp)).wr _ _ (by simp))
    (counted.count _ _ (by simp)))

theorem injectAction_keepsModes (s : State) (target : Nat) : KeepsModes s (s.injectAction target).2 := by
  unfold injectAction
  refine List.foldlRecOn (motive := fun p : (Nat × Nat) × State => KeepsModes s p.2) _ _ (KeepsModes.refl s)
    fun p hp i _ => ?_
  dsimp only
  split
  · exact hp
  · exact hp.trans (ruleActs_keepsModes p.2 i)

theorem emitUnit_keepsModes (s : State) (target : Nat) (o : Out) : KeepsModes s (s.emitUnit target o) := by
  have hact := injectAction_keepsModes s target
  unfold emitUnit
  dsimp only
  split_ifs
  · exact hact
  · exact hact.putLanes _
  · exact hact.putLanes _
  · exact ((hact.bump.trans (leave_keepsModes _ _ _)).putLanes _).trans (.each (fun u e => leave_keepsModes u _ _) _ _)
  · exact ((hact.trans (leave_keepsModes _ _ _)).putLanes _).trans (.each (fun u e => leave_keepsModes u _ _) _ _)

theorem setLinkDir_keepsModes (s : State) (d : Nat) (toHub : Bool) (x : LinkDir) :
    KeepsModes s (s.setLinkDir d toHub x) := (KeepsModes.refl s).setLink _ _

theorem transmit_keepsModes (s : State) (d : Nat) (toHub : Bool) (r : FlitRec) :
    KeepsModes s (s.transmit d toHub r) :=
  (setLinkDir_keepsModes s d toHub _).trans (emitUnit_keepsModes _ _ _)

theorem releaseFlits_keepsModes (s : State) (d : Nat) (toHub : Bool) : KeepsModes s (s.releaseFlits d toHub) :=
  .ite (.refl s) ((setLinkDir_keepsModes s d toHub _).trans (.each (fun u r => transmit_keepsModes u d toHub r) _ _))

theorem sendRec_keepsModes (s : State) (d : Nat) (toHub : Bool) (r : FlitRec) : KeepsModes s (s.sendRec d toHub r) :=
  (setLinkDir_keepsModes s d toHub _).trans (releaseFlits_keepsModes _ d toHub)

theorem endGobStream_keepsModes (s : State) (n : Nat) : KeepsModes s (s.endGobStream n) :=
  (KeepsModes.ite (sendRec_keepsModes s _ _ _) (.refl s)).setChan _ _

theorem endRawStream_keepsModes (s : State) (n : Nat) : KeepsModes s (s.endRawStream n) :=
  (KeepsModes.ite (sendRec_keepsModes s _ _ _) (.refl s)).setChan _ _

/-! A channel's streams and its capture pass samples again (R137, R138, R192 to R196). -/

theorem gobChange_keepsModes (s : State) (n : Nat) (restart : Bool) : KeepsModes s (s.gobChange n restart) :=
  (((KeepsModes.refl s).setChan _ _).wrBit _ _ _ (by simp)).wrBit _ _ _ (by simp)

theorem gobResume_keepsModes (s : State) (n : Nat) : KeepsModes s (s.gobResume n) :=
  .ite (.refl s) ((((KeepsModes.refl s).setChan _ _).setChan _ _).wrBit _ _ _ (by simp))

theorem ringPeaks_keepsModes (s : State) (d : Nat) : KeepsModes s (s.ringPeaks d) := by
  have hsram : KeepsModes s (if s.rd (R.ri_SRAM_PEAK d) < s.sramUsed d then s.wr (R.ri_SRAM_PEAK d) (s.sramUsed d)
      else s) := .ite ((KeepsModes.refl s).wr _ _ (by simp)) (.refl s)
  exact .ite (hsram.wr _ _ (by simp)) hsram

theorem armChannel_keepsModes (s : State) (n : Nat) : KeepsModes s (s.armChannel n) := by
  have harm (x : Cap) (v : Nat) : KeepsModes s ((s.setCap n x).wr (R.pu_ARM_STATE n) v) :=
    ((KeepsModes.refl s).setCap _ _).wr _ _ (by simp)
  exact (KeepsModes.ite (((harm _ _).setCap _ _).wr _ _ (by simp)) (harm _ _)).trans (ringPeaks_keepsModes _ _)

theorem capResume_keepsModes (s : State) (n : Nat) : KeepsModes s (s.capResume n) := by
  have hist : KeepsModes s (s.setCap n { s.cap n with histFrom := s.now }) := (KeepsModes.refl s).setCap _ _
  exact .ite (.refl s) (.ite (.ite ((hist.setCap _ _).wr _ _ (by simp)) (hist.trans (armChannel_keepsModes _ n))) hist)

theorem resumeIf_keepsModes (s : State) (n : Nat) : KeepsModes s (s.resumeIf n) :=
  .ite (.refl s) ((gobResume_keepsModes s n).trans (capResume_keepsModes _ n))

theorem quickChange_keepsModes (s : State) (n : Nat) (restart : Bool) : KeepsModes s (s.quickChange n restart) := by
  have hchange := gobChange_keepsModes s n restart
  exact .ite (hchange.trans (resumeIf_keepsModes _ n)) (.ite hchange (hchange.trans (gobResume_keepsModes _ n)))

/-! Conversion starts and stops, and excitation takes effect (R79, R95, R103, R115). -/

theorem startConverting_keepsModes (s : State) (n : Nat) : KeepsModes s (s.startConverting n) :=
  (((((KeepsModes.refl s).wrBit _ _ _ (by simp)).wrBit _ _ _ (by simp)).setChan _ _).trans
    (gobChange_keepsModes _ n true)).trans (resumeIf_keepsModes _ n)

theorem stopConverting_keepsModes (s : State) (n : Nat) : KeepsModes s (s.stopConverting n) := by
  have hend : KeepsModes s (if s.converting n then (s.endGobStream n).endRawStream n else s) :=
    .ite ((endGobStream_keepsModes s n).trans (endRawStream_keepsModes _ n)) (.refl s)
  exact ((hend.wrBit _ _ _ (by simp)).wrBit _ _ _ (by simp)).setChan _ _

theorem deferStart_keepsModes (s : State) (n : Nat) (bank : Bool) : KeepsModes s (s.deferStart n bank) := by
  have hbank : KeepsModes s (if bank then s.count (R.bk_DEFERRALS (bankOfChan n)) 1 else s) :=
    .ite ((KeepsModes.refl s).count _ _ (by simp)) (.refl s)
  exact ((hbank.count _ _ (by simp)).wrBit _ _ _ (by simp)).setChan _ _

theorem settleConversion_keepsModes (s : State) (n : Nat) : KeepsModes s (s.settleConversion n) := by
  have hbit := (KeepsModes.refl s).wrBit (R.ch_CONV_STATUS n) 6 (s.rd (R.bk_BANK_STATE (bankOfChan n)) != 3) (by simp)
  exact .ite (.ite hbit (hbit.trans (startConverting_keepsModes _ n)))
    (.ite (.ite hbit (hbit.trans (deferStart_keepsModes _ n true)))
      (.ite (.ite hbit (hbit.trans (stopConverting_keepsModes _ n)))
        (.ite ((hbit.setChan _ _).wrBit _ _ _ (by simp)) hbit)))

theorem excTakesEffect_keepsModes (s : State) (q : Nat) : KeepsModes s (s.excTakesEffect q) :=
  ((((KeepsModes.refl s).setQuad _ _).wr _ _ (by simp)).trans
    (.each (fun u n => (KeepsModes.refl u).wrBit _ _ _ (by simp)) _ _)).trans
    (.each (fun u n => quickChange_keepsModes u n false) _ _)

theorem setDriver_keepsModes (s : State) (q : Nat) (on : Bool) : KeepsModes s (s.setDriver q on) := by
  have hquad (x : Quad) : KeepsModes s (s.setQuad q x) := (KeepsModes.refl s).setQuad _ _
  exact .ite (hquad _) ((hquad _).wrBit _ _ _ (by simp))

theorem excNow_keepsModes (s : State) (q : Nat) : KeepsModes s (s.excNow q) :=
  ((excTakesEffect_keepsModes s q).setQuad _ _).trans (setDriver_keepsModes _ q _)

/-! A bank is enabled, gated, and goes where it is commanded (R102, R115, R117). -/

theorem enableBank_keepsModes (s : State) (b : Nat) : KeepsModes s (s.enableBank b) :=
  (((((KeepsModes.refl s).wr _ _ (by simp)).wr _ _ (by simp)).wr _ _ (by simp)).trans
    (.each (fun u q => .ite (excNow_keepsModes u q) (.refl u)) _ _)).trans (.each settleConversion_keepsModes _ _)

theorem fenceBank_keepsModes (s : State) (b : Nat) : KeepsModes s (s.fenceBank b) :=
  .ite (.refl s) ((KeepsModes.refl s).wr _ _ (by simp))

theorem withdrawBursts_keepsModes (s : State) (b : Nat) : KeepsModes s (s.withdrawBursts b) :=
  .each (fun u q => ((KeepsModes.refl u).setQuad _ _).trans
    (.each (fun v n => ((KeepsModes.refl v).setChan _ _).wrBit _ _ _ (by simp)) _ _)) _ _

theorem commandBank_keepsModes (s : State) (b : Nat) : KeepsModes s (s.commandBank b) := by
  have settled {u : State} (hu : KeepsModes s u) : KeepsModes s (u.each (chansOfBank b) settleConversion) :=
    hu.trans (.each settleConversion_keepsModes _ _)
  have toState (v : Nat) : KeepsModes s (s.wr (R.bk_BANK_STATE b) v) := (KeepsModes.refl s).wr _ _ (by simp)
  refine .ite (fenceBank_keepsModes s b) (.ite (enableBank_keepsModes s b) (.ite ?_ (.ite ?_ (.ite ?_ (.refl s)))))
  · exact settled (.ite (withdrawBursts_keepsModes s b) (.refl s))
  · exact settled (toState 3)
  · exact settled ((toState 2).trans (withdrawBursts_keepsModes _ b))

/-! ### Calibrate begins -/

/-- From a mode that is neither Acquire nor Test another one begins now, and nothing else changes (R322). -/
theorem setBase_eq (s : State) (m : BaseMode) (hm : s.mode.base ≠ m) (ha : s.mode.base ≠ .acquire)
    (ht : s.mode.base ≠ .test) :
    s.setBase m = (s.putMode { s.mode with base := m }).wr R.mo_MODE_SINCE s.now96 := by
  simp [setBase, hm, ha, ht]

/-- What Calibrate leaves of the mode and hub time when it begins in Safe (R321, R333). -/
theorem enterCalibrate_of_safe (s : State) (h : s.mode.base = .safe) :
    s.enterCalibrate.mode.base = .calibrate ∧ s.enterCalibrate.time = s.time
      ∧ s.enterCalibrate.rd R.mo_MODE_SINCE = s.now96 := by
  have hbase := setBase_eq s .calibrate (by simp [h]) (by simp [h]) (by simp [h])
  obtain ⟨hmode, htime, hregs⟩ : KeepsModes (s.setBase .calibrate) s.enterCalibrate :=
    .each commandBank_keepsModes _ _
  rw [hmode, htime, hregs R.mo_MODE_SINCE rfl, hbase]
  simp

end State

/-! ### The causes of Table 13-4 do not depend on the sessions -/

/-- Two states that differ in the sessions and their entries alone; the order of the other entries may differ. -/
structure SameButSessions (s t : State) : Prop where
  keeps : Keeps s t [.regs, .sessions]
  rd : ∀ r, r.grp ≠ .session → t.rd r = s.rd r
  entries : (t.regs.filter fun e => e.1.grp ≠ .session).Perm (s.regs.filter fun e => e.1.grp ≠ .session)

section

variable {κ α : Type}

theorem alIns_perm (code : κ → Nat) (k : κ) (v : α) (l : List (κ × α)) : (alIns code k v l).Perm ((k, v) :: l) := by
  induction l with
  | nil => exact .refl _
  | cons e l ih =>
    rw [alIns]
    split
    · exact .refl _
    · exact (ih.cons e).trans (.swap _ _ _)

theorem filter_alIns_of_not (code : κ → Nat) (k : κ) (v : α) (l : List (κ × α)) (p : κ × α → Bool)
    (hp : p (k, v) = false) : (alIns code k v l).filter p = l.filter p := by
  induction l with
  | nil => simp [alIns, hp]
  | cons e l ih =>
    rw [alIns]
    split
    · simp [List.filter_cons, hp]
    · simp [List.filter_cons, ih]

variable [DecidableEq κ]

theorem filter_alErase_of_not (k : κ) (l : List (κ × α)) (p : κ × α → Bool) (hp : ∀ x, p (k, x) = false) :
    (alErase k l).filter p = l.filter p := by
  rw [alErase_eq_filter, List.filter_filter]
  refine List.filter_congr fun e _ => ?_
  obtain ⟨k', y⟩ := e
  by_cases hk : k' = k
  · subst hk; simp [hp]
  · simp [hk]

variable [DecidableEq α]

/-- Setting a key leaves the entries of other keys, in their order. -/
theorem filter_alPut_of_not (code : κ → Nat) (d v : α) (k : κ) (l : List (κ × α)) (p : κ × α → Bool)
    (hp : ∀ x, p (k, x) = false) : (alPut code d k v l).filter p = l.filter p := by
  rw [alPut]
  split
  · exact filter_alErase_of_not k l p hp
  · rw [filter_alIns_of_not _ _ _ _ _ (hp v), filter_alErase_of_not k l p hp]

/-- Setting a key in two lists with the same entries of a kind leaves them the same. -/
theorem filter_alPut_perm (code : κ → Nat) (d v : α) (k : κ) {l m : List (κ × α)} (p : κ × α → Bool)
    (h : (l.filter p).Perm (m.filter p)) : ((alPut code d k v l).filter p).Perm ((alPut code d k v m).filter p) := by
  have herase : ((alErase k l).filter p).Perm ((alErase k m).filter p) := by
    rw [alErase_eq_filter, alErase_eq_filter, List.filter_comm, List.filter_comm p]
    exact h.filter _
  have hins (n : List (κ × α)) : ((alIns code k v n).filter p).Perm ([(k, v)].filter p ++ n.filter p) := by
    rw [← List.filter_append]
    exact (alIns_perm code k v n).filter p
  rw [alPut, alPut]
  split
  · exact herase
  · exact (hins _).trans ((herase.append_left _).trans (hins _).symm)

end

/-- Two runs over a list keep a relation that each of their steps keeps. -/
theorem each_related {α : Type} (P : State → State → Prop) (f : State → α → State)
    (hf : ∀ s t a, P s t → P (f s a) (f t a)) (L : List α) (s t : State) (h : P s t) : P (s.each L f) (t.each L f) := by
  induction L generalizing s t with
  | nil => exact h
  | cons a L ih => exact ih _ _ (hf s t a h)

/-- A sum does not depend on the order of its terms. -/
theorem foldl_add_perm {l m : List Nat} (h : l.Perm m) (f : Nat → Nat) :
    l.foldl (fun a p => a + f p) 0 = m.foldl (fun a p => a + f p) 0 := by
  have : RightCommutative fun a p => a + f p := ⟨fun a b c => Nat.add_right_comm a _ _⟩
  exact h.foldl_eq 0

namespace SameButSessions

variable {s t : State} (h : SameButSessions s t)
include h

theorem wr (r : Reg) (v : Nat) : SameButSessions (s.wr r v) (t.wr r v) := by
  refine ⟨⟨fun f hf => ?_⟩, fun k hk => ?_, filter_alPut_perm _ _ _ _ _ h.entries⟩
  · have hsame := h.keeps.same f hf
    cases f <;> simp_all [State.same]
  · rw [State.wr_rd, State.wr_rd, h.rd k hk]

theorem wrDom (r : Reg) (l : List Byte) : SameButSessions (s.wrDom r l) (t.wrDom r l) := by
  have hdoms : t.doms = s.doms := h.keeps.same .doms (by simp)
  refine ⟨⟨fun f hf => ?_⟩, h.rd, h.entries⟩
  have hsame := h.keeps.same f hf
  cases f <;> simp_all [State.same, State.wrDom]

theorem put (r : Reg) (v : Val) : SameButSessions (s.put r v) (t.put r v) := by
  cases v with
  | num v => exact h.wr r v
  | dom l => exact h.wrDom r l

theorem insts (g : Grp) (sub : Nat) (hg : g ≠ .session) : (t.insts g sub).Perm (s.insts g sub) := by
  have hsub (l : RegFile) : (l.filter fun e => decide (e.1.grp = g) && e.1.sub == sub)
      = (l.filter fun e => e.1.grp ≠ .session).filter fun e => decide (e.1.grp = g) && e.1.sub == sub := by
    rw [List.filter_filter]
    refine List.filter_congr fun e _ => ?_
    by_cases he : e.1.grp = g <;> simp [he, hg]
  rw [State.insts, State.insts, hsub t.regs, hsub s.regs]
  exact (h.entries.filter _).map _

theorem rdDom (r : Reg) : t.rdDom r = s.rdDom r := by
  have hdoms : t.doms = s.doms := h.keeps.same .doms (by simp)
  rw [State.rdDom, State.rdDom, hdoms]

theorem path (p : Nat) : t.path p = s.path p := by
  have hpaths : t.paths = s.paths := h.keeps.same .paths (by simp)
  rw [State.path, State.path, hpaths]

theorem lives (p : Nat) : t.lives p = s.lives p := by
  have hlehr : t.lehr = s.lehr := h.keeps.same .lehr (by simp)
  rw [State.lives, State.lives, hlehr]

theorem clauses : t.clauses = s.clauses := h.keeps.same .clauses (by simp)

theorem clause (c : Nat) : t.clause c = s.clause c := by
  rw [State.clause, State.clause, h.clauses]

/-! The Lehr's load (R155, R166). -/

theorem decProduct (n k : Nat) : t.decProduct n k = s.decProduct n k := by
  induction k with
  | zero => rfl
  | succ k ih => simp [State.decProduct, State.stageDec, ih, h.rd]

theorem isBurst (n : Nat) : t.isBurst n = s.isBurst n := by simp [State.isBurst, h.rd]

theorem burstPeriod (q : Nat) : t.burstPeriod q = s.burstPeriod q := by simp [State.burstPeriod, h.rd]

theorem inRate (n : Nat) : t.inRate n = s.inRate n := by
  simp [State.inRate, h.rd, h.decProduct, h.isBurst, h.burstPeriod]

theorem pathFrame (p : Nat) : t.pathFrame p = s.pathFrame p := by simp [State.pathFrame, h.rd]

theorem pathCfg (p : Nat) : t.pathCfg p = s.pathCfg p := by simp [State.pathCfg, h.rd, h.rdDom]

theorem pathCost (f : LehrFrame) (c : LehrCfg) : t.pathCost f c = s.pathCost f c := by
  simp [State.pathCost, State.midRate, h.inRate]

theorem budgetCfgs (p : Nat) : t.budgetCfgs p = s.budgetCfgs p := by
  have hlife : t.newestLife p = s.newestLife p := by rw [State.newestLife, State.newestLife, h.lives, h.path]
  rw [State.budgetCfgs, State.budgetCfgs, hlife, h.pathCfg]

theorem costOf (p : Nat) : t.costOf p = s.costOf p := by
  have hcost (f : LehrFrame) : t.pathCost f = s.pathCost f := funext (h.pathCost f)
  rw [State.costOf, State.costOf, h.budgetCfgs, h.pathFrame, hcost]

theorem enabledPaths : t.enabledPaths.Perm s.enabledPaths := by
  have henable : (fun p => t.rdB (R.pa_ENABLE p)) = fun p => s.rdB (R.pa_ENABLE p) := by simp [h.rd]
  rw [State.enabledPaths, State.enabledPaths, henable]
  exact (h.insts .path 0x01 (by simp)).filter _

theorem costInForce : t.costInForce = s.costInForce := by
  have hcost : t.costOf = s.costOf := funext h.costOf
  rw [State.costInForce, State.costInForce, hcost]
  exact foldl_add_perm h.enabledPaths _

theorem reservedClauses : t.reservedClauses = s.reservedClauses := by
  simp [State.reservedClauses, h.clauses, h.rd]

theorem pathStaged (c p : Nat) : SameButSessions (s.pathStaged c p) (t.pathStaged c p) := by
  rw [State.pathStaged, State.pathStaged, h.clause]
  exact each_related _ _ (fun _ _ e hst => hst.put e.1 e.2) _ _ _ h

theorem changedSubs_path {s' t' : State} (h' : SameButSessions s' t') (p : Nat) (subs : List Nat) :
    State.changedSubs t t' .path p subs = State.changedSubs s s' .path p subs := by
  simp [State.changedSubs, h.rd, h'.rd, h.rdDom, h'.rdDom]

theorem fadeClause (p : Nat) : t.fadeClause p = s.fadeClause p := by
  have hfades (c : Nat) : State.fades t (t.pathStaged c p) p = State.fades s (s.pathStaged c p) p := by
    have hstaged := h.pathStaged c p
    simp [State.fades, h.changedSubs_path hstaged, h.rd, hstaged.rd]
  rw [State.fadeClause, State.fadeClause, h.reservedClauses]
  simp only [hfades]

theorem fadeReserve (p : Nat) : t.fadeReserve p = s.fadeReserve p := by
  rw [State.fadeReserve, State.fadeReserve, h.fadeClause]
  cases s.fadeClause p with
  | none => rfl
  | some c => simp [h.pathCost, h.pathFrame, (h.pathStaged c p).pathCfg]

theorem reservedFades : t.reservedFades = s.reservedFades := by
  have hreserve : t.fadeReserve = s.fadeReserve := funext h.fadeReserve
  rw [State.reservedFades, State.reservedFades, hreserve]
  exact foldl_add_perm h.enabledPaths _

theorem reservedConfig : SameButSessions s.reservedConfig t.reservedConfig := by
  rw [State.reservedConfig, State.reservedConfig, h.reservedClauses]
  refine each_related _ _ (fun s t c hst => ?_) _ _ _ h
  rw [hst.clause]
  refine each_related _ _ (fun s t e hst => ?_) _ _ _ hst
  have hput := hst.put e.1 e.2
  have htenant := hput.rd (R.pa_TENANT e.1.inst) (by simp)
  have howner := hput.rd (R.cs_CL_TENANT c) (by simp)
  dsimp only
  rw [htenant, howner]
  split
  · exact hput.wr _ _
  · exact hput

theorem scheduledOld {l m : List Nat} (hl : l.Perm m) : t.scheduledOld l = s.scheduledOld m := by
  have hsum (u : State) (k : List Nat) : u.scheduledOld k = k.foldl (fun a p =>
      a + if (u.fadeClause p).isSome then u.pathCost (u.pathFrame p) (u.pathCfg p) else 0) 0 := by
    rw [State.scheduledOld]
    congr
    funext a p
    split <;> rfl
  rw [hsum, hsum]
  simp only [h.fadeClause, h.pathCost, h.pathFrame, h.pathCfg]
  exact foldl_add_perm hl _

theorem lehrLoad : t.lehrLoad = s.lehrLoad := by
  rw [State.lehrLoad, State.lehrLoad, h.costInForce, h.reservedFades, h.reservedConfig.costInForce,
    h.scheduledOld h.enabledPaths]

end SameButSessions

namespace State

/-- A message leaves the entries of other groups than the sessions', in their order. -/
theorem touch_filter_regs (s : State) (x : Nat) (p : Reg × Nat → Bool) (hp : ∀ e, e.1.grp = .session → p e = false) :
    (s.touch x).regs.filter p = s.regs.filter p := by
  unfold touch
  split
  · exact filter_alPut_of_not _ _ _ _ _ _ fun v => hp _ rfl
  · rfl

/-- A message changes its session and the entries of that alone. -/
theorem touch_sameButSessions (s : State) (x : Nat) : SameButSessions s (s.touch x) := by
  refine ⟨touch_keeps s x, fun r hr => touch_sub_rd s x r (.inl hr), ?_⟩
  rw [touch_filter_regs s x _ (by simp)]

theorem touch_insts (s : State) (x : Nat) (g : Grp) (sub : Nat) (hg : g ≠ .session) :
    (s.touch x).insts g sub = s.insts g sub := by
  rw [insts, insts, touch_filter_regs s x _ fun e he => by simp [he, hg.symm]]

/-! A message leaves the power drawn (R114, R199, R231, R330). -/

section

variable (s : State) (x : Nat)

theorem touch_rd_other (r : Reg) (hr : r.grp ≠ .session) : (s.touch x).rd r = s.rd r := touch_sub_rd s x r (.inl hr)

theorem touch_chanPower (n : Nat) : (s.touch x).chanPower n = s.chanPower n := by
  have h := touch_sameButSessions s x
  have hlen (q : Nat) : (s.touch x).burstLen q = s.burstLen q := by simp [burstLen, touch_rd_other]
  simp only [chanPower, h.isBurst, h.burstPeriod, hlen, touch_rd_other, ne_eq, reduceCtorEq, not_false_eq_true]

theorem touch_chansPower : (s.touch x).chansPower (s.touch x).stagedChannels = s.chansPower s.stagedChannels := by
  simp [chansPower, stagedChannels, touch_insts, touch_chanPower]

theorem touch_enabledPaths : (s.touch x).enabledPaths = s.enabledPaths := by
  simp [enabledPaths, touch_insts, touch_rd_other]

theorem touch_blockBits (p more : Nat) : (s.touch x).blockBits p more = s.blockBits p more := by
  simp [blockBits, blockRun, touch_rd_other, (touch_sameButSessions s x).pathFrame]

theorem touch_capsInto (q : Nat) : (s.touch x).capsInto q = s.capsInto q := by
  simp [capsInto, capChannels, touch_insts, touch_rd_other]

theorem touch_recordRate (q cost : Nat) : (s.touch x).recordRate q cost = s.recordRate q cost := by
  simp [recordRate, touch_capsInto, touch_rd_other]

theorem touch_queueBits (q : Nat) : (s.touch x).queueBits q = s.queueBits q := by
  simp [queueBits, pathsInto, pathBits, touch_enabledPaths, touch_blockBits, touch_recordRate, touch_rd_other]

theorem touch_ctxLoad (c : Nat) : (s.touch x).ctxLoad c = s.ctxLoad c := by
  simp [ctxLoad, queueOfCtx, touch_insts, touch_queueBits, touch_rd_other]

theorem touch_engineBusy (e : Nat) : (s.touch x).engineBusy e = s.engineBusy e := by
  have hload : (s.touch x).engineLoad e = s.engineLoad e := by simp [engineLoad, touch_ctxLoad, touch_rd_other]
  have hjobs (st : Nat) : (s.touch x).jobsIn st = s.jobsIn st := by simp [jobsIn, touch_rd_other]
  rw [engineBusy, engineBusy, hload, hjobs, hjobs]

theorem touch_fixedPower : (s.touch x).fixedPower = s.fixedPower := by
  simp [fixedPower, lanePower, dramPower, touch_engineBusy, touch_rd_other, (touch_sameButSessions s x).lehrLoad]

theorem touch_pEst : (s.touch x).pEst = s.pEst := by
  rw [pEst, pEst, touch_fixedPower, touch_chansPower]

theorem touch_pLimit : (s.touch x).pLimit = s.pLimit := by
  simp [pLimit, pVin, vinMin, vinMeas, pThermal, touch_rd_other]

/-- A message does not change whether the cause of Safe has cleared (Table 13-4). -/
theorem touch_causeCleared : (s.touch x).causeCleared = s.causeCleared := by
  have hmram : (s.touch x).mram = s.mram := (touch_keeps s x).same .mram (by simp)
  have hchans : (s.touch x).chSetNow = s.chSetNow := by
    have hdram : (s.touch x).dram = s.dram := (touch_keeps s x).same .dram (by simp)
    rw [chSetNow, chSetNow, touch_part, hdram]
  have htj : (s.touch x).tjOf = s.tjOf := by
    funext d
    rw [tjOf, tjOf, touch_mode]
  have hstate : (fun c => (s.touch x).rd (R.dc_CH_STATE c) != 5) = fun c => s.rd (R.dc_CH_STATE c) != 5 := by
    simp [touch_rd_other]
  rw [causeCleared, causeCleared, touch_rd_other s x R.mo_SAFE_CAUSE (by simp),
    touch_rd_other s x R.le_CAPACITY (by simp), (touch_sameButSessions s x).lehrLoad, hchans, hstate, hmram, touch_part,
    htj, touch_pEst, touch_pLimit]

/-- A message does not change whether the base mode is changing (R322). -/
theorem touch_changing : (s.touch x).changing = s.changing := by
  simp [changing, bankIds, touch_rd_other]

end

end State

/-! ### A write of MODE_REQ by the Owner (R301, R322) -/

/-- The row of MODE_REQ in Table 13-6. -/
def rowModeReq : Row := ⟨0x03, .u 1, .wo, .O, 0, .rg 1 7, 0x2131⟩

namespace State

theorem touch_free (s : State) (x : Nat) (r : Reg) (h : s.free_ r) : (s.touch x).free_ r := by
  obtain ⟨hlock, hfence, hreach⟩ := h
  exact ⟨(touch_lockHolder s x r).trans hlock, (touch_fenced s x r).trans hfence, (touch_reachCode s x r).trans hreach⟩

/-- No seal freezes MODE_REQ (R360). -/
theorem legalCode_modeReq (s : State) : s.legalCode R.mo_MODE_REQ = 0 := by
  have hrow : rowAt .modes 0x03 = some rowModeReq := rfl
  simp [legalCode, sealedEntry, frozenBy, hrow, rowModeReq, Acc.legal, codeIf]

theorem rightsCode_modeReq (s : State) : s.rightsCode (some 0) R.mo_MODE_REQ rowModeReq true = 0 := rfl

/-- The Owner may write MODE_REQ (R301 steps 3 to 6). -/
theorem writeEntry_modeReq (s : State) (hp : s.part.fronts ≤ 7) :
    s.writeEntry (some 0) (s.indexOf .modes 0) 0x03 = .ok (R.mo_MODE_REQ, rowModeReq) := by
  have hentry := entryAt_indexOf s hp .modes 0 0x03 rowModeReq rfl rfl rfl
  have hro : (rowModeReq.acc == .ro) = false := rfl
  simp [writeEntry, hentry, s.rightsCode_modeReq, s.legalCode_modeReq, hro, firstCode, codeIf]

theorem placeCode_modeReq (s : State) (v : Val) (hfree : s.free_ R.mo_MODE_REQ) :
    s.placeCode [(R.mo_MODE_REQ, v)] = 0 := by
  obtain ⟨-, hfence, hreach⟩ := hfree
  simp [placeCode, firstCode, codeIf, s.legalCode_modeReq, hfence, hreach]

/-- A commit of one action that is refused leaves the mark of that action alone (R301). -/
theorem commitWrites_action_refused (s u : State) (session tenant : Nat) (r : Reg) (v : Val) (code : Nat)
    (hact : isAction r = true) (hplace : s.placeCode [(r, v)] = 0) (hcode : code ≠ 0) (hwindow : code ≠ 0x7101)
    (hrun : s.runAction session tenant r v = (code, u)) :
    s.commitWrites session tenant [(r, v)] none = (code, s.refusedMark r) := by
  have hactions : s.runActions session tenant [(r, v)] = (code, u) := by
    simp [runActions, hact, hrun]
  simp [commitWrites, hact, hplace, hactions, hwindow]

/-- The values that MODE_REQ takes are decoded as they are sent, and are in its range (R301 step 8). -/
theorem decodeVal_modeReq (v : Nat) (hhigh : v ≤ 7) : decodeVal rowModeReq (natLE 1 v) = .ok (.num v) := by
  have hread : leNat (natLE 1 v) = v := by
    rw [leNat_natLE]
    omega
  simp [decodeVal, rowModeReq, hread]

theorem valueCheck_modeReq (s : State) (v : Nat) (hlow : 1 ≤ v) (hhigh : v ≤ 7) :
    s.valueCheck R.mo_MODE_REQ rowModeReq (.num v) = 0 := by
  simp [valueCheck, valueCode, rangeCheck, rowModeReq, Rng.holds, firstCode, hlow, hhigh]

/-- A write of MODE_REQ that Table 13-2 refuses changes nothing (R322). -/
theorem perform_modeReq_refused (s u : State) (w : Who) (v code : Nat) (hw : w.tenant = some 0)
    (hp : s.part.fronts ≤ 7) (hfree : s.free_ R.mo_MODE_REQ) (hlow : 1 ≤ v) (hhigh : v ≤ 7) (hcode : code ≠ 0)
    (hwindow : code ≠ 0x7101) (hrun : s.modeReqAct v = (code, u)) :
    s.perform w (.write (s.indexOf .modes 0) 0x03 0 (natLE 1 v)) = (s, answer code) := by
  have hslot : s.slotFor w.key 0 = 0 := by simp [slotFor]
  have hrenew : s.renewLease w.key 0 = s := by simp [renewLease]
  have hlock : s.lockCode w.key 0 R.mo_MODE_REQ rowModeReq = 0 := by
    simp [lockCode, firstCode, codeIf, rowModeReq, Acc.clauseOnly, hfree.1]
  have hput : s.putValue w 0 R.mo_MODE_REQ (.num v) = (code, s) :=
    commitWrites_action_refused s u w.key w.num R.mo_MODE_REQ (.num v) code rfl (s.placeCode_modeReq _ hfree) hcode
      hwindow hrun
  simp [perform, hslot, hrenew, doWrite, hw, s.writeEntry_modeReq hp, hlock, decodeVal_modeReq v hhigh,
    s.valueCheck_modeReq v hlow hhigh, hput]

end State

section

variable {s t : State} {h : Hdr} {v : Nat} (a : OwnerAsks s h 0x02) (hp : s.part.fronts ≤ 7)
  (hfree : s.free_ R.mo_MODE_REQ) (hlow : 1 ≤ v) (hhigh : v ≤ 7)
include a hp hfree hlow hhigh

/-- A change of mode that Table 13-2 allows is made and answered with 0x0000 (R322). -/
theorem serve_modeReq (hrun : (s.touch h.session).modeReqAct v = (0, t)) (ht : t.time.ticks = s.time.ticks) :
    s.serve h (.write (s.indexOf .modes 0) 0x03 0 (natLE 1 v))
      = t.reply ⟨h.session, some 0, h.tag, none⟩ 0x02 (answer 0) :=
  serve_action s h .modes 0 0x03 rowModeReq (natLE 1 v) (.num v) t a hp rfl rfl rfl rfl rfl rfl
    (State.rightsCode_modeReq _) (State.legalCode_modeReq _) hfree (State.decodeVal_modeReq v hhigh)
    (State.valueCheck_modeReq _ v hlow hhigh) hrun ht

/-- A change of mode that Table 13-2 does not allow is refused with its code (R322). -/
theorem serve_modeReq_refused {code : Nat} (hcode : code ≠ 0) (hwindow : code ≠ 0x7101)
    (hrun : (s.touch h.session).modeReqAct v = (code, t)) :
    Refused s (s.serve h (.write (s.indexOf .modes 0) 0x03 0 (natLE 1 v))) h 0x02 code :=
  refused_of_perform s h (.write (s.indexOf .modes 0) 0x03 0 (natLE 1 v)) code a rfl
    (State.perform_modeReq_refused (s.touch h.session) t _ v code rfl (by simpa using hp)
      (State.touch_free s h.session _ hfree) hlow hhigh hcode hwindow hrun)

end

/-! ### MODE_REQ 6 (R333) -/

theorem exec_modeReqLeaveSafe (s : State) (h : Hdr) :
    exec (.modeReqLeaveSafe h 0) s = .next (s.serve h (.write (s.indexOf .modes 0) 0x03 0 (natLE 1 6))) := rfl

/-- With no change of mode in progress, MODE_REQ 6 in Safe starts Calibrate if the cause has cleared, and is refused if
not; the message that brings it does not matter. -/
theorem State.touch_modeReqAct_leaveSafe (s : State) (x : Nat) (hsafe : s.mode.base = .safe)
    (hsettled : s.changing = false) :
    (s.touch x).modeReqAct 6
      = if s.causeCleared then ok (s.touch x).enterCalibrate else (0x3131, s.touch x) := by
  simp [State.modeReqAct, hsafe, hsettled, State.touch_changing, State.touch_causeCleared]

theorem OwnerAsks.session_lt {s : State} {h : Hdr} {typ : Nat} (a : OwnerAsks s h typ) : h.session < 256 := by
  have hopen := a.opened
  simp only [State.sessionOpen, Bool.and_eq_true, decide_eq_true_eq] at hopen
  omega

section

variable {s : State} {h : Hdr} (a : OwnerAsks s h 0x02) (hp : s.part.fronts ≤ 7) (hfree : s.free_ R.mo_MODE_REQ)
  (hsafe : s.mode.base = .safe) (hsettled : s.changing = false)
include a hp hfree hsafe hsettled

/-- With its cause cleared, the hub leaves Safe for Calibrate and says so (R333). -/
theorem leaveSafe_of_causeCleared (hclear : s.causeCleared = true) :
    ∃ t, exec (.modeReqLeaveSafe h 0) s = .next t ∧ t.mode.base = .calibrate ∧ t.rd R.mo_MODE_SINCE = s.now96
      ∧ t.out.getLast? = some (done h 0x02 []) := by
  have hrun : (s.touch h.session).modeReqAct 6 = (0, (s.touch h.session).enterCalibrate) := by
    rw [State.touch_modeReqAct_leaveSafe s _ hsafe hsettled, if_pos hclear, ok]
  obtain ⟨hbase, htime, hsince⟩ := State.enterCalibrate_of_safe (s.touch h.session) (by simpa using hsafe)
  refine ⟨_, exec_modeReqLeaveSafe s h, ?_⟩
  rw [serve_modeReq a hp hfree (by decide) (by decide) hrun (by simp [htime])]
  refine ⟨?_, ?_, ?_⟩
  · rw [(State.reply_keeps _ _ _ _ a.session_lt).same .mode (by simp), hbase]
  · rw [answer, State.reply_one_rd _ _ _ _ _ a.session_lt, hsince]
    simp
  · rw [answer, State.reply_one_out _ _ _ _ _ _ _ a.session_lt, List.getLast?_concat]
    rfl

/-- While its cause has not cleared, the hub stays in Safe, and nothing is changed (R333). -/
theorem leaveSafe_refused (hcause : s.causeCleared = false) :
    ∃ t, exec (.modeReqLeaveSafe h 0) s = .next t ∧ Refused s t h 0x02 0x3131 := by
  have hrun : (s.touch h.session).modeReqAct 6 = (0x3131, s.touch h.session) := by
    rw [State.touch_modeReqAct_leaveSafe s _ hsafe hsettled, if_neg (by simp [hcause])]
  exact ⟨_, exec_modeReqLeaveSafe s h,
    serve_modeReq_refused a hp hfree (by decide) (by decide) (by decide) (by decide) hrun⟩

end

/-! ### The obligation -/

/-- Settles O53: the cause is judged as before the message, Calibrate's start of the banks keeps mode and MODE_SINCE, and
a refused write has no mark. -/
theorem leavingSafe : Obligations.LeavingSafe := by
  unfold Obligations.LeavingSafe
  exact ⟨fun _ _ a hp hfree hsafe hsettled hclear => leaveSafe_of_causeCleared a hp hfree hsafe hsettled hclear,
    fun _ _ a hp hfree hsafe hsettled hcause => leaveSafe_refused a hp hfree hsafe hsettled hcause⟩

end Sys2Proof.Machine
end
